-- ==== Sys2Proof/Word.lean ====
section
/-! DEFINITION. The word types of the device and the plainest arithmetic on them. -/

namespace Sys2Proof

/-- A register of the peripheral space is 32 bits wide (R7). -/
abbrev Word := BitVec 32

/-- A general register, a control register and a floating-point register of Islor are 64 bits wide (R269). -/
abbrev DWord := BitVec 64

/-- The smallest addressable unit of the address space (R27). -/
abbrev Byte := BitVec 8

/-- A half-word, the width of a cell reading and of a scoreboard half-slot (R78, R159). -/
abbrev Half := BitVec 16

end Sys2Proof
end

