-- ==== Sys2Proof/Syntax.lean ====
section
/-! DEFINITION. The commands of the device: one constructor per row of the spec's opcode table, with the operands that the
row's event, register write or instruction carries. What the device measures or receives from outside (a record, a sample,
a message) stands in the operands. -/

namespace Sys2Proof

/-- The two core pairs (R298). -/
inductive Pair where
  | a | b
  deriving DecidableEq, Repr

/-- Who accesses the address space (R28, R29): a core pair or the debug port. -/
inductive Initiator where
  | core (p : Pair)
  | debug
  deriving DecidableEq, Repr

/-- Who executes an instruction (R268): a core pair (Islor-C) or a scorer lane (Islor-S). -/
inductive Agent where
  | core (p : Pair)
  | lane (n : Fin 64)
  deriving DecidableEq, Repr

/-- The guard of an instruction (R270, R271): predicate number and negation. -/
structure Guard where
  pg : Fin 8
  pn : Bool
  deriving DecidableEq, Repr

/-- Who executes a command that is an instruction, and under which guard. -/
structure Ctx where
  agent : Agent
  guard : Guard
  deriving DecidableEq, Repr

/-- A register number of a g or f file (R269). -/
abbrev RegNo := Fin 32

/-- A predicate number (R269). -/
abbrev PredNo := Fin 8

/-- Condition codes of CMP (R275). -/
inductive CmpFn where
  | eq | ne | lt | ge | ltu | geu
  deriving DecidableEq, Repr

/-- Condition codes of CMPI (R275). -/
inductive CmpIFn where
  | eq | ne | lt | ge
  deriving DecidableEq, Repr

/-- Condition codes of FCMP (R275). -/
inductive FcmpFn where
  | feq | flt | fle | fun_
  deriving DecidableEq, Repr

/-- A side of a node or of a flock: toward the A end (or the chain's port end), or toward the B end. -/
inductive Side where
  | a | b
  deriving DecidableEq, Repr

/-- A node is named by the port end that is its flock's A end or chain end, and its place counted from it (0 is next to it). -/
structure NodeKey where
  flock : Fin 128
  place : Fin 128
  deriving DecidableEq, Repr

/-- A node without a MARKER, and how far its window starts from the instant that R89 gives, in ns (R101). -/
structure LostMarker where
  node  : NodeKey
  sioff : Int
  deriving DecidableEq, Repr

/-- Node classes (R106). -/
inductive NodeClass where
  | cell | head
  deriving DecidableEq, Repr

/-- What a node is when it powers up: its class, version, identity, and whether its A side faces the flock's A end. -/
structure NodeIdent where
  cls : NodeClass
  ver : Half
  uid : BitVec 64
  deriving DecidableEq, Repr

/-- What every command frame carries to a node beside its payload fields (R72, R74): the side it arrives on, ADDR, OPC, TAG and
LEN; and how it came: payload bytes received, code violations in it, whether its CRC is right, whether EOF followed. -/
structure CmdHead where
  side : Side
  addr : Byte
  opc  : Byte
  tag  : Byte
  len  : Byte
  received   : Nat
  violations : Nat
  crcOk : Bool
  eof   : Bool
  deriving DecidableEq, Repr

/-- The node record on the line (R78), every field as sent; `violations` counts its invalid symbols and `stray` those
that came on the line before it (R65). -/
structure Record where
  pos    : Byte
  seq    : Byte
  flags  : Half
  cell   : Vector Half 24
  temp   : Vector Half 8
  msum   : Half
  istr   : BitVec 24
  status : Byte
  sioff  : Half
  crc    : Word
  violations : Nat
  stray      : Nat
  deriving DecidableEq, Repr

/-- A frame as a receiver sees it (R72, R74); `violations` counts its invalid symbols and `stray` those that came on the line
before it (R65). -/
structure Frame where
  addr    : Byte
  opc     : Byte
  tag     : Byte
  len     : Byte
  payload : List Byte
  crc     : Word
  violations : Nat
  stray      : Nat
  eof     : Bool
  deriving DecidableEq, Repr

/-- A symbol of the record, or of the frame, was invalid (R65). -/
def Record.codeViolation (r : Record) : Bool := r.violations != 0
def Frame.codeViolation (f : Frame) : Bool := f.violations != 0

/-- What a node's converters deliver for one window (R101, R102): `none` is a failed conversion. -/
structure NodeMeasure where
  cell      : Vector (Option Half) 24
  temp      : Vector (Option Half) 8
  msum      : Half
  istr      : BitVec 24
  /-- second-reference conversion in 100 µV (R123) -/
  refv      : Half
  /-- potential of each sense wire at the start and at the end of the window in 100 µV (R120) -/
  wireStart : Vector Int 25
  wireEnd   : Vector Int 25
  /-- node junction in 1/64 °C -/
  ntj       : Half
  deriving DecidableEq, Repr

/-- The result of one driver's muster test (R253). -/
inductive DriverTest where
  | pass | ssf | openc
  deriving DecidableEq, Repr

/-- The results of muster steps 1 to 4 (R40). A bit of a mask is 1 when that unit passed. -/
structure MusterResult where
  cpxA    : Bool
  cpxB    : Bool
  mem     : Bool
  ref     : Bool
  lanes   : BitVec 8
  sensors : BitVec 18
  ports   : BitVec 128
  drivers : Vector DriverTest 12
  loads   : BitVec 16
  motors  : BitVec 4
  deriving DecidableEq, Repr

/-- Operations with a reply that may reach their timeout (R52). -/
inductive OpKind where
  | flkCommand (p : Fin 128)
  | flkOps
  | kernelLoad
  | scrJob
  | mdio (m : Fin 2)
  | nvm
  | prlJoin
  | prlCheckpoint
  deriving DecidableEq, Repr

/-- Time counters with a carry event (R55). -/
inductive TimeCounter where
  | budStime
  | timNs
  deriving DecidableEq, Repr

/-- Registers whose read latches another (R55, R394, R402). -/
inductive LatchRead where
  | timNs
  | capture (k : Fin 8)
  | bmiSample (i : Fin 16)
  deriving DecidableEq, Repr

/-- The ones counted in one input's bitstream over the window and over the epoch (R150). -/
structure BmiOnes where
  window : Nat
  epoch  : Nat
  deriving DecidableEq, Repr

/-- One sensor's two conversions in 1/64 °C; `none` is a conversion that did not complete (R328). -/
structure SensorSample where
  p1 : Option Int
  p2 : Option Int
  deriving DecidableEq, Repr

/-- The means of one insulation phase in mV (R156): a and U over the last second, a over the second before. -/
structure ImdMeans where
  aLast : Int
  aPrev : Int
  uLast : Int
  deriving DecidableEq, Repr

/-- What ended a scorer invocation before its END, apart from the bound (R166, R173). -/
inductive LaneFault where
  | none
  | residue
  | lutEcc
  deriving DecidableEq, Repr

/-- What the scrubber finds in one line (R305). -/
inductive ScrubResult where
  | agree
  | corrected
  | differ
  deriving DecidableEq, Repr

/-- What a test slot finds (R307). -/
inductive TestSlotResult where
  | pass
  | stateDiffers
  | injectionFailed (grp : Fin 16)
  deriving DecidableEq, Repr

/-- What trips hardware shutdown (R333). -/
inductive ShutdownCause where
  | comparator (n : Fin 18)
  | thmReport
  deriving DecidableEq, Repr

/-- Segment supply conditions (R372). -/
inductive SegFault where
  | underVoltage | surge | reverse
  deriving DecidableEq, Repr

/-- What is restored (R372). -/
inductive Restored where
  | segment (j : Fin 4)
  | ground
  deriving DecidableEq, Repr

/-- What one PWM period of a motor unit delivers: what its converters deliver (R346), and what the observer of R349 or the
injection of R350 estimates, whose inner law the spec does not state. (DEDUCED, log 64.) -/
structure MotorSample where
  /-- readings of the phase currents in 0.01 A -/
  iu     : Int
  iv     : Int
  iw     : Int
  /-- bus voltage at the carrier peak in 0.1 V -/
  vbus   : Nat
  /-- estimated back-EMF magnitude in 0.01 V (R349) -/
  emf    : Nat
  /-- phase error of the loop in 0.1° electrical (R349) -/
  phErr  : Nat
  /-- estimated speed in rpm, and estimated electrical angle in 2⁻¹⁶ turns (R349, R350) -/
  nEst   : Int
  theta  : BitVec 16
  deriving DecidableEq, Repr

/-- A CAN frame on the bus (R377, R381). -/
structure CanFrame where
  xtd  : Bool
  id   : BitVec 29
  rtr  : Bool
  fdf  : Bool
  brs  : Bool
  esi  : Bool
  dlc  : BitVec 4
  data : List Byte
  /-- message memory double-bit error met while searching the filters (R390) -/
  ecc  : Bool
  deriving DecidableEq, Repr

/-- How a transmission ended (R382, R386 to R388). -/
inductive CanTxEnd where
  | ok (loopDly : Option (BitVec 7))
  | ackError
  | bitErrorRecessive (data : Bool)
  | otherError (code : BitVec 4) (data : Bool)
  | lostArbitration
  deriving DecidableEq, Repr

/-- A protocol error of a controller (R377, R386): its code in CAN_BST.NERR or DERR, whether it fell in the data phase, and
which of ISO 11898-1's counting rules applies. -/
structure CanErr where
  code   : BitVec 4
  data   : Bool
  tx     : Bool
  /-- a receiver's error that ISO 11898-1 counts 8 (dominant after its error flag, or during an overload or error flag) -/
  heavy  : Bool
  deriving DecidableEq, Repr

/-- A received Ethernet frame as the MAC keeps it (R392): its bytes without FCS, CRC state and stamp. -/
structure EthFrame where
  bytes  : List Byte
  crcErr : Bool
  ecc    : Bool
  deriving DecidableEq, Repr

/-- How a transmitted frame ended (R400). -/
structure EthTxEnd where
  ok    : Bool
  deriving DecidableEq, Repr

/-- Classifications of the partner's alive signal (R408). -/
inductive Alive where
  | absent | standbyRate | activeRate
  deriving DecidableEq, Repr

/-- The three actions of the referee (R230). -/
inductive RefAct where
  | none | pen | openBank | openAll
  deriving DecidableEq, Repr

/-- An action message of the pair link (R414). -/
structure ActionMsg where
  cls  : Fin 20
  act  : RefAct
  str  : Option (Fin 512)
  bank : Option (Fin 4)
  deriving DecidableEq, Repr

/-- An epoch summary of the pair link (R416). -/
structure EpochSummary where
  epoch  : Word
  mode   : Fin 8
  bankst : BitVec 8
  pens   : BitVec 512
  bouts  : BitVec 4
  deriving DecidableEq, Repr

/-- The epoch message of the control stream: the epoch that has just begun on the active, and its period in ms (R411).
(DEDUCED, log 74.) -/
structure EpochMsg where
  epoch : Word
  per   : BitVec 7
  deriving DecidableEq, Repr

/-- Shared-state changes the active sends (R417). -/
inductive MirrorItem where
  | tableWrite (idx : BitVec 12) (val : Word)
  | penRelease (s : Fin 512)
  | bankRelease (b : Fin 4)
  deriving DecidableEq, Repr

/-- What arrives at a listen end (R411). -/
inductive LineMark where
  | bell (count : Byte)
  | marker (arg : Byte)
  deriving DecidableEq, Repr

/-- Which image SEC has judged (R427 to R430). -/
inductive ImageKind where
  | bankA | bankB
  deriving DecidableEq, Repr

/-- Control-die rails (R443). -/
inductive Rail where
  | vcore | vsram | vio18 | vio33 | vana
  deriving DecidableEq, Repr

/-- Blocks with a lock bit (R10). -/
inductive LockBlock where
  | sys | thm | bud | nvc | sec | cpx | int | flk | acq | bmi | scr | pub | ref | ctd | lsw | mtr
  | can (c : Fin 4)
  | eth (m : Fin 2)
  | tim | prl
  deriving DecidableEq, Repr

/-- The commands of the device: one constructor per row of the opcode table. -/
inductive Instr where
  -- scope, architecture, modes and resets
  | registerWrite (ini : Initiator) (addr : Word) (val : Word)
  | lockSet (ini : Initiator) (blk : LockBlock)
  | epochTime (ones : Vector BmiOnes 16)
  | throttleStep
  | clockMonitorWindow (rootCycles : Nat)
  | pllLock
  | modeRequestWatch
  | modeRequestDormant
  | modeRequestMuster
  | modeRequestReady
  | modeRequestPrecharge (b : Fin 4)
  | modeRequestTripped
  | wakePin
  | canWake
  | toneAbsent (p : Fin 128)
  | rtcAlarm
  | tripAckRelease
  | tripClearKey (key : Word)
  | tripClearWindowExpiry
  | musterSelftestsDone (r : MusterResult)
  | pResetPin
  | vfieldRise
  | wResetPin
  | wResetSoftware (key : Word)
  | gReset (blk : Byte) (unit : Byte)
  | appDomainRelease
  | holdReassert (key : Word)
  | holdWindowExpiry
  | holdExpirySecondStage
  | operationTimeout (op : OpKind)
  | timeCounterCarry (c : TimeCounter)
  | latchingLowWordRead (r : LatchRead)
  | controlDiePowerUp
  | wakeFromS3
  -- flock link
  | bellRing (absent : BitVec 128)
  | bellCheck (p : Fin 128)
  | markerInject
  | recordPhaseLinkTake
  | recordPhaseEnd (p : Fin 128)
  | commandIntervalStart
  | commandFrameStart (p : Fin 128)
  | replyFrame (p : Fin 128) (f : Frame) (rtQns : Nat)
  | retryDeadline (p : Fin 128)
  | recordReceived (p : Fin 128) (r : Record)
  | positionMissing (p : Fin 128) (q : Fin 128)
  | alarmReceived (p : Fin 128) (arg : Byte)
  | traceArrival (k : Fin 64) (delayQns : Nat)
  | linkLoss (p : Fin 128)
  | enumerate (ring : Fin 64) (all : Bool) (gen : Byte)
  | calibrate (ring : Fin 64) (all : Bool) (gen : Byte)
  | enumerateAndCalibrate (ring : Fin 64) (all : Bool) (gen : Byte)
  | enumerationDone
  | calibrationDone
  | commandQueue (p : Fin 128) (gen : Byte)
  | replySpaceRelease (p : Fin 128)
  | periodWrite (per : BitVec 7)
  | nodeTimerWrite (tstr : BitVec 9) (tbal : BitVec 7)
  | portFence (p : Fin 128)
  -- nodes
  | nodePowerUp (k : NodeKey) (id : NodeIdent)
  | nodeInternalFault (k : NodeKey)
  | nodeMarker (k : NodeKey) (side : Side) (arg : Byte)
  | nodeMarkerLost (m : LostMarker)
  | nodeWindowOpen (k : NodeKey) (sioff : Int)
  | nodeWindowEnd (k : NodeKey)
  | nodeRecordSend (k : NodeKey) (m : NodeMeasure) (train2 : Bool)
  | nodeBalancePause (k : NodeKey)
  | nodeBell (k : NodeKey) (side : Side) (count : Byte)
  | nodeBellAbsentTstr (k : NodeKey)
  | nodeBellAbsentTbal (k : NodeKey)
  | nodeBellAbsentSleep (k : NodeKey)
  | nodeWhistle (k : NodeKey) (side : Side) (arg : Byte)
  | nodeComparatorSample (k : NodeKey) (cell : Vector Half 24) (temp : Vector Half 8)
  | nodeAlarmResend (k : NodeKey)
  | nodeAlarmRetry (k : NodeKey)
  | nodeSwitchFeedback (k : NodeKey) (closed : Bool)
  | nodeBalancePlanEnd (k : NodeKey)
  | nodeOverTemperature (k : NodeKey)
  | nodeTemperatureRecovered (k : NodeKey)
  | nodeBswTestSlot (k : NodeKey) (c : Fin 24) (offUa : Nat) (onMv : Nat)
  | nodeSleepCheck (k : NodeKey) (m : NodeMeasure) (fault : Bool)
  | nodeToneBurst (k : NodeKey)
  | nodeToneReceived (k : NodeKey) (side : Side)
  | nodeWakeIdle (k : NodeKey) (side : Side)
  | assign (k : NodeKey) (h : CmdHead) (pos : Byte)
  | setring (k : NodeKey) (h : CmdHead) (n : Byte) (fl : Byte)
  | ping (k : NodeKey) (h : CmdHead)
  | setdelay (k : NodeKey) (h : CmdHead) (da : Word) (db : Word) (valid : Byte)
  | trace (k : NodeKey) (h : CmdHead) (seqn : Half)
  | setper (k : NodeKey) (h : CmdHead) (per : Byte) (eff : Half)
  | settim (k : NodeKey) (h : CmdHead) (tstr : Half) (tbal : Byte) (tone : Byte)
  | config (k : NodeKey) (h : CmdHead) (cellm : BitVec 24) (tempm : Byte)
  | setcmp (k : NodeKey) (h : CmdHead) (ov : Half) (uv : Half) (ot : Half)
  | balance (k : NodeKey) (h : CmdHead) (mask : BitVec 24) (dur : Half)
  | stopbal (k : NodeKey) (h : CmdHead)
  | switch (k : NodeKey) (h : CmdHead) (act : Byte) (bell : Byte)
  | setdiag (k : NodeKey) (h : CmdHead) (ows : Half) (bswb : Half) (bswk : Byte) (refs : Half)
  | owtest (k : NodeKey) (h : CmdHead) (group : Byte) (eff : Half)
  | bswtest (k : NodeKey) (h : CmdHead) (mask : BitVec 24)
  | diagrd (k : NodeKey) (h : CmdHead)
  | readid (k : NodeKey) (h : CmdHead) (element : Option Word) (answers : Bool)
  | sleep (k : NodeKey) (h : CmdHead) (chk : Half) (ov : Half) (uv : Half) (ot : Half) (ut : Half)
  | release (k : NodeKey) (h : CmdHead)
  -- acquisition and bank measurement
  | epochClose
  | wireSuspectTimeout (i : Fin 8192) (w : Fin 25)
  | acqScoreboardWrite
  | modidLoad (idx : BitVec 13)
  | lceWrite (en : Bool) (lcth : Half)
  | bmiFilterOutput (i : Fin 16) (num : Nat)
  | fastFilterOutput (i : Fin 16) (num : Nat)
  | stuckTimeout (i : Fin 16)
  | fastBandWrite (i : Fin 16) (lo : Half) (hi : Half)
  | imdPhaseTimer (b : Fin 4) (m : ImdMeans)
  -- scorer and publish unit
  | scorerStart
  | scorerStop
  | sweepStart
  | invocationRetire (l : Fin 64) (f : LaneFault)
  | publishInstant
  | staleTimeout
  | pubInitDone
  | kernelLoad (slot : Fin 8) (gen : Byte)
  | kernelLoadDone
  | kernelSelect (slot : Fin 8)
  | lutDataAccess (wr : Option Word)
  | jobStart (slot : Fin 8) (gen : Byte)
  | jobDone
  | laneFenceWrite (mask : BitVec 8)
  -- referee
  | penConfirmDeadline (s : Fin 512)
  | band1Persistence (b : Fin 4)
  | channelComparePass
  | channelDisagree
  | heartbeatTimeout
  | tripNSensed
  | arm
  | disarm
  | tableCompareWrite (gen : Byte)
  | loosenKey (key : Word)
  | loosenWindowExpiry
  | penRelease (s : Fin 512) (all : Bool)
  | bankRelease (b : Fin 4)
  -- contactors
  | bankConnect (b : Fin 4) (gen : Byte)
  | bankOpen (b : Fin 4) (force : Bool) (gen : Byte)
  | bankAbort (b : Fin 4) (gen : Byte)
  | clearWeld (b : Fin 4) (gen : Byte)
  | armatureMovement (d : Fin 12) (t : Half)
  | pullInEnd (d : Fin 12)
  | w0End (b : Fin 4)
  | prechargeEval (b : Fin 4)
  | prechargeRelease (b : Fin 4)
  | openGapExpiry (b : Fin 4)
  | coilCurrentZero (b : Fin 4)
  | openCheckEnd (b : Fin 4)
  | auxCheck (d : Fin 12) (level : Bool)
  | resistorModelTick
  | outputCurrentLimit (d : Fin 12)
  | coilCurrentLow (d : Fin 12) (vfieldAtLeast9 : Bool)
  | seriesSwitchTest (d : Fin 12) (fell : Bool)
  | driversDisable
  | shadowReleased (d : Fin 12)
  | shadowReleaseTimeout (b : Fin 4)
  -- control complex
  | lockstepMismatch (p : Pair) (grp : Fin 16)
  | comparatorFault (p : Pair) (grp : Fin 16)
  | scrubLine (p : Pair) (r : ScrubResult)
  | testSlot (p : Pair) (r : TestSlotResult)
  | watchdogExpiry (p : Pair)
  | watchdogKick (p : Pair) (key : Word)
  | softwareInterruptSet (p : Pair)
  | softwareInterruptClear (p : Pair)
  | interruptEntry (p : Pair)
  -- thermal, budget, sleep
  | thermalSample (v : Vector SensorSample 18)
  | budgetStepDown
  | sensorFailHoldExpiry
  | orderlyTripSecondStage
  | shutdownComparator (c : ShutdownCause)
  | shutdownGraceExpiry
  | thermalRecoveryPowerUp
  | bucketFill
  | jobDispatch
  | sleepRequest
  | sleepDeadlineWake
  -- NVM
  | nvmWrite (gen : Byte)
  | nvmAppend (gen : Byte)
  | nvmRowStart
  | nvmRowDone
  | journalScanDone
  -- motors
  | motorStart (u : Fin 4) (gen : Byte)
  | motorStop (u : Fin 4) (gen : Byte)
  | motorCoast (u : Fin 4) (gen : Byte)
  | motorClear (u : Fin 4) (gen : Byte)
  | speedReferenceWrite (u : Fin 4) (sref : Half)
  | motorDisable (u : Fin 4)
  | motorFence (mask : BitVec 4)
  | currentLoopPeriod (u : Fin 4) (m : MotorSample)
  | catchDecayDone (u : Fin 4)
  | catchMeasureDone (u : Fin 4) (rpm : Int)
  | alignDone (u : Fin 4)
  | noHandoverTimeout (u : Fin 4)
  | reverseRetryTimer (u : Fin 4)
  | observerLoss (u : Fin 4)
  | resyncTimeout (u : Fin 4)
  | phaseOverCurrent (u : Fin 4)
  | stageFault (u : Fin 4)
  | converterSelfCheck (u : Fin 4) (within1pc : Bool)
  | busUvRecovery (u : Fin 4)
  | motorLaneFault (u : Fin 4)
  -- load switches
  | loadTurnOn (mask : BitVec 16)
  | loadTurnOff (mask : BitVec 16)
  | latchClear (mask : BitVec 16)
  | inrushEnd (n : Fin 16) (aboveLimit : Bool)
  | loadOverCurrent (n : Fin 16)
  | retryDue (n : Fin 16)
  | deferredRetry (j : Fin 4)
  | overCurrentCountReset (n : Fin 16)
  | openLoadDetect (n : Fin 16) (below : Bool)
  | offStateDiag (n : Fin 16) (mv : Int)
  | clampPulseEnd (n : Fin 16) (energy : Nat)
  | clampEnergyClear (n : Fin 16)
  | segmentSupplyFault (j : Fin 4) (f : SegFault)
  | groundLoss
  | supplyRestored (r : Restored)
  | stuckOn (n : Fin 16)
  | loadFence (mask : BitVec 16)
  -- CAN
  | canOfflineWrite (c : Fin 4) (offl : Bool)
  | canIntegrated (c : Fin 4)
  | canTxRequest (c : Fin 4) (j : Fin 4) (mask : Word)
  | canTxAbort (c : Fin 4) (j : Fin 4) (mask : Word)
  | canArbitrationStart (c : Fin 4) (ecc : Bool)
  | canTxComplete (c : Fin 4) (e : CanTxEnd)
  | canFrameReceived (c : Fin 4) (f : CanFrame)
  | canError (c : Fin 4) (e : CanErr)
  | canRecoveryDone (c : Fin 4)
  | canStatusRead (c : Fin 4)
  -- Ethernet and time
  | ethFrameReceived (m : Fin 2) (f : EthFrame)
  | ethXon (m : Fin 2)
  | pauseRefresh (m : Fin 2)
  | ethPauseReceived (m : Fin 2) (quanta : Half)
  | ethFrameTransmit (m : Fin 2) (e : EthTxEnd)
  | ethLinkChange (m : Fin 2) (link : Bool) (spd : BitVec 2) (fd : Bool)
  | mdioAddress (m : Fin 2) (reg : BitVec 5) (phy : BitVec 5) (c45 : Bool) (gen : Byte)
  | mdioWrite (m : Fin 2) (reg : BitVec 5) (phy : BitVec 5) (c45 : Bool) (gen : Byte)
  | mdioRead (m : Fin 2) (reg : BitVec 5) (phy : BitVec 5) (c45 : Bool) (gen : Byte)
  | mdioDone (m : Fin 2) (rdata : Half)
  | timestampPop (m : Fin 2)
  | timestampKeySeek (m : Fin 2) (seqid : Half) (mtype : BitVec 4)
  | timeStepAbsolute (gen : Byte)
  | timeStepRelative (gen : Byte)
  | timeReinitKey (key : Word)
  | rateAdjust (adj : Word)
  | outputArm (k : Fin 8) (pol : Bool)
  | outputEdge (k : Fin 8)
  | captureEdge (k : Fin 8) (rising : Bool)
  -- pair operation
  | partnerAliveChange (a : Alive)
  | partnerStandbyRateTimeout
  | yieldTimeout
  | secondaryActiveTimeout
  | laneTrained (l : Fin 2) (dly : BitVec 12)
  | laneDown (l : Fin 2)
  | actionMessage (m : ActionMsg)
  | epochSummaryReceived (s : EpochSummary)
  | epochMessage (epoch : EpochMsg)
  | withdrawMessage
  | sharedStateMirror (m : MirrorItem)
  | shadowSet (d : Fin 12)
  | standbySlotStart
  | pairJoin (gen : Byte)
  | configImageReceived
  | pairHand (gen : Byte)
  | checkpointSend (gen : Byte)
  | checkpointReceived (bytes : List Byte) (epoch : Word)
  -- boot, security, supplies
  | imageVerifyDone (k : ImageKind)
  | bootConfirm (key : BitVec 24) (gen : Byte)
  | rollbackAdvance (fw : Byte) (krn : Byte) (gen : Byte)
  | lifecycleKey (key : BitVec 24) (gen : Byte)
  | keyProgram (slot : Fin 8) (use : BitVec 2) (gen : Byte)
  | keyRevoke (slot : Fin 8) (gen : Byte)
  | recoveryImage (bytes : List Byte)
  | debugChallenge (level : BitVec 2) (kslot : Fin 8)
  | debugCheck (level : BitVec 2) (kslot : Fin 8)
  | supplyFault (r : Rail)
  | supplyQualified
  | cpwrRetry
  | vfieldLow
  | vfieldLoss
  -- Islor instructions
  | illegalInstruction (a : Agent) (word : Word)
  | add (x : Ctx) (rd rs1 rs2 : RegNo)
  | sub (x : Ctx) (rd rs1 rs2 : RegNo)
  | and (x : Ctx) (rd rs1 rs2 : RegNo)
  | or (x : Ctx) (rd rs1 rs2 : RegNo)
  | xor (x : Ctx) (rd rs1 rs2 : RegNo)
  | andn (x : Ctx) (rd rs1 rs2 : RegNo)
  | sll (x : Ctx) (rd rs1 rs2 : RegNo)
  | srl (x : Ctx) (rd rs1 rs2 : RegNo)
  | sra (x : Ctx) (rd rs1 rs2 : RegNo)
  | rol (x : Ctx) (rd rs1 rs2 : RegNo)
  | min (x : Ctx) (rd rs1 rs2 : RegNo)
  | max (x : Ctx) (rd rs1 rs2 : RegNo)
  | minu (x : Ctx) (rd rs1 rs2 : RegNo)
  | maxu (x : Ctx) (rd rs1 rs2 : RegNo)
  | clz (x : Ctx) (rd rs1 : RegNo)
  | popc (x : Ctx) (rd rs1 : RegNo)
  | addw (x : Ctx) (rd rs1 rs2 : RegNo)
  | subw (x : Ctx) (rd rs1 rs2 : RegNo)
  | sllw (x : Ctx) (rd rs1 rs2 : RegNo)
  | srlw (x : Ctx) (rd rs1 rs2 : RegNo)
  | sraw (x : Ctx) (rd rs1 rs2 : RegNo)
  | mul (x : Ctx) (rd rs1 rs2 : RegNo)
  | mulh (x : Ctx) (rd rs1 rs2 : RegNo)
  | mulhu (x : Ctx) (rd rs1 rs2 : RegNo)
  | mulw (x : Ctx) (rd rs1 rs2 : RegNo)
  | div (x : Ctx) (rd rs1 rs2 : RegNo)
  | divu (x : Ctx) (rd rs1 rs2 : RegNo)
  | rem (x : Ctx) (rd rs1 rs2 : RegNo)
  | remu (x : Ctx) (rd rs1 rs2 : RegNo)
  | divw (x : Ctx) (rd rs1 rs2 : RegNo)
  | divuw (x : Ctx) (rd rs1 rs2 : RegNo)
  | remw (x : Ctx) (rd rs1 rs2 : RegNo)
  | remuw (x : Ctx) (rd rs1 rs2 : RegNo)
  | adds (x : Ctx) (rd rs1 rs2 : RegNo)
  | subs (x : Ctx) (rd rs1 rs2 : RegNo)
  | sel (x : Ctx) (rd rs1 rs2 : RegNo) (p : PredNo)
  | addi (x : Ctx) (rd rs1 : RegNo) (imm : BitVec 12)
  | andi (x : Ctx) (rd rs1 : RegNo) (imm : BitVec 12)
  | ori (x : Ctx) (rd rs1 : RegNo) (imm : BitVec 12)
  | xori (x : Ctx) (rd rs1 : RegNo) (imm : BitVec 12)
  | slli (x : Ctx) (rd rs1 : RegNo) (w : Bool) (sh : BitVec 6)
  | srli (x : Ctx) (rd rs1 : RegNo) (w : Bool) (sh : BitVec 6)
  | srai (x : Ctx) (rd rs1 : RegNo) (w : Bool) (sh : BitVec 6)
  | roli (x : Ctx) (rd rs1 : RegNo) (w : Bool) (sh : BitVec 6)
  | moviL (x : Ctx) (rd : RegNo) (v : Half)
  | moviH (x : Ctx) (rd : RegNo) (v : Half)
  | lb (x : Ctx) (rd rs1 : RegNo) (imm : BitVec 12)
  | lbu (x : Ctx) (rd rs1 : RegNo) (imm : BitVec 12)
  | lh (x : Ctx) (rd rs1 : RegNo) (imm : BitVec 12)
  | lhu (x : Ctx) (rd rs1 : RegNo) (imm : BitVec 12)
  | lw (x : Ctx) (rd rs1 : RegNo) (imm : BitVec 12)
  | lwu (x : Ctx) (rd rs1 : RegNo) (imm : BitVec 12)
  | ld (x : Ctx) (rd rs1 : RegNo) (imm : BitVec 12)
  | sb (x : Ctx) (rs2 rs1 : RegNo) (imm : BitVec 12)
  | sh (x : Ctx) (rs2 rs1 : RegNo) (imm : BitVec 12)
  | sw (x : Ctx) (rs2 rs1 : RegNo) (imm : BitVec 12)
  | sd (x : Ctx) (rs2 rs1 : RegNo) (imm : BitVec 12)
  | fld (x : Ctx) (rd rs1 : RegNo) (imm : BitVec 12)
  | fsd (x : Ctx) (rs2 rs1 : RegNo) (imm : BitVec 12)
  | br (x : Ctx) (off : BitVec 22)
  | call (x : Ctx) (off : BitVec 22)
  | jr (x : Ctx) (rd rs1 : RegNo)
  | loopn (x : Ctx) (rs : RegNo) (max : Fin 64) (len : Fin 512)
  | cmp (x : Ctx) (pd : PredNo) (fn : CmpFn) (rs1 rs2 : RegNo)
  | cmpi (x : Ctx) (pd : PredNo) (fn : CmpIFn) (rs1 : RegNo) (imm : BitVec 12)
  | cmpiu (x : Ctx) (pd : PredNo) (fn : CmpIFn) (rs1 : RegNo) (imm : BitVec 12)
  | fcmp (x : Ctx) (pd : PredNo) (fn : FcmpFn) (rs1 rs2 : RegNo)
  | plogAnd (x : Ctx) (pd a b : PredNo)
  | plogOr (x : Ctx) (pd a b : PredNo)
  | plogXor (x : Ctx) (pd a b : PredNo)
  | plogAndn (x : Ctx) (pd a b : PredNo)
  | plogSet (x : Ctx) (pd : PredNo)
  | plogClr (x : Ctx) (pd : PredNo)
  | plogTst (x : Ctx) (pd : PredNo) (rs1 : RegNo)
  | fadd (x : Ctx) (rd rs1 rs2 : RegNo)
  | fsub (x : Ctx) (rd rs1 rs2 : RegNo)
  | fmul (x : Ctx) (rd rs1 rs2 : RegNo)
  | fdiv (x : Ctx) (rd rs1 rs2 : RegNo)
  | fsqrt (x : Ctx) (rd rs1 : RegNo)
  | fmin (x : Ctx) (rd rs1 rs2 : RegNo)
  | fmax (x : Ctx) (rd rs1 rs2 : RegNo)
  | fabs (x : Ctx) (rd rs1 : RegNo)
  | fneg (x : Ctx) (rd rs1 : RegNo)
  | fmac (x : Ctx) (rd rs1 rs2 : RegNo)
  | fmvFg (x : Ctx) (rd rs1 : RegNo)
  | fmvGf (x : Ctx) (rd rs1 : RegNo)
  | fcvtFg (x : Ctx) (rd rs1 : RegNo)
  | fcvtFgu (x : Ctx) (rd rs1 : RegNo)
  | fcvtGfRne (x : Ctx) (rd rs1 : RegNo)
  | fcvtGfRtz (x : Ctx) (rd rs1 : RegNo)
  | fcvtGfRdn (x : Ctx) (rd rs1 : RegNo)
  | fcvtGfRup (x : Ctx) (rd rs1 : RegNo)
  | fcvtGfRna (x : Ctx) (rd rs1 : RegNo)
  | fsel (x : Ctx) (rd rs1 rs2 : RegNo) (p : PredNo)
  | csrr (x : Ctx) (rd : RegNo) (c : Fin 64)
  | csrw (x : Ctx) (rd : RegNo) (c : Fin 64) (rs1 : RegNo)
  | csrs (x : Ctx) (rd : RegNo) (c : Fin 64) (rs1 : RegNo)
  | csrc (x : Ctx) (rd : RegNo) (c : Fin 64) (rs1 : RegNo)
  | ecall (x : Ctx)
  | eret (x : Ctx)
  | wfi (x : Ctx)
  | wfiWake (p : Pair)
  | brk (x : Ctx)
  | fence (x : Ctx)
  | fenceIo (x : Ctx)
  | fenceIoComplete (p : Pair)
  | fenceI (x : Ctx)
  | epwE (x : Ctx) (rd rs1 : RegNo)
  | epwC (x : Ctx) (rd rs1 : RegNo)
  | epwP (x : Ctx) (rd rs1 : RegNo)
  | epochWaitEnd (p : Pair)
  | epochWaitTimeout (p : Pair)
  | end_ (x : Ctx)
  | nop (x : Ctx)
  | casW (x : Ctx) (rd rs1 rs2 : RegNo)
  | casD (x : Ctx) (rd rs1 rs2 : RegNo)
  | siga (x : Ctx) (c : Half)
  | sigs (x : Ctx) (rs1 : RegNo)
  | sigc (x : Ctx) (rs1 : RegNo)
  | kldW (x : Ctx) (rd : RegNo) (k : Fin 16)
  | kldWs (x : Ctx) (rd : RegNo) (k : Fin 16)
  | kldL (x : Ctx) (rd : RegNo) (k : Fin 16)
  | kldLs (x : Ctx) (rd : RegNo) (k : Fin 16)
  | kldH (x : Ctx) (rd : RegNo) (k : Fin 16)
  | kldHs (x : Ctx) (rd : RegNo) (k : Fin 16)
  | kldD (x : Ctx) (rd : RegNo) (k : Fin 16)
  | kstW (x : Ctx) (k : Fin 16) (rs1 : RegNo)
  | kstL (x : Ctx) (k : Fin 16) (rs1 : RegNo)
  | kstH (x : Ctx) (k : Fin 16) (rs1 : RegNo)
  | kstD (x : Ctx) (k : Fin 16) (rs1 : RegNo)
  | lut (x : Ctx) (rd rs1 : RegNo) (t : Fin 64)
  | pubq (x : Ctx) (kind : BitVec 2) (rs1 : RegNo)
  -- rows the table lists last
  | releaseTestComplete (p : Pair) (pass : Bool)
  | sleepEntryComplete
  | pauseExpiry (m : Fin 2)
  | tripAckAssert
  | markerCheck (p : Fin 128)
  | markerAtListenEnd (p : Fin 128) (m : LineMark)
  | shadowReleaseReceived (mask : BitVec 12)
  | debugHalt (p : Pair) (step : Bool)
  | scanExtest
  deriving DecidableEq, Repr

end Sys2Proof
end

