-- ==== Sys2Proof/Config.lean ====
section
/-! DEFINITION. What an implementation fixes, and the free values: constants without a body, so that no proof can see what
they are. Each stands in a row of the assumption log. -/

namespace Sys2Proof.Config

/-- Bytes of the boot ROM, by address (R27). The spec names its contents (the first-stage loader and the reference kernel)
and does not list them. (DESIGN CHOICE, log 8.) -/
opaque bootRom : Nat → Byte

/-- Coil current that a driver sources, in 10 mA, at an instant in ns (CTD_DST.I): an analogue quantity.
(DESIGN CHOICE, log 10.) -/
opaque coilCurrent : (now driver : Nat) → BitVec 11

/-- Whether the outer and the inner envelope of a pre-charge are crossed when U_b ≤ U_0, where the remaining fraction of R258
has no value, at an instant for a bank. (DESIGN CHOICE, log 11.) -/
opaque ratioUndefined : (now bank : Nat) → Bool × Bool

/-- The physical value of an input whose scaled reading exceeds 32 bits (R147), by the exact value. (DESIGN CHOICE, log 12.) -/
opaque bmiOverflow : Int → BitVec 32

/-- An insulation resistance whose formula divides by zero (R157), in kΩ, by the four means in mV. (DEDUCED, log 13.) -/
opaque imdUndefined : (aP uP aN uN : Int) → BitVec 16

/-- Sign and payload of the quiet NaN that an operation on quiet NaN operands returns, by the operands (R276 states the
value of an invalid operation only). (DESIGN CHOICE, log 14.) -/
opaque nanResult : (a b c : DWord) → BitVec 52

/-- Tininess is detected before rounding, or after it, by the operands of the operation; IEEE 754 leaves the choice.
(DESIGN CHOICE, log 14.) -/
opaque tinyBefore : (a b c : DWord) → Bool

/-- A fused multiply-add of infinity, zero and a quiet NaN is an invalid operation; IEEE 754 leaves the choice.
(DESIGN CHOICE, log 14.) -/
opaque fmacNanInvalid : (a b c : DWord) → Bool

/-- FLT and FLE on a quiet NaN are invalid operations; IEEE 754 has comparisons of both kinds. (DESIGN CHOICE, log 14.) -/
opaque cmpNanInvalid : (a b : DWord) → Bool

/-- DT of a background job's invocation (c4), for which R165 names no epoch being swept, by a fresh index.
(DESIGN CHOICE, log 15.) -/
opaque jobDt : Nat → BitVec 32

/-- Status of a background job that a stop of the scorer ends (R173, R174), by a fresh index: one of the codes of R57.
(DESIGN CHOICE, log 15.) -/
opaque jobStopStatus : Nat → Fin 10

/-- Whether the first channel of the referee that falls silent is channel A (R217), by a fresh index. (DESIGN CHOICE, log 20.) -/
opaque failedChannelA : Nat → Bool

/-- Whether another device holds TRIP_N low at an instant in ns, once it has done so before (R39, R237). (DESIGN CHOICE, log 20.) -/
opaque tripNHeld : (now : Nat) → Bool

/-- A bit error that strikes a 64-bit word of memory at an instant in ns: its address / 8, and whether two bits are hit (R30).
(DESIGN CHOICE, log 114.) -/
opaque upset : (now : Nat) → Option (Nat × Bool)

/-- Whether a frame of the pair link that fails its CRC arrives at an instant in ns: it is discarded and counted (R409).
(DESIGN CHOICE, log 114.) -/
opaque pairFrameFails : (now : Nat) → Bool

/-- Load current by the normal path in 10 mA, and by the fine path in 0.1 mA, of a channel at an instant in ns (LSW_CST.I,
LSW_CFI): analogue quantities. (DESIGN CHOICE, log 10.) -/
opaque loadCurrent : (now channel : Nat) → BitVec 11
/-- (DESIGN CHOICE, log 10.) -/
opaque loadFine : (now channel : Nat) → BitVec 8

/-- Voltage of a supply segment in 0.1 V at an instant in ns (LSW_VSEG): an analogue quantity. (DESIGN CHOICE, log 10.) -/
opaque segVoltage : (now segment : Nat) → BitVec 16

/-- Injected d-axis voltage as a part of its amplitude VH, in 2⁻¹⁵, by its phase in 10⁻⁹ turns: R350 gives amplitude and
frequency and no waveform. Used within ±2¹⁵. (DESIGN CHOICE, log 64.) -/
opaque hfiWave : (phase : Nat) → Int

/-- Timestamp of a received CAN frame, taken at its SOF within ±25 ns (R381), by a fresh index: no command marks the SOF.
(DESIGN CHOICE, log 16.) -/
opaque canStamp : Nat → BitVec 32

/-- Filter index that CAN_FLC.CATCHOBJ's STAT shows, for which no element stored the frame (R381, R385), by a fresh index.
(DESIGN CHOICE, log 16.) -/
opaque canCatchIndex : Nat → Byte

/-- Receive error counter after a valid frame when it stood above 127: ISO 11898-1 asks for a value from 119 to 127; by a
fresh index, modulo 9 above 119. (DESIGN CHOICE, log 16.) -/
opaque canRecStep : Nat → Nat

/-- Error of an Ethernet stamp in steps of 4 ns, and of a capture stamp in ns, within the ±8 ns of R398 and R402, by a fresh
index: modulo 5 and modulo 17. (DESIGN CHOICE, log 17.) -/
opaque ethStampError : Nat → Nat
/-- (DESIGN CHOICE, log 17.) -/
opaque captureError : Nat → Nat

/-- Whether the mean of a sensor's two paths rounds up when their sum, here in 1/64 °C, is odd: R328 states no rounding.
(DESIGN CHOICE, log 18.) -/
opaque thmRoundUp : (sum : Int) → Bool

/-- Byte k of an NVM row whose write a supply fault cut off (R461), by a fresh index. (DESIGN CHOICE, log 19.) -/
opaque tornByte : (index k : Nat) → Byte

/-- Byte of the configuration region at an address, by how often the region has been written: its layout is not stated.
(DESIGN CHOICE, log 19.) -/
opaque cfgByte : (version address : Nat) → Byte

/-- Boot ROM entries of a pair restart and of a wake from S3 (R311, R43): the spec gives no addresses.
(DESIGN CHOICE, log 19.) -/
opaque restartEntry : BitVec 64
/-- (DESIGN CHOICE, log 19.) -/
opaque retentionEntry : BitVec 64

/-- Word k of the 128-bit device identity (SEC_UID). (DESIGN CHOICE, log 19.) -/
opaque uid : (k : Nat) → BitVec 32

/-- Word k of a nonce (R438), by a fresh index. (DESIGN CHOICE, log 19.) -/
opaque nonceWord : (index k : Nat) → BitVec 32

/-- The level of the PAIR_SEL pin, a wiring constant (R407). (DESIGN CHOICE, log 20.) -/
opaque pairSel : Bool

/-- What a device does not hold of its partner: whether the standby has SYNC (R422), whether the active has a bank
PRECHARGING before its first summary, whether every ring of the active has PAIRM = 1 and whether its digests agree (R419);
each by a fresh index. (DESIGN CHOICE, log 20.) -/
opaque partnerSync : Nat → Bool
/-- (DESIGN CHOICE, log 20.) -/
opaque partnerPrecharges : Nat → Bool
/-- (DESIGN CHOICE, log 20.) -/
opaque partnerRings : Nat → Bool
/-- (DESIGN CHOICE, log 20.) -/
opaque partnerDigest : Nat → Bool

/-- The byte at an offset of a scoreboard row that nothing has written: VLAST 0xFFFF, QFLAG 0x8000, SOCB 0xFFFF, the rest 0
(R159, R179). (DESIGN CHOICE, log 8.) -/
def rowDefault (o : Nat) : Byte :=
  match o with
  | 0 => 0xFF#8 | 1 => 0xFF#8 | 3 => 0x80#8 | 10 => 0xFF#8 | 11 => 0xFF#8
  | _ => 0#8

end Sys2Proof.Config
end

