-- ==== Sys2Proof/Machine/State.lean ====
section
/-! DEFINITION. The state of the device as plain data, and its value right after a P reset. Every register that software can
address has one home, the register map `Device.regs`; what the spec gives the machine beside its registers stands in the
structures below, chapter by chapter. -/

namespace Sys2Proof.Machine

/-- Why a step stops with a fault. No command of this device faults: an access to an address that the spec says does not
exist ends in a bus error, which is the machine's own behaviour (R27). Raised by nobody, so safe. -/
inductive Fault where
  /-- Raised by no command. Safe: no run ends here. -/
  | none
  deriving DecidableEq, Repr

/-- Why a step refuses a command. -/
inductive Refusal where
  /-- The command has no meaning yet. Raised only by an arm of `exec` that names its mnemonic. Safe: the run stops. -/
  | notModelled (mnemonic : String)
  deriving DecidableEq, Repr

/-- A field of a register: its address, its lowest bit and its width (R8). -/
structure Fld where
  addr : Nat
  lo   : Nat
  w    : Nat
  deriving DecidableEq, Repr

/-- Register types (R9); `cnt` is the count of an event counter (R54). -/
inductive FTy where
  | rw | ro | w1c | w1s | rc | wo | lk | cnt
  deriving DecidableEq, Repr

/-- The range or the list of codes that a field's description states (R462). -/
inductive Ok where
  | any
  | range (lo hi : Nat)
  | srange (lo hi : Int)
  | codes (l : List Nat)
  deriving DecidableEq, Repr

/-- One field of the register table. -/
structure FieldDef where
  lo  : Nat
  w   : Nat
  ty  : FTy
  rst : Nat
  ok  : Ok
  deriving DecidableEq, Repr

/-- How a register counts events (R54): not at all, 16 bits with SAT in bit 31, or 32 bits with SAT in the block's SATF. -/
inductive Cnt where
  | plain
  | c16
  | c32 (satf : Nat)
  deriving DecidableEq, Repr

/-- One register of the register table: address of the first one, repetitions as (count, spacing), whether a W reset and a
G reset set it, whether the field die keeps it through a power-down of the control die, how it counts, its fields. -/
structure RegDef where
  base   : Nat
  dims   : List (Nat × Nat)
  byW    : Bool
  byG    : Bool
  keep   : Bool
  cnt    : Cnt
  fields : List FieldDef
  deriving DecidableEq, Repr

/-- The two parts (R1, R2): which port ends and rows are fused off. -/
inductive Part where
  | mpl8192 | mpl4096
  deriving DecidableEq, Repr

/-- The eight modes, coded as SYS_MODE.MODE codes them (R36). -/
inductive Mode where
  | dormant | watch | muster | ready | precharge | online | degraded | tripped
  deriving DecidableEq, Repr

/-- The states of a bank, coded as SYS_MODE.BANKST codes them. -/
inductive BankState where
  | opened | precharging | closed | out
  deriving DecidableEq, Repr

/-- Status codes (R57). -/
inductive Status where
  | ok | busy | reject | reset | temp | timeout | integrity | fenced | locked | range
  deriving DecidableEq, Repr

/-! ### The field die -/

/-- What the field die lets the control die do (R26, R43, R443, R445). -/
inductive CtlPower where
  /-- CPWR_EN low -/
  | off
  /-- clock-gated or power-gated in sleep state S1, S2 or S3 (R337) -/
  | gated
  /-- CPWR_EN high, the supplies not yet in range for 1 ms -/
  | ramping
  /-- supplies qualified, the PLL not locked; the control die is held in reset -/
  | locking
  /-- the control die runs -/
  | running
  deriving DecidableEq, Repr

/-- Why the control die was last powered down, which decides what it does when it runs again (R42, R43, R338). -/
inductive DownCause where
  | preset | dormant | s3 | s4 | thermal | supply | vfield
  deriving DecidableEq, Repr

/-- Where the sleep of R338 stands: the chosen state, and whether its entry has completed. -/
inductive SleepPhase where
  | awake
  | entering (n : Fin 5)
  | asleep (n : Fin 5)
  deriving DecidableEq, Repr

/-- The keep-alive state of the field die beside its registers. -/
structure FieldDie where
  /-- the trip latch (R38) -/
  tripLatch : Bool
  /-- the clock monitor finds the root outside its band (R25) -/
  clockCause : Bool
  /-- the last window of the clock monitor was bad (R25) -/
  clockBadPrev : Bool
  /-- a heartbeat has been absent for 256 µs (R217) -/
  hbCause : Bool
  /-- every output is off as at hardware shutdown (R321, R333, R443, R444) -/
  outputsOff : Bool
  /-- a thermal cause holds the control die off (R333) -/
  thermal : Bool
  /-- grace time of a hardware shutdown runs (R333) -/
  grace : Bool
  /-- the keep-alive state was lost below 4.0 V (R444) -/
  lost : Bool
  ctl  : CtlPower
  down : DownCause
  /-- a wake recorded while the control die is not yet released (R461): its source bit of SYS_RSTCAUSE.WSRC -/
  wakePending : Option (Fin 4)
  /-- the sleep of R338 -/
  sleep  : SleepPhase
  /-- a deadline wake has begun: its index (R338) -/
  wakeIdx : Option (Fin 4)
  /-- register values and generations copied on entry into S3 (R43) -/
  retained : List (Nat × Word)
  deriving DecidableEq, Repr

/-! ### SYS -/

/-- The mode machine's state beside SYS registers. -/
structure Sys where
  /-- the hold window runs; the instant it opened, in ns -/
  holdAt : Option Nat
  /-- the hold window has expired and step 3 of R50 is due -/
  holdStage2 : Bool
  /-- the window opened and pair A has not reasserted (R49) -/
  reassertDue : Bool
  /-- STOPBAL of the window's first command interval is due (R48) -/
  stopbalDue : Bool
  /-- the application domain is held in reset (R46) -/
  appHeld : Bool
  /-- the application domain has been released since the device's start: the epoch sequencer runs (R464) -/
  released : Bool
  /-- SYS_EVT.MUST has been set in this muster (R40) -/
  mustSeen : Bool
  /-- the self-tests of muster run (R40) -/
  musterRuns : Bool
  /-- the SRAM contents are undefined, so muster runs step 2 (R40, R45) -/
  sramUndef : Bool
  /-- TRIP_ACK_N went low at this instant (R39) -/
  ackLowAt : Option Nat
  /-- TRIP_ACK_N was released at this instant after at least 100 ms (R39) -/
  ackRelAt : Option Nat
  /-- the first key of the trip clear was written at this instant (R39) -/
  key1At : Option Nat
  /-- instants of the last generation increment, by unit base address (R52) -/
  genAt : List (Nat × Nat)
  /-- the budget state whose CORE and SCR clocks are in force (R22, R24, R330) -/
  step  : Nat
  deriving DecidableEq, Repr

/-! ### CTD -/

/-- States of a driver, coded as CTD_DST.STATE codes them (R249, R252, R266). -/
inductive DrvState where
  | off | pullIn | hold | shadow | slowQuench | fastQuench
  deriving DecidableEq, Repr

/-- What a driver keeps beside its registers. -/
structure Driver where
  /-- the pull-in phase runs (R249) -/
  pulling : Bool
  /-- armature movement recorded in this pull-in (R250) -/
  moved : Bool
  /-- instant of the last SHORT (R254) -/
  shortAt : Option Nat
  /-- the aux check that is due: the level that it must show (R251) -/
  auxDue : Option Bool
  /-- slow quench waits for the partner's shadow release (R267) -/
  waitRel : Bool
  deriving DecidableEq, Repr

/-- Phases of a bank, coded as CTD_BST.PHASE codes them. -/
inductive BankPhase where
  | idle | w0 | pre | mainPull | overlap | closed | opening | check
  deriving DecidableEq, Repr

/-- What a bank's sequencer keeps beside its registers (R257 to R262). -/
structure Bank where
  /-- reference link voltage of the W0 window, in mV; set at the pre-charge armature -/
  uw : Option Int
  /-- the W0 window has seen U_l rise by WELDV -/
  w0Rise : Bool
  /-- link voltage at the main− armature, in mV; set when the judgement starts -/
  u0 : Option Int
  /-- evaluations since the main− armature, which is the time t in ms (R258) -/
  t : Nat
  /-- consecutive evaluations that met rule 2, and rule 3, of R258 -/
  fastRun : Nat
  slowRun : Nat
  /-- link samples of the last 10 evaluations, newest first -/
  hist : List Int
  /-- a current path through the pre-charge resistor exists (R260) -/
  path : Bool
  /-- model rise ΔT in units of 2⁻⁶⁴ K (R260) -/
  dT : Nat
  /-- main− still has to open after the gap (R261) -/
  gapDue : Bool
  /-- the open in progress ended an orderly open (R261), and sets OPND -/
  orderly : Bool
  /-- the open check has seen |V_x| ≥ WELDV (R262) -/
  vxSeen : Bool
  /-- 1 ms samples in a row with |bank current| ≥ WELDI (R262) -/
  weldRun : Nat
  /-- an aux of the bank showed closed 50 ms after current zero, by driver (R262) -/
  auxClosed : BitVec 3
  deriving DecidableEq, Repr

/-! ### REF -/

/-- A running pen confirmation (R231). -/
structure PenConf where
  str : Fin 512
  /-- instant of the pen action, in ns -/
  at_ : Nat
  deriving DecidableEq, Repr

/-- A whistle that the referee has requested at a port end (R236). -/
structure WhistleReq where
  port : Fin 128
  arg  : Byte
  /-- the instant it leaves the port end, in ns -/
  at_  : Nat
  deriving DecidableEq, Repr

/-- A run of unjudged epochs of a channel (R226): its length, the epoch it counted last, and whether it has raised MISS. -/
structure Unjudged where
  count  : Nat
  epoch  : Nat
  raised : Bool
  deriving DecidableEq, Repr

/-- The referee's state beside its registers. -/
structure Referee where
  /-- channel B's copies of the maps, the table and the matrix; channel A's stand in the registers (R215) -/
  chB : List (Nat × Word)
  /-- arming or disarming accepted and due at the next epoch time (R238) -/
  armDue : Option Bool
  /-- first key of the loosen pair, and its instant (R240) -/
  key1At : Option Nat
  confs : List PenConf
  /-- unjudged epochs in a row: (32 × node + channel, run), sorted; an absent entry is none (R226) -/
  unjudged : List (Nat × Unjudged)
  /-- evaluated records in a row with a wire OPEN, capped at 4: (25 × node + wire, count) (R228 class 7) -/
  openRun : List (Nat × Nat)
  /-- epochs in a row in which the node had a clean record (R233): (node, count), capped at 10 -/
  clean : List (Nat × Nat)
  /-- nodes that had a clean record in the epoch in progress -/
  cleanNow : List Nat
  /-- nodes that showed a violation, ALM or no record in the epoch in progress -/
  dirtyNow : List Nat
  /-- last record of each HEAD showed SWF = 0: absent entry is false (R233) -/
  headSwf0 : List (Nat × Nat)
  /-- consecutive epochs without a class 0 to 9 (R39), capped at 100 -/
  quiet : Nat
  /-- a class 0 to 9 was raised in the epoch in progress -/
  noisy : Bool
  /-- epochs since a class naming each bank or one of its strings acted (R234), capped at 101 -/
  bankQuiet : Vector Nat 4
  /-- band 1: the outputs have stayed beyond IC1 or ID1 (R227); `true` from the first such output to the next inside -/
  ib1 : Vector Bool 4
  /-- class IB1 has been raised for this excursion -/
  ib1Raised : Vector Bool 4
  /-- consecutive outputs beyond band 2 (R227), capped at 2 -/
  ib2 : Vector Nat 4
  /-- bank current input invalid while PRECHARGING or CLOSED, already raised (R227) -/
  iinv : Vector Bool 4
  /-- wires presented at the last close: OPEN wires of each node (R141, R225): (node, mask) -/
  openWires : List (Nat × Nat)
  whistles : List WhistleReq
  /-- channels that have failed: bit 0 channel A, bit 1 channel B (R217) -/
  failed : BitVec 2
  /-- instant in ns at which TRIP_N was last sensed low (R237) -/
  lowAt : Option Nat
  /-- SETCMP still to be sent, strings whose comparator thresholds changed (R238) -/
  setcmpDue : List Nat
  deriving DecidableEq, Repr

/-! ### FLK -/

/-- What FLK holds of an enumerated node, by node index (R467, R224). -/
structure FlkNode where
  cls   : NodeClass
  ver   : Half
  uid   : BitVec 64
  /-- CELLMASK and TEMPMASK that FLK last sent the node -/
  cellm : BitVec 24
  tempm : Byte
  /-- SETDIAGs sent, newest first: epoch each was sent in, and its OWS (R124) -/
  diag  : List (Nat × Nat)
  /-- OWTEST ordered by acquisition: group and effective epoch (R139, R140) -/
  owReq : Option (Nat × Nat)
  /-- a SETDELAY with these delays is due (R87) -/
  delayDue : Bool
  deriving DecidableEq, Repr

/-- Who asked for a command frame: pair A through FLK_PCMD, FLK itself, or acquisition (R71, R140, R142). -/
inductive CmdSrc where
  | firmware | flk | acq
  deriving DecidableEq, Repr

/-- A command frame: ADDR, OPC and payload (R72), and the generation it was queued under (R51). -/
structure FlkCmd where
  src     : CmdSrc
  addr    : Byte
  opc     : Byte
  payload : List Byte
  gen     : Nat
  deriving DecidableEq, Repr

/-- A node found by an enumeration (R467). -/
structure Found where
  cls : NodeClass
  ver : Half
  uid : BitVec 64
  deriving DecidableEq, Repr

/-- What a port end keeps beside its registers. -/
structure PortState where
  /-- frame queued by pair A (FLK_PCMD) -/
  queued   : Option FlkCmd
  /-- requester generation of pair A's frame (R312) -/
  rgen     : Nat
  /-- frames that FLK and acquisition want to send, oldest first -/
  autoQ    : List FlkCmd
  /-- the command on the line, awaiting its reply (R71) -/
  out      : Option FlkCmd
  /-- the single retry has been sent (R74) -/
  retried  : Bool
  tag      : Byte
  /-- positions accepted, and declared missing, in the record phase in progress (R79) -/
  accepted : List Nat
  missing  : List Nat
  /-- positions whose record acquisition has not copied (R93) -/
  uncopied : List Nat
  /-- circular reply area: write offset, bytes in use, bytes of the last reply (R93) -/
  wr       : Nat
  used     : Nat
  lastLen  : Nat
  /-- SETPER has been sent since the latest enumeration (R70) -/
  setper   : Bool
  /-- the record phase of this epoch runs at this end -/
  phase    : Bool
  /-- epoch of the latest record phase and its epoch time in ns (R79); 0 before the first -/
  phEpoch  : Nat
  phT      : Nat
  /-- consecutive epochs in which TRACE arrived, the last 16 delays in 0.25 ns, newest first, TRACEs that a measurement of
  D_ring still needs, epoch time in ms of the last refresh, and whether one is on the way (R92, R466) -/
  traceRun : Nat
  traces   : List Nat
  measure  : Nat
  traceMs  : Nat
  traceOut : Bool
  /-- the heal waits for the calibration of D_A of nodes that lack it (R92) -/
  healDue  : Bool
  /-- the end becomes a drive end, or a listen end, from the next BELL (R90, R92) -/
  driveNext  : Bool
  listenNext : Bool
  /-- BRKPOS follows from the first fold-back record phase -/
  brkOpen  : Bool
  /-- last A-position that the A end reaches in fold-back (R91); BRKPOS as R90 words it -/
  brkA     : Nat
  /-- the BELL and the MARKER of this epoch have arrived at this listen end -/
  bellIn   : Bool
  markIn   : Bool
  /-- consecutive BELLs whose own output was absent from the line (R323) -/
  absentRun : Nat
  /-- nodes found from this end in the enumeration in progress, in order -/
  found    : List Found
  /-- enumeration from this end runs, and the last ASSIGN arrived intact at the other end (R467) -/
  assigning : Bool
  closed   : Bool
  /-- delays in 0.25 ns of each position's last 64 PINGs, newest first, positions counted from this end (R85, R87) -/
  pings    : List (Nat × List Nat)
  /-- positions that a calibration still PINGs, with the PINGs left (R85), and the next one that the refresh PINGs (R87) -/
  calib    : List (Nat × Nat)
  refresh  : Nat
  /-- the line: earliest instant of the next frame's first symbol, preamble included (R64, R71); until when the end sends a
  frame, and one of its own BELLs or MARKERs (R67, R69); the frame was cut by an ALARM (R67) -/
  lineAt   : Nat
  txUntil  : Nat
  seqUntil : Nat
  cut      : Bool
  /-- a SLEEP broadcast has been sent and no wake since (R126, R128) -/
  asleep   : Bool
  deriving DecidableEq, Repr

/-- A running FLK_OPS operation (R467, R85). -/
inductive FlkOp where
  | enumerate (thenCalibrate : Bool)
  | calibrate
  deriving DecidableEq, Repr

/-- FLK's state beside its registers. -/
structure Flk where
  nodes : List (Nat × FlkNode)
  ports : List (Nat × PortState)
  /-- the running operation, its port ends A or chain ends, its generation and its requester's (R51, R312) -/
  op     : Option FlkOp
  opEnds : List Nat
  opGen  : Nat
  opRgen : Nat
  /-- period in force, in ms (R21) -/
  per    : Nat
  /-- period to be announced, and the one announced with its effective epoch (R94) -/
  perWanted : Option Nat
  perNext   : Option (Nat × Nat)
  /-- the announced period is the one that acquisition asked for (R154) -/
  nextLce : Bool
  /-- acquisition asks for the low-current epoch (R154) -/
  lce    : Bool
  /-- instant of the last epoch time in ns -/
  lastT  : Nat
  /-- length of the epoch before it in ns (R149) -/
  prevLen : Nat
  /-- epoch time passed since epoch 1 in ms, the clock of R165, R180 and R182 -/
  totalMs : Nat
  /-- epoch number of the last MARKER injected -/
  marker : Nat
  /-- the command interval runs (R70) -/
  cmdOpen : Bool
  /-- levels of sources 112 to 115 -/
  src    : BitVec 4
  /-- nodes whose SETCMP has not completed (R238) -/
  setcmpNodes : List Nat
  /-- diagnostic count as FLK last sent it by SETDIAG (R125) -/
  diagSent : Option (Nat × Nat × Nat × Nat)
  /-- epoch time in ms of the last full-node tests (R125) -/
  testMs : Nat
  deriving DecidableEq, Repr

/-! ### ACQ -/

/-- What acquisition writes to the rows of one node for one epoch (R133 to R137): for each cell VLAST, QFLAG bits and TCELL. -/
structure NodeWrite where
  node  : Nat
  miss  : Bool
  vlast : List (Option Nat)
  bits  : List Nat
  tcell : List (Option Nat)
  deriving DecidableEq, Repr

/-- A change of a row's NEW, ABSENT, OWSUS, OPENW or MODID that waits for its epoch's scoreboard write (R17). -/
inductive RowOp where
  | bit (row k : Nat) (b : Bool)
  | flag (node k : Nat) (b : Bool)
  | modid (node v : Nat)
  deriving DecidableEq, Repr

/-- An epoch that acquisition has not closed (R15): number, epoch time in ns, period in ms, nodes marked missing (R130). -/
structure OpenEpoch where
  epoch   : Nat
  at_     : Nat
  per     : Nat
  missing : List Nat
  deriving DecidableEq, Repr

/-- An epoch whose scoreboard write is not complete (R17, R134). -/
structure EpochPend where
  epoch  : Nat
  /-- its period, and the epoch time passed up to it, in ms -/
  per    : Nat
  ms     : Nat
  closed : Bool
  writes : List NodeWrite
  ops    : List RowOp
  deriving DecidableEq, Repr

/-- A sense wire that is SUSPECT or OPEN (R139); `quiet` is one pull of an OPEN wire without response. -/
structure WireState where
  isOpen : Bool
  quiet  : Bool
  deriving DecidableEq, Repr

/-- The reference record of R138. -/
structure RefRecord where
  epoch : Nat
  cell  : List Nat
  msum  : Nat
  deriving DecidableEq, Repr

/-- A pull whose DIAGRD is out (R140). -/
structure Pull where
  node  : Nat
  epoch : Nat
  group : Option Nat
  deriving DecidableEq, Repr

/-- Acquisition's state beside its registers. -/
structure Acq where
  /-- open epochs, oldest first (R15) -/
  opens   : List OpenEpoch
  /-- nodes with an accepted record, by epoch, for eight epochs (R16, R132) -/
  got     : List (Nat × List Nat)
  pend    : List EpochPend
  /-- row changes held while no epoch is pending -/
  ops     : List RowOp
  /-- wires that are not NONE: (25 × node + wire, state) -/
  wires   : List (Nat × WireState)
  refs    : List (Nat × RefRecord)
  pulls   : List Pull
  /-- records in a row with every populated thermistor open (R144) -/
  therm   : List (Nat × Nat)
  /-- ABSENT nodes that showed a thermistor again (R144) -/
  back    : List Nat
  /-- epochs in a row in which the node was missing or late (R142, R184) -/
  lost    : List (Nat × Nat)
  /-- DIAGRD and READID to be repeated in the next command interval (R140, R144): (node, opcode) -/
  again   : List (Nat × Nat)
  /-- nodes whose diagnostic count differs from FLK's (R140) -/
  noGroup : List Nat
  /-- next A-position of the READID rotation, by flock (R142) -/
  idPos   : List (Nat × Nat)
  /-- quiet time in ms (R154) -/
  quietMs : Nat
  /-- period in ms of the last closed epoch (R165) -/
  lastPer : Nat
  deriving DecidableEq, Repr

/-! ### BMI -/

/-- Phases of the insulation cycle (R156). -/
inductive ImdPhase where
  | idle | p | gapP | n | gapN
  deriving DecidableEq, Repr

/-- A bank's insulation monitor (R156). -/
structure Imd where
  phase : ImdPhase
  /-- means of phases P and N in mV, and whether each settled -/
  aP : Int
  uP : Int
  okP : Bool
  aN : Int
  uN : Int
  okN : Bool
  deriving DecidableEq, Repr

/-- BMI's state beside its registers. -/
structure Bmi where
  /-- consecutive fast outputs beyond, and inside, the band (R152) -/
  fastOut : Vector Nat 16
  fastIn  : Vector Nat 16
  /-- the comparator is asserted -/
  comp    : Vector Bool 16
  /-- timestamp of the last output; a read of BMI_LSMP latches it into BMI_LTS -/
  stamp   : Vector Word 16
  imd     : Vector Imd 4
  deriving DecidableEq, Repr

/-! ### SCR and PUB -/

/-- A publish-queue entry (R176). -/
structure QEntry where
  kind : Nat
  data : Word
  deriving DecidableEq, Repr

/-- An active LOOPN (R293): first and last instruction of the body, passes still to run after the present one. -/
structure LoopSt where
  first : Nat
  last  : Nat
  left  : Nat
  deriving DecidableEq, Repr

/-- A scorer lane during an invocation (R160, R164, R165, R289). -/
structure Lane where
  /-- row of the invocation, or none while the lane has no work, and its number in the lane's series (R163) -/
  row   : Option Nat
  /-- position of that row in the range being swept -/
  idx   : Nat
  g     : Vector DWord 32
  f     : Vector DWord 32
  p     : BitVec 8
  k     : Vector Word 16
  c     : Vector DWord 6
  queue : List QEntry
  /-- a fifth entry has been offered (R176) -/
  badq  : Bool
  loop  : Option LoopSt
  pc    : Nat
  /-- an instruction has been executed in this invocation -/
  ran   : Bool
  /-- SCR cycles that the invocation's instructions have taken (R167, R295) -/
  cyc   : Nat
  ended : Bool
  /-- the invocation is aborted under R166, or under R167 and R290 -/
  abort : Option LaneFault
  deriving DecidableEq, Repr

/-- A sweep in progress (R163, R165, R169). -/
structure Sweep where
  epoch : Nat
  per   : Nat
  ms    : Nat
  /-- first row, row after the last -/
  lo    : Nat
  hi    : Nat
  /-- lanes in service, ascending -/
  lanes : List Nat
  slot  : Nat
  /-- DT of rows of half 0 and of half 1 -/
  dt0   : Nat
  dt1   : Nat
  /-- rows not yet retired -/
  left  : Nat
  /-- time that the passes of its lanes have taken, in ns (R168) -/
  ns    : Nat
  /-- rates under R177: epochs that discharge looks back -/
  back  : Nat
  deriving DecidableEq, Repr

/-- A background job (R174), with its generation and its requester's (R51, R312). -/
structure Job where
  slot  : Nat
  first : Nat
  count : Nat
  /-- rows retired, as positions in the range -/
  done  : List Nat
  gen   : Nat
  rgen  : Nat
  /-- position in BUD's job list when the budget scheduler dispatched it -/
  entry : Option Nat
  /-- lanes in service and their rows have been given out -/
  placed : Bool
  deriving DecidableEq, Repr

/-- A kernel load in progress (R170), with its generation and its requester's (R51, R312). -/
structure KLoad where
  slot : Nat
  src  : Nat
  gen  : Nat
  rgen : Nat
  rom  : Bool
  deriving DecidableEq, Repr

/-- The scorer's state beside its registers. -/
structure Scr where
  /-- instructions of the kernel slots: (512 × slot + index, word) -/
  kmem   : List (Nat × Word)
  /-- lookup points: (1024 × table + index, value); a point not listed holds 0 -/
  luts   : List (Nat × Word)
  lanes  : List (Nat × Lane)
  sweep  : Option Sweep
  /-- closed and written epoch whose sweep is due: number, period, epoch time -/
  due    : Option (Nat × Nat × Nat)
  job    : Option Job
  load   : Option KLoad
  /-- instant of the last residue mismatch, by group (R175) -/
  resAt  : Vector (Option Nat) 8
  /-- epoch time in ms of the last sweep of each half since the scorer started (R165) -/
  last0  : Option Nat
  last1  : Option Nat
  deriving DecidableEq, Repr

/-- The publish unit's state beside its registers. -/
structure Pub where
  /-- the row initialisation of R179 has ended -/
  initd : Bool
  /-- rows whose glide fraction is not 0, and rows whose initialised bit is set (R178) -/
  glide : List (Nat × Nat)
  init  : List (Nat × Bool)
  /-- last discharge epoch of each string (R177) -/
  lde   : List (Nat × Nat)
  /-- candidates of each half: (2 × string + half, (charge, discharge)) (R180) -/
  cand  : List (Nat × (Nat × Nat))
  /-- fractions of the slew in 0.1 mA: (string or 512 + bank, (charge, discharge)) -/
  frac  : List (Nat × (Nat × Nat))
  /-- the last row has retired and the commit is due: epoch and its epoch time in ms -/
  commit : Option (Nat × Nat)
  /-- nodes that held NEW when the last sweep started (R145) -/
  news   : List Nat
  /-- epoch time in ms of the last commit -/
  lastMs : Option Nat
  deriving DecidableEq, Repr

/-! ### Nodes -/

/-- Node states (R96). -/
inductive NodeSt where
  | unassigned | assigned | data | sleep
  deriving DecidableEq, Repr

/-- Limits of the periodic check in SLEEP (R126). -/
structure SleepLimits where
  ov : Nat
  uv : Nat
  ot : Int
  ut : Int
  deriving DecidableEq, Repr

/-- Rotation settings of SETDIAG (R124). -/
structure Rotations where
  ows  : Nat
  bswb : Nat
  bswk : Nat
  refs : Nat
  deriving DecidableEq, Repr

/-- A preemptive sequence that a node sent or forwarded (R68): its symbol K28.x, its argument, the side it left by and when. -/
structure Fwd where
  sym : Nat
  arg : Nat
  out : Side
  at_ : Nat
  deriving DecidableEq, Repr

/-- A reply as the node sent it (R72): source A-position, opcode with bit 7 set, the echoed tag and the payload. -/
structure NodeReply where
  addr    : Nat
  opc     : Nat
  tag     : Byte
  payload : List Byte
  deriving DecidableEq, Repr

/-- A node (R96 to R128). -/
structure Node where
  cls : NodeClass
  ver : Half
  uid : BitVec 64
  st  : NodeSt
  /-- position of ASSIGN and the side it counts from -/
  pos : Nat
  from_ : Side
  /-- population, ring and pair mode of SETRING -/
  ring : Option (Nat × Bool × Bool)
  /-- epoch period in ms; it holds a SETPER; the announced period and its epoch -/
  per     : Nat
  hasPer  : Bool
  perNext : Option (Nat × Nat)
  /-- EFF of a SETPER that the next MARKER aligns the epoch number with (R100) -/
  effDue  : Option Nat
  /-- delays of the A and of the B side in 0.25 ns -/
  da : Option Nat
  db : Option Nat
  /-- T_str in 10 ms, T_bal and tone period in 100 ms, check period in s -/
  tstr : Nat
  tbal : Nat
  tone : Nat
  chk  : Nat
  cellm : BitVec 24
  tempm : Byte
  ov : Nat
  uv : Nat
  ot : Int
  slp : Option SleepLimits
  /-- 16-bit number of the epoch whose window is the last one opened, and of the epoch that a MARKER announced -/
  epoch  : Nat
  marked : Option Nat
  /-- timing end: the side that the last MARKER came from -/
  timing : Side
  inWin  : Bool
  mklost : Bool
  sioff  : Int
  rot     : Rotations
  rotNext : List (Rotations × Nat)
  dcnt    : Nat
  /-- open-wire pull: requested by OWTEST (group, epoch); group pulled in the present window; last pull -/
  owReq : Option (Nat × Nat)
  pull  : Option Nat
  owr   : Bool
  owg   : Nat
  owe   : Nat
  owm   : Nat
  bswo : BitVec 24
  bswc : BitVec 24
  /-- switches that BSWTEST has still to test, and those that the rotation tests after the present window -/
  bswTest : BitVec 24
  bswRot  : BitVec 24
  refDue : Bool
  ref2f  : Bool
  refv   : Half
  ntj    : Half
  /-- balancing plan: applied cells and windows left; switches that are on; on since the last window start -/
  plan   : BitVec 24
  left   : Nat
  on_    : BitVec 24
  paused : Bool
  balAcc : Bool
  /-- BALP of the present window's record -/
  balp   : Bool
  /-- cells whose switch was found on at the window start (R118) -/
  found  : BitVec 24
  hot    : Bool
  /-- bell: a BELL has arrived, its count and instant; a naming WHISTLE since; absent beyond T_bal -/
  bell     : Option (Nat × Nat)
  whistled : Bool
  bellLost : Bool
  /-- string switch: commanded closed, penned, feedback shows closed, SWF -/
  sw     : Bool
  penned : Bool
  fb     : Bool
  swf    : Bool
  /-- comparators: consecutive samples (number, count) and active ones, numbered OV 0 to 23, UV 24 to 47, OT 48 to 55 -/
  cmpRun : List (Nat × Nat)
  cmpAct : List Nat
  /-- the last check in SLEEP failed -/
  chkFail : Bool
  /-- instant of the last burst of the upstream neighbour -/
  toneIn  : Option Nat
  /-- switches that stayed on during the last balance-switch test slot (R121) -/
  slotOn : BitVec 24
  /-- what the node sent last: record, reply, ALARM arguments; TONE bursts sent -/
  record : Option Record
  reply  : Option NodeReply
  alarms : List Byte
  tones  : Nat
  /-- preemptive sequences sent or forwarded in the last 300 µs (R68), newest first -/
  fwd    : List Fwd
  /-- the last frame forwarded: the side it left by and its header (R104) -/
  frameOut : Option (Side × CmdHead)
  /-- the node drives its link toward the timing end, as in the record phase (R64, R70) -/
  far    : Bool
  /-- records of other nodes: the last one forwarded, those held with the instant each leaves, and until when the node sends
  a record (R76) -/
  recordOut : Option Record
  held    : List (Nat × Record)
  txUntil : Nat
  /-- frames discarded, and code violations (R65, R74) -/
  discards : Nat
  cv       : Nat
  deriving DecidableEq, Repr

/-! ### THM and BUD -/

/-- THM's state beside its registers. -/
structure Thm where
  /-- consecutive bad samples of each sensor, capped at 3 (R328) -/
  bad  : Vector Nat 18
  /-- the second of R331 rule 2 has passed while the hold of rule 3 ran -/
  due  : Bool
  /-- the orderly trip of R332 runs -/
  trip : Bool
  deriving DecidableEq, Repr

/-- BUD's state beside its registers. -/
structure Bud where
  /-- content of the energy bucket in pJ (R335) -/
  bucket : Nat
  /-- instant that each entry's period counts from, in ns: its last completion, or its EN being set (R335) -/
  refAt  : Vector Nat 16
  deriving DecidableEq, Repr

/-! ### MTR -/

/-- The current loop and the speed controller of a motor unit (R345 to R352). -/
structure MotorLoop where
  /-- d and q current of the last period in 0.01 A -/
  id    : Int
  iq    : Int
  /-- d and q voltage of the last vector in mV -/
  vd    : Int
  vq    : Int
  /-- integrators of the two current controllers in 10⁻¹¹ V -/
  intD  : Int
  intQ  : Int
  /-- integrator of the speed controller in 10⁻¹⁸ mA, and its q reference in 0.01 A -/
  intS  : Int
  iqRef : Int
  /-- compare values of the period in force, as twice the value above TOP/2 (R345) -/
  devU  : Int
  devV  : Int
  devW  : Int
  /-- imposed angle of ALIGN and IFRAMP in 10⁻¹⁸/60 turns; it is taken from the observer at the next period -/
  ang   : Int
  angDue : Bool
  /-- phase of the injected voltage in 10⁻⁹ turns (R350) -/
  hfi   : Nat
  /-- what is left of the two polarity pulses, in ns (R350) -/
  pol   : Nat
  deriving DecidableEq, Repr

/-- What a motor unit keeps beside its registers. -/
structure Motor where
  /-- the 50 ms measurement of a catch-spin runs (R352) -/
  measuring : Bool
  /-- the catch-spin is a resync after an observer loss (R356) -/
  resync : Bool
  /-- gates are off on bus under-voltage with the run still requested (R357) -/
  uvWait : Bool
  /-- the catch-spin follows bus under-voltage (R357) -/
  uvCatch : Bool
  /-- consecutive good periods, capped at 64 (R349) -/
  good : Nat
  /-- consecutive skipped periods; the vector of the period in force is scaled for a valid sample (R348) -/
  skips : Nat
  force : Bool
  /-- periods since the last run of the speed controller (R347) -/
  phase : Nat
  /-- NREF and the I/f frequency in 10⁻⁹ rpm (R352, R353) -/
  nref : Int
  ifq  : Int
  /-- synchronised after a loss and not yet confident (R356) -/
  pendSync : Bool
  /-- a resync has been successful; time in RUN without a loss since then, in ns -/
  synced : Bool
  okNs   : Nat
  /-- BRAKE applies zero current (R352) -/
  brkHold : Bool
  /-- instants of OC and STAGE faults, and of LANE faults, in ns (R358) -/
  ocAt   : List Nat
  laneAt : List Nat
  /-- its control loop -/
  loop   : MotorLoop
  deriving DecidableEq, Repr

/-! ### LSW -/

/-- States of a load channel, coded as LSW_CST.STATE codes them (R363). -/
inductive LoadSt where
  | off | inrush | on_ | pause | latched | locked | supply | fenced
  deriving DecidableEq, Repr

/-- What a load channel keeps beside its registers. -/
structure Load where
  /-- the state at the detection of the supply or ground fault (R372) -/
  before  : LoadSt
  /-- consecutive off-state reads in the open-load band, above 7.0 V and below 3.0 V, each capped at 3 (R370) -/
  openRun : Nat
  stbRun  : Nat
  lowRun  : Nat
  /-- the pause in ms that runs in PAUSE, 0 where none does (R366) -/
  pauseMs : Nat
  deriving DecidableEq, Repr

/-! ### CAN -/

/-- What a CAN controller keeps beside its registers: the object that is being sent (R382). -/
structure CanCtl where
  cur : Option (Fin 128)
  deriving DecidableEq, Repr

/-! ### ETH and TIM -/

/-- An entry of a transmit stamp queue (R400): sequenceId, messageType, and the stamp in ns of the time base. -/
structure TxStamp where
  seqId : Nat
  mtype : Nat
  ns    : Nat
  deriving DecidableEq, Repr

/-- A received frame that waits in the receive buffer (R392): its bytes, errors and stamp in ns of the time base. -/
structure RxFrame where
  bytes  : List Byte
  crcErr : Bool
  ecc    : Bool
  ns     : Nat
  deriving DecidableEq, Repr

/-- An MDIO operation that runs (R391): code, register, port, clause 45, its generation and its requester's (R312). -/
structure MdioOp where
  op   : Nat
  reg  : Nat
  phy  : Nat
  c45  : Bool
  gen  : Nat
  rgen : Nat
  deriving DecidableEq, Repr

/-- What a MAC keeps beside its registers. -/
structure EthMac where
  /-- frames in the receive buffer, oldest first (R392, R393) -/
  rxq   : List RxFrame
  /-- the transmit stamp queue, head first (R400) -/
  tsq   : List TxStamp
  mdio  : Option MdioOp
  /-- the partner has been paused, and the quanta of the last PAUSE frame sent (R393) -/
  xoff  : Bool
  pauseOut : Option Half
  deriving DecidableEq, Repr

/-- A time-triggered output (R401): its start instant in ns of the time base while armed, and whether it asserts. -/
structure TimOut where
  start : Nat
  level : Bool
  deriving DecidableEq, Repr

/-- TIM's state beside its registers. -/
structure Tim where
  /-- the time base in 2⁻³² ns (R394) -/
  base  : Nat
  /-- first key of the re-initialisation, and its instant in ns (R396) -/
  key1At : Option Nat
  outs  : Vector TimOut 8
  /-- seconds of each held capture stamp (R402) -/
  capSec : Vector Word 8
  /-- consecutive epochs with |e| ≤ 100 ns, capped at 16 (R403) -/
  lockRun : Nat
  /-- change of the interval to the next epoch time, in ns (R403) -/
  adjust : Int
  deriving DecidableEq, Repr

/-! ### PRL -/

/-- What PRL puts on the pair link (R409, R414 to R419, R422, R424). -/
inductive PairMsg where
  | action (m : ActionMsg)
  | summary (s : EpochSummary)
  | epoch (m : EpochMsg)
  | withdraw
  | mirror (m : MirrorItem)
  /-- the active asks for a shadow, or for the release of one; the standby reports a coil below 10 mA (R418) -/
  | shadow (k : Fin 12)
  | shadowRelease (k : Fin 12)
  | released (k : Fin 12)
  /-- OWTEST that the standby's acquisition requests: node, group, effective epoch (R413) -/
  | owtest (node group eff : Nat)
  | checkpoint (bytes : List Byte) (epoch : Word)
  deriving DecidableEq, Repr

/-- Where a join stands (R419): before SYNC, before the configuration image, before pair A's second write, and in step 4. -/
inductive JoinStep where
  | sync | image | load | calibrate
  deriving DecidableEq, Repr

/-- PRL's state beside its registers. -/
structure Prl where
  /-- messages sent since the last epoch time, oldest first -/
  sent : List PairMsg
  /-- drivers that the partner shadows, as far as an active device knows (R418); the field die keeps it -/
  shadowed : BitVec 12
  join    : Option JoinStep
  joinGen : Nat
  /-- a checkpoint is being sent, with its generation (R424); requester generation of it or of the join (R312) -/
  ckpt : Option Nat
  rgen : Nat
  /-- instants of training losses of each lane, newest first, and lanes left down (R410) -/
  losses  : Vector (List Nat) 2
  laneOff : BitVec 2
  /-- MARKERs of this epoch: for each ring, arrival less D_ring in ns; the low byte of the epoch number (R411) -/
  marks   : List (Nat × Nat)
  markLow : Option Nat
  /-- the last epoch message since the last epoch time: its epoch, and the instant in ns at which that began (R411) -/
  epochMsg : Option (Nat × Nat)
  /-- a BELL has been received since the last epoch time (R412) -/
  bellIn : Bool
  /-- the partner's last epoch summary (R416) -/
  partner : Option EpochSummary
  deriving DecidableEq, Repr

/-! ### Core pairs and CPX -/

/-- What a core pair waits for (R280, R287): FENCE.IO, an interrupt, or an epoch number newer than one it has. -/
inductive CoreWait where
  | none
  | fenceIo
  | wfi
  | epochs (event : Fin 3) (rd : RegNo) (than : Word)
  deriving DecidableEq, Repr

/-- A core pair (R269, R281, R298): its two cores hold the same state. (DEDUCED, log 97.) -/
structure CorePair where
  g  : Vector DWord 32
  f  : Vector DWord 32
  p  : BitVec 8
  pc : DWord
  /-- c0 STATUS: IE, PIE, PRV, PPRV -/
  status : DWord
  epc    : DWord
  cause  : DWord
  tval   : DWord
  vbase  : DWord
  mscr   : DWord
  pscr   : DWord
  cycle  : DWord
  instret : DWord
  sig    : Word
  fflags : BitVec 5
  mpub   : Vector DWord 16
  mpul   : Vector DWord 16
  mpuctl : DWord
  wait   : CoreWait
  /-- the release test has passed and the cores have started (R308) -/
  up     : Bool
  /-- halted on entry into a sleep state (R338) -/
  asleep : Bool
  /-- halted by the debugger, and allowed one instruction (R438) -/
  halted : Bool
  step   : Bool
  deriving DecidableEq, Repr

/-- CPX's state beside its registers. -/
structure Cpx where
  core : Vector CorePair 2
  /-- instant of each pair's last restart (R41) -/
  lastAt : Vector (Option Nat) 2
  /-- instants of the W resets that each pair's restarts caused (R314) -/
  escAt  : Vector (List Nat) 2
  /-- the release test that runs follows a pair restart (R309) -/
  restart : Vector Bool 2
  /-- the pair starts at its retention entry (R431) -/
  retention : Bool
  /-- instant that each watchdog's period counts from (R313) -/
  wdAt : Vector Nat 2
  deriving DecidableEq, Repr

/-! ### NVC and SEC -/

/-- Operations of SEC that write the configuration region (R429, R432, R436, R437). -/
inductive SecOp where
  | confirm (bank : Bool)
  | advance (fw krn : Nat)
  | lock
  | program (slot use : Nat) (hash : Nat)
  | revoke (slot : Nat)
  deriving DecidableEq, Repr

/-- What a queued request writes (R434, R436). -/
inductive NvmKind where
  | write (row : Nat)
  | append
  | sec (op : SecOp)
  deriving DecidableEq, Repr

/-- A queued request: source address and rows left, its generation and its requester's (R312), and whether TEMP has been
reported for it (R339). -/
structure NvmReq where
  kind : NvmKind
  src  : Nat
  left : Nat
  gen  : Nat
  rgen : Nat
  temp : Bool
  deriving DecidableEq, Repr

/-- NVC's state beside its registers. (DEDUCED, log 63.) -/
structure Nvc where
  queue : List NvmReq
  /-- the row being written and its bytes; the front request asked for it -/
  row : Option (Nat × List Byte)
  /-- nothing waits for that row: its request has ended (R52, R340) -/
  orphan : Bool
  /-- a W (1) or G (2) reset that acts when that row is complete (R44) -/
  resetDue : Option Nat
  /-- SEQ of the next journal row (R435) -/
  seq : Nat
  /-- rows whose write a supply fault cut off, not written since (R461) -/
  torn : List Nat
  deriving DecidableEq, Repr

/-- A key slot (R436): SHA-384 of a public key, its use, and whether it is valid and revoked. -/
structure KeySlot where
  hash : Nat
  use  : Nat
  valid : Bool
  revoked : Bool
  deriving DecidableEq, Repr

/-- SEC's and DBG's state beside their registers. -/
structure Sec where
  /-- key slots, in the configuration region -/
  keys : Vector KeySlot 8
  /-- how often the configuration region has been written; its layout is not stated -/
  cfgVer : Nat
  /-- banks still to be tried at boot, the one being judged first (R429); `true` is bank B -/
  trying : List Bool
  /-- the recovery loader runs (R430) -/
  recovery : Bool
  /-- the boot record: digests of both TCM sections (R428) -/
  bootRec : Option (Nat × Nat)
  /-- security version of the running firmware, its key slot, and versions of the kernels in K0 to K7 (R432, R436) -/
  fwSvn  : Nat
  fwSlot : Option Nat
  krnSvn : Vector Nat 8
  /-- first key of SEC_LC and its instant (R437) -/
  key1At : Option Nat
  /-- a nonce has been given and not been used (R438) -/
  nonce : Bool
  /-- the words of DBG_RSP as written -/
  rsp : Vector Word 24
  /-- the pins belong to the scan chain (R438) -/
  scan : Bool
  /-- pairs that have not entered their boot entry since the control die started with P-class values (R428) -/
  cold : BitVec 2
  deriving DecidableEq, Repr


/-- The device. (DESIGN CHOICE, log 9.) -/
structure Device where
  /-- fuses (R1, R2) -/
  part : Part
  /-- the model's clock in ns, for rules that compare instants -/
  now  : Nat
  /-- the model's own counter of free values; no rule of the spec names it -/
  free : Nat
  /-- register values, by address; a register not listed holds its reset value -/
  regs : List (Nat × Word)
  /-- bytes of the address map of R27, by address, in canonical form -/
  mem  : List Host.Cell
  /-- 64-bit words of memory, by address / 8, whose stored code holds a bit error: single-bit, or double-bit with `true` (R30) -/
  upsets : List (Nat × Bool)
  fd   : FieldDie
  sys  : Sys
  drv  : Vector Driver 12
  bank : Vector Bank 4
  ref  : Referee
  flk  : Flk
  acq  : Acq
  bmi  : Bmi
  scr  : Scr
  pub  : Pub
  /-- nodes on the links: (128 × flock + place, node) -/
  nodes : List (Nat × Node)
  /-- interrupt sources without an event bit, raised and not yet taken (R18, R58, R337): 20, 160, 161 -/
  pulses : List Nat
  thm  : Thm
  bud  : Bud
  mtr  : Vector Motor 4
  lsw  : Vector Load 16
  can  : Vector CanCtl 4
  eth  : Vector EthMac 2
  tim  : Tim
  prl  : Prl
  cpx  : Cpx
  nvc  : Nvc
  sec  : Sec
  deriving DecidableEq, Repr

/-- The machine: the device and the commands that wait, first in, first out. -/
structure State where
  dev     : Device
  pending : List Instr
  deriving DecidableEq, Repr

/-- Drivers after a P reset (R247, R254). -/
def Driver.reset : Driver := ⟨false, false, none, none, false⟩

/-- Banks after a P reset (R260). -/
def Bank.reset : Bank :=
  { uw := none, w0Rise := false, u0 := none, t := 0, fastRun := 0, slowRun := 0, hist := [], path := false, dT := 0,
    gapDue := false, orderly := false, vxSeen := false, weldRun := 0, auxClosed := 0#3 }

/-- The field die after a P reset (R26, R38, R445). (DESIGN CHOICE, log 7.) -/
def FieldDie.reset : FieldDie :=
  { tripLatch := false, clockCause := false, clockBadPrev := false, hbCause := false, outputsOff := false,
    thermal := false, grace := false, lost := false, ctl := .ramping, down := .preset, wakePending := none,
    sleep := .awake, wakeIdx := none, retained := [] }

/-- The mode machine after a P reset. (DESIGN CHOICE, log 7.) -/
def Sys.reset : Sys :=
  { holdAt := none, holdStage2 := false, reassertDue := false, stopbalDue := false, appHeld := true, released := false,
    mustSeen := false,
    musterRuns := false, sramUndef := true, ackLowAt := none, ackRelAt := none, key1At := none, genAt := [],
    step := 0 }

/-- The referee after a P reset (R222, R241). -/
def Referee.reset : Referee :=
  { chB := [], armDue := none, key1At := none, confs := [], unjudged := [], openRun := [], clean := [], cleanNow := [],
    dirtyNow := [], headSwf0 := [], quiet := 0, noisy := false, bankQuiet := Vector.replicate 4 101,
    ib1 := Vector.replicate 4 false, ib1Raised := Vector.replicate 4 false, ib2 := Vector.replicate 4 0,
    iinv := Vector.replicate 4 false, openWires := [], whistles := [], failed := 0#2, lowAt := none, setcmpDue := [] }

/-- A port end after a P reset. -/
def PortState.reset : PortState :=
  { queued := none, rgen := 0, autoQ := [], out := none, retried := false, tag := 0#8, accepted := [], missing := [], uncopied := [],
    wr := 0, used := 0, lastLen := 0, setper := false, phase := false, phEpoch := 0,
    phT := 0, traceRun := 0, traces := [], measure := 16, traceMs := 0, traceOut := false, healDue := false,
    driveNext := false, listenNext := false, brkOpen := false, brkA := 0, bellIn := false, markIn := false, absentRun := 0,
    found := [], assigning := false, closed := false, pings := [], calib := [], refresh := 0, lineAt := 0, txUntil := 0,
    seqUntil := 0, cut := false, asleep := false }

/-- FLK after a P reset. -/
def Flk.reset : Flk :=
  { nodes := []
    , ports := [], op := none, opEnds := [], opGen := 0, opRgen := 0, per := 10, perWanted := none, perNext := none, nextLce := false, lce := false,
    lastT := 0, prevLen := 0, totalMs := 0, marker := 0, cmdOpen := false, src := 0#4, setcmpNodes := [], diagSent := none, testMs := 0
  }

/-- Acquisition after a P, W or G reset. -/
def Acq.reset : Acq :=
  { opens := [], got := [], pend := [], ops := [], wires := [], refs := [], pulls := [], therm := [],
    back := [], lost := [], again := [], noGroup := [], idPos := [], quietMs := 0, lastPer := 10 }

/-- BMI after a P or G reset. -/
def Bmi.reset : Bmi :=
  { fastOut := Vector.replicate 16 0, fastIn := Vector.replicate 16 0, comp := Vector.replicate 16 false,
    stamp := Vector.replicate 16 0#32, imd := Vector.replicate 4 ⟨.idle, 0, 0, false, 0, 0, false⟩ }

/-- A lane between invocations. -/
def Lane.idle : Lane :=
  { row := none, idx := 0, g := Vector.replicate 32 0#64, f := Vector.replicate 32 0#64, p := 0#8,
    k := Vector.replicate 16 0#32, c := Vector.replicate 6 0#64, queue := [], badq := false, loop := none, pc := 0,
    ran := false, cyc := 0, ended := false, abort := none }

/-- The scorer after a P reset. -/
def Scr.reset : Scr :=
  { kmem := [], luts := [], lanes := [], sweep := none, due := none, job := none, load := some ⟨0, 0, 0, 0, true⟩,
    resAt := Vector.replicate 8 none, last0 := none, last1 := none }

/-- The publish unit after a P reset. -/
def Pub.reset : Pub :=
  { initd := false, glide := [], init := [], lde := [], cand := [], frac := [], commit := none, news := [], lastMs := none }

/-- A node at power-up (R97, R108). -/
def Node.powerUp (id : NodeIdent) : Node :=
  { cls := id.cls, ver := id.ver, uid := id.uid, st := .unassigned, pos := 0, from_ := .a, ring := none, per := 10,
    hasPer := false, perNext := none, effDue := none, da := none, db := none, tstr := 50, tbal := 20, tone := 10, chk := 60,
    cellm := 0xFFFFFF#24, tempm := 0xFF#8, ov := 0xFFFF, uv := 0, ot := 0x7FFF, slp := none, epoch := 0, marked := none,
    timing := .a, inWin := false, mklost := false, sioff := 0, rot := ⟨0, 0, 0, 0⟩, rotNext := [], dcnt := 0,
    owReq := none, pull := none, owr := false, owg := 0, owe := 0, owm := 0, bswo := 0#24, bswc := 0#24, bswTest := 0#24,
    bswRot := 0#24, refDue := false, ref2f := false, refv := 0#16, ntj := 0#16, plan := 0#24, left := 0, on_ := 0#24,
    paused := false, balAcc := false, balp := false, found := 0#24, hot := false, bell := none, whistled := false, bellLost := false, sw := false,
    penned := false, fb := false, swf := false, cmpRun := [], cmpAct := [], chkFail := false, toneIn := none,
    slotOn := 0#24, record := none, reply := none, alarms := [], tones := 0, fwd := [], frameOut := none, far := false,
    recordOut := none, held := [], txUntil := 0, discards := 0, cv := 0 }

/-- THM after a P reset. (DESIGN CHOICE, log 7.) -/
def Thm.reset : Thm := ⟨Vector.replicate 18 0, false, false⟩

/-- BUD after a P, W or G reset. (DESIGN CHOICE, log 7.) -/
def Bud.reset : Bud := ⟨0, Vector.replicate 16 0⟩

/-- The loop of a unit whose gates have just come on: no current, no voltage, integrators at zero. (DEDUCED, log 64.) -/
def MotorLoop.reset : MotorLoop :=
  { id := 0, iq := 0, vd := 0, vq := 0, intD := 0, intQ := 0, intS := 0, iqRef := 0, devU := 0, devV := 0, devW := 0,
    ang := 0, angDue := false, hfi := 0, pol := 0 }

/-- A motor unit after a P or G reset. -/
def Motor.reset : Motor :=
  { measuring := false, resync := false, uvWait := false, uvCatch := false, good := 0, skips := 0, force := false,
    phase := 0, nref := 0, ifq := 0, pendSync := false, synced := false, okNs := 0, brkHold := false, ocAt := [], laneAt := [],
    loop := MotorLoop.reset }

/-- A load channel after a P or G reset. -/
def Load.reset : Load := ⟨.off, 0, 0, 0, 0⟩

/-- A MAC after a P, W or G reset. -/
def EthMac.reset : EthMac := ⟨[], [], none, false, none⟩

/-- TIM after a P reset (R394). -/
def Tim.reset : Tim :=
  { base := 0, key1At := none, outs := Vector.replicate 8 ⟨0, false⟩, capSec := Vector.replicate 8 0#32, lockRun := 0,
    adjust := 0 }

/-- PRL after a P reset. -/
def Prl.reset : Prl :=
  { sent := [], shadowed := 0#12, join := none, joinGen := 0, ckpt := none, rgen := 0, losses := Vector.replicate 2 [], laneOff := 0#2,
    marks := [], markLow := none, epochMsg := none, bellIn := false, partner := none }

/-- A core pair at the start of its reset (R282, R285). (DESIGN CHOICE, log 7.) -/
def CorePair.reset : CorePair :=
  { g := Vector.replicate 32 0#64, f := Vector.replicate 32 0#64, p := 1#8, pc := 0#64, status := 0x3C#64, epc := 0#64,
    cause := 0#64, tval := 0#64, vbase := 0#64, mscr := 0#64, pscr := 0#64, cycle := 0#64, instret := 0#64, sig := 0#32,
    fflags := 0#5, mpub := Vector.replicate 16 0#64, mpul := Vector.replicate 16 0#64, mpuctl := 0#64, wait := .none,
    up := false, asleep := false, halted := false, step := false }

/-- CPX after a P reset. (DESIGN CHOICE, log 7.) -/
def Cpx.reset : Cpx :=
  { core := Vector.replicate 2 CorePair.reset, lastAt := Vector.replicate 2 none, escAt := Vector.replicate 2 [],
    restart := Vector.replicate 2 false, retention := false, wdAt := Vector.replicate 2 0 }

/-- NVC after a P, W or G reset. -/
def Nvc.reset : Nvc := ⟨[], none, false, none, 0, []⟩

/-- SEC and DBG after a P reset, apart from what the configuration region holds; here with no key programmed. -/
def Sec.reset : Sec :=
  { keys := Vector.replicate 8 ⟨0, 0, false, false⟩, cfgVer := 0, trying := [], recovery := false, bootRec := none, fwSvn := 0,
    fwSlot := none, krnSvn := Vector.replicate 8 0, key1At := none, nonce := false, rsp := Vector.replicate 24 0#32,
    scan := false, cold := 3#2 }


/-- The device right after a P reset. (DESIGN CHOICE, log 7.) -/
def Device.reset : Device :=
  { part := .mpl8192, now := 0, free := 0, regs := [], mem := [], upsets := [], fd := FieldDie.reset, sys := Sys.reset,
    drv := Vector.replicate 12 Driver.reset, bank := Vector.replicate 4 Bank.reset, ref := Referee.reset
    , flk := Flk.reset
    , acq := Acq.reset, bmi := Bmi.reset, scr := Scr.reset, pub := Pub.reset, nodes := [], pulses := []
    , thm := Thm.reset, bud := Bud.reset
    , mtr := Vector.replicate 4 Motor.reset
    , lsw := Vector.replicate 16 Load.reset
    , can := Vector.replicate 4 ⟨none⟩
    , eth := Vector.replicate 2 EthMac.reset, tim := Tim.reset
    , prl := Prl.reset
    , cpx := Cpx.reset, nvc := Nvc.reset, sec := Sec.reset
  }

/-- The machine right after a P reset, with no command waiting. (DESIGN CHOICE, log 7.) -/
def State.reset : State := ⟨Device.reset, []⟩

end Sys2Proof.Machine
end

