-- ==== Sys2Proof/Machine/RegNames.lean ====
section
/-! DEFINITION. The addresses of the registers and the places of their fields, from the register tables of the
spec's chapters (block bases of R11). A register repeated per unit takes its index (R9 to R11). -/

namespace Sys2Proof.Machine


/-! ### SYS -/

abbrev SYS_MODE : Nat := 0x60000010
abbrev SYS_MODE_MODE : Fld := ⟨SYS_MODE, 0, 3⟩
abbrev SYS_MODE_BUSY : Fld := ⟨SYS_MODE, 8, 1⟩
abbrev SYS_MODE_HOLD : Fld := ⟨SYS_MODE, 9, 1⟩
abbrev SYS_MODE_TRIPL : Fld := ⟨SYS_MODE, 10, 1⟩
abbrev SYS_MODE_BANKST : Fld := ⟨SYS_MODE, 16, 8⟩
abbrev SYS_MREQ : Nat := 0x60000014
abbrev SYS_HOLD : Nat := 0x60000018
abbrev SYS_HOLDACK : Nat := 0x6000001C
abbrev SYS_TRIPCLR : Nat := 0x60000020
abbrev SYS_RSTCAUSE : Nat := 0x60000024
abbrev SYS_RSTCAUSE_WPIN : Fld := ⟨SYS_RSTCAUSE, 1, 1⟩
abbrev SYS_RSTCAUSE_WSW : Fld := ⟨SYS_RSTCAUSE, 2, 1⟩
abbrev SYS_RSTCAUSE_WDOG : Fld := ⟨SYS_RSTCAUSE, 3, 1⟩
abbrev SYS_RSTCAUSE_PRA : Fld := ⟨SYS_RSTCAUSE, 4, 1⟩
abbrev SYS_RSTCAUSE_PRB : Fld := ⟨SYS_RSTCAUSE, 5, 1⟩
abbrev SYS_RSTCAUSE_PESC : Fld := ⟨SYS_RSTCAUSE, 6, 1⟩
abbrev SYS_RSTCAUSE_THSD : Fld := ⟨SYS_RSTCAUSE, 7, 1⟩
abbrev SYS_RSTCAUSE_HEXP : Fld := ⟨SYS_RSTCAUSE, 8, 1⟩
abbrev SYS_RSTCAUSE_WAKE : Fld := ⟨SYS_RSTCAUSE, 9, 1⟩
abbrev SYS_RSTCAUSE_WSRC : Fld := ⟨SYS_RSTCAUSE, 10, 4⟩
abbrev SYS_GRST : Nat := 0x60000028
abbrev SYS_WRST : Nat := 0x6000002C
abbrev SYS_LOCK : Nat := 0x60000030
abbrev SYS_LOCK_LOCK : Fld := ⟨SYS_LOCK, 0, 1⟩
abbrev SYS_EVT : Nat := 0x60000034
abbrev SYS_EVT_MODE : Fld := ⟨SYS_EVT, 0, 1⟩
abbrev SYS_EVT_HOLDO : Fld := ⟨SYS_EVT, 1, 1⟩
abbrev SYS_EVT_HOLDE : Fld := ⟨SYS_EVT, 2, 1⟩
abbrev SYS_EVT_TRIPL : Fld := ⟨SYS_EVT, 3, 1⟩
abbrev SYS_EVT_WAKE : Fld := ⟨SYS_EVT, 4, 1⟩
abbrev SYS_EVT_MUST : Fld := ⟨SYS_EVT, 5, 1⟩
abbrev SYS_EVT_MFAIL : Fld := ⟨SYS_EVT, 6, 1⟩
abbrev SYS_MST : Nat := 0x60000038

/-! ### FLK -/

abbrev FLK_PCTL (i : Nat) : Nat := 0x60080010 + 0x1000 * i
abbrev FLK_PCTL_ROLE (i : Nat) : Fld := ⟨FLK_PCTL i, 0, 2⟩
abbrev FLK_PCTL_TOPO (i : Nat) : Fld := ⟨FLK_PCTL i, 2, 1⟩
abbrev FLK_PCTL_PAIRM (i : Nat) : Fld := ⟨FLK_PCTL i, 3, 1⟩
abbrev FLK_PCTL_FOLDEN (i : Nat) : Fld := ⟨FLK_PCTL i, 4, 1⟩
abbrev FLK_PSTAT (i : Nat) : Nat := 0x60080014 + 0x1000 * i
abbrev FLK_PSTAT_NODES (i : Nat) : Fld := ⟨FLK_PSTAT i, 0, 8⟩
abbrev FLK_PSTAT_LINK (i : Nat) : Fld := ⟨FLK_PSTAT i, 8, 1⟩
abbrev FLK_PSTAT_FOLD (i : Nat) : Fld := ⟨FLK_PSTAT i, 9, 1⟩
abbrev FLK_PSTAT_CONT (i : Nat) : Fld := ⟨FLK_PSTAT i, 10, 1⟩
abbrev FLK_PSTAT_BRKPOS (i : Nat) : Fld := ⟨FLK_PSTAT i, 16, 8⟩
abbrev FLK_PEVT (i : Nat) : Nat := 0x60080018 + 0x1000 * i
abbrev FLK_PEVT_BRK (i : Nat) : Fld := ⟨FLK_PEVT i, 0, 1⟩
abbrev FLK_PEVT_HEAL (i : Nat) : Fld := ⟨FLK_PEVT i, 1, 1⟩
abbrev FLK_PEVT_LOSS (i : Nat) : Fld := ⟨FLK_PEVT i, 2, 1⟩
abbrev FLK_PEVT_OVR (i : Nat) : Fld := ⟨FLK_PEVT i, 3, 1⟩
abbrev FLK_PEVT_EXCESS (i : Nat) : Fld := ⟨FLK_PEVT i, 4, 1⟩
abbrev FLK_PPRES (i : Nat) (j : Nat) : Nat := 0x60080020 + 0x1000 * i + 0x4 * j
abbrev FLK_PPRES_PRES (i : Nat) (j : Nat) : Fld := ⟨FLK_PPRES i j, 0, 32⟩
abbrev FLK_PCRC (i : Nat) : Nat := 0x60080030 + 0x1000 * i
abbrev FLK_PMISS (i : Nat) : Nat := 0x60080034 + 0x1000 * i
abbrev FLK_PCV (i : Nat) : Nat := 0x60080038 + 0x1000 * i
abbrev FLK_PDISC (i : Nat) : Nat := 0x6008003C + 0x1000 * i
abbrev FLK_PCMD (i : Nat) : Nat := 0x60080040 + 0x1000 * i
abbrev FLK_PRSP (i : Nat) : Nat := 0x60080044 + 0x1000 * i
abbrev FLK_PRSP_ST (i : Nat) : Fld := ⟨FLK_PRSP i, 0, 8⟩
abbrev FLK_PRSP_LEN (i : Nat) : Fld := ⟨FLK_PRSP i, 8, 8⟩
abbrev FLK_PRSP_DONE (i : Nat) : Fld := ⟨FLK_PRSP i, 16, 1⟩
abbrev FLK_PRSP_GEN (i : Nat) : Fld := ⟨FLK_PRSP i, 24, 8⟩
abbrev FLK_PBASE (i : Nat) : Nat := 0x60080048 + 0x1000 * i
abbrev FLK_PBASE_BASE (i : Nat) : Fld := ⟨FLK_PBASE i, 0, 13⟩
abbrev FLK_PRING (i : Nat) : Nat := 0x6008004C + 0x1000 * i
abbrev FLK_PRING_DRING (i : Nat) : Fld := ⟨FLK_PRING i, 0, 20⟩
abbrev FLK_PFEN (i : Nat) : Nat := 0x60080050 + 0x1000 * i
abbrev FLK_PFEN_FEN (i : Nat) : Fld := ⟨FLK_PFEN i, 0, 1⟩
abbrev FLK_PFEN_CAUSE (i : Nat) : Fld := ⟨FLK_PFEN i, 1, 2⟩
abbrev FLK_PFRM (i : Nat) (j : Nat) : Nat := 0x60080100 + 0x1000 * i + 0x4 * j
abbrev FLK_NDLY (i : Nat) (j : Nat) : Nat := 0x60080400 + 0x1000 * i + 0x4 * j
abbrev FLK_NDLY_DLY (i : Nat) (j : Nat) : Fld := ⟨FLK_NDLY i j, 0, 20⟩
abbrev FLK_EPER : Nat := 0x60080800
abbrev FLK_EPER_PER : Fld := ⟨FLK_EPER, 0, 7⟩
abbrev FLK_EPER_LCE : Fld := ⟨FLK_EPER, 8, 1⟩
abbrev FLK_EPNUM : Nat := 0x60080804
abbrev FLK_EPNUM_EPOCH : Fld := ⟨FLK_EPNUM, 0, 32⟩
abbrev FLK_OPS : Nat := 0x60080808
abbrev FLK_OPST : Nat := 0x6008080C
abbrev FLK_OPST_ST : Fld := ⟨FLK_OPST, 0, 8⟩
abbrev FLK_OPST_BUSY : Fld := ⟨FLK_OPST, 8, 1⟩
abbrev FLK_NTIM : Nat := 0x60080810
abbrev FLK_NTIM_TSTR : Fld := ⟨FLK_NTIM, 0, 9⟩
abbrev FLK_NTIM_TBAL : Fld := ⟨FLK_NTIM, 16, 7⟩
abbrev FLK_TONE : Nat := 0x60080814
abbrev FLK_TONE_PER : Fld := ⟨FLK_TONE, 0, 7⟩
abbrev FLK_LOCK : Nat := 0x60080818
abbrev FLK_LOCK_LOCK : Fld := ⟨FLK_LOCK, 0, 1⟩

/-! ### BMI -/

abbrev BMI_CTL : Nat := 0x60110010
abbrev BMI_CTL_CLKEN : Fld := ⟨BMI_CTL, 0, 1⟩
abbrev BMI_LOCK : Nat := 0x60110014
abbrev BMI_LOCK_LOCK : Fld := ⟨BMI_LOCK, 0, 1⟩
abbrev BMI_ICFG (i : Nat) : Nat := 0x60110100 + 0x40 * i
abbrev BMI_ICFG_EN (i : Nat) : Fld := ⟨BMI_ICFG i, 0, 1⟩
abbrev BMI_ICFG_FUNC (i : Nat) : Fld := ⟨BMI_ICFG i, 1, 3⟩
abbrev BMI_ICFG_BANK (i : Nat) : Fld := ⟨BMI_ICFG i, 4, 2⟩
abbrev BMI_ICFG_OSR (i : Nat) : Fld := ⟨BMI_ICFG i, 6, 2⟩
abbrev BMI_ICFG_ISODLY (i : Nat) : Fld := ⟨BMI_ICFG i, 8, 8⟩
abbrev BMI_GAIN (i : Nat) : Nat := 0x60110104 + 0x40 * i
abbrev BMI_GAIN_GAIN (i : Nat) : Fld := ⟨BMI_GAIN i, 0, 32⟩
abbrev BMI_OFFS (i : Nat) : Nat := 0x60110108 + 0x40 * i
abbrev BMI_OFFS_OFFS (i : Nat) : Fld := ⟨BMI_OFFS i, 0, 16⟩
abbrev BMI_FCMP (i : Nat) : Nat := 0x6011010C + 0x40 * i
abbrev BMI_FCMP_LO (i : Nat) : Fld := ⟨BMI_FCMP i, 0, 16⟩
abbrev BMI_FCMP_HI (i : Nat) : Fld := ⟨BMI_FCMP i, 16, 16⟩
abbrev BMI_FCFG (i : Nat) : Nat := 0x60110110 + 0x40 * i
abbrev BMI_FCFG_FEN (i : Nat) : Fld := ⟨BMI_FCFG i, 0, 1⟩
abbrev BMI_FCFG_FCNT (i : Nat) : Fld := ⟨BMI_FCFG i, 1, 3⟩
abbrev BMI_LSMP (i : Nat) : Nat := 0x60110114 + 0x40 * i
abbrev BMI_LSMP_X (i : Nat) : Fld := ⟨BMI_LSMP i, 0, 32⟩
abbrev BMI_LTS (i : Nat) : Nat := 0x60110118 + 0x40 * i
abbrev BMI_WMEAN (i : Nat) : Nat := 0x6011011C + 0x40 * i
abbrev BMI_WMEAN_X (i : Nat) : Fld := ⟨BMI_WMEAN i, 0, 32⟩
abbrev BMI_EMEAN (i : Nat) : Nat := 0x60110120 + 0x40 * i
abbrev BMI_EMEAN_X (i : Nat) : Fld := ⟨BMI_EMEAN i, 0, 32⟩
abbrev BMI_MEP (i : Nat) : Nat := 0x60110124 + 0x40 * i
abbrev BMI_MEP_EP (i : Nat) : Fld := ⟨BMI_MEP i, 0, 32⟩
abbrev BMI_IST (i : Nat) : Nat := 0x60110128 + 0x40 * i
abbrev BMI_IST_FTRIP (i : Nat) : Fld := ⟨BMI_IST i, 0, 1⟩
abbrev BMI_IST_STUCK (i : Nat) : Fld := ⟨BMI_IST i, 1, 1⟩
abbrev BMI_IST_CLIP (i : Nat) : Fld := ⟨BMI_IST i, 2, 1⟩
abbrev BMI_IST_INEW (i : Nat) : Fld := ⟨BMI_IST i, 3, 1⟩
abbrev BMI_IST_IWARN (i : Nat) : Fld := ⟨BMI_IST i, 4, 1⟩
abbrev BMI_IST_IFAULT (i : Nat) : Fld := ⟨BMI_IST i, 5, 1⟩
abbrev BMI_IST_IUNSET (i : Nat) : Fld := ⟨BMI_IST i, 6, 1⟩
abbrev BMI_IST_ILOWV (i : Nat) : Fld := ⟨BMI_IST i, 7, 1⟩
abbrev BMI_IMDC (i : Nat) : Nat := 0x60110500 + 0x10 * i
abbrev BMI_IMDC_EN (i : Nat) : Fld := ⟨BMI_IMDC i, 0, 1⟩
abbrev BMI_IMDC_RN (i : Nat) : Fld := ⟨BMI_IMDC i, 16, 16⟩
abbrev BMI_IMDT (i : Nat) : Nat := 0x60110504 + 0x10 * i
abbrev BMI_IMDT_WARN (i : Nat) : Fld := ⟨BMI_IMDT i, 0, 16⟩
abbrev BMI_IMDT_FAULT (i : Nat) : Fld := ⟨BMI_IMDT i, 16, 16⟩
abbrev BMI_IMDR (i : Nat) : Nat := 0x60110508 + 0x10 * i
abbrev BMI_IMDR_RPOS (i : Nat) : Fld := ⟨BMI_IMDR i, 0, 16⟩
abbrev BMI_IMDR_RNEG (i : Nat) : Fld := ⟨BMI_IMDR i, 16, 16⟩
abbrev BMI_IMDS (i : Nat) : Nat := 0x6011050C + 0x10 * i
abbrev BMI_IMDS_RISO (i : Nat) : Fld := ⟨BMI_IMDS i, 0, 16⟩
abbrev BMI_IMDS_CYC (i : Nat) : Fld := ⟨BMI_IMDS i, 16, 8⟩
abbrev BMI_IMDS_PH (i : Nat) : Fld := ⟨BMI_IMDS i, 24, 1⟩
abbrev BMI_IMDS_VALID (i : Nat) : Fld := ⟨BMI_IMDS i, 25, 1⟩

/-! ### ACQ -/

abbrev ACQ_CTL : Nat := 0x60100010
abbrev ACQ_CTL_EN : Fld := ⟨ACQ_CTL, 0, 1⟩
abbrev ACQ_CTL_OWEN : Fld := ⟨ACQ_CTL, 1, 1⟩
abbrev ACQ_CTL_OWFAST : Fld := ⟨ACQ_CTL, 2, 1⟩
abbrev ACQ_CTL_IDROT : Fld := ⟨ACQ_CTL, 3, 3⟩
abbrev ACQ_CLOSE : Nat := 0x60100014
abbrev ACQ_CLOSE_CLDL : Fld := ⟨ACQ_CLOSE, 0, 10⟩
abbrev ACQ_OWCFG : Nat := 0x60100018
abbrev ACQ_OWCFG_OWDELTA : Fld := ⟨ACQ_OWCFG, 0, 8⟩
abbrev ACQ_OWCFG_OWSUMT : Fld := ⟨ACQ_OWCFG, 8, 8⟩
abbrev ACQ_OWCFG_SUMTOL : Fld := ⟨ACQ_OWCFG, 16, 8⟩
abbrev ACQ_TIMCFG : Nat := 0x6010001C
abbrev ACQ_TIMCFG_SKEW : Fld := ⟨ACQ_TIMCFG, 0, 10⟩
abbrev ACQ_TMAP0 : Nat := 0x60100020
abbrev ACQ_TMAP1 : Nat := 0x60100024
abbrev ACQ_TMAP2 : Nat := 0x60100028
abbrev ACQ_LCE : Nat := 0x60100030
abbrev ACQ_LCE_EN : Fld := ⟨ACQ_LCE, 0, 1⟩
abbrev ACQ_LCE_LCTH : Fld := ⟨ACQ_LCE, 16, 16⟩
abbrev ACQ_LCST : Nat := 0x60100034
abbrev ACQ_LCST_QUIET : Fld := ⟨ACQ_LCST, 0, 16⟩
abbrev ACQ_LCST_ACTIVE : Fld := ⟨ACQ_LCST, 16, 1⟩
abbrev ACQ_MIDVAL : Nat := 0x60100040
abbrev ACQ_MIDLD : Nat := 0x60100044
abbrev ACQ_EVT : Nat := 0x60100050
abbrev ACQ_EVT_CLOSED : Fld := ⟨ACQ_EVT, 0, 1⟩
abbrev ACQ_EVT_EPDROP : Fld := ⟨ACQ_EVT, 1, 1⟩
abbrev ACQ_EVT_LATE : Fld := ⟨ACQ_EVT, 2, 1⟩
abbrev ACQ_EVT_OWSUS : Fld := ⟨ACQ_EVT, 3, 1⟩
abbrev ACQ_EVT_OWOPEN : Fld := ⟨ACQ_EVT, 4, 1⟩
abbrev ACQ_EVT_OWCLR : Fld := ⟨ACQ_EVT, 5, 1⟩
abbrev ACQ_EVT_CELLEV : Fld := ⟨ACQ_EVT, 6, 1⟩
abbrev ACQ_EVT_NEW : Fld := ⟨ACQ_EVT, 7, 1⟩
abbrev ACQ_EVT_ABSENT : Fld := ⟨ACQ_EVT, 8, 1⟩
abbrev ACQ_EVT_SUMERR : Fld := ⟨ACQ_EVT, 9, 1⟩
abbrev ACQ_EVT_TIME : Fld := ⟨ACQ_EVT, 10, 1⟩
abbrev ACQ_EVT_LCENT : Fld := ⟨ACQ_EVT, 11, 1⟩
abbrev ACQ_EVT_LCEXIT : Fld := ⟨ACQ_EVT, 12, 1⟩
abbrev ACQ_EVT_IDERR : Fld := ⟨ACQ_EVT, 13, 1⟩
abbrev ACQ_EVNODE : Nat := 0x60100054
abbrev ACQ_EVNODE_INDEX : Fld := ⟨ACQ_EVNODE, 0, 13⟩
abbrev ACQ_EVNODE_WIRE : Fld := ⟨ACQ_EVNODE, 16, 5⟩
abbrev ACQ_LASTEP : Nat := 0x60100058
abbrev ACQ_LASTEP_EPOCH : Fld := ⟨ACQ_LASTEP, 0, 32⟩
abbrev ACQ_LATECNT : Nat := 0x60100060
abbrev ACQ_DROPCNT : Nat := 0x60100064
abbrev ACQ_DUPCNT : Nat := 0x60100068
abbrev ACQ_CELLEVCNT : Nat := 0x6010006C
abbrev ACQ_LOCK : Nat := 0x60100070
abbrev ACQ_LOCK_LOCK : Fld := ⟨ACQ_LOCK, 0, 1⟩

/-! ### SCR -/

abbrev SCR_CTL : Nat := 0x60120010
abbrev SCR_CTL_RUN : Fld := ⟨SCR_CTL, 0, 1⟩
abbrev SCR_ST : Nat := 0x60120014
abbrev SCR_ST_STATE : Fld := ⟨SCR_ST, 0, 2⟩
abbrev SCR_ST_HALF : Fld := ⟨SCR_ST, 2, 1⟩
abbrev SCR_ST_HSEL : Fld := ⟨SCR_ST, 3, 1⟩
abbrev SCR_ST_LANES : Fld := ⟨SCR_ST, 4, 7⟩
abbrev SCR_ST_KACT : Fld := ⟨SCR_ST, 11, 3⟩
abbrev SCR_ST_FENCED : Fld := ⟨SCR_ST, 14, 1⟩
abbrev SCR_ROWS : Nat := 0x60120018
abbrev SCR_ROWS_ROWS : Fld := ⟨SCR_ROWS, 0, 18⟩
abbrev SCR_KSEL : Nat := 0x6012001C
abbrev SCR_KSEL_SLOT : Fld := ⟨SCR_KSEL, 0, 3⟩
abbrev SCR_KLD : Nat := 0x60120020
abbrev SCR_KSRC : Nat := 0x60120024
abbrev SCR_KSRC_ADDR : Fld := ⟨SCR_KSRC, 0, 32⟩
abbrev SCR_KLST : Nat := 0x60120028
abbrev SCR_KLST_ST : Fld := ⟨SCR_KLST, 0, 8⟩
abbrev SCR_KLST_BUSY : Fld := ⟨SCR_KLST, 8, 1⟩
abbrev SCR_KLST_GEN : Fld := ⟨SCR_KLST, 24, 8⟩
abbrev SCR_FENCE : Nat := 0x6012002C
abbrev SCR_FENCE_FENCE : Fld := ⟨SCR_FENCE, 0, 8⟩
abbrev SCR_SWT : Nat := 0x60120030
abbrev SCR_SWT_CYC : Fld := ⟨SCR_SWT, 0, 32⟩
abbrev SCR_SWEP : Nat := 0x60120034
abbrev SCR_SWEP_EPOCH : Fld := ⟨SCR_SWEP, 0, 32⟩
abbrev SCR_EVT : Nat := 0x60120038
abbrev SCR_EVT_SWEEP : Fld := ⟨SCR_EVT, 0, 1⟩
abbrev SCR_EVT_RES : Fld := ⟨SCR_EVT, 1, 1⟩
abbrev SCR_EVT_BOUND : Fld := ⟨SCR_EVT, 2, 1⟩
abbrev SCR_EVT_FENCE : Fld := ⟨SCR_EVT, 3, 1⟩
abbrev SCR_EVT_HALF : Fld := ⟨SCR_EVT, 4, 1⟩
abbrev SCR_EVT_KLD : Fld := ⟨SCR_EVT, 5, 1⟩
abbrev SCR_EVT_JOB : Fld := ⟨SCR_EVT, 6, 1⟩
abbrev SCR_EVT_STOP : Fld := ⟨SCR_EVT, 7, 1⟩
abbrev SCR_KINFO (i : Nat) : Nat := 0x60120040 + 0x4 * i
abbrev SCR_KINFO_BOUND (i : Nat) : Fld := ⟨SCR_KINFO i, 0, 10⟩
abbrev SCR_KINFO_LEN (i : Nat) : Fld := ⟨SCR_KINFO i, 16, 10⟩
abbrev SCR_KINFO_ROM (i : Nat) : Fld := ⟨SCR_KINFO i, 30, 1⟩
abbrev SCR_KINFO_VALID (i : Nat) : Fld := ⟨SCR_KINFO i, 31, 1⟩
abbrev SCR_JOB : Nat := 0x60120060
abbrev SCR_JROW : Nat := 0x60120064
abbrev SCR_JROW_FIRST : Fld := ⟨SCR_JROW, 0, 18⟩
abbrev SCR_JCNT : Nat := 0x60120068
abbrev SCR_JCNT_COUNT : Fld := ⟨SCR_JCNT, 0, 18⟩
abbrev SCR_JST : Nat := 0x6012006C
abbrev SCR_JST_ST : Fld := ⟨SCR_JST, 0, 8⟩
abbrev SCR_JST_BUSY : Fld := ⟨SCR_JST, 8, 1⟩
abbrev SCR_JST_NEXT : Fld := ⟨SCR_JST, 9, 18⟩
abbrev SCR_RESCNT (i : Nat) : Nat := 0x60120080 + 0x4 * i
abbrev SCR_LOCK : Nat := 0x601200A0
abbrev SCR_LOCK_LOCK : Fld := ⟨SCR_LOCK, 0, 1⟩
abbrev SCR_LUTA : Nat := 0x60120100
abbrev SCR_LUTA_POINT : Fld := ⟨SCR_LUTA, 0, 10⟩
abbrev SCR_LUTA_TABLE : Fld := ⟨SCR_LUTA, 16, 6⟩
abbrev SCR_LUTA_AINC : Fld := ⟨SCR_LUTA, 31, 1⟩
abbrev SCR_LUTD : Nat := 0x60120104
abbrev SCR_LUTX (i : Nat) : Nat := 0x60120200 + 0x8 * i
abbrev SCR_LUTX_X0 (i : Nat) : Fld := ⟨SCR_LUTX i, 0, 32⟩
abbrev SCR_LUTS (i : Nat) : Nat := 0x60120204 + 0x8 * i
abbrev SCR_LUTS_SHIFT (i : Nat) : Fld := ⟨SCR_LUTS i, 0, 5⟩

/-! ### PUB -/

abbrev PUB_CTL : Nat := 0x60130010
abbrev PUB_CTL_EN : Fld := ⟨PUB_CTL, 0, 1⟩
abbrev PUB_GLIDE : Nat := 0x60130014
abbrev PUB_GLIDE_UP : Fld := ⟨PUB_GLIDE, 0, 16⟩
abbrev PUB_GLIDE_DN : Fld := ⟨PUB_GLIDE, 16, 16⟩
abbrev PUB_DBAND : Nat := 0x60130018
abbrev PUB_DBAND_DB : Fld := ⟨PUB_DBAND, 0, 16⟩
abbrev PUB_UVF : Nat := 0x6013001C
abbrev PUB_UVF_UVF : Fld := ⟨PUB_UVF, 0, 16⟩
abbrev PUB_SLEW : Nat := 0x60130020
abbrev PUB_SLEW_SSLEW : Fld := ⟨PUB_SLEW, 0, 16⟩
abbrev PUB_SLEW_BSLEW : Fld := ⟨PUB_SLEW, 16, 16⟩
abbrev PUB_STALE : Nat := 0x60130024
abbrev PUB_LGT : Nat := 0x60130028
abbrev PUB_LGT_TLO : Fld := ⟨PUB_LGT, 0, 16⟩
abbrev PUB_LGT_THI : Fld := ⟨PUB_LGT, 16, 16⟩
abbrev PUB_LGR : Nat := 0x6013002C
abbrev PUB_LGR_RATE : Fld := ⟨PUB_LGR, 0, 8⟩
abbrev PUB_LGR_CAP : Fld := ⟨PUB_LGR, 16, 16⟩
abbrev PUB_CEP : Nat := 0x60130030
abbrev PUB_CEP_EPOCH : Fld := ⟨PUB_CEP, 0, 32⟩
abbrev PUB_EVT : Nat := 0x60130034
abbrev PUB_EVT_STALE : Fld := ⟨PUB_EVT, 0, 1⟩
abbrev PUB_EVT_NOSOC : Fld := ⟨PUB_EVT, 1, 1⟩
abbrev PUB_EVT_BADQ : Fld := ⟨PUB_EVT, 2, 1⟩
abbrev PUB_EVT_SPOIL : Fld := ⟨PUB_EVT, 3, 1⟩
abbrev PUB_EVT_INITD : Fld := ⟨PUB_EVT, 4, 1⟩
abbrev PUB_LOCK : Nat := 0x60130038
abbrev PUB_LOCK_LOCK : Fld := ⟨PUB_LOCK, 0, 1⟩
abbrev PUB_BCAP (i : Nat) : Nat := 0x60130040 + 0x4 * i
abbrev PUB_BCAP_CHG (i : Nat) : Fld := ⟨PUB_BCAP i, 0, 16⟩
abbrev PUB_BCAP_DIS (i : Nat) : Fld := ⟨PUB_BCAP i, 16, 16⟩
abbrev PUB_BLIMC (i : Nat) : Nat := 0x60130050 + 0x8 * i
abbrev PUB_BLIMC_LIM (i : Nat) : Fld := ⟨PUB_BLIMC i, 0, 32⟩
abbrev PUB_BLIMD (i : Nat) : Nat := 0x60130054 + 0x8 * i
abbrev PUB_BLIMD_LIM (i : Nat) : Fld := ⟨PUB_BLIMD i, 0, 32⟩
abbrev PUB_NOSOCCNT : Nat := 0x60130070
abbrev PUB_STR (i : Nat) : Nat := 0x60131000 + 0x4 * i
abbrev PUB_STR_HEAD (i : Nat) : Fld := ⟨PUB_STR i, 0, 13⟩
abbrev PUB_STR_BANK (i : Nat) : Fld := ⟨PUB_STR i, 13, 2⟩
abbrev PUB_STR_VALID (i : Nat) : Fld := ⟨PUB_STR i, 15, 1⟩
abbrev PUB_SLIM (i : Nat) : Nat := 0x60131800 + 0x4 * i
abbrev PUB_SLIM_ILIMC (i : Nat) : Fld := ⟨PUB_SLIM i, 0, 16⟩
abbrev PUB_SLIM_ILIMD (i : Nat) : Fld := ⟨PUB_SLIM i, 16, 16⟩
abbrev PUB_LGS (i : Nat) : Nat := 0x60132000 + 0x4 * i
abbrev PUB_LGS_STATE (i : Nat) : Fld := ⟨PUB_LGS i, 0, 2⟩
abbrev PUB_LGS_RES (i : Nat) : Fld := ⟨PUB_LGS i, 2, 1⟩
abbrev PUB_LGS_REASON (i : Nat) : Fld := ⟨PUB_LGS i, 3, 5⟩

/-! ### REF -/

abbrev REF_CTL : Nat := 0x60140010
abbrev REF_CTL_ARM : Fld := ⟨REF_CTL, 0, 1⟩
abbrev REF_ST : Nat := 0x60140014
abbrev REF_ST_ARMED : Fld := ⟨REF_ST, 0, 1⟩
abbrev REF_ST_LOOSE : Fld := ⟨REF_ST, 1, 1⟩
abbrev REF_ST_CHOK : Fld := ⟨REF_ST, 2, 1⟩
abbrev REF_ST_TRIPO : Fld := ⟨REF_ST, 3, 1⟩
abbrev REF_ST_TRIPI : Fld := ⟨REF_ST, 4, 1⟩
abbrev REF_ST_BELL : Fld := ⟨REF_ST, 8, 8⟩
abbrev REF_ST_BOUT : Fld := ⟨REF_ST, 16, 4⟩
abbrev REF_UNLK : Nat := 0x60140018
abbrev REF_DIR : Nat := 0x6014001C
abbrev REF_DIR_IDB : Fld := ⟨REF_DIR, 0, 16⟩
abbrev REF_TADDR : Nat := 0x60140020
abbrev REF_TADDR_IDX : Fld := ⟨REF_TADDR, 0, 12⟩
abbrev REF_TCMP : Nat := 0x60140024
abbrev REF_TNEW : Nat := 0x60140028
abbrev REF_TGO : Nat := 0x6014002C
abbrev REF_TST : Nat := 0x60140030
abbrev REF_TST_ST : Fld := ⟨REF_TST, 0, 8⟩
abbrev REF_TST_WHY : Fld := ⟨REF_TST, 8, 3⟩
abbrev REF_TST_GEN : Fld := ⟨REF_TST, 24, 8⟩
abbrev REF_CSTAT : Nat := 0x60140040
abbrev REF_LAST : Nat := 0x60140044
abbrev REF_LAST_CLASS : Fld := ⟨REF_LAST, 0, 5⟩
abbrev REF_LAST_ACT : Fld := ⟨REF_LAST, 5, 2⟩
abbrev REF_LAST_STR : Fld := ⟨REF_LAST, 8, 9⟩
abbrev REF_LAST_BANK : Fld := ⟨REF_LAST, 17, 2⟩
abbrev REF_LAST_NODE : Fld := ⟨REF_LAST, 19, 13⟩
abbrev REF_LASTC : Nat := 0x60140048
abbrev REF_LASTC_CH : Fld := ⟨REF_LASTC, 0, 5⟩
abbrev REF_LASTC_VAL : Fld := ⟨REF_LASTC, 16, 16⟩
abbrev REF_LASTEP : Nat := 0x6014004C
abbrev REF_LASTEP_EPOCH : Fld := ⟨REF_LASTEP, 0, 32⟩
abbrev REF_PEN (i : Nat) : Nat := 0x60140080 + 0x4 * i
abbrev REF_PEN_HOLD (i : Nat) : Fld := ⟨REF_PEN i, 0, 32⟩
abbrev REF_PENCLR : Nat := 0x601400C0
abbrev REF_BCLR : Nat := 0x601400C4
abbrev REF_LOCK : Nat := 0x601400C8
abbrev REF_LOCK_LOCK : Fld := ⟨REF_LOCK, 0, 1⟩
abbrev REF_ACTCNT (i : Nat) : Nat := 0x60140100 + 0x4 * i
abbrev REF_CHCNT : Nat := 0x6014013C
abbrev REF_NMAP (i : Nat) : Nat := 0x60142000 + 0x4 * i
abbrev REF_NMAP_STR0 (i : Nat) : Fld := ⟨REF_NMAP i, 0, 9⟩
abbrev REF_NMAP_V0 (i : Nat) : Fld := ⟨REF_NMAP i, 15, 1⟩
abbrev REF_NMAP_STR1 (i : Nat) : Fld := ⟨REF_NMAP i, 16, 9⟩
abbrev REF_NMAP_V1 (i : Nat) : Fld := ⟨REF_NMAP i, 31, 1⟩
abbrev REF_SMAP (i : Nat) : Nat := 0x60146000 + 0x4 * i
abbrev REF_SMAP_HEAD (i : Nat) : Fld := ⟨REF_SMAP i, 0, 13⟩
abbrev REF_SMAP_BANK (i : Nat) : Fld := ⟨REF_SMAP i, 13, 2⟩
abbrev REF_SMAP_VALID (i : Nat) : Fld := ⟨REF_SMAP i, 15, 1⟩
abbrev REF_SMAP_END (i : Nat) : Fld := ⟨REF_SMAP i, 16, 7⟩
abbrev REF_SMAP_APOS (i : Nat) : Fld := ⟨REF_SMAP i, 23, 8⟩
abbrev REF_SLIM0 (i : Nat) : Nat := 0x60148000 + 0x10 * i
abbrev REF_SLIM0_OV (i : Nat) : Fld := ⟨REF_SLIM0 i, 0, 16⟩
abbrev REF_SLIM0_UV (i : Nat) : Fld := ⟨REF_SLIM0 i, 16, 16⟩
abbrev REF_SLIM1 (i : Nat) : Nat := 0x60148004 + 0x10 * i
abbrev REF_SLIM1_OTC (i : Nat) : Fld := ⟨REF_SLIM1 i, 0, 16⟩
abbrev REF_SLIM1_OTD (i : Nat) : Fld := ⟨REF_SLIM1 i, 16, 16⟩
abbrev REF_SLIM2 (i : Nat) : Nat := 0x60148008 + 0x10 * i
abbrev REF_SLIM2_UTC (i : Nat) : Fld := ⟨REF_SLIM2 i, 0, 16⟩
abbrev REF_SLIM2_AOT (i : Nat) : Fld := ⟨REF_SLIM2 i, 16, 16⟩
abbrev REF_SLIM3 (i : Nat) : Nat := 0x6014800C + 0x10 * i
abbrev REF_SLIM3_AOV (i : Nat) : Fld := ⟨REF_SLIM3 i, 0, 16⟩
abbrev REF_SLIM3_AUV (i : Nat) : Fld := ⟨REF_SLIM3 i, 16, 16⟩
abbrev REF_BLIM0 (i : Nat) : Nat := 0x6014A000 + 0x10 * i
abbrev REF_BLIM0_IC1 (i : Nat) : Fld := ⟨REF_BLIM0 i, 0, 16⟩
abbrev REF_BLIM0_ID1 (i : Nat) : Fld := ⟨REF_BLIM0 i, 16, 16⟩
abbrev REF_BLIM1 (i : Nat) : Nat := 0x6014A004 + 0x10 * i
abbrev REF_BLIM1_IC2 (i : Nat) : Fld := ⟨REF_BLIM1 i, 0, 16⟩
abbrev REF_BLIM1_ID2 (i : Nat) : Fld := ⟨REF_BLIM1 i, 16, 16⟩
abbrev REF_ESC : Nat := 0x6014A040
abbrev REF_MISSC : Nat := 0x6014A044
abbrev REF_MISSC_NM : Fld := ⟨REF_MISSC, 0, 4⟩

/-! ### CTD -/

abbrev CTD_CTL : Nat := 0x60150010
abbrev CTD_CTL_EN : Fld := ⟨CTD_CTL, 0, 1⟩
abbrev CTD_CTL_ROLE : Fld := ⟨CTD_CTL, 1, 2⟩
abbrev CTD_LOCK : Nat := 0x60150014
abbrev CTD_LOCK_LOCK : Fld := ⟨CTD_LOCK, 0, 1⟩
abbrev CTD_SHD : Nat := 0x60150018
abbrev CTD_SHD_MASK : Fld := ⟨CTD_SHD, 0, 12⟩
abbrev CTD_SHDREL : Nat := 0x6015001C
abbrev CTD_SHDREL_REL : Fld := ⟨CTD_SHDREL, 0, 12⟩
abbrev CTD_BCMD (i : Nat) : Nat := 0x60150020 + 0x4 * i
abbrev CTD_BST (i : Nat) : Nat := 0x60150030 + 0x4 * i
abbrev CTD_BST_PHASE (i : Nat) : Fld := ⟨CTD_BST i, 0, 4⟩
abbrev CTD_BST_OUTC (i : Nat) : Fld := ⟨CTD_BST i, 4, 3⟩
abbrev CTD_BST_WELD (i : Nat) : Fld := ⟨CTD_BST i, 7, 1⟩
abbrev CTD_BST_REASON (i : Nat) : Fld := ⟨CTD_BST i, 8, 4⟩
abbrev CTD_BST_REJR (i : Nat) : Fld := ⟨CTD_BST i, 12, 4⟩
abbrev CTD_BST_ST (i : Nat) : Fld := ⟨CTD_BST i, 16, 8⟩
abbrev CTD_BST_GEN (i : Nat) : Fld := ⟨CTD_BST i, 24, 8⟩
abbrev CTD_PCT (i : Nat) : Nat := 0x60150100 + 0x40 * i
abbrev CTD_PCT_TAU (i : Nat) : Fld := ⟨CTD_PCT i, 0, 16⟩
abbrev CTD_PCT_DONE (i : Nat) : Fld := ⟨CTD_PCT i, 16, 8⟩
abbrev CTD_PCT_MARG (i : Nat) : Fld := ⟨CTD_PCT i, 24, 8⟩
abbrev CTD_PCV (i : Nat) : Nat := 0x60150104 + 0x40 * i
abbrev CTD_PCV_DVDT (i : Nat) : Fld := ⟨CTD_PCV i, 0, 16⟩
abbrev CTD_PCV_UMIN (i : Nat) : Fld := ⟨CTD_PCV i, 16, 16⟩
abbrev CTD_PCR (i : Nat) : Nat := 0x60150108 + 0x40 * i
abbrev CTD_PCR_RPC (i : Nat) : Fld := ⟨CTD_PCR i, 0, 16⟩
abbrev CTD_PCR_CTH (i : Nat) : Fld := ⟨CTD_PCR i, 16, 16⟩
abbrev CTD_PCM (i : Nat) : Nat := 0x6015010C + 0x40 * i
abbrev CTD_PCM_TTH (i : Nat) : Fld := ⟨CTD_PCM i, 0, 16⟩
abbrev CTD_PCM_DTMAX (i : Nat) : Fld := ⟨CTD_PCM i, 16, 8⟩
abbrev CTD_PTMP (i : Nat) : Nat := 0x60150110 + 0x40 * i
abbrev CTD_PTMP_DT (i : Nat) : Fld := ⟨CTD_PTMP i, 0, 16⟩
abbrev CTD_PTMP_WAIT (i : Nat) : Fld := ⟨CTD_PTMP i, 16, 16⟩
abbrev CTD_OPN (i : Nat) : Nat := 0x60150114 + 0x40 * i
abbrev CTD_OPN_OPENI (i : Nat) : Fld := ⟨CTD_OPN i, 16, 16⟩
abbrev CTD_WLD (i : Nat) : Nat := 0x60150118 + 0x40 * i
abbrev CTD_WLD_WELDV (i : Nat) : Fld := ⟨CTD_WLD i, 0, 16⟩
abbrev CTD_WLD_WELDI (i : Nat) : Fld := ⟨CTD_WLD i, 24, 8⟩
abbrev CTD_BEVT (i : Nat) : Nat := 0x6015011C + 0x40 * i
abbrev CTD_BEVT_CONN (i : Nat) : Fld := ⟨CTD_BEVT i, 0, 1⟩
abbrev CTD_BEVT_OPND (i : Nat) : Fld := ⟨CTD_BEVT i, 1, 1⟩
abbrev CTD_BEVT_WELD (i : Nat) : Fld := ⟨CTD_BEVT i, 2, 1⟩
abbrev CTD_BEVT_INDET (i : Nat) : Fld := ⟨CTD_BEVT i, 3, 1⟩
abbrev CTD_OCNT (i : Nat) : Nat := 0x60150120 + 0x40 * i
abbrev CTD_DCFG (i : Nat) : Nat := 0x60150400 + 0x20 * i
abbrev CTD_DCFG_ARMEN (i : Nat) : Fld := ⟨CTD_DCFG i, 25, 1⟩
abbrev CTD_DCFG_AUXEN (i : Nat) : Fld := ⟨CTD_DCFG i, 26, 1⟩
abbrev CTD_DCFG_AUXPOL (i : Nat) : Fld := ⟨CTD_DCFG i, 27, 1⟩
abbrev CTD_DST (i : Nat) : Nat := 0x60150404 + 0x20 * i
abbrev CTD_DST_I (i : Nat) : Fld := ⟨CTD_DST i, 0, 11⟩
abbrev CTD_DST_STATE (i : Nat) : Fld := ⟨CTD_DST i, 12, 3⟩
abbrev CTD_DST_SS (i : Nat) : Fld := ⟨CTD_DST i, 15, 1⟩
abbrev CTD_DST_AUX (i : Nat) : Fld := ⟨CTD_DST i, 16, 1⟩
abbrev CTD_DST_FEN (i : Nat) : Fld := ⟨CTD_DST i, 17, 1⟩
abbrev CTD_DST_WELD (i : Nat) : Fld := ⟨CTD_DST i, 18, 1⟩
abbrev CTD_DEVT (i : Nat) : Nat := 0x60150408 + 0x20 * i
abbrev CTD_DEVT_ARM (i : Nat) : Fld := ⟨CTD_DEVT i, 0, 1⟩
abbrev CTD_DEVT_NOARM (i : Nat) : Fld := ⟨CTD_DEVT i, 1, 1⟩
abbrev CTD_DEVT_AUXF (i : Nat) : Fld := ⟨CTD_DEVT i, 2, 1⟩
abbrev CTD_DEVT_SHORT (i : Nat) : Fld := ⟨CTD_DEVT i, 3, 1⟩
abbrev CTD_DEVT_OPENC (i : Nat) : Fld := ⟨CTD_DEVT i, 4, 1⟩
abbrev CTD_DEVT_LOWI (i : Nat) : Fld := ⟨CTD_DEVT i, 5, 1⟩
abbrev CTD_DEVT_SSF (i : Nat) : Fld := ⟨CTD_DEVT i, 6, 1⟩
abbrev CTD_DEVT_WELD (i : Nat) : Fld := ⟨CTD_DEVT i, 7, 1⟩
abbrev CTD_DARMT (i : Nat) : Nat := 0x6015040C + 0x20 * i
abbrev CTD_DARMT_T (i : Nat) : Fld := ⟨CTD_DARMT i, 0, 16⟩
abbrev CTD_DQCNT (i : Nat) : Nat := 0x60150410 + 0x20 * i

/-! ### CPX -/

abbrev CPX_PST (i : Nat) : Nat := 0x60050010 + 0x20 * i
abbrev CPX_PST_STATE (i : Nat) : Fld := ⟨CPX_PST i, 0, 2⟩
abbrev CPX_PST_RTOK (i : Nat) : Fld := ⟨CPX_PST i, 2, 1⟩
abbrev CPX_PST_TSOK (i : Nat) : Fld := ⟨CPX_PST i, 3, 1⟩
abbrev CPX_RCAUSE (i : Nat) : Nat := 0x60050014 + 0x20 * i
abbrev CPX_RCAUSE_MISM (i : Nat) : Fld := ⟨CPX_RCAUSE i, 0, 1⟩
abbrev CPX_RCAUSE_LATC (i : Nat) : Fld := ⟨CPX_RCAUSE i, 1, 1⟩
abbrev CPX_RCAUSE_LATR (i : Nat) : Fld := ⟨CPX_RCAUSE i, 2, 1⟩
abbrev CPX_RCAUSE_CMPF (i : Nat) : Fld := ⟨CPX_RCAUSE i, 3, 1⟩
abbrev CPX_RCAUSE_INJF (i : Nat) : Fld := ⟨CPX_RCAUSE i, 4, 1⟩
abbrev CPX_RCAUSE_DBLF (i : Nat) : Fld := ⟨CPX_RCAUSE i, 5, 1⟩
abbrev CPX_RCAUSE_WDOG (i : Nat) : Fld := ⟨CPX_RCAUSE i, 6, 1⟩
abbrev CPX_RCAUSE_ESC (i : Nat) : Fld := ⟨CPX_RCAUSE i, 7, 1⟩
abbrev CPX_RCAUSE_GRP (i : Nat) : Fld := ⟨CPX_RCAUSE i, 16, 4⟩
abbrev CPX_RCNT (i : Nat) : Nat := 0x60050018 + 0x20 * i
abbrev CPX_RGEN (i : Nat) : Nat := 0x6005001C + 0x20 * i
abbrev CPX_RGEN_GEN (i : Nat) : Fld := ⟨CPX_RGEN i, 0, 8⟩
abbrev CPX_WDT (i : Nat) : Nat := 0x60050020 + 0x20 * i
abbrev CPX_WDT_PER (i : Nat) : Fld := ⟨CPX_WDT i, 0, 10⟩
abbrev CPX_WDT_EN (i : Nat) : Fld := ⟨CPX_WDT i, 16, 1⟩
abbrev CPX_SCRB (i : Nat) : Nat := 0x60050024 + 0x20 * i
abbrev CPX_SCRB_PASS (i : Nat) : Fld := ⟨CPX_SCRB i, 0, 16⟩
abbrev CPX_SCRB_LINE (i : Nat) : Fld := ⟨CPX_SCRB i, 16, 10⟩
abbrev CPX_SCOR (i : Nat) : Nat := 0x60050028 + 0x20 * i
abbrev CPX_SRAMP : Nat := 0x60050060
abbrev CPX_SRAMP_SPLIT : Fld := ⟨CPX_SRAMP, 0, 9⟩
abbrev CPX_OWNV : Nat := 0x60050064
abbrev CPX_OWNVA : Nat := 0x60050068
abbrev CPX_OWNVA_ADDR : Fld := ⟨CPX_OWNVA, 0, 32⟩
abbrev CPX_OWNVP : Nat := 0x60050074
abbrev CPX_OWNVP_PAIR : Fld := ⟨CPX_OWNVP, 0, 1⟩
abbrev CPX_OWNVP_KIND : Fld := ⟨CPX_OWNVP, 1, 2⟩
abbrev CPX_OWNVP_SIZE : Fld := ⟨CPX_OWNVP, 3, 2⟩
abbrev CPX_OWNVP_WR : Fld := ⟨CPX_OWNVP, 5, 1⟩
abbrev CPX_EVT : Nat := 0x6005006C
abbrev CPX_EVT_ARST : Fld := ⟨CPX_EVT, 0, 1⟩
abbrev CPX_EVT_BRST : Fld := ⟨CPX_EVT, 1, 1⟩
abbrev CPX_EVT_SCOR : Fld := ⟨CPX_EVT, 2, 1⟩
abbrev CPX_EVT_OWNV : Fld := ⟨CPX_EVT, 3, 1⟩
abbrev CPX_EVT_AFEN : Fld := ⟨CPX_EVT, 4, 1⟩
abbrev CPX_EVT_BFEN : Fld := ⟨CPX_EVT, 5, 1⟩
abbrev CPX_LOCK : Nat := 0x60050070
abbrev CPX_LOCK_LOCK : Fld := ⟨CPX_LOCK, 0, 1⟩

/-! ### INT -/

abbrev INT_RAW (i : Nat) : Nat := 0x60060100 + 0x4 * i
abbrev INT_EN (i : Nat) (j : Nat) : Nat := 0x60060400 + 0x400 * i + 0x4 * j
abbrev INT_PRI (i : Nat) (j : Nat) : Nat := 0x60060440 + 0x400 * i + 0x4 * j
abbrev INT_THR (i : Nat) : Nat := 0x600604C0 + 0x400 * i
abbrev INT_THR_THR (i : Nat) : Fld := ⟨INT_THR i, 0, 4⟩
abbrev INT_ACT (i : Nat) : Nat := 0x600604C4 + 0x400 * i
abbrev INT_SWI (i : Nat) : Nat := 0x600604C8 + 0x400 * i
abbrev INT_SWI_SET (i : Nat) : Fld := ⟨INT_SWI i, 0, 1⟩
abbrev INT_WDK (i : Nat) : Nat := 0x600604CC + 0x400 * i
abbrev INT_LOCK : Nat := 0x600604D0
abbrev INT_LOCK_LOCK : Fld := ⟨INT_LOCK, 0, 1⟩

/-! ### THM -/

abbrev THM_ST : Nat := 0x60010010
abbrev THM_ST_TJ : Fld := ⟨THM_ST, 0, 16⟩
abbrev THM_ST_STATE : Fld := ⟨THM_ST, 16, 3⟩
abbrev THM_ST_FAST : Fld := ⟨THM_ST, 19, 1⟩
abbrev THM_ST_HOLD : Fld := ⟨THM_ST, 20, 1⟩
abbrev THM_ST_ZHOLD : Fld := ⟨THM_ST, 21, 1⟩
abbrev THM_MIN : Nat := 0x60010014
abbrev THM_MIN_MIN : Fld := ⟨THM_MIN, 0, 3⟩
abbrev THM_SFAIL : Nat := 0x60010018
abbrev THM_SFAIL_FAIL : Fld := ⟨THM_SFAIL, 0, 18⟩
abbrev THM_EVT : Nat := 0x6001001C
abbrev THM_EVT_STEP : Fld := ⟨THM_EVT, 0, 1⟩
abbrev THM_EVT_SFAIL : Fld := ⟨THM_EVT, 1, 1⟩
abbrev THM_EVT_ZHOLD : Fld := ⟨THM_EVT, 2, 1⟩
abbrev THM_EVT_SHED : Fld := ⟨THM_EVT, 3, 1⟩
abbrev THM_EVT_TRIP : Fld := ⟨THM_EVT, 4, 1⟩
abbrev THM_LOCK : Nat := 0x60010020
abbrev THM_LOCK_LOCK : Fld := ⟨THM_LOCK, 0, 1⟩
abbrev THM_SNS (i : Nat) : Nat := 0x60010040 + 0x4 * i

/-! ### BUD -/

abbrev BUD_CTL : Nat := 0x60020010
abbrev BUD_CTL_EN : Fld := ⟨BUD_CTL, 0, 1⟩
abbrev BUD_RSV : Nat := 0x60020014
abbrev BUD_RSV_RSV : Fld := ⟨BUD_RSV, 0, 6⟩
abbrev BUD_EBUD : Nat := 0x60020018
abbrev BUD_EBUD_EBUD : Fld := ⟨BUD_EBUD, 0, 16⟩
abbrev BUD_EBUD_VMIN : Fld := ⟨BUD_EBUD, 16, 16⟩
abbrev BUD_BKT : Nat := 0x6002001C
abbrev BUD_BKT_BKT : Fld := ⟨BUD_BKT, 0, 32⟩
abbrev BUD_JST : Nat := 0x60020020
abbrev BUD_JST_ENTRY : Fld := ⟨BUD_JST, 0, 4⟩
abbrev BUD_JST_BUSY : Fld := ⟨BUD_JST, 4, 1⟩
abbrev BUD_LOCK : Nat := 0x60020024
abbrev BUD_LOCK_LOCK : Fld := ⟨BUD_LOCK, 0, 1⟩
abbrev BUD_SLCTL : Nat := 0x60020040
abbrev BUD_SLCTL_EN : Fld := ⟨BUD_SLCTL, 0, 1⟩
abbrev BUD_SLCTL_MASK : Fld := ⟨BUD_SLCTL, 1, 4⟩
abbrev BUD_SLCTL_MARG : Fld := ⟨BUD_SLCTL, 8, 8⟩
abbrev BUD_SLST : Nat := 0x60020044
abbrev BUD_SLST_STATE : Fld := ⟨BUD_SLST, 0, 3⟩
abbrev BUD_STIME : Nat := 0x60020048
abbrev BUD_STIME_MS : Fld := ⟨BUD_STIME, 0, 32⟩
abbrev BUD_WKT (i : Nat) : Nat := 0x60020050 + 0x4 * i
abbrev BUD_WKT_TIME (i : Nat) : Fld := ⟨BUD_WKT i, 0, 32⟩
abbrev BUD_WKV : Nat := 0x60020060
abbrev BUD_WKV_V : Fld := ⟨BUD_WKV, 0, 4⟩
abbrev BUD_WKR : Nat := 0x60020064
abbrev BUD_WKR_IDX : Fld := ⟨BUD_WKR, 0, 3⟩
abbrev BUD_EVT : Nat := 0x60020070
abbrev BUD_EVT_JOB : Fld := ⟨BUD_EVT, 0, 1⟩
abbrev BUD_EVT_JTO : Fld := ⟨BUD_EVT, 1, 1⟩
abbrev BUD_EVT_WAKE : Fld := ⟨BUD_EVT, 2, 1⟩
abbrev BUD_EVT_NOFIT : Fld := ⟨BUD_EVT, 3, 1⟩
abbrev BUD_QCFG (i : Nat) : Nat := 0x60020100 + 0x10 * i
abbrev BUD_QCFG_SLOT (i : Nat) : Fld := ⟨BUD_QCFG i, 0, 3⟩
abbrev BUD_QCFG_EN (i : Nat) : Fld := ⟨BUD_QCFG i, 3, 1⟩
abbrev BUD_QCFG_ONCE (i : Nat) : Fld := ⟨BUD_QCFG i, 4, 1⟩
abbrev BUD_QCFG_PER (i : Nat) : Fld := ⟨BUD_QCFG i, 16, 16⟩
abbrev BUD_QROW (i : Nat) : Nat := 0x60020104 + 0x10 * i
abbrev BUD_QROW_FIRST (i : Nat) : Fld := ⟨BUD_QROW i, 0, 18⟩
abbrev BUD_QCNT (i : Nat) : Nat := 0x60020108 + 0x10 * i
abbrev BUD_QCNT_COUNT (i : Nat) : Fld := ⟨BUD_QCNT i, 0, 18⟩
abbrev BUD_QVAL (i : Nat) : Nat := 0x6002010C + 0x10 * i
abbrev BUD_QVAL_VALUE (i : Nat) : Fld := ⟨BUD_QVAL i, 0, 16⟩
abbrev BUD_QVAL_LAST (i : Nat) : Fld := ⟨BUD_QVAL i, 16, 8⟩

/-! ### MTR -/

abbrev MTR_CTL : Nat := 0x60170010
abbrev MTR_CTL_EN : Fld := ⟨MTR_CTL, 0, 4⟩
abbrev MTR_FENCE : Nat := 0x60170014
abbrev MTR_FENCE_FEN : Fld := ⟨MTR_FENCE, 0, 4⟩
abbrev MTR_LOCK : Nat := 0x60170018
abbrev MTR_LOCK_LOCK : Fld := ⟨MTR_LOCK, 0, 1⟩
abbrev MTR_CMD (i : Nat) : Nat := 0x60170100 + 0x100 * i
abbrev MTR_SREF (i : Nat) : Nat := 0x60170104 + 0x100 * i
abbrev MTR_SREF_SREF (i : Nat) : Fld := ⟨MTR_SREF i, 0, 16⟩
abbrev MTR_RAMP (i : Nat) : Nat := 0x60170108 + 0x100 * i
abbrev MTR_RAMP_ACC (i : Nat) : Fld := ⟨MTR_RAMP i, 0, 16⟩
abbrev MTR_RAMP_DEC (i : Nat) : Fld := ⟨MTR_RAMP i, 16, 16⟩
abbrev MTR_PWM (i : Nat) : Nat := 0x6017010C + 0x100 * i
abbrev MTR_PWM_TOP (i : Nat) : Fld := ⟨MTR_PWM i, 0, 15⟩
abbrev MTR_PWM_DT (i : Nat) : Fld := ⟨MTR_PWM i, 16, 10⟩
abbrev MTR_PWM_DTC (i : Nat) : Fld := ⟨MTR_PWM i, 26, 1⟩
abbrev MTR_SMP (i : Nat) : Nat := 0x60170110 + 0x100 * i
abbrev MTR_SMP_TSET (i : Nat) : Fld := ⟨MTR_SMP i, 0, 9⟩
abbrev MTR_SMP_SKMAX (i : Nat) : Fld := ⟨MTR_SMP i, 12, 4⟩
abbrev MTR_SMP_MMAX (i : Nat) : Fld := ⟨MTR_SMP i, 16, 8⟩
abbrev MTR_ISC (i : Nat) : Nat := 0x60170114 + 0x100 * i
abbrev MTR_ISC_IFS (i : Nat) : Fld := ⟨MTR_ISC i, 0, 16⟩
abbrev MTR_ISC_VFS (i : Nat) : Fld := ⟨MTR_ISC i, 16, 16⟩
abbrev MTR_RL (i : Nat) : Nat := 0x60170118 + 0x100 * i
abbrev MTR_RL_RS (i : Nat) : Fld := ⟨MTR_RL i, 0, 16⟩
abbrev MTR_RL_PP (i : Nat) : Fld := ⟨MTR_RL i, 16, 4⟩
abbrev MTR_RL_SAL (i : Nat) : Fld := ⟨MTR_RL i, 20, 1⟩
abbrev MTR_LDQ (i : Nat) : Nat := 0x6017011C + 0x100 * i
abbrev MTR_LDQ_LD (i : Nat) : Fld := ⟨MTR_LDQ i, 0, 16⟩
abbrev MTR_LDQ_LQ (i : Nat) : Fld := ⟨MTR_LDQ i, 16, 16⟩
abbrev MTR_KE (i : Nat) : Nat := 0x60170120 + 0x100 * i
abbrev MTR_KE_KE (i : Nat) : Fld := ⟨MTR_KE i, 0, 16⟩
abbrev MTR_LIM (i : Nat) : Nat := 0x60170124 + 0x100 * i
abbrev MTR_LIM_IMAX (i : Nat) : Fld := ⟨MTR_LIM i, 0, 16⟩
abbrev MTR_LIM_SMAX (i : Nat) : Fld := ⟨MTR_LIM i, 16, 16⟩
abbrev MTR_BUS (i : Nat) : Nat := 0x60170128 + 0x100 * i
abbrev MTR_BUS_VPAUSE (i : Nat) : Fld := ⟨MTR_BUS i, 0, 16⟩
abbrev MTR_BUS_VOVF (i : Nat) : Fld := ⟨MTR_BUS i, 16, 16⟩
abbrev MTR_BUS2 (i : Nat) : Nat := 0x6017012C + 0x100 * i
abbrev MTR_BUS2_VUVF (i : Nat) : Fld := ⟨MTR_BUS2 i, 0, 16⟩
abbrev MTR_BUS2_VHYS (i : Nat) : Fld := ⟨MTR_BUS2 i, 16, 16⟩
abbrev MTR_STA (i : Nat) : Nat := 0x60170130 + 0x100 * i
abbrev MTR_STA_IAL (i : Nat) : Fld := ⟨MTR_STA i, 0, 16⟩
abbrev MTR_STB (i : Nat) : Nat := 0x60170134 + 0x100 * i
abbrev MTR_STB_IIF (i : Nat) : Fld := ⟨MTR_STB i, 0, 16⟩
abbrev MTR_STB_IFACC (i : Nat) : Fld := ⟨MTR_STB i, 16, 16⟩
abbrev MTR_HOV (i : Nat) : Nat := 0x60170138 + 0x100 * i
abbrev MTR_HOV_HOV (i : Nat) : Fld := ⟨MTR_HOV i, 0, 16⟩
abbrev MTR_HFI (i : Nat) : Nat := 0x6017013C + 0x100 * i
abbrev MTR_HFI_FH (i : Nat) : Fld := ⟨MTR_HFI i, 0, 11⟩
abbrev MTR_HFI_VH (i : Nat) : Fld := ⟨MTR_HFI i, 16, 12⟩
abbrev MTR_CS (i : Nat) : Nat := 0x60170140 + 0x100 * i
abbrev MTR_CS_CSMIN (i : Nat) : Fld := ⟨MTR_CS i, 0, 16⟩
abbrev MTR_CS_BRKLIM (i : Nat) : Fld := ⟨MTR_CS i, 16, 16⟩
abbrev MTR_CS2 (i : Nat) : Nat := 0x60170144 + 0x100 * i
abbrev MTR_CS2_IBRK (i : Nat) : Fld := ⟨MTR_CS2 i, 0, 16⟩
abbrev MTR_GI (i : Nat) : Nat := 0x60170148 + 0x100 * i
abbrev MTR_GI_KPI (i : Nat) : Fld := ⟨MTR_GI i, 0, 16⟩
abbrev MTR_GI_KII (i : Nat) : Fld := ⟨MTR_GI i, 16, 16⟩
abbrev MTR_GS (i : Nat) : Nat := 0x6017014C + 0x100 * i
abbrev MTR_GS_KPS (i : Nat) : Fld := ⟨MTR_GS i, 0, 16⟩
abbrev MTR_GS_KIS (i : Nat) : Fld := ⟨MTR_GS i, 16, 16⟩
abbrev MTR_ST (i : Nat) : Nat := 0x60170180 + 0x100 * i
abbrev MTR_ST_STATE (i : Nat) : Fld := ⟨MTR_ST i, 0, 4⟩
abbrev MTR_ST_LIMV (i : Nat) : Fld := ⟨MTR_ST i, 4, 1⟩
abbrev MTR_ST_LIMS (i : Nat) : Fld := ⟨MTR_ST i, 5, 1⟩
abbrev MTR_ST_LIMI (i : Nat) : Fld := ⟨MTR_ST i, 6, 1⟩
abbrev MTR_ST_CONF (i : Nat) : Fld := ⟨MTR_ST i, 7, 1⟩
abbrev MTR_ST_PAUSE (i : Nat) : Fld := ⟨MTR_ST i, 8, 1⟩
abbrev MTR_ST_FAILS (i : Nat) : Fld := ⟨MTR_ST i, 9, 2⟩
abbrev MTR_ST_FLT (i : Nat) : Fld := ⟨MTR_ST i, 16, 4⟩
abbrev MTR_SPD (i : Nat) : Nat := 0x60170184 + 0x100 * i
abbrev MTR_SPD_SPD (i : Nat) : Fld := ⟨MTR_SPD i, 0, 16⟩
abbrev MTR_SPD_NREF (i : Nat) : Fld := ⟨MTR_SPD i, 16, 16⟩
abbrev MTR_IDQ (i : Nat) : Nat := 0x60170188 + 0x100 * i
abbrev MTR_IDQ_ID (i : Nat) : Fld := ⟨MTR_IDQ i, 0, 16⟩
abbrev MTR_IDQ_IQ (i : Nat) : Fld := ⟨MTR_IDQ i, 16, 16⟩
abbrev MTR_VB (i : Nat) : Nat := 0x6017018C + 0x100 * i
abbrev MTR_VB_VBUS (i : Nat) : Fld := ⟨MTR_VB i, 0, 16⟩
abbrev MTR_VB_MOD (i : Nat) : Fld := ⟨MTR_VB i, 16, 8⟩
abbrev MTR_UEVT (i : Nat) : Nat := 0x60170190 + 0x100 * i
abbrev MTR_UEVT_RUN (i : Nat) : Fld := ⟨MTR_UEVT i, 0, 1⟩
abbrev MTR_UEVT_STOP (i : Nat) : Fld := ⟨MTR_UEVT i, 1, 1⟩
abbrev MTR_UEVT_CATCH (i : Nat) : Fld := ⟨MTR_UEVT i, 2, 1⟩
abbrev MTR_UEVT_REVHI (i : Nat) : Fld := ⟨MTR_UEVT i, 3, 1⟩
abbrev MTR_UEVT_LOSS (i : Nat) : Fld := ⟨MTR_UEVT i, 4, 1⟩
abbrev MTR_UEVT_RESYNC (i : Nat) : Fld := ⟨MTR_UEVT i, 5, 1⟩
abbrev MTR_UEVT_FAULT (i : Nat) : Fld := ⟨MTR_UEVT i, 6, 1⟩
abbrev MTR_UEVT_SKIP (i : Nat) : Fld := ⟨MTR_UEVT i, 7, 1⟩
abbrev MTR_UEVT_LIMIT (i : Nat) : Fld := ⟨MTR_UEVT i, 8, 1⟩
abbrev MTR_UEVT_UVBUS (i : Nat) : Fld := ⟨MTR_UEVT i, 9, 1⟩
abbrev MTR_SKIPC (i : Nat) : Nat := 0x60170194 + 0x100 * i
abbrev MTR_LOSSC (i : Nat) : Nat := 0x60170198 + 0x100 * i
abbrev MTR_CSR (i : Nat) : Nat := 0x6017019C + 0x100 * i
abbrev MTR_CSR_CSPD (i : Nat) : Fld := ⟨MTR_CSR i, 0, 16⟩
abbrev MTR_CSR_CRES (i : Nat) : Fld := ⟨MTR_CSR i, 16, 2⟩

/-! ### LSW -/

abbrev LSW_CTL : Nat := 0x60160010
abbrev LSW_CTL_EN : Fld := ⟨LSW_CTL, 0, 1⟩
abbrev LSW_LOCK : Nat := 0x60160014
abbrev LSW_LOCK_LOCK : Fld := ⟨LSW_LOCK, 0, 1⟩
abbrev LSW_FENCE : Nat := 0x60160018
abbrev LSW_FENCE_FEN : Fld := ⟨LSW_FENCE, 0, 16⟩
abbrev LSW_SET : Nat := 0x6016001C
abbrev LSW_CLR : Nat := 0x60160020
abbrev LSW_LCLR : Nat := 0x60160024
abbrev LSW_OUT : Nat := 0x60160028
abbrev LSW_SUP : Nat := 0x6016002C
abbrev LSW_SUP_GNDL : Fld := ⟨LSW_SUP, 8, 1⟩
abbrev LSW_VSEG (i : Nat) : Nat := 0x60160030 + 0x4 * i
abbrev LSW_CCFG (i : Nat) : Nat := 0x60160100 + 0x20 * i
abbrev LSW_CCFG_RETRY (i : Nat) : Fld := ⟨LSW_CCFG i, 8, 4⟩
abbrev LSW_CCFG_OLR (i : Nat) : Fld := ⟨LSW_CCFG i, 12, 2⟩
abbrev LSW_CCFG_OFFD (i : Nat) : Fld := ⟨LSW_CCFG i, 14, 1⟩
abbrev LSW_CCFG_CLM (i : Nat) : Fld := ⟨LSW_CCFG i, 15, 1⟩
abbrev LSW_CST (i : Nat) : Nat := 0x60160104 + 0x20 * i
abbrev LSW_CST_STATE (i : Nat) : Fld := ⟨LSW_CST i, 0, 3⟩
abbrev LSW_CST_CNT (i : Nat) : Fld := ⟨LSW_CST i, 3, 4⟩
abbrev LSW_CST_DEF (i : Nat) : Fld := ⟨LSW_CST i, 7, 1⟩
abbrev LSW_CST_OPENL (i : Nat) : Fld := ⟨LSW_CST i, 8, 1⟩
abbrev LSW_CST_STB (i : Nat) : Fld := ⟨LSW_CST i, 9, 1⟩
abbrev LSW_CST_I (i : Nat) : Fld := ⟨LSW_CST i, 16, 11⟩
abbrev LSW_CFI (i : Nat) : Nat := 0x60160108 + 0x20 * i
abbrev LSW_CEVT (i : Nat) : Nat := 0x6016010C + 0x20 * i
abbrev LSW_CEVT_OC (i : Nat) : Fld := ⟨LSW_CEVT i, 0, 1⟩
abbrev LSW_CEVT_LATCH (i : Nat) : Fld := ⟨LSW_CEVT i, 1, 1⟩
abbrev LSW_CEVT_OPENL (i : Nat) : Fld := ⟨LSW_CEVT i, 2, 1⟩
abbrev LSW_CEVT_STB (i : Nat) : Fld := ⟨LSW_CEVT i, 3, 1⟩
abbrev LSW_CEVT_LOCK (i : Nat) : Fld := ⟨LSW_CEVT i, 4, 1⟩
abbrev LSW_CEVT_CLHI (i : Nat) : Fld := ⟨LSW_CEVT i, 5, 1⟩
abbrev LSW_CEVT_SUP (i : Nat) : Fld := ⟨LSW_CEVT i, 6, 1⟩
abbrev LSW_CEVT_GNDL (i : Nat) : Fld := ⟨LSW_CEVT i, 7, 1⟩
abbrev LSW_CEVT_STUCK (i : Nat) : Fld := ⟨LSW_CEVT i, 8, 1⟩
abbrev LSW_CEVT_FENCE (i : Nat) : Fld := ⟨LSW_CEVT i, 9, 1⟩
abbrev LSW_CLE (i : Nat) : Nat := 0x60160110 + 0x20 * i
abbrev LSW_CLE_E (i : Nat) : Fld := ⟨LSW_CLE i, 0, 16⟩
abbrev LSW_CEB (i : Nat) : Nat := 0x60160114 + 0x20 * i
abbrev LSW_CEB_BUDGET (i : Nat) : Fld := ⟨LSW_CEB i, 0, 16⟩
abbrev LSW_CEACC (i : Nat) : Nat := 0x60160118 + 0x20 * i
abbrev LSW_CEACC_ACC (i : Nat) : Fld := ⟨LSW_CEACC i, 0, 32⟩
abbrev LSW_OCCNT (i : Nat) : Nat := 0x6016011C + 0x20 * i

/-! ### CAN -/

abbrev CAN_CTL (i : Nat) : Nat := 0x60180010 + 0x4000 * i
abbrev CAN_CTL_OFFL (i : Nat) : Fld := ⟨CAN_CTL i, 0, 1⟩
abbrev CAN_CTL_LISTEN (i : Nat) : Fld := ⟨CAN_CTL i, 1, 1⟩
abbrev CAN_CTL_ACKONLY (i : Nat) : Fld := ⟨CAN_CTL i, 2, 1⟩
abbrev CAN_CTL_FDEN (i : Nat) : Fld := ⟨CAN_CTL i, 3, 1⟩
abbrev CAN_CTL_RSWEN (i : Nat) : Fld := ⟨CAN_CTL i, 4, 1⟩
abbrev CAN_CTL_AUTORCV (i : Nat) : Fld := ⟨CAN_CTL i, 5, 1⟩
abbrev CAN_CTL_ALABT (i : Nat) : Fld := ⟨CAN_CTL i, 6, 1⟩
abbrev CAN_CTL_IDCABT (i : Nat) : Fld := ⟨CAN_CTL i, 7, 1⟩
abbrev CAN_CTL_PXFORM (i : Nat) : Fld := ⟨CAN_CTL i, 8, 1⟩
abbrev CAN_NTIM (i : Nat) : Nat := 0x60180014 + 0x4000 * i
abbrev CAN_DTIM (i : Nat) : Nat := 0x60180018 + 0x4000 * i
abbrev CAN_DTIM_DPRE (i : Nat) : Fld := ⟨CAN_DTIM i, 0, 5⟩
abbrev CAN_DTIM_DPH1 (i : Nat) : Fld := ⟨CAN_DTIM i, 8, 5⟩
abbrev CAN_DTIM_DPH2 (i : Nat) : Fld := ⟨CAN_DTIM i, 16, 4⟩
abbrev CAN_DTIM_SSPEN (i : Nat) : Fld := ⟨CAN_DTIM i, 31, 1⟩
abbrev CAN_SSP (i : Nat) : Nat := 0x6018001C + 0x4000 * i
abbrev CAN_SSP_SSPOFS (i : Nat) : Fld := ⟨CAN_SSP i, 0, 7⟩
abbrev CAN_SSP_MINEDGE (i : Nat) : Fld := ⟨CAN_SSP i, 8, 7⟩
abbrev CAN_SSP_LOOPDLY (i : Nat) : Fld := ⟨CAN_SSP i, 16, 7⟩
abbrev CAN_BST (i : Nat) : Nat := 0x60180020 + 0x4000 * i
abbrev CAN_BST_STATE (i : Nat) : Fld := ⟨CAN_BST i, 0, 3⟩
abbrev CAN_BST_PASSIVE (i : Nat) : Fld := ⟨CAN_BST i, 3, 1⟩
abbrev CAN_BST_WARN (i : Nat) : Fld := ⟨CAN_BST i, 4, 1⟩
abbrev CAN_BST_BUSOFF (i : Nat) : Fld := ⟨CAN_BST i, 5, 1⟩
abbrev CAN_BST_ALONE (i : Nat) : Fld := ⟨CAN_BST i, 6, 1⟩
abbrev CAN_BST_NERR (i : Nat) : Fld := ⟨CAN_BST i, 8, 4⟩
abbrev CAN_BST_DERR (i : Nat) : Fld := ⟨CAN_BST i, 12, 4⟩
abbrev CAN_ERRC (i : Nat) : Nat := 0x60180024 + 0x4000 * i
abbrev CAN_ERRC_TXE (i : Nat) : Fld := ⟨CAN_ERRC i, 0, 9⟩
abbrev CAN_ERRC_RXE (i : Nat) : Fld := ⟨CAN_ERRC i, 16, 8⟩
abbrev CAN_ERRC_RXPASS (i : Nat) : Fld := ⟨CAN_ERRC i, 24, 1⟩
abbrev CAN_EVT (i : Nat) : Nat := 0x60180028 + 0x4000 * i
abbrev CAN_EVT_PASSIVE (i : Nat) : Fld := ⟨CAN_EVT i, 0, 1⟩
abbrev CAN_EVT_WARN (i : Nat) : Fld := ⟨CAN_EVT i, 1, 1⟩
abbrev CAN_EVT_BUSOFF (i : Nat) : Fld := ⟨CAN_EVT i, 2, 1⟩
abbrev CAN_EVT_RCVD (i : Nat) : Fld := ⟨CAN_EVT i, 3, 1⟩
abbrev CAN_EVT_ALONE (i : Nat) : Fld := ⟨CAN_EVT i, 4, 1⟩
abbrev CAN_EVT_IDCOL (i : Nat) : Fld := ⟨CAN_EVT i, 5, 1⟩
abbrev CAN_EVT_LOST (i : Nat) : Fld := ⟨CAN_EVT i, 6, 1⟩
abbrev CAN_EVT_PXCP (i : Nat) : Fld := ⟨CAN_EVT i, 7, 1⟩
abbrev CAN_EVT_INTG (i : Nat) : Fld := ⟨CAN_EVT i, 8, 1⟩
abbrev CAN_EVT_SSPLIM (i : Nat) : Fld := ⟨CAN_EVT i, 9, 1⟩
abbrev CAN_ALC (i : Nat) : Nat := 0x6018002C + 0x4000 * i
abbrev CAN_ALC_ACNT (i : Nat) : Fld := ⟨CAN_ALC i, 0, 6⟩
abbrev CAN_FLC (i : Nat) : Nat := 0x60180030 + 0x4000 * i
abbrev CAN_FLC_NFE (i : Nat) : Fld := ⟨CAN_FLC i, 0, 9⟩
abbrev CAN_FLC_CATCH (i : Nat) : Fld := ⟨CAN_FLC i, 9, 1⟩
abbrev CAN_FLC_CATCHOBJ (i : Nat) : Fld := ⟨CAN_FLC i, 16, 7⟩
abbrev CAN_IDC (i : Nat) : Nat := 0x60180034 + 0x4000 * i
abbrev CAN_IDC_IDCTH (i : Nat) : Fld := ⟨CAN_IDC i, 0, 4⟩
abbrev CAN_IDC_IDCOBJ (i : Nat) : Fld := ⟨CAN_IDC i, 8, 7⟩
abbrev CAN_TXREQ (i : Nat) (j : Nat) : Nat := 0x60180040 + 0x4000 * i + 0x4 * j
abbrev CAN_TXABT (i : Nat) (j : Nat) : Nat := 0x60180050 + 0x4000 * i + 0x4 * j
abbrev CAN_NEWD (i : Nat) (j : Nat) : Nat := 0x60180060 + 0x4000 * i + 0x4 * j
abbrev CAN_RXCNT (i : Nat) : Nat := 0x60180070 + 0x4000 * i
abbrev CAN_TXCNT (i : Nat) : Nat := 0x60180074 + 0x4000 * i
abbrev CAN_ERRCNT (i : Nat) : Nat := 0x60180078 + 0x4000 * i
abbrev CAN_IDCC (i : Nat) : Nat := 0x6018007C + 0x4000 * i
abbrev CAN_LOSTC (i : Nat) : Nat := 0x60180080 + 0x4000 * i
abbrev CAN_WKCFG (i : Nat) : Nat := 0x60180090 + 0x4000 * i
abbrev CAN_WKCFG_WKEN (i : Nat) : Fld := ⟨CAN_WKCFG i, 0, 1⟩
abbrev CAN_LOCK (i : Nat) : Nat := 0x60180094 + 0x4000 * i
abbrev CAN_LOCK_LOCK (i : Nat) : Fld := ⟨CAN_LOCK i, 0, 1⟩
abbrev CAN_OCFG (i : Nat) (j : Nat) : Nat := 0x60180400 + 0x4000 * i + 0x60 * j
abbrev CAN_OCFG_EN (i : Nat) (j : Nat) : Fld := ⟨CAN_OCFG i j, 0, 1⟩
abbrev CAN_OCFG_DIR (i : Nat) (j : Nat) : Fld := ⟨CAN_OCFG i j, 1, 1⟩
abbrev CAN_OCFG_IE (i : Nat) (j : Nat) : Fld := ⟨CAN_OCFG i j, 2, 1⟩
abbrev CAN_OCFG_OWP (i : Nat) (j : Nat) : Fld := ⟨CAN_OCFG i j, 3, 1⟩
abbrev CAN_OCFG_SSHOT (i : Nat) (j : Nat) : Fld := ⟨CAN_OCFG i j, 4, 1⟩
abbrev CAN_OID (i : Nat) (j : Nat) : Nat := 0x60180404 + 0x4000 * i + 0x60 * j
abbrev CAN_OID_ID (i : Nat) (j : Nat) : Fld := ⟨CAN_OID i j, 0, 29⟩
abbrev CAN_OID_XTD (i : Nat) (j : Nat) : Fld := ⟨CAN_OID i j, 29, 1⟩
abbrev CAN_OCTL (i : Nat) (j : Nat) : Nat := 0x60180408 + 0x4000 * i + 0x60 * j
abbrev CAN_OCTL_FDF (i : Nat) (j : Nat) : Fld := ⟨CAN_OCTL i j, 4, 1⟩
abbrev CAN_OCTL_BRS (i : Nat) (j : Nat) : Fld := ⟨CAN_OCTL i j, 5, 1⟩
abbrev CAN_OCTL_ESI (i : Nat) (j : Nat) : Fld := ⟨CAN_OCTL i j, 6, 1⟩
abbrev CAN_OSTAT (i : Nat) (j : Nat) : Nat := 0x6018040C + 0x4000 * i + 0x60 * j
abbrev CAN_OSTAT_NEW (i : Nat) (j : Nat) : Fld := ⟨CAN_OSTAT i j, 0, 1⟩
abbrev CAN_OSTAT_LOST (i : Nat) (j : Nat) : Fld := ⟨CAN_OSTAT i j, 1, 1⟩
abbrev CAN_OSTAT_TXOK (i : Nat) (j : Nat) : Fld := ⟨CAN_OSTAT i j, 2, 1⟩
abbrev CAN_OSTAT_ABTD (i : Nat) (j : Nat) : Fld := ⟨CAN_OSTAT i j, 3, 1⟩
abbrev CAN_OSTAT_INTG (i : Nat) (j : Nat) : Fld := ⟨CAN_OSTAT i j, 4, 1⟩
abbrev CAN_OSTAT_COLCNT (i : Nat) (j : Nat) : Fld := ⟨CAN_OSTAT i j, 8, 4⟩
abbrev CAN_OSTAT_FIDX (i : Nat) (j : Nat) : Fld := ⟨CAN_OSTAT i j, 16, 8⟩
abbrev CAN_OTS (i : Nat) (j : Nat) : Nat := 0x60180410 + 0x4000 * i + 0x60 * j
abbrev CAN_ODATA (i : Nat) (j : Nat) (k : Nat) : Nat := 0x60180420 + 0x4000 * i + 0x60 * j + 0x4 * k
abbrev CAN_FLT0 (i : Nat) (j : Nat) : Nat := 0x60183400 + 0x4000 * i + 0xC * j
abbrev CAN_FLT0_ID1 (i : Nat) (j : Nat) : Fld := ⟨CAN_FLT0 i j, 0, 29⟩
abbrev CAN_FLT0_XTD (i : Nat) (j : Nat) : Fld := ⟨CAN_FLT0 i j, 29, 1⟩
abbrev CAN_FLT0_TYPE (i : Nat) (j : Nat) : Fld := ⟨CAN_FLT0 i j, 30, 2⟩
abbrev CAN_FLT1 (i : Nat) (j : Nat) : Nat := 0x60183404 + 0x4000 * i + 0xC * j
abbrev CAN_FLT1_ID2 (i : Nat) (j : Nat) : Fld := ⟨CAN_FLT1 i j, 0, 29⟩
abbrev CAN_FLT2 (i : Nat) (j : Nat) : Nat := 0x60183408 + 0x4000 * i + 0xC * j
abbrev CAN_FLT2_OBJ (i : Nat) (j : Nat) : Fld := ⟨CAN_FLT2 i j, 0, 7⟩
abbrev CAN_FLT2_ACT (i : Nat) (j : Nat) : Fld := ⟨CAN_FLT2 i j, 8, 2⟩

/-! ### ETH -/

abbrev ETH_CTL (i : Nat) : Nat := 0x601A0010 + 0x10000 * i
abbrev ETH_CTL_TXEN (i : Nat) : Fld := ⟨ETH_CTL i, 0, 1⟩
abbrev ETH_CTL_RXEN (i : Nat) : Fld := ⟨ETH_CTL i, 1, 1⟩
abbrev ETH_CTL_IF (i : Nat) : Fld := ⟨ETH_CTL i, 2, 1⟩
abbrev ETH_CTL_SPD (i : Nat) : Fld := ⟨ETH_CTL i, 3, 2⟩
abbrev ETH_CTL_FD (i : Nat) : Fld := ⟨ETH_CTL i, 5, 1⟩
abbrev ETH_CTL_PROM (i : Nat) : Fld := ⟨ETH_CTL i, 6, 1⟩
abbrev ETH_CTL_PEN (i : Nat) : Fld := ⟨ETH_CTL i, 7, 1⟩
abbrev ETH_CTL_PTX (i : Nat) : Fld := ⟨ETH_CTL i, 8, 1⟩
abbrev ETH_MAXF (i : Nat) : Nat := 0x601A0014 + 0x10000 * i
abbrev ETH_MAXF_MAXF (i : Nat) : Fld := ⟨ETH_MAXF i, 0, 14⟩
abbrev ETH_FC (i : Nat) : Nat := 0x601A0018 + 0x10000 * i
abbrev ETH_FC_XOFF (i : Nat) : Fld := ⟨ETH_FC i, 0, 8⟩
abbrev ETH_FC_XON (i : Nat) : Fld := ⟨ETH_FC i, 8, 8⟩
abbrev ETH_FC_PQ (i : Nat) : Fld := ⟨ETH_FC i, 16, 16⟩
abbrev ETH_ST (i : Nat) : Nat := 0x601A001C + 0x10000 * i
abbrev ETH_ST_LINK (i : Nat) : Fld := ⟨ETH_ST i, 0, 1⟩
abbrev ETH_ST_SPDS (i : Nat) : Fld := ⟨ETH_ST i, 1, 2⟩
abbrev ETH_ST_FDS (i : Nat) : Fld := ⟨ETH_ST i, 3, 1⟩
abbrev ETH_ST_PAUSED (i : Nat) : Fld := ⟨ETH_ST i, 4, 1⟩
abbrev ETH_ST_XOFFS (i : Nat) : Fld := ⟨ETH_ST i, 5, 1⟩
abbrev ETH_ADDRL (i : Nat) : Nat := 0x601A0020 + 0x10000 * i
abbrev ETH_ADDRH (i : Nat) : Nat := 0x601A0024 + 0x10000 * i
abbrev ETH_TXRB (i : Nat) : Nat := 0x601A0030 + 0x10000 * i
abbrev ETH_TXRB_BASE (i : Nat) : Fld := ⟨ETH_TXRB i, 0, 32⟩
abbrev ETH_TXRL (i : Nat) : Nat := 0x601A0034 + 0x10000 * i
abbrev ETH_TXRL_LEN (i : Nat) : Fld := ⟨ETH_TXRL i, 0, 32⟩
abbrev ETH_TXHD (i : Nat) : Nat := 0x601A0038 + 0x10000 * i
abbrev ETH_TXHD_HEAD (i : Nat) : Fld := ⟨ETH_TXHD i, 0, 32⟩
abbrev ETH_TXTL (i : Nat) : Nat := 0x601A003C + 0x10000 * i
abbrev ETH_RXRB (i : Nat) : Nat := 0x601A0040 + 0x10000 * i
abbrev ETH_RXRB_BASE (i : Nat) : Fld := ⟨ETH_RXRB i, 0, 32⟩
abbrev ETH_RXRL (i : Nat) : Nat := 0x601A0044 + 0x10000 * i
abbrev ETH_RXRL_LEN (i : Nat) : Fld := ⟨ETH_RXRL i, 0, 32⟩
abbrev ETH_RXHD (i : Nat) : Nat := 0x601A0048 + 0x10000 * i
abbrev ETH_RXHD_HEAD (i : Nat) : Fld := ⟨ETH_RXHD i, 0, 32⟩
abbrev ETH_RXTL (i : Nat) : Nat := 0x601A004C + 0x10000 * i
abbrev ETH_TSC (i : Nat) : Nat := 0x601A0050 + 0x10000 * i
abbrev ETH_TSC_EGLAT (i : Nat) : Fld := ⟨ETH_TSC i, 0, 16⟩
abbrev ETH_TSC_INGLAT (i : Nat) : Fld := ⟨ETH_TSC i, 16, 16⟩
abbrev ETH_TSQ_ST (i : Nat) : Nat := 0x601A0054 + 0x10000 * i
abbrev ETH_TSQ_ST_CNT (i : Nat) : Fld := ⟨ETH_TSQ_ST i, 0, 5⟩
abbrev ETH_TSQ_ST_OVF (i : Nat) : Fld := ⟨ETH_TSQ_ST i, 8, 1⟩
abbrev ETH_TSQ_KEY (i : Nat) : Nat := 0x601A0058 + 0x10000 * i
abbrev ETH_TSQ_ID (i : Nat) : Nat := 0x601A005C + 0x10000 * i
abbrev ETH_TSQ_ID_SEQID (i : Nat) : Fld := ⟨ETH_TSQ_ID i, 0, 16⟩
abbrev ETH_TSQ_ID_MTYPE (i : Nat) : Fld := ⟨ETH_TSQ_ID i, 16, 4⟩
abbrev ETH_TSQ_ID_VALID (i : Nat) : Fld := ⟨ETH_TSQ_ID i, 31, 1⟩
abbrev ETH_TSQ_NS (i : Nat) : Nat := 0x601A0060 + 0x10000 * i
abbrev ETH_TSQ_NS_NS (i : Nat) : Fld := ⟨ETH_TSQ_NS i, 0, 32⟩
abbrev ETH_TSQ_SECL (i : Nat) : Nat := 0x601A0064 + 0x10000 * i
abbrev ETH_TSQ_SECL_SECL (i : Nat) : Fld := ⟨ETH_TSQ_SECL i, 0, 32⟩
abbrev ETH_TSQ_SECH (i : Nat) : Nat := 0x601A0068 + 0x10000 * i
abbrev ETH_TSQ_SECH_SECH (i : Nat) : Fld := ⟨ETH_TSQ_SECH i, 0, 16⟩
abbrev ETH_TSQ_POP (i : Nat) : Nat := 0x601A006C + 0x10000 * i
abbrev ETH_MDIO (i : Nat) : Nat := 0x601A0070 + 0x10000 * i
abbrev ETH_MDST (i : Nat) : Nat := 0x601A0074 + 0x10000 * i
abbrev ETH_MDST_ST (i : Nat) : Fld := ⟨ETH_MDST i, 0, 8⟩
abbrev ETH_MDST_BUSY (i : Nat) : Fld := ⟨ETH_MDST i, 8, 1⟩
abbrev ETH_MDST_GEN (i : Nat) : Fld := ⟨ETH_MDST i, 24, 8⟩
abbrev ETH_EVT (i : Nat) : Nat := 0x601A0078 + 0x10000 * i
abbrev ETH_EVT_RXF (i : Nat) : Fld := ⟨ETH_EVT i, 0, 1⟩
abbrev ETH_EVT_TXF (i : Nat) : Fld := ⟨ETH_EVT i, 1, 1⟩
abbrev ETH_EVT_TSAV (i : Nat) : Fld := ⟨ETH_EVT i, 2, 1⟩
abbrev ETH_EVT_TSOVF (i : Nat) : Fld := ⟨ETH_EVT i, 3, 1⟩
abbrev ETH_EVT_RXOVF (i : Nat) : Fld := ⟨ETH_EVT i, 4, 1⟩
abbrev ETH_EVT_TXERR (i : Nat) : Fld := ⟨ETH_EVT i, 5, 1⟩
abbrev ETH_EVT_LINKCH (i : Nat) : Fld := ⟨ETH_EVT i, 6, 1⟩
abbrev ETH_EVT_TDISC (i : Nat) : Fld := ⟨ETH_EVT i, 7, 1⟩
abbrev ETH_EVT_INTG (i : Nat) : Fld := ⟨ETH_EVT i, 8, 1⟩
abbrev ETH_MDWD (i : Nat) : Nat := 0x601A007C + 0x10000 * i
abbrev ETH_MDWD_RDATA (i : Nat) : Fld := ⟨ETH_MDWD i, 16, 16⟩
abbrev ETH_RXCNT (i : Nat) : Nat := 0x601A0080 + 0x10000 * i
abbrev ETH_TXCNT (i : Nat) : Nat := 0x601A0084 + 0x10000 * i
abbrev ETH_RXDROP (i : Nat) : Nat := 0x601A0088 + 0x10000 * i
abbrev ETH_CRCERR (i : Nat) : Nat := 0x601A008C + 0x10000 * i
abbrev ETH_TSDROP (i : Nat) : Nat := 0x601A0090 + 0x10000 * i
abbrev ETH_LOCK (i : Nat) : Nat := 0x601A0094 + 0x10000 * i
abbrev ETH_LOCK_LOCK (i : Nat) : Fld := ⟨ETH_LOCK i, 0, 1⟩

/-! ### TIM -/

abbrev TIM_ST : Nat := 0x601C0010
abbrev TIM_ST_INIT : Fld := ⟨TIM_ST, 0, 1⟩
abbrev TIM_ST_PLK : Fld := ⟨TIM_ST, 1, 1⟩
abbrev TIM_ST_DCNT : Fld := ⟨TIM_ST, 8, 8⟩
abbrev TIM_NS : Nat := 0x601C0014
abbrev TIM_SECL : Nat := 0x601C0018
abbrev TIM_SECL_SECL : Fld := ⟨TIM_SECL, 0, 32⟩
abbrev TIM_SECH : Nat := 0x601C001C
abbrev TIM_SECH_SECH : Fld := ⟨TIM_SECH, 0, 16⟩
abbrev TIM_RATE : Nat := 0x601C0020
abbrev TIM_SETN : Nat := 0x601C0024
abbrev TIM_SETN_SETN : Fld := ⟨TIM_SETN, 0, 30⟩
abbrev TIM_SETSL : Nat := 0x601C0028
abbrev TIM_SETSL_SETSL : Fld := ⟨TIM_SETSL, 0, 32⟩
abbrev TIM_SETSH : Nat := 0x601C002C
abbrev TIM_SETSH_SETSH : Fld := ⟨TIM_SETSH, 0, 16⟩
abbrev TIM_OFSL : Nat := 0x601C0030
abbrev TIM_OFSL_OFSL : Fld := ⟨TIM_OFSL, 0, 32⟩
abbrev TIM_OFSH : Nat := 0x601C0034
abbrev TIM_OFSH_OFSH : Fld := ⟨TIM_OFSH, 0, 32⟩
abbrev TIM_CMD : Nat := 0x601C0038
abbrev TIM_REINIT : Nat := 0x601C003C
abbrev TIM_EPL : Nat := 0x601C0040
abbrev TIM_EPL_PHOFS : Fld := ⟨TIM_EPL, 0, 27⟩
abbrev TIM_EPL_EN : Fld := ⟨TIM_EPL, 31, 1⟩
abbrev TIM_EPST : Nat := 0x601C0044
abbrev TIM_EPST_ERR : Fld := ⟨TIM_EPST, 0, 32⟩
abbrev TIM_EVT : Nat := 0x601C0048
abbrev TIM_EVT_DISC : Fld := ⟨TIM_EVT, 0, 1⟩
abbrev TIM_EVT_SEC : Fld := ⟨TIM_EVT, 1, 1⟩
abbrev TIM_EVT_PLKCH : Fld := ⟨TIM_EVT, 2, 1⟩
abbrev TIM_EVT_TTO : Fld := ⟨TIM_EVT, 3, 1⟩
abbrev TIM_EVT_CAP : Fld := ⟨TIM_EVT, 4, 1⟩
abbrev TIM_LOCK : Nat := 0x601C004C
abbrev TIM_LOCK_LOCK : Fld := ⟨TIM_LOCK, 0, 1⟩
abbrev TIM_TOCTL (i : Nat) : Nat := 0x601C0100 + 0x20 * i
abbrev TIM_TOCTL_ARM (i : Nat) : Fld := ⟨TIM_TOCTL i, 0, 1⟩
abbrev TIM_TOCTL_POL (i : Nat) : Fld := ⟨TIM_TOCTL i, 1, 1⟩
abbrev TIM_TOCTL_DIS (i : Nat) : Fld := ⟨TIM_TOCTL i, 2, 1⟩
abbrev TIM_TOSTN (i : Nat) : Nat := 0x601C0104 + 0x20 * i
abbrev TIM_TOSTN_N (i : Nat) : Fld := ⟨TIM_TOSTN i, 0, 30⟩
abbrev TIM_TOSTS (i : Nat) : Nat := 0x601C0108 + 0x20 * i
abbrev TIM_TOSTS_S (i : Nat) : Fld := ⟨TIM_TOSTS i, 0, 32⟩
abbrev TIM_TOPER (i : Nat) : Nat := 0x601C010C + 0x20 * i
abbrev TIM_TOPER_PER (i : Nat) : Fld := ⟨TIM_TOPER i, 0, 32⟩
abbrev TIM_TOWID (i : Nat) : Nat := 0x601C0110 + 0x20 * i
abbrev TIM_TOWID_WID (i : Nat) : Fld := ⟨TIM_TOWID i, 0, 32⟩
abbrev TIM_CCTL (i : Nat) : Nat := 0x601C0200 + 0x10 * i
abbrev TIM_CCTL_EN (i : Nat) : Fld := ⟨TIM_CCTL i, 0, 1⟩
abbrev TIM_CCTL_EDGE (i : Nat) : Fld := ⟨TIM_CCTL i, 1, 2⟩
abbrev TIM_CCTL_NEW (i : Nat) : Fld := ⟨TIM_CCTL i, 8, 1⟩
abbrev TIM_CCTL_OVR (i : Nat) : Fld := ⟨TIM_CCTL i, 9, 1⟩
abbrev TIM_CCTL_STALE (i : Nat) : Fld := ⟨TIM_CCTL i, 10, 1⟩
abbrev TIM_CNS (i : Nat) : Nat := 0x601C0204 + 0x10 * i
abbrev TIM_CNS_NS (i : Nat) : Fld := ⟨TIM_CNS i, 0, 30⟩
abbrev TIM_CSEC (i : Nat) : Nat := 0x601C0208 + 0x10 * i

/-! ### PRL -/

abbrev PRL_CTL : Nat := 0x601D0010
abbrev PRL_CTL_EN : Fld := ⟨PRL_CTL, 0, 1⟩
abbrev PRL_CTL_AUTO : Fld := ⟨PRL_CTL, 1, 1⟩
abbrev PRL_ST : Nat := 0x601D0014
abbrev PRL_ST_ROLE : Fld := ⟨PRL_ST, 0, 2⟩
abbrev PRL_ST_UP : Fld := ⟨PRL_ST, 2, 1⟩
abbrev PRL_ST_LANES : Fld := ⟨PRL_ST, 3, 2⟩
abbrev PRL_ST_PALV : Fld := ⟨PRL_ST, 5, 2⟩
abbrev PRL_ST_PRI : Fld := ⟨PRL_ST, 7, 1⟩
abbrev PRL_ST_SYNC : Fld := ⟨PRL_ST, 8, 1⟩
abbrev PRL_ST_SHDOK : Fld := ⟨PRL_ST, 9, 1⟩
abbrev PRL_LDLY : Nat := 0x601D0018
abbrev PRL_LDLY_DLY : Fld := ⟨PRL_LDLY, 0, 12⟩
abbrev PRL_EVT : Nat := 0x601D001C
abbrev PRL_EVT_TAKE : Fld := ⟨PRL_EVT, 0, 1⟩
abbrev PRL_EVT_WDRN : Fld := ⟨PRL_EVT, 1, 1⟩
abbrev PRL_EVT_PWDR : Fld := ⟨PRL_EVT, 2, 1⟩
abbrev PRL_EVT_LDOWN : Fld := ⟨PRL_EVT, 3, 1⟩
abbrev PRL_EVT_LUP : Fld := ⟨PRL_EVT, 4, 1⟩
abbrev PRL_EVT_LANEF : Fld := ⟨PRL_EVT, 5, 1⟩
abbrev PRL_EVT_HOLDMIS : Fld := ⟨PRL_EVT, 6, 1⟩
abbrev PRL_EVT_ESCAL : Fld := ⟨PRL_EVT, 7, 1⟩
abbrev PRL_EVT_CKRX : Fld := ⟨PRL_EVT, 8, 1⟩
abbrev PRL_EVT_CKTX : Fld := ⟨PRL_EVT, 9, 1⟩
abbrev PRL_EVT_YIELD : Fld := ⟨PRL_EVT, 10, 1⟩
abbrev PRL_EVT_JOINED : Fld := ⟨PRL_EVT, 11, 1⟩
abbrev PRL_CKSRC : Nat := 0x601D0020
abbrev PRL_CKSRC_ADDR : Fld := ⟨PRL_CKSRC, 0, 32⟩
abbrev PRL_CKLEN : Nat := 0x601D0024
abbrev PRL_CKLEN_LEN : Fld := ⟨PRL_CKLEN, 0, 19⟩
abbrev PRL_CKGO : Nat := 0x601D0028
abbrev PRL_CKST : Nat := 0x601D002C
abbrev PRL_CKST_ST : Fld := ⟨PRL_CKST, 0, 8⟩
abbrev PRL_CKST_BUSY : Fld := ⟨PRL_CKST, 8, 1⟩
abbrev PRL_CKST_GEN : Fld := ⟨PRL_CKST, 24, 8⟩
abbrev PRL_CKRB : Nat := 0x601D0030
abbrev PRL_CKRB_BASE : Fld := ⟨PRL_CKRB, 0, 32⟩
abbrev PRL_CKRI : Nat := 0x601D0034
abbrev PRL_CKRI_LEN : Fld := ⟨PRL_CKRI, 0, 19⟩
abbrev PRL_CKREP : Nat := 0x601D0038
abbrev PRL_CKREP_EPOCH : Fld := ⟨PRL_CKREP, 0, 32⟩
abbrev PRL_CRCC : Nat := 0x601D0040
abbrev PRL_TAKC : Nat := 0x601D0044
abbrev PRL_LDNC : Nat := 0x601D0048
abbrev PRL_LOCK : Nat := 0x601D004C
abbrev PRL_LOCK_LOCK : Fld := ⟨PRL_LOCK, 0, 1⟩

/-! ### NVC -/

abbrev NVC_CMD : Nat := 0x60030010
abbrev NVC_SRC : Nat := 0x60030014
abbrev NVC_SRC_ADDR : Fld := ⟨NVC_SRC, 0, 32⟩
abbrev NVC_DST : Nat := 0x60030018
abbrev NVC_DST_ROW : Fld := ⟨NVC_DST, 0, 17⟩
abbrev NVC_CNT : Nat := 0x6003001C
abbrev NVC_CNT_CNT : Fld := ⟨NVC_CNT, 0, 7⟩
abbrev NVC_ST : Nat := 0x60030020
abbrev NVC_ST_ST : Fld := ⟨NVC_ST, 0, 8⟩
abbrev NVC_ST_BUSY : Fld := ⟨NVC_ST, 8, 1⟩
abbrev NVC_ST_QD : Fld := ⟨NVC_ST, 9, 5⟩
abbrev NVC_ST_JRDY : Fld := ⟨NVC_ST, 14, 1⟩
abbrev NVC_ST_GEN : Fld := ⟨NVC_ST, 24, 8⟩
abbrev NVC_JHEAD : Nat := 0x60030024
abbrev NVC_JHEAD_ROW : Fld := ⟨NVC_JHEAD, 0, 17⟩
abbrev NVC_EVT : Nat := 0x60030028
abbrev NVC_EVT_DONE : Fld := ⟨NVC_EVT, 0, 1⟩
abbrev NVC_EVT_DEFD : Fld := ⟨NVC_EVT, 1, 1⟩
abbrev NVC_EVT_TEMP : Fld := ⟨NVC_EVT, 2, 1⟩
abbrev NVC_EVT_ECC1 : Fld := ⟨NVC_EVT, 3, 1⟩
abbrev NVC_EVT_INTG : Fld := ⟨NVC_EVT, 4, 1⟩
abbrev NVC_ECC1 : Nat := 0x6003002C
abbrev NVC_LOCK : Nat := 0x60030030
abbrev NVC_LOCK_LOCK : Fld := ⟨NVC_LOCK, 0, 1⟩

/-! ### SEC -/

abbrev SEC_BST : Nat := 0x60040010
abbrev SEC_BST_BANK : Fld := ⟨SEC_BST, 0, 1⟩
abbrev SEC_BST_TRIAL : Fld := ⟨SEC_BST, 1, 1⟩
abbrev SEC_BST_VOK : Fld := ⟨SEC_BST, 2, 1⟩
abbrev SEC_BST_FAILA : Fld := ⟨SEC_BST, 3, 1⟩
abbrev SEC_BST_FAILB : Fld := ⟨SEC_BST, 4, 1⟩
abbrev SEC_BOOTSEL : Nat := 0x60040014
abbrev SEC_BOOTSEL_PREF : Fld := ⟨SEC_BOOTSEL, 0, 1⟩
abbrev SEC_BOOTSEL_PEND : Fld := ⟨SEC_BOOTSEL, 1, 1⟩
abbrev SEC_BOOTSEL_TRY : Fld := ⟨SEC_BOOTSEL, 2, 1⟩
abbrev SEC_BOOTCONF : Nat := 0x60040018
abbrev SEC_RBC : Nat := 0x6004001C
abbrev SEC_RBC_FW : Fld := ⟨SEC_RBC, 0, 8⟩
abbrev SEC_RBC_KRN : Fld := ⟨SEC_RBC, 8, 8⟩
abbrev SEC_RBADV : Nat := 0x60040020
abbrev SEC_LC : Nat := 0x60040024
abbrev SEC_LC_STATE : Fld := ⟨SEC_LC, 0, 1⟩
abbrev SEC_KPROG : Nat := 0x60040028
abbrev SEC_KSRC : Nat := 0x6004002C
abbrev SEC_KSRC_ADDR : Fld := ⟨SEC_KSRC, 0, 32⟩
abbrev SEC_KREV : Nat := 0x60040030
abbrev SEC_KST : Nat := 0x60040034
abbrev SEC_OPST : Nat := 0x60040038
abbrev SEC_OPST_ST : Fld := ⟨SEC_OPST, 0, 8⟩
abbrev SEC_OPST_BUSY : Fld := ⟨SEC_OPST, 8, 1⟩
abbrev SEC_OPST_GEN : Fld := ⟨SEC_OPST, 24, 8⟩
abbrev SEC_LOCK : Nat := 0x6004003C
abbrev SEC_LOCK_LOCK : Fld := ⟨SEC_LOCK, 0, 1⟩
abbrev SEC_UID (i : Nat) : Nat := 0x60040040 + 0x4 * i

/-! ### DBG -/

abbrev DBG_CHAL (i : Nat) : Nat := 0x601E0010 + 0x4 * i
abbrev DBG_RSP (i : Nat) : Nat := 0x601E0030 + 0x4 * i
abbrev DBG_UREQ : Nat := 0x601E0090
abbrev DBG_UST : Nat := 0x601E0094
abbrev DBG_UST_ST : Fld := ⟨DBG_UST, 0, 8⟩
abbrev DBG_UST_LEVEL : Fld := ⟨DBG_UST, 8, 2⟩

end Sys2Proof.Machine
end

