-- ==== Sys2Proof/Machine/RegTable.lean ====
section
/-! DEFINITION. The register table: every register of the spec's chapters with its address, its repetition, the reset
classes beside P that set it (W, G), whether the field die keeps it, and its fields with their types, reset values and
stated ranges (R9, R53, R462). -/

namespace Sys2Proof.Machine


/-- Registers of SYS. -/
def regsSys : List RegDef := [
  -- SYS_MODE (R36)
  ⟨0x60000010, [], false, false, false, .plain,
    [⟨0, 3, .ro, 0x2, .any⟩, ⟨8, 1, .ro, 0x0, .any⟩, ⟨9, 1, .ro, 0x0, .any⟩, ⟨10, 1, .ro, 0x0, .any⟩, ⟨16, 8, .ro, 0x0, .any⟩]⟩,
  -- SYS_MREQ (R36)
  ⟨0x60000014, [], false, false, false, .plain,
    [⟨0, 3, .wo, 0x0, .any⟩, ⟨4, 2, .wo, 0x0, .any⟩]⟩,
  -- SYS_HOLD (R48)
  ⟨0x60000018, [], false, false, false, .plain,
    [⟨0, 10, .lk, 0xFA, .range 50 1000⟩]⟩,
  -- SYS_HOLDACK (R49)
  ⟨0x6000001C, [], false, false, false, .plain,
    [⟨0, 32, .wo, 0x0, .any⟩]⟩,
  -- SYS_TRIPCLR (R39)
  ⟨0x60000020, [], false, false, false, .plain,
    [⟨0, 32, .wo, 0x0, .any⟩]⟩,
  -- SYS_RSTCAUSE (R42)
  ⟨0x60000024, [], false, false, true, .plain,
    [⟨0, 1, .w1c, 0x1, .any⟩, ⟨1, 1, .w1c, 0x0, .any⟩, ⟨2, 1, .w1c, 0x0, .any⟩, ⟨3, 1, .w1c, 0x0, .any⟩, ⟨4, 1, .w1c, 0x0, .any⟩, ⟨5, 1, .w1c, 0x0, .any⟩, ⟨6, 1, .w1c, 0x0, .any⟩, ⟨7, 1, .w1c, 0x0, .any⟩, ⟨8, 1, .w1c, 0x0, .any⟩, ⟨9, 1, .w1c, 0x0, .any⟩, ⟨10, 4, .ro, 0x0, .any⟩]⟩,
  -- SYS_GRST (R44)
  ⟨0x60000028, [], false, false, false, .plain,
    [⟨0, 8, .wo, 0x0, .any⟩, ⟨8, 8, .wo, 0x0, .any⟩]⟩,
  -- SYS_WRST (R46)
  ⟨0x6000002C, [], false, false, false, .plain,
    [⟨0, 32, .wo, 0x0, .any⟩]⟩,
  -- SYS_LOCK (R10)
  ⟨0x60000030, [], false, false, false, .plain,
    [⟨0, 1, .w1s, 0x0, .any⟩]⟩,
  -- SYS_EVT (R40)
  ⟨0x60000034, [], false, false, false, .plain,
    [⟨0, 1, .w1c, 0x0, .any⟩, ⟨1, 1, .w1c, 0x0, .any⟩, ⟨2, 1, .w1c, 0x0, .any⟩, ⟨3, 1, .w1c, 0x0, .any⟩, ⟨4, 1, .w1c, 0x0, .any⟩, ⟨5, 1, .w1c, 0x0, .any⟩, ⟨6, 1, .w1c, 0x0, .any⟩]⟩,
  -- SYS_MST (R40)
  ⟨0x60000038, [], false, false, false, .plain,
    [⟨0, 1, .ro, 0x0, .any⟩, ⟨1, 1, .ro, 0x0, .any⟩, ⟨2, 1, .ro, 0x0, .any⟩, ⟨3, 1, .ro, 0x0, .any⟩, ⟨4, 1, .ro, 0x0, .any⟩, ⟨5, 1, .ro, 0x0, .any⟩, ⟨6, 1, .ro, 0x0, .any⟩, ⟨7, 1, .ro, 0x0, .any⟩, ⟨8, 1, .ro, 0x0, .any⟩, ⟨9, 1, .ro, 0x0, .any⟩, ⟨16, 1, .ro, 0x0, .any⟩]⟩]

/-- Registers of FLK. -/
def regsFlk : List RegDef := [
  -- FLK_PCTL (R90)
  ⟨0x60080010, [(0x80, 0x1000)], false, true, false, .plain,
    [⟨0, 2, .rw, 0x0, .range 0 2⟩, ⟨2, 1, .lk, 0x0, .any⟩, ⟨3, 1, .lk, 0x0, .any⟩, ⟨4, 1, .rw, 0x1, .any⟩]⟩,
  -- FLK_PSTAT (R90)
  ⟨0x60080014, [(0x80, 0x1000)], false, true, false, .plain,
    [⟨0, 8, .ro, 0x0, .any⟩, ⟨8, 1, .ro, 0x0, .any⟩, ⟨9, 1, .ro, 0x0, .any⟩, ⟨10, 1, .ro, 0x0, .any⟩, ⟨16, 8, .ro, 0x0, .any⟩]⟩,
  -- FLK_PEVT (R90)
  ⟨0x60080018, [(0x80, 0x1000)], true, true, false, .plain,
    [⟨0, 1, .w1c, 0x0, .any⟩, ⟨1, 1, .w1c, 0x0, .any⟩, ⟨2, 1, .w1c, 0x0, .any⟩, ⟨3, 1, .w1c, 0x0, .any⟩, ⟨4, 1, .w1c, 0x0, .any⟩]⟩,
  -- FLK_PPRES (R79)
  ⟨0x60080020, [(0x80, 0x1000), (0x4, 0x4)], true, true, false, .plain,
    [⟨0, 32, .ro, 0x0, .any⟩]⟩,
  -- FLK_PCRC (R74)
  ⟨0x60080030, [(0x80, 0x1000)], false, true, false, .c16,
    [⟨0, 16, .cnt, 0x0, .any⟩, ⟨31, 1, .ro, 0x0, .any⟩]⟩,
  -- FLK_PMISS (R79)
  ⟨0x60080034, [(0x80, 0x1000)], false, true, false, .c16,
    [⟨0, 16, .cnt, 0x0, .any⟩, ⟨31, 1, .ro, 0x0, .any⟩]⟩,
  -- FLK_PCV (R65)
  ⟨0x60080038, [(0x80, 0x1000)], false, true, false, .c16,
    [⟨0, 16, .cnt, 0x0, .any⟩, ⟨31, 1, .ro, 0x0, .any⟩]⟩,
  -- FLK_PDISC (R79)
  ⟨0x6008003C, [(0x80, 0x1000)], false, true, false, .c16,
    [⟨0, 16, .cnt, 0x0, .any⟩, ⟨31, 1, .ro, 0x0, .any⟩]⟩,
  -- FLK_PCMD (R71)
  ⟨0x60080040, [(0x80, 0x1000)], true, true, false, .plain,
    [⟨0, 1, .wo, 0x0, .any⟩, ⟨24, 8, .wo, 0x0, .any⟩]⟩,
  -- FLK_PRSP (R93)
  ⟨0x60080044, [(0x80, 0x1000)], true, true, false, .plain,
    [⟨0, 8, .ro, 0x0, .any⟩, ⟨8, 8, .ro, 0x0, .any⟩, ⟨16, 1, .w1c, 0x0, .any⟩, ⟨17, 1, .wo, 0x0, .any⟩, ⟨24, 8, .ro, 0x0, .any⟩]⟩,
  -- FLK_PBASE (R83)
  ⟨0x60080048, [(0x80, 0x1000)], false, false, false, .plain,
    [⟨0, 13, .lk, 0x0, .any⟩]⟩,
  -- FLK_PRING (R466)
  ⟨0x6008004C, [(0x80, 0x1000)], false, false, false, .plain,
    [⟨0, 20, .ro, 0x0, .any⟩]⟩,
  -- FLK_PFEN (R323)
  ⟨0x60080050, [(0x80, 0x1000)], false, false, false, .plain,
    [⟨0, 1, .w1s, 0x0, .any⟩, ⟨1, 2, .ro, 0x0, .any⟩]⟩,
  -- FLK_PFRM (R72)
  ⟨0x60080100, [(0x80, 0x1000), (0x40, 0x4)], false, true, false, .plain,
    [⟨0, 32, .rw, 0x0, .any⟩]⟩,
  -- FLK_NDLY (R85)
  ⟨0x60080400, [(0x80, 0x1000), (0x80, 0x4)], false, false, false, .plain,
    [⟨0, 20, .ro, 0x0, .any⟩]⟩,
  -- FLK_EPER (R81)
  ⟨0x60080800, [], false, false, false, .plain,
    [⟨0, 7, .rw, 0xA, .range 2 100⟩, ⟨8, 1, .ro, 0x0, .any⟩]⟩,
  -- FLK_EPNUM (R464)
  ⟨0x60080804, [], false, false, false, .plain,
    [⟨0, 32, .ro, 0x0, .any⟩]⟩,
  -- FLK_OPS (R467)
  ⟨0x60080808, [], true, true, false, .plain,
    [⟨0, 2, .wo, 0x0, .range 1 3⟩, ⟨8, 6, .wo, 0x0, .any⟩, ⟨16, 1, .wo, 0x0, .any⟩, ⟨24, 8, .wo, 0x0, .any⟩]⟩,
  -- FLK_OPST (R467)
  ⟨0x6008080C, [], true, true, false, .plain,
    [⟨0, 8, .ro, 0x0, .any⟩, ⟨8, 1, .ro, 0x0, .any⟩]⟩,
  -- FLK_NTIM (R109)
  ⟨0x60080810, [], false, false, false, .plain,
    [⟨0, 9, .lk, 0x32, .range 10 500⟩, ⟨16, 7, .lk, 0x14, .range 5 100⟩]⟩,
  -- FLK_TONE (R95)
  ⟨0x60080814, [], false, false, false, .plain,
    [⟨0, 7, .lk, 0xA, .range 1 100⟩]⟩,
  -- FLK_LOCK (R10)
  ⟨0x60080818, [], false, false, false, .plain,
    [⟨0, 1, .w1s, 0x0, .any⟩]⟩]

/-- Registers of BMI. -/
def regsBmi : List RegDef := [
  -- BMI_CTL (R146)
  ⟨0x60110010, [], false, true, false, .plain,
    [⟨0, 1, .rw, 0x0, .any⟩]⟩,
  -- BMI_LOCK (R10)
  ⟨0x60110014, [], false, true, false, .plain,
    [⟨0, 1, .w1s, 0x0, .any⟩]⟩,
  -- BMI_ICFG (R146)
  ⟨0x60110100, [(0x10, 0x40)], false, true, false, .plain,
    [⟨0, 1, .rw, 0x0, .any⟩, ⟨1, 3, .lk, 0x0, .range 0 6⟩, ⟨4, 2, .lk, 0x0, .any⟩, ⟨6, 2, .lk, 0x3, .any⟩, ⟨8, 8, .lk, 0x0, .any⟩]⟩,
  -- BMI_GAIN (R147)
  ⟨0x60110104, [(0x10, 0x40)], false, true, false, .plain,
    [⟨0, 32, .lk, 0x10000, .any⟩]⟩,
  -- BMI_OFFS (R147)
  ⟨0x60110108, [(0x10, 0x40)], false, true, false, .plain,
    [⟨0, 16, .lk, 0x0, .any⟩]⟩,
  -- BMI_FCMP (R153)
  ⟨0x6011010C, [(0x10, 0x40)], false, true, false, .plain,
    [⟨0, 16, .rw, 0x8000, .any⟩, ⟨16, 16, .rw, 0x7FFF, .any⟩]⟩,
  -- BMI_FCFG (R152)
  ⟨0x60110110, [(0x10, 0x40)], false, true, false, .plain,
    [⟨0, 1, .rw, 0x0, .any⟩, ⟨1, 3, .rw, 0x7, .any⟩]⟩,
  -- BMI_LSMP (R147)
  ⟨0x60110114, [(0x10, 0x40)], false, true, false, .plain,
    [⟨0, 32, .ro, 0x0, .any⟩]⟩,
  -- BMI_LTS (R149)
  ⟨0x60110118, [(0x10, 0x40)], false, true, false, .plain,
    [⟨0, 27, .ro, 0x0, .any⟩, ⟨27, 5, .ro, 0x0, .any⟩]⟩,
  -- BMI_WMEAN (R150)
  ⟨0x6011011C, [(0x10, 0x40)], false, true, false, .plain,
    [⟨0, 32, .ro, 0x0, .any⟩]⟩,
  -- BMI_EMEAN (R150)
  ⟨0x60110120, [(0x10, 0x40)], false, true, false, .plain,
    [⟨0, 32, .ro, 0x0, .any⟩]⟩,
  -- BMI_MEP (R150)
  ⟨0x60110124, [(0x10, 0x40)], false, true, false, .plain,
    [⟨0, 32, .ro, 0x0, .any⟩]⟩,
  -- BMI_IST (R151)
  ⟨0x60110128, [(0x10, 0x40)], false, true, false, .plain,
    [⟨0, 1, .w1c, 0x0, .any⟩, ⟨1, 1, .w1c, 0x0, .any⟩, ⟨2, 1, .w1c, 0x0, .any⟩, ⟨3, 1, .w1c, 0x0, .any⟩, ⟨4, 1, .ro, 0x0, .any⟩, ⟨5, 1, .ro, 0x0, .any⟩, ⟨6, 1, .w1c, 0x0, .any⟩, ⟨7, 1, .w1c, 0x0, .any⟩]⟩,
  -- BMI_IMDC (R156)
  ⟨0x60110500, [(0x4, 0x10)], false, true, false, .plain,
    [⟨0, 1, .rw, 0x0, .any⟩, ⟨16, 16, .lk, 0x3E8, .range 100 2000⟩]⟩,
  -- BMI_IMDT (R158)
  ⟨0x60110504, [(0x4, 0x10)], false, true, false, .plain,
    [⟨0, 16, .rw, 0x1F4, .any⟩, ⟨16, 16, .rw, 0x64, .any⟩]⟩,
  -- BMI_IMDR (R157)
  ⟨0x60110508, [(0x4, 0x10)], false, true, false, .plain,
    [⟨0, 16, .ro, 0x0, .any⟩, ⟨16, 16, .ro, 0x0, .any⟩]⟩,
  -- BMI_IMDS (R157)
  ⟨0x6011050C, [(0x4, 0x10)], false, true, false, .plain,
    [⟨0, 16, .ro, 0x0, .any⟩, ⟨16, 8, .ro, 0x0, .any⟩, ⟨24, 1, .ro, 0x0, .any⟩, ⟨25, 1, .ro, 0x0, .any⟩]⟩]

/-- Registers of ACQ. -/
def regsAcq : List RegDef := [
  -- ACQ_CTL (R129)
  ⟨0x60100010, [], true, true, false, .plain,
    [⟨0, 1, .rw, 0x0, .any⟩, ⟨1, 1, .rw, 0x1, .any⟩, ⟨2, 1, .rw, 0x1, .any⟩, ⟨3, 3, .rw, 0x1, .range 0 4⟩]⟩,
  -- ACQ_CLOSE (R15)
  ⟨0x60100014, [], true, true, false, .plain,
    [⟨0, 10, .rw, 0x0, .any⟩]⟩,
  -- ACQ_OWCFG (R138)
  ⟨0x60100018, [], true, true, false, .plain,
    [⟨0, 8, .lk, 0x14, .range 1 255⟩, ⟨8, 8, .lk, 0xA, .range 1 255⟩, ⟨16, 8, .lk, 0x32, .any⟩]⟩,
  -- ACQ_TIMCFG (R135)
  ⟨0x6010001C, [], true, true, false, .plain,
    [⟨0, 10, .lk, 0xFA, .range 50 1000⟩]⟩,
  -- ACQ_TMAP0 (R137)
  ⟨0x60100020, [], true, true, false, .plain,
    [⟨0, 24, .lk, 0x489200, .any⟩]⟩,
  -- ACQ_TMAP1 (R137)
  ⟨0x60100024, [], true, true, false, .plain,
    [⟨0, 24, .lk, 0xB246DA, .any⟩]⟩,
  -- ACQ_TMAP2 (R137)
  ⟨0x60100028, [], true, true, false, .plain,
    [⟨0, 24, .lk, 0xFFEDAD, .any⟩]⟩,
  -- ACQ_LCE (R154)
  ⟨0x60100030, [], true, true, false, .plain,
    [⟨0, 1, .rw, 0x0, .any⟩, ⟨16, 16, .rw, 0x1F4, .any⟩]⟩,
  -- ACQ_LCST (R154)
  ⟨0x60100034, [], true, true, false, .plain,
    [⟨0, 16, .ro, 0x0, .any⟩, ⟨16, 1, .ro, 0x0, .any⟩]⟩,
  -- ACQ_MIDVAL (R143)
  ⟨0x60100040, [], true, true, false, .plain,
    [⟨0, 32, .rw, 0x0, .any⟩]⟩,
  -- ACQ_MIDLD (R143)
  ⟨0x60100044, [], true, true, false, .plain,
    [⟨0, 13, .wo, 0x0, .any⟩, ⟨16, 1, .wo, 0x0, .any⟩]⟩,
  -- ACQ_EVT (R134)
  ⟨0x60100050, [], true, true, false, .plain,
    [⟨0, 1, .w1c, 0x0, .any⟩, ⟨1, 1, .w1c, 0x0, .any⟩, ⟨2, 1, .w1c, 0x0, .any⟩, ⟨3, 1, .w1c, 0x0, .any⟩, ⟨4, 1, .w1c, 0x0, .any⟩, ⟨5, 1, .w1c, 0x0, .any⟩, ⟨6, 1, .w1c, 0x0, .any⟩, ⟨7, 1, .w1c, 0x0, .any⟩, ⟨8, 1, .w1c, 0x0, .any⟩, ⟨9, 1, .w1c, 0x0, .any⟩, ⟨10, 1, .w1c, 0x0, .any⟩, ⟨11, 1, .w1c, 0x0, .any⟩, ⟨12, 1, .w1c, 0x0, .any⟩, ⟨13, 1, .w1c, 0x0, .any⟩]⟩,
  -- ACQ_EVNODE (R139)
  ⟨0x60100054, [], true, true, false, .plain,
    [⟨0, 13, .ro, 0x0, .any⟩, ⟨16, 5, .ro, 0x0, .any⟩]⟩,
  -- ACQ_LASTEP (R134)
  ⟨0x60100058, [], true, true, false, .plain,
    [⟨0, 32, .ro, 0x0, .any⟩]⟩,
  -- ACQ_LATECNT (R131)
  ⟨0x60100060, [], true, true, false, (.c32 0),
    [⟨0, 32, .cnt, 0x0, .any⟩]⟩,
  -- ACQ_DROPCNT (R17)
  ⟨0x60100064, [], true, true, false, (.c32 1),
    [⟨0, 32, .cnt, 0x0, .any⟩]⟩,
  -- ACQ_DUPCNT (R132)
  ⟨0x60100068, [], true, true, false, (.c32 2),
    [⟨0, 32, .cnt, 0x0, .any⟩]⟩,
  -- ACQ_CELLEVCNT (R138)
  ⟨0x6010006C, [], true, true, false, (.c32 3),
    [⟨0, 32, .cnt, 0x0, .any⟩]⟩,
  -- ACQ_LOCK (R10)
  ⟨0x60100070, [], true, true, false, .plain,
    [⟨0, 1, .w1s, 0x0, .any⟩]⟩]

/-- Registers of SCR. -/
def regsScr : List RegDef := [
  -- SCR_CTL (R174)
  ⟨0x60120010, [], true, true, false, .plain,
    [⟨0, 1, .rw, 0x0, .any⟩]⟩,
  -- SCR_ST (R169)
  ⟨0x60120014, [], true, true, false, .plain,
    [⟨0, 2, .ro, 0x0, .any⟩, ⟨2, 1, .ro, 0x0, .any⟩, ⟨3, 1, .ro, 0x0, .any⟩, ⟨4, 7, .ro, 0x40, .any⟩, ⟨11, 3, .ro, 0x0, .any⟩, ⟨14, 1, .ro, 0x0, .any⟩]⟩,
  -- SCR_ROWS (R168)
  ⟨0x60120018, [], true, true, false, .plain,
    [⟨0, 18, .lk, 0x30000, .any⟩]⟩,
  -- SCR_KSEL (R171)
  ⟨0x6012001C, [], true, true, false, .plain,
    [⟨0, 3, .lk, 0x0, .any⟩]⟩,
  -- SCR_KLD (R170)
  ⟨0x60120020, [], true, true, false, .plain,
    [⟨0, 3, .wo, 0x0, .any⟩, ⟨8, 1, .wo, 0x0, .any⟩, ⟨24, 8, .wo, 0x0, .any⟩]⟩,
  -- SCR_KSRC (R170)
  ⟨0x60120024, [], true, true, false, .plain,
    [⟨0, 32, .rw, 0x0, .any⟩]⟩,
  -- SCR_KLST (R170)
  ⟨0x60120028, [], true, true, false, .plain,
    [⟨0, 8, .ro, 0x0, .any⟩, ⟨8, 1, .ro, 0x0, .any⟩, ⟨24, 8, .ro, 0x0, .any⟩]⟩,
  -- SCR_FENCE (R175)
  ⟨0x6012002C, [], false, false, false, .plain,
    [⟨0, 8, .w1s, 0x0, .any⟩]⟩,
  -- SCR_SWT (R168)
  ⟨0x60120030, [], true, true, false, .plain,
    [⟨0, 32, .ro, 0x0, .any⟩]⟩,
  -- SCR_SWEP (R168)
  ⟨0x60120034, [], true, true, false, .plain,
    [⟨0, 32, .ro, 0x0, .any⟩]⟩,
  -- SCR_EVT (R166)
  ⟨0x60120038, [], true, true, false, .plain,
    [⟨0, 1, .w1c, 0x0, .any⟩, ⟨1, 1, .w1c, 0x0, .any⟩, ⟨2, 1, .w1c, 0x0, .any⟩, ⟨3, 1, .w1c, 0x0, .any⟩, ⟨4, 1, .w1c, 0x0, .any⟩, ⟨5, 1, .w1c, 0x0, .any⟩, ⟨6, 1, .w1c, 0x0, .any⟩, ⟨7, 1, .w1c, 0x0, .any⟩]⟩,
  -- SCR_KINFO (R170)
  ⟨0x60120040, [(0x8, 0x4)], true, true, false, .plain,
    [⟨0, 10, .ro, 0x0, .any⟩, ⟨16, 10, .ro, 0x0, .any⟩, ⟨30, 1, .ro, 0x0, .any⟩, ⟨31, 1, .ro, 0x0, .any⟩]⟩,
  -- SCR_JOB (R174)
  ⟨0x60120060, [], true, true, false, .plain,
    [⟨0, 3, .wo, 0x0, .any⟩, ⟨3, 1, .wo, 0x0, .any⟩, ⟨24, 8, .wo, 0x0, .any⟩]⟩,
  -- SCR_JROW (R174)
  ⟨0x60120064, [], true, true, false, .plain,
    [⟨0, 18, .rw, 0x0, .any⟩]⟩,
  -- SCR_JCNT (R174)
  ⟨0x60120068, [], true, true, false, .plain,
    [⟨0, 18, .rw, 0x0, .any⟩]⟩,
  -- SCR_JST (R174)
  ⟨0x6012006C, [], true, true, false, .plain,
    [⟨0, 8, .ro, 0x0, .any⟩, ⟨8, 1, .ro, 0x0, .any⟩, ⟨9, 18, .ro, 0x0, .any⟩]⟩,
  -- SCR_RESCNT (R166)
  ⟨0x60120080, [(0x8, 0x4)], true, true, false, .c16,
    [⟨0, 16, .cnt, 0x0, .any⟩, ⟨31, 1, .ro, 0x0, .any⟩]⟩,
  -- SCR_LOCK (R10)
  ⟨0x601200A0, [], true, true, false, .plain,
    [⟨0, 1, .w1s, 0x0, .any⟩]⟩,
  -- SCR_LUTA (R173)
  ⟨0x60120100, [], true, true, false, .plain,
    [⟨0, 10, .rw, 0x0, .any⟩, ⟨16, 6, .rw, 0x0, .any⟩, ⟨31, 1, .rw, 0x0, .any⟩]⟩,
  -- SCR_LUTD (R173)
  ⟨0x60120104, [], true, true, false, .plain,
    [⟨0, 32, .rw, 0x0, .any⟩]⟩,
  -- SCR_LUTX (R172)
  ⟨0x60120200, [(0x40, 0x8)], false, false, false, .plain,
    [⟨0, 32, .rw, 0x0, .any⟩]⟩,
  -- SCR_LUTS (R172)
  ⟨0x60120204, [(0x40, 0x8)], false, false, false, .plain,
    [⟨0, 5, .rw, 0x0, .range 0 24⟩]⟩]

/-- Registers of PUB. -/
def regsPub : List RegDef := [
  -- PUB_CTL (R179)
  ⟨0x60130010, [], false, true, false, .plain,
    [⟨0, 1, .rw, 0x0, .any⟩]⟩,
  -- PUB_GLIDE (R178)
  ⟨0x60130014, [], false, true, false, .plain,
    [⟨0, 16, .lk, 0x2CB, .range 0 715⟩, ⟨16, 16, .lk, 0x597, .range 1 1431⟩]⟩,
  -- PUB_DBAND (R177)
  ⟨0x60130018, [], false, true, false, .plain,
    [⟨0, 16, .lk, 0x14, .range 1 1000⟩]⟩,
  -- PUB_UVF (R178)
  ⟨0x6013001C, [], false, true, false, .plain,
    [⟨0, 16, .lk, 0x61A8, .any⟩]⟩,
  -- PUB_SLEW (R180)
  ⟨0x60130020, [], false, true, false, .plain,
    [⟨0, 16, .lk, 0x64, .range 0 10000⟩, ⟨16, 16, .lk, 0x1F4, .range 0 10000⟩]⟩,
  -- PUB_STALE (R182)
  ⟨0x60130024, [], false, true, false, .plain,
    [⟨0, 13, .lk, 0x1F4, .range 50 5000⟩]⟩,
  -- PUB_LGT (R184)
  ⟨0x60130028, [], false, true, false, .plain,
    [⟨0, 16, .lk, 0x280, .any⟩, ⟨16, 16, .lk, 0xA00, .any⟩]⟩,
  -- PUB_LGR (R184)
  ⟨0x6013002C, [], false, true, false, .plain,
    [⟨0, 8, .lk, 0x32, .range 1 255⟩, ⟨16, 16, .lk, 0x0, .any⟩]⟩,
  -- PUB_CEP (R181)
  ⟨0x60130030, [], false, true, false, .plain,
    [⟨0, 32, .ro, 0x0, .any⟩]⟩,
  -- PUB_EVT (R182)
  ⟨0x60130034, [], true, true, false, .plain,
    [⟨0, 1, .w1c, 0x0, .any⟩, ⟨1, 1, .w1c, 0x0, .any⟩, ⟨2, 1, .w1c, 0x0, .any⟩, ⟨3, 1, .w1c, 0x0, .any⟩, ⟨4, 1, .w1c, 0x0, .any⟩]⟩,
  -- PUB_LOCK (R10)
  ⟨0x60130038, [], false, true, false, .plain,
    [⟨0, 1, .w1s, 0x0, .any⟩]⟩,
  -- PUB_BCAP (R181)
  ⟨0x60130040, [(0x4, 0x4)], false, true, false, .plain,
    [⟨0, 16, .lk, 0xFFFF, .any⟩, ⟨16, 16, .lk, 0xFFFF, .any⟩]⟩,
  -- PUB_BLIMC (R181)
  ⟨0x60130050, [(0x4, 0x8)], false, true, false, .plain,
    [⟨0, 32, .ro, 0x0, .any⟩]⟩,
  -- PUB_BLIMD (R181)
  ⟨0x60130054, [(0x4, 0x8)], false, true, false, .plain,
    [⟨0, 32, .ro, 0x0, .any⟩]⟩,
  -- PUB_NOSOCCNT (R176)
  ⟨0x60130070, [], true, true, false, (.c32 0),
    [⟨0, 32, .cnt, 0x0, .any⟩]⟩,
  -- PUB_STR (R84)
  ⟨0x60131000, [(0x200, 0x4)], false, true, false, .plain,
    [⟨0, 13, .lk, 0x0, .any⟩, ⟨13, 2, .lk, 0x0, .any⟩, ⟨15, 1, .lk, 0x0, .any⟩]⟩,
  -- PUB_SLIM (R180)
  ⟨0x60131800, [(0x200, 0x4)], false, true, false, .plain,
    [⟨0, 16, .ro, 0x0, .any⟩, ⟨16, 16, .ro, 0x0, .any⟩]⟩,
  -- PUB_LGS (R183)
  ⟨0x60132000, [(0x200, 0x4)], true, true, false, .plain,
    [⟨0, 2, .ro, 0x2, .any⟩, ⟨2, 1, .ro, 0x0, .any⟩, ⟨3, 5, .ro, 0x4, .any⟩]⟩]

/-- Registers of REF. -/
def regsRef1 : List RegDef := [
  -- REF_CTL (R238)
  ⟨0x60140010, [], false, false, false, .plain,
    [⟨0, 1, .w1s, 0x0, .any⟩, ⟨1, 1, .wo, 0x0, .any⟩]⟩,
  -- REF_ST (R237)
  ⟨0x60140014, [], false, false, false, .plain,
    [⟨0, 1, .ro, 0x0, .any⟩, ⟨1, 1, .ro, 0x0, .any⟩, ⟨2, 1, .ro, 0x1, .any⟩, ⟨3, 1, .ro, 0x0, .any⟩, ⟨4, 1, .ro, 0x0, .any⟩, ⟨8, 8, .ro, 0x0, .any⟩, ⟨16, 4, .ro, 0x0, .any⟩]⟩,
  -- REF_UNLK (R240)
  ⟨0x60140018, [], false, false, false, .plain,
    [⟨0, 32, .wo, 0x0, .any⟩]⟩,
  -- REF_DIR (R223)
  ⟨0x6014001C, [], false, false, false, .plain,
    [⟨0, 16, .lk, 0x5, .any⟩]⟩,
  -- REF_TADDR (R239)
  ⟨0x60140020, [], false, false, false, .plain,
    [⟨0, 12, .rw, 0x0, .any⟩]⟩,
  -- REF_TCMP (R239)
  ⟨0x60140024, [], false, false, false, .plain,
    [⟨0, 32, .rw, 0x0, .any⟩]⟩,
  -- REF_TNEW (R239)
  ⟨0x60140028, [], false, false, false, .plain,
    [⟨0, 32, .rw, 0x0, .any⟩]⟩,
  -- REF_TGO (R239)
  ⟨0x6014002C, [], false, false, false, .plain,
    [⟨0, 1, .wo, 0x0, .any⟩, ⟨24, 8, .wo, 0x0, .any⟩]⟩,
  -- REF_TST (R239)
  ⟨0x60140030, [], false, false, false, .plain,
    [⟨0, 8, .ro, 0x0, .any⟩, ⟨8, 3, .ro, 0x0, .any⟩, ⟨24, 8, .ro, 0x0, .any⟩]⟩,
  -- REF_CSTAT (R229)
  ⟨0x60140040, [], false, false, false, .plain,
    [⟨0, 15, .w1c, 0x0, .any⟩, ⟨15, 1, .w1c, 0x0, .any⟩, ⟨16, 1, .w1c, 0x0, .any⟩, ⟨17, 1, .w1c, 0x0, .any⟩, ⟨18, 1, .w1c, 0x0, .any⟩, ⟨19, 1, .w1c, 0x0, .any⟩]⟩,
  -- REF_LAST (R229)
  ⟨0x60140044, [], false, false, false, .plain,
    [⟨0, 5, .ro, 0x0, .any⟩, ⟨5, 2, .ro, 0x0, .any⟩, ⟨8, 9, .ro, 0x0, .any⟩, ⟨17, 2, .ro, 0x0, .any⟩, ⟨19, 13, .ro, 0x0, .any⟩]⟩,
  -- REF_LASTC (R229)
  ⟨0x60140048, [], false, false, false, .plain,
    [⟨0, 5, .ro, 0x0, .any⟩, ⟨16, 16, .ro, 0x0, .any⟩]⟩,
  -- REF_LASTEP (R229)
  ⟨0x6014004C, [], false, false, false, .plain,
    [⟨0, 32, .ro, 0x0, .any⟩]⟩,
  -- REF_PEN (R230)
  ⟨0x60140080, [(0x10, 0x4)], false, false, false, .plain,
    [⟨0, 32, .ro, 0x0, .any⟩]⟩,
  -- REF_PENCLR (R233)
  ⟨0x601400C0, [], false, false, false, .plain,
    [⟨0, 9, .wo, 0x0, .any⟩, ⟨9, 1, .wo, 0x0, .any⟩, ⟨16, 1, .wo, 0x0, .any⟩]⟩,
  -- REF_BCLR (R234)
  ⟨0x601400C4, [], false, false, false, .plain,
    [⟨0, 2, .wo, 0x0, .any⟩, ⟨8, 1, .wo, 0x0, .any⟩]⟩,
  -- REF_LOCK (R10)
  ⟨0x601400C8, [], false, false, false, .plain,
    [⟨0, 1, .w1s, 0x0, .any⟩]⟩,
  -- REF_ACTCNT (R229)
  ⟨0x60140100, [(0xF, 0x4)], false, false, false, .c16,
    [⟨0, 16, .cnt, 0x0, .any⟩, ⟨31, 1, .ro, 0x0, .any⟩]⟩,
  -- REF_CHCNT (R216)
  ⟨0x6014013C, [], false, false, false, .c16,
    [⟨0, 16, .cnt, 0x0, .any⟩, ⟨31, 1, .ro, 0x0, .any⟩]⟩,
  -- REF_NMAP (R219)
  ⟨0x60142000, [(0x1000, 0x4)], false, false, false, .plain,
    [⟨0, 9, .lk, 0x0, .any⟩, ⟨15, 1, .lk, 0x0, .any⟩, ⟨16, 9, .lk, 0x0, .any⟩, ⟨31, 1, .lk, 0x0, .any⟩]⟩,
  -- REF_SMAP (R219)
  ⟨0x60146000, [(0x200, 0x4)], false, false, false, .plain,
    [⟨0, 13, .lk, 0x0, .any⟩, ⟨13, 2, .lk, 0x0, .any⟩, ⟨15, 1, .lk, 0x0, .any⟩, ⟨16, 7, .lk, 0x0, .any⟩, ⟨23, 8, .lk, 0x0, .range 1 128⟩]⟩,
  -- REF_SLIM0 (R220)
  ⟨0x60148000, [(0x200, 0x10)], false, false, false, .plain,
    [⟨0, 16, .ro, 0x0, .any⟩, ⟨16, 16, .ro, 0xFFFF, .any⟩]⟩,
  -- REF_SLIM1 (R220)
  ⟨0x60148004, [(0x200, 0x10)], false, false, false, .plain,
    [⟨0, 16, .ro, 0x8000, .any⟩, ⟨16, 16, .ro, 0x8000, .any⟩]⟩,
  -- REF_SLIM2 (R220)
  ⟨0x60148008, [(0x200, 0x10)], false, false, false, .plain,
    [⟨0, 16, .ro, 0x7FFF, .any⟩, ⟨16, 16, .ro, 0x8000, .any⟩]⟩]

/-- Registers of REF. -/
def regsRef2 : List RegDef := [
  -- REF_SLIM3 (R220)
  ⟨0x6014800C, [(0x200, 0x10)], false, false, false, .plain,
    [⟨0, 16, .ro, 0x0, .any⟩, ⟨16, 16, .ro, 0xFFFF, .any⟩]⟩,
  -- REF_BLIM0 (R220)
  ⟨0x6014A000, [(0x4, 0x10)], false, false, false, .plain,
    [⟨0, 16, .ro, 0x0, .any⟩, ⟨16, 16, .ro, 0x0, .any⟩]⟩,
  -- REF_BLIM1 (R220)
  ⟨0x6014A004, [(0x4, 0x10)], false, false, false, .plain,
    [⟨0, 16, .ro, 0x0, .any⟩, ⟨16, 16, .ro, 0x0, .any⟩]⟩,
  -- REF_BLIM2 (R220)
  ⟨0x6014A008, [(0x4, 0x10)], false, false, false, .plain,
    [⟨0, 16, .ro, 0x1, .any⟩]⟩,
  -- REF_BLIM3 (R220)
  ⟨0x6014A00C, [(0x4, 0x10)], false, false, false, .plain,
    []⟩,
  -- REF_ESC (R228)
  ⟨0x6014A040, [], false, false, false, .plain,
    [⟨0, 30, .ro, 0x2AA555AA, .any⟩]⟩,
  -- REF_MISSC (R226)
  ⟨0x6014A044, [], false, false, false, .plain,
    [⟨0, 4, .ro, 0x3, .any⟩]⟩]

/-- Registers of REF. -/
def regsRef : List RegDef := regsRef1 ++ regsRef2

/-- Registers of CTD. -/
def regsCtd : List RegDef := [
  -- CTD_CTL (R465)
  ⟨0x60150010, [], false, true, true, .plain,
    [⟨0, 1, .rw, 0x0, .any⟩, ⟨1, 2, .lk, 0x0, .range 0 2⟩]⟩,
  -- CTD_LOCK (R10)
  ⟨0x60150014, [], false, false, false, .plain,
    [⟨0, 1, .w1s, 0x0, .any⟩]⟩,
  -- CTD_SHD (R266)
  ⟨0x60150018, [], false, true, true, .plain,
    [⟨0, 12, .rw, 0x0, .any⟩]⟩,
  -- CTD_SHDREL (R267)
  ⟨0x6015001C, [], false, true, true, .plain,
    [⟨0, 12, .ro, 0x0, .any⟩]⟩,
  -- CTD_BCMD (R256)
  ⟨0x60150020, [(0x4, 0x4)], false, true, true, .plain,
    [⟨0, 3, .wo, 0x0, .any⟩, ⟨8, 1, .wo, 0x0, .any⟩, ⟨24, 8, .wo, 0x0, .any⟩]⟩,
  -- CTD_BST (R256)
  ⟨0x60150030, [(0x4, 0x4)], false, false, true, .plain,
    [⟨0, 4, .ro, 0x0, .any⟩, ⟨4, 3, .ro, 0x0, .any⟩, ⟨7, 1, .ro, 0x0, .any⟩, ⟨8, 4, .ro, 0x0, .any⟩, ⟨12, 4, .ro, 0x0, .any⟩, ⟨16, 8, .ro, 0x0, .any⟩, ⟨24, 8, .ro, 0x0, .any⟩]⟩,
  -- CTD_PCT (R258)
  ⟨0x60150100, [(0x4, 0x40)], false, true, true, .plain,
    [⟨0, 16, .lk, 0xC8, .range 10 10000⟩, ⟨16, 8, .lk, 0x5F, .range 90 99⟩, ⟨24, 8, .lk, 0x14, .range 1 100⟩]⟩,
  -- CTD_PCV (R258)
  ⟨0x60150104, [(0x4, 0x40)], false, true, true, .plain,
    [⟨0, 16, .lk, 0x1F4, .range 1 65535⟩, ⟨16, 16, .lk, 0x64, .any⟩]⟩,
  -- CTD_PCR (R260)
  ⟨0x60150108, [(0x4, 0x40)], false, true, true, .plain,
    [⟨0, 16, .lk, 0xC8, .range 1 65535⟩, ⟨16, 16, .lk, 0x190, .range 1 65535⟩]⟩,
  -- CTD_PCM (R260)
  ⟨0x6015010C, [(0x4, 0x40)], false, true, true, .plain,
    [⟨0, 16, .lk, 0x258, .range 1 65535⟩, ⟨16, 8, .lk, 0x3C, .range 1 250⟩]⟩,
  -- CTD_PTMP (R260)
  ⟨0x60150110, [(0x4, 0x40)], false, false, true, .plain,
    [⟨0, 16, .ro, 0x0, .any⟩, ⟨16, 16, .ro, 0x0, .any⟩]⟩,
  -- CTD_OPN (R261)
  ⟨0x60150114, [(0x4, 0x40)], false, true, true, .plain,
    [⟨0, 8, .lk, 0x14, .range 10 200⟩, ⟨16, 16, .lk, 0xA, .any⟩]⟩,
  -- CTD_WLD (R262)
  ⟨0x60150118, [(0x4, 0x40)], false, true, true, .plain,
    [⟨0, 16, .lk, 0x14, .range 1 1000⟩, ⟨16, 8, .lk, 0xA, .range 5 100⟩, ⟨24, 8, .lk, 0x5, .range 1 255⟩]⟩,
  -- CTD_BEVT (R259)
  ⟨0x6015011C, [(0x4, 0x40)], false, true, true, .plain,
    [⟨0, 1, .w1c, 0x0, .any⟩, ⟨1, 1, .w1c, 0x0, .any⟩, ⟨2, 1, .w1c, 0x0, .any⟩, ⟨3, 1, .w1c, 0x0, .any⟩]⟩,
  -- CTD_OCNT (R261)
  ⟨0x60150120, [(0x4, 0x40)], false, true, true, .c16,
    [⟨0, 16, .cnt, 0x0, .any⟩, ⟨31, 1, .ro, 0x0, .any⟩]⟩,
  -- CTD_DCFG (R249)
  ⟨0x60150400, [(0xC, 0x20)], false, true, true, .plain,
    [⟨0, 9, .lk, 0xFA, .range 50 400⟩, ⟨9, 8, .lk, 0x64, .range 20 200⟩, ⟨17, 8, .lk, 0x32, .range 20 150⟩, ⟨25, 1, .lk, 0x1, .any⟩, ⟨26, 1, .lk, 0x0, .any⟩, ⟨27, 1, .lk, 0x0, .any⟩, ⟨28, 4, .lk, 0x5, .range 1 15⟩]⟩,
  -- CTD_DST (R246)
  ⟨0x60150404, [(0xC, 0x20)], false, false, true, .plain,
    [⟨0, 11, .ro, 0x0, .any⟩, ⟨12, 3, .ro, 0x0, .any⟩, ⟨15, 1, .ro, 0x1, .any⟩, ⟨16, 1, .ro, 0x0, .any⟩, ⟨17, 1, .ro, 0x0, .any⟩, ⟨18, 1, .ro, 0x0, .any⟩]⟩,
  -- CTD_DEVT (R253)
  ⟨0x60150408, [(0xC, 0x20)], false, true, true, .plain,
    [⟨0, 1, .w1c, 0x0, .any⟩, ⟨1, 1, .w1c, 0x0, .any⟩, ⟨2, 1, .w1c, 0x0, .any⟩, ⟨3, 1, .w1c, 0x0, .any⟩, ⟨4, 1, .w1c, 0x0, .any⟩, ⟨5, 1, .w1c, 0x0, .any⟩, ⟨6, 1, .w1c, 0x0, .any⟩, ⟨7, 1, .w1c, 0x0, .any⟩]⟩,
  -- CTD_DARMT (R250)
  ⟨0x6015040C, [(0xC, 0x20)], false, true, true, .plain,
    [⟨0, 16, .ro, 0x0, .any⟩]⟩,
  -- CTD_DQCNT (R252)
  ⟨0x60150410, [(0xC, 0x20)], false, true, true, .c16,
    [⟨0, 16, .cnt, 0x0, .any⟩, ⟨31, 1, .ro, 0x0, .any⟩]⟩]

/-- Registers of CPX. -/
def regsCpx : List RegDef := [
  -- CPX_PST (R314)
  ⟨0x60050010, [(0x2, 0x20)], true, false, false, .plain,
    [⟨0, 2, .ro, 0x0, .any⟩, ⟨2, 1, .ro, 0x0, .any⟩, ⟨3, 1, .ro, 0x0, .any⟩]⟩,
  -- CPX_RCAUSE (R310)
  ⟨0x60050014, [(0x2, 0x20)], false, false, false, .plain,
    [⟨0, 1, .w1c, 0x0, .any⟩, ⟨1, 1, .w1c, 0x0, .any⟩, ⟨2, 1, .w1c, 0x0, .any⟩, ⟨3, 1, .w1c, 0x0, .any⟩, ⟨4, 1, .w1c, 0x0, .any⟩, ⟨5, 1, .w1c, 0x0, .any⟩, ⟨6, 1, .w1c, 0x0, .any⟩, ⟨7, 1, .w1c, 0x0, .any⟩, ⟨16, 4, .ro, 0x0, .any⟩]⟩,
  -- CPX_RCNT (R311)
  ⟨0x60050018, [(0x2, 0x20)], false, false, false, .c16,
    [⟨0, 16, .cnt, 0x0, .any⟩, ⟨31, 1, .ro, 0x0, .any⟩]⟩,
  -- CPX_RGEN (R312)
  ⟨0x6005001C, [(0x2, 0x20)], false, false, false, .plain,
    [⟨0, 8, .ro, 0x0, .any⟩]⟩,
  -- CPX_WDT (R313)
  ⟨0x60050020, [(0x2, 0x20)], true, false, false, .plain,
    [⟨0, 10, .lk, 0x64, .range 1 1000⟩, ⟨16, 1, .lk, 0x0, .any⟩]⟩,
  -- CPX_SCRB (R305)
  ⟨0x60050024, [(0x2, 0x20)], true, false, false, .plain,
    [⟨0, 16, .ro, 0x0, .any⟩, ⟨16, 10, .ro, 0x0, .any⟩]⟩,
  -- CPX_SCOR (R306)
  ⟨0x60050028, [(0x2, 0x20)], true, false, false, .c16,
    [⟨0, 16, .cnt, 0x0, .any⟩, ⟨31, 1, .ro, 0x0, .any⟩]⟩,
  -- CPX_SRAMP (R300)
  ⟨0x60050060, [], true, false, false, .plain,
    [⟨0, 9, .lk, 0x100, .range 0 384⟩]⟩,
  -- CPX_OWNV (R28)
  ⟨0x60050064, [], false, false, false, .c16,
    [⟨0, 16, .cnt, 0x0, .any⟩, ⟨31, 1, .ro, 0x0, .any⟩]⟩,
  -- CPX_OWNVA (R28)
  ⟨0x60050068, [], false, false, false, .plain,
    [⟨0, 32, .ro, 0x0, .any⟩]⟩,
  -- CPX_OWNVP (R28)
  ⟨0x60050074, [], false, false, false, .plain,
    [⟨0, 1, .ro, 0x0, .any⟩, ⟨1, 2, .ro, 0x0, .any⟩, ⟨3, 2, .ro, 0x0, .any⟩, ⟨5, 1, .ro, 0x0, .any⟩]⟩,
  -- CPX_EVT (R314)
  ⟨0x6005006C, [], true, false, false, .plain,
    [⟨0, 1, .w1c, 0x0, .any⟩, ⟨1, 1, .w1c, 0x0, .any⟩, ⟨2, 1, .w1c, 0x0, .any⟩, ⟨3, 1, .w1c, 0x0, .any⟩, ⟨4, 1, .w1c, 0x0, .any⟩, ⟨5, 1, .w1c, 0x0, .any⟩]⟩,
  -- CPX_LOCK (R10)
  ⟨0x60050070, [], true, false, false, .plain,
    [⟨0, 1, .w1s, 0x0, .any⟩]⟩]

/-- Registers of INT. -/
def regsInt : List RegDef := [
  -- INT_RAW (R316)
  ⟨0x60060100, [(0x8, 0x4)], true, false, false, .plain,
    [⟨0, 32, .ro, 0x0, .any⟩]⟩,
  -- INT_ENA0 (R59)
  ⟨0x60060400, [], true, false, false, .plain,
    [⟨0, 16, .lk, 0xFFFF, .any⟩, ⟨16, 16, .rw, 0x0, .any⟩]⟩,
  -- INT_ENA5 (R59)
  ⟨0x60060414, [], true, false, false, .plain,
    [⟨0, 8, .rw, 0x0, .any⟩, ⟨8, 24, .lk, 0xFFFFFF, .any⟩]⟩,
  -- INT_ENA6 (R59)
  ⟨0x60060418, [], true, false, false, .plain,
    [⟨0, 4, .lk, 0xF, .any⟩, ⟨4, 28, .rw, 0x0, .any⟩]⟩,
  -- INT_EN (R316)
  ⟨0x60060400, [(0x2, 0x400), (0x8, 0x4)], true, false, false, .plain,
    [⟨0, 32, .rw, 0x0, .any⟩]⟩,
  -- INT_PRIA0 (R59)
  ⟨0x60060440, [(0x2, 0x4)], true, false, false, .plain,
    [⟨0, 3, .lk, 0x7, .any⟩, ⟨4, 3, .lk, 0x7, .any⟩, ⟨8, 3, .lk, 0x7, .any⟩, ⟨12, 3, .lk, 0x7, .any⟩, ⟨16, 3, .lk, 0x7, .any⟩, ⟨20, 3, .lk, 0x7, .any⟩, ⟨24, 3, .lk, 0x7, .any⟩, ⟨28, 3, .lk, 0x7, .any⟩]⟩,
  -- INT_PRIA21 (R59)
  ⟨0x60060494, [(0x3, 0x4)], true, false, false, .plain,
    [⟨0, 3, .lk, 0x7, .any⟩, ⟨4, 3, .lk, 0x7, .any⟩, ⟨8, 3, .lk, 0x7, .any⟩, ⟨12, 3, .lk, 0x7, .any⟩, ⟨16, 3, .lk, 0x7, .any⟩, ⟨20, 3, .lk, 0x7, .any⟩, ⟨24, 3, .lk, 0x7, .any⟩, ⟨28, 3, .lk, 0x7, .any⟩]⟩,
  -- INT_PRIA24 (R59)
  ⟨0x600604A0, [], true, false, false, .plain,
    [⟨0, 3, .lk, 0x7, .any⟩, ⟨4, 3, .lk, 0x7, .any⟩, ⟨8, 3, .lk, 0x7, .any⟩, ⟨12, 3, .lk, 0x7, .any⟩, ⟨16, 3, .rw, 0x0, .any⟩, ⟨20, 3, .rw, 0x0, .any⟩, ⟨24, 3, .rw, 0x0, .any⟩, ⟨28, 3, .rw, 0x0, .any⟩]⟩,
  -- INT_PRI (R316)
  ⟨0x60060440, [(0x2, 0x400), (0x20, 0x4)], true, false, false, .plain,
    [⟨0, 3, .rw, 0x0, .any⟩, ⟨4, 3, .rw, 0x0, .any⟩, ⟨8, 3, .rw, 0x0, .any⟩, ⟨12, 3, .rw, 0x0, .any⟩, ⟨16, 3, .rw, 0x0, .any⟩, ⟨20, 3, .rw, 0x0, .any⟩, ⟨24, 3, .rw, 0x0, .any⟩, ⟨28, 3, .rw, 0x0, .any⟩]⟩,
  -- INT_THR (R316)
  ⟨0x600604C0, [(0x2, 0x400)], true, false, false, .plain,
    [⟨0, 4, .rw, 0x0, .range 0 8⟩]⟩,
  -- INT_ACT (R316)
  ⟨0x600604C4, [(0x2, 0x400)], true, false, false, .plain,
    [⟨0, 8, .ro, 0x0, .any⟩, ⟨8, 3, .ro, 0x0, .any⟩, ⟨16, 1, .ro, 0x0, .any⟩]⟩,
  -- INT_SWI (R316)
  ⟨0x600604C8, [(0x2, 0x400)], true, false, false, .plain,
    [⟨0, 1, .w1s, 0x0, .any⟩, ⟨1, 1, .wo, 0x0, .any⟩]⟩,
  -- INT_WDK (R313)
  ⟨0x600604CC, [(0x2, 0x400)], true, false, false, .plain,
    [⟨0, 32, .wo, 0x0, .any⟩]⟩,
  -- INT_LOCK (R59)
  ⟨0x600604D0, [], true, false, false, .plain,
    [⟨0, 1, .w1s, 0x0, .any⟩]⟩]

/-- Registers of THM. -/
def regsThm : List RegDef := [
  -- THM_ST (R329)
  ⟨0x60010010, [], false, false, false, .plain,
    [⟨0, 16, .ro, 0x0, .any⟩, ⟨16, 3, .ro, 0x0, .any⟩, ⟨19, 1, .ro, 0x0, .any⟩, ⟨20, 1, .ro, 0x0, .any⟩, ⟨21, 1, .ro, 0x0, .any⟩]⟩,
  -- THM_MIN (R331)
  ⟨0x60010014, [], false, false, false, .plain,
    [⟨0, 3, .rw, 0x0, .range 0 4⟩]⟩,
  -- THM_SFAIL (R328)
  ⟨0x60010018, [], false, false, false, .plain,
    [⟨0, 18, .ro, 0x0, .any⟩]⟩,
  -- THM_EVT (R331)
  ⟨0x6001001C, [], false, false, false, .plain,
    [⟨0, 1, .w1c, 0x0, .any⟩, ⟨1, 1, .w1c, 0x0, .any⟩, ⟨2, 1, .w1c, 0x0, .any⟩, ⟨3, 1, .w1c, 0x0, .any⟩, ⟨4, 1, .w1c, 0x0, .any⟩]⟩,
  -- THM_LOCK (R10)
  ⟨0x60010020, [], false, false, false, .plain,
    [⟨0, 1, .w1s, 0x0, .any⟩]⟩,
  -- THM_SNS (R327)
  ⟨0x60010040, [(0x4, 0x4)], false, false, false, .plain,
    [⟨0, 16, .ro, 0x0, .any⟩, ⟨16, 3, .ro, 0x0, .any⟩, ⟨19, 1, .ro, 0x0, .any⟩]⟩,
  -- THM_SNS1 (R327)
  ⟨0x60010050, [(0x3, 0x4)], false, false, false, .plain,
    [⟨0, 16, .ro, 0x0, .any⟩, ⟨16, 3, .ro, 0x1, .any⟩, ⟨19, 1, .ro, 0x0, .any⟩]⟩,
  -- THM_SNS2 (R327)
  ⟨0x6001005C, [(0x3, 0x4)], false, false, false, .plain,
    [⟨0, 16, .ro, 0x0, .any⟩, ⟨16, 3, .ro, 0x2, .any⟩, ⟨19, 1, .ro, 0x0, .any⟩]⟩,
  -- THM_SNS3 (R327)
  ⟨0x60010068, [(0x2, 0x4)], false, false, false, .plain,
    [⟨0, 16, .ro, 0x0, .any⟩, ⟨16, 3, .ro, 0x3, .any⟩, ⟨19, 1, .ro, 0x0, .any⟩]⟩,
  -- THM_SNS4 (R327)
  ⟨0x60010070, [(0x4, 0x4)], false, false, false, .plain,
    [⟨0, 16, .ro, 0x0, .any⟩, ⟨16, 3, .ro, 0x4, .any⟩, ⟨19, 1, .ro, 0x0, .any⟩]⟩,
  -- THM_SNS5 (R327)
  ⟨0x60010080, [(0x2, 0x4)], false, false, false, .plain,
    [⟨0, 16, .ro, 0x0, .any⟩, ⟨16, 3, .ro, 0x5, .any⟩, ⟨19, 1, .ro, 0x0, .any⟩]⟩]

/-- Registers of BUD. -/
def regsBud : List RegDef := [
  -- BUD_CTL (R335)
  ⟨0x60020010, [], true, true, false, .plain,
    [⟨0, 1, .rw, 0x0, .any⟩]⟩,
  -- BUD_RSV (R334)
  ⟨0x60020014, [], true, true, false, .plain,
    [⟨0, 6, .lk, 0x14, .range 0 50⟩]⟩,
  -- BUD_EBUD (R335)
  ⟨0x60020018, [], true, true, false, .plain,
    [⟨0, 16, .rw, 0x1F4, .any⟩, ⟨16, 16, .rw, 0x0, .any⟩]⟩,
  -- BUD_BKT (R335)
  ⟨0x6002001C, [], true, true, false, .plain,
    [⟨0, 32, .ro, 0x0, .any⟩]⟩,
  -- BUD_JST (R335)
  ⟨0x60020020, [], true, true, false, .plain,
    [⟨0, 4, .ro, 0x0, .any⟩, ⟨4, 1, .ro, 0x0, .any⟩]⟩,
  -- BUD_LOCK (R10)
  ⟨0x60020024, [], true, true, false, .plain,
    [⟨0, 1, .w1s, 0x0, .any⟩]⟩,
  -- BUD_SLCTL (R338)
  ⟨0x60020040, [], true, true, false, .plain,
    [⟨0, 1, .rw, 0x0, .any⟩, ⟨1, 4, .lk, 0x7, .any⟩, ⟨8, 8, .lk, 0xA, .any⟩, ⟨16, 1, .wo, 0x0, .any⟩]⟩,
  -- BUD_SLST (R338)
  ⟨0x60020044, [], false, false, true, .plain,
    [⟨0, 3, .ro, 0x0, .any⟩]⟩,
  -- BUD_STIME (R337)
  ⟨0x60020048, [], false, false, true, .plain,
    [⟨0, 32, .ro, 0x0, .any⟩]⟩,
  -- BUD_WKT (R337)
  ⟨0x60020050, [(0x4, 0x4)], false, false, true, .plain,
    [⟨0, 32, .rw, 0x0, .any⟩]⟩,
  -- BUD_WKV (R337)
  ⟨0x60020060, [], false, false, true, .plain,
    [⟨0, 4, .rw, 0x0, .any⟩]⟩,
  -- BUD_WKR (R338)
  ⟨0x60020064, [], false, false, true, .plain,
    [⟨0, 3, .ro, 0x0, .any⟩]⟩,
  -- BUD_EVT (R335)
  ⟨0x60020070, [], true, true, false, .plain,
    [⟨0, 1, .w1c, 0x0, .any⟩, ⟨1, 1, .w1c, 0x0, .any⟩, ⟨2, 1, .w1c, 0x0, .any⟩, ⟨3, 1, .w1c, 0x0, .any⟩]⟩,
  -- BUD_QCFG (R335)
  ⟨0x60020100, [(0x10, 0x10)], true, true, false, .plain,
    [⟨0, 3, .rw, 0x0, .any⟩, ⟨3, 1, .rw, 0x0, .any⟩, ⟨4, 1, .rw, 0x0, .any⟩, ⟨16, 16, .rw, 0x0, .any⟩]⟩,
  -- BUD_QROW (R335)
  ⟨0x60020104, [(0x10, 0x10)], true, true, false, .plain,
    [⟨0, 18, .rw, 0x0, .any⟩]⟩,
  -- BUD_QCNT (R335)
  ⟨0x60020108, [(0x10, 0x10)], true, true, false, .plain,
    [⟨0, 18, .rw, 0x0, .any⟩]⟩,
  -- BUD_QVAL (R335)
  ⟨0x6002010C, [(0x10, 0x10)], true, true, false, .plain,
    [⟨0, 16, .rw, 0x0, .any⟩, ⟨16, 8, .ro, 0x0, .any⟩]⟩]

/-- Registers of MTR. -/
def regsMtr1 : List RegDef := [
  -- MTR_CTL (R351)
  ⟨0x60170010, [], false, true, false, .plain,
    [⟨0, 4, .rw, 0x0, .any⟩]⟩,
  -- MTR_FENCE (R358)
  ⟨0x60170014, [], false, false, false, .plain,
    [⟨0, 4, .w1s, 0x0, .any⟩]⟩,
  -- MTR_LOCK (R10)
  ⟨0x60170018, [], false, false, false, .plain,
    [⟨0, 1, .w1s, 0x0, .any⟩]⟩,
  -- MTR_CMD (R351)
  ⟨0x60170100, [(0x4, 0x100)], false, true, false, .plain,
    [⟨0, 3, .wo, 0x0, .any⟩, ⟨24, 8, .wo, 0x0, .any⟩]⟩,
  -- MTR_SREF (R355)
  ⟨0x60170104, [(0x4, 0x100)], false, true, false, .plain,
    [⟨0, 16, .rw, 0x0, .any⟩]⟩,
  -- MTR_RAMP (R353)
  ⟨0x60170108, [(0x4, 0x100)], false, true, false, .plain,
    [⟨0, 16, .rw, 0x12C, .range 1 65535⟩, ⟨16, 16, .rw, 0x12C, .range 1 65535⟩]⟩,
  -- MTR_PWM (R345)
  ⟨0x6017010C, [(0x4, 0x100)], false, true, false, .plain,
    [⟨0, 15, .lk, 0x186A, .range 3125 31250⟩, ⟨16, 10, .lk, 0xFA, .range 25 1000⟩, ⟨26, 1, .lk, 0x0, .any⟩]⟩,
  -- MTR_SMP (R346)
  ⟨0x60170110, [(0x4, 0x100)], false, true, false, .plain,
    [⟨0, 9, .lk, 0xFA, .range 50 500⟩, ⟨12, 4, .lk, 0x4, .range 1 15⟩, ⟨16, 8, .lk, 0xF3, .range 128 250⟩]⟩,
  -- MTR_ISC (R343)
  ⟨0x60170114, [(0x4, 0x100)], false, true, false, .plain,
    [⟨0, 16, .lk, 0x0, .any⟩, ⟨16, 16, .lk, 0x0, .any⟩]⟩,
  -- MTR_RL (R347)
  ⟨0x60170118, [(0x4, 0x100)], false, true, false, .plain,
    [⟨0, 16, .lk, 0x0, .any⟩, ⟨16, 4, .lk, 0x0, .range 1 12⟩, ⟨20, 1, .lk, 0x0, .any⟩]⟩,
  -- MTR_LDQ (R347)
  ⟨0x6017011C, [(0x4, 0x100)], false, true, false, .plain,
    [⟨0, 16, .lk, 0x0, .any⟩, ⟨16, 16, .lk, 0x0, .any⟩]⟩,
  -- MTR_KE (R349)
  ⟨0x60170120, [(0x4, 0x100)], false, true, false, .plain,
    [⟨0, 16, .lk, 0x0, .any⟩]⟩,
  -- MTR_LIM (R347)
  ⟨0x60170124, [(0x4, 0x100)], false, true, false, .plain,
    [⟨0, 16, .lk, 0x0, .any⟩, ⟨16, 16, .lk, 0x0, .any⟩]⟩,
  -- MTR_BUS (R354)
  ⟨0x60170128, [(0x4, 0x100)], false, true, false, .plain,
    [⟨0, 16, .lk, 0x0, .any⟩, ⟨16, 16, .lk, 0x0, .any⟩]⟩,
  -- MTR_BUS2 (R357)
  ⟨0x6017012C, [(0x4, 0x100)], false, true, false, .plain,
    [⟨0, 16, .lk, 0x0, .any⟩, ⟨16, 16, .lk, 0x64, .any⟩]⟩,
  -- MTR_STA (R352)
  ⟨0x60170130, [(0x4, 0x100)], false, true, false, .plain,
    [⟨0, 16, .lk, 0x0, .any⟩, ⟨16, 16, .lk, 0xC8, .any⟩]⟩,
  -- MTR_STB (R352)
  ⟨0x60170134, [(0x4, 0x100)], false, true, false, .plain,
    [⟨0, 16, .lk, 0x0, .any⟩, ⟨16, 16, .lk, 0x12C, .any⟩]⟩,
  -- MTR_HOV (R349)
  ⟨0x60170138, [(0x4, 0x100)], false, true, false, .plain,
    [⟨0, 16, .lk, 0x12C, .any⟩, ⟨16, 8, .lk, 0x14, .range 5 100⟩]⟩,
  -- MTR_HFI (R350)
  ⟨0x6017013C, [(0x4, 0x100)], false, true, false, .plain,
    [⟨0, 11, .lk, 0x3E8, .range 500 2000⟩, ⟨16, 12, .lk, 0x0, .any⟩]⟩,
  -- MTR_CS (R351)
  ⟨0x60170140, [(0x4, 0x100)], false, true, false, .plain,
    [⟨0, 16, .lk, 0x1E, .any⟩, ⟨16, 16, .lk, 0x258, .any⟩]⟩,
  -- MTR_CS2 (R352)
  ⟨0x60170144, [(0x4, 0x100)], false, true, false, .plain,
    [⟨0, 16, .lk, 0x0, .any⟩, ⟨16, 16, .lk, 0x64, .any⟩]⟩,
  -- MTR_GI (R347)
  ⟨0x60170148, [(0x4, 0x100)], false, true, false, .plain,
    [⟨0, 16, .lk, 0x0, .any⟩, ⟨16, 16, .lk, 0x0, .any⟩]⟩,
  -- MTR_GS (R347)
  ⟨0x6017014C, [(0x4, 0x100)], false, true, false, .plain,
    [⟨0, 16, .lk, 0x0, .any⟩, ⟨16, 16, .lk, 0x0, .any⟩]⟩,
  -- MTR_ST (R353)
  ⟨0x60170180, [(0x4, 0x100)], false, true, false, .plain,
    [⟨0, 4, .ro, 0x0, .any⟩, ⟨4, 1, .ro, 0x0, .any⟩, ⟨5, 1, .ro, 0x0, .any⟩, ⟨6, 1, .ro, 0x0, .any⟩, ⟨7, 1, .ro, 0x0, .any⟩, ⟨8, 1, .ro, 0x0, .any⟩, ⟨9, 2, .ro, 0x0, .any⟩, ⟨16, 4, .ro, 0x0, .any⟩]⟩]

/-- Registers of MTR. -/
def regsMtr2 : List RegDef := [
  -- MTR_SPD (R353)
  ⟨0x60170184, [(0x4, 0x100)], false, true, false, .plain,
    [⟨0, 16, .ro, 0x0, .any⟩, ⟨16, 16, .ro, 0x0, .any⟩]⟩,
  -- MTR_IDQ (R347)
  ⟨0x60170188, [(0x4, 0x100)], false, true, false, .plain,
    [⟨0, 16, .ro, 0x0, .any⟩, ⟨16, 16, .ro, 0x0, .any⟩]⟩,
  -- MTR_VB (R346)
  ⟨0x6017018C, [(0x4, 0x100)], false, true, false, .plain,
    [⟨0, 16, .ro, 0x0, .any⟩, ⟨16, 8, .ro, 0x0, .any⟩]⟩,
  -- MTR_UEVT (R353)
  ⟨0x60170190, [(0x4, 0x100)], false, true, false, .plain,
    [⟨0, 1, .w1c, 0x0, .any⟩, ⟨1, 1, .w1c, 0x0, .any⟩, ⟨2, 1, .w1c, 0x0, .any⟩, ⟨3, 1, .w1c, 0x0, .any⟩, ⟨4, 1, .w1c, 0x0, .any⟩, ⟨5, 1, .w1c, 0x0, .any⟩, ⟨6, 1, .w1c, 0x0, .any⟩, ⟨7, 1, .w1c, 0x0, .any⟩, ⟨8, 1, .w1c, 0x0, .any⟩, ⟨9, 1, .w1c, 0x0, .any⟩]⟩,
  -- MTR_SKIPC (R348)
  ⟨0x60170194, [(0x4, 0x100)], false, true, false, .c16,
    [⟨0, 16, .cnt, 0x0, .any⟩, ⟨31, 1, .ro, 0x0, .any⟩]⟩,
  -- MTR_LOSSC (R356)
  ⟨0x60170198, [(0x4, 0x100)], false, true, false, .c16,
    [⟨0, 16, .cnt, 0x0, .any⟩, ⟨31, 1, .ro, 0x0, .any⟩]⟩,
  -- MTR_CSR (R352)
  ⟨0x6017019C, [(0x4, 0x100)], false, true, false, .plain,
    [⟨0, 16, .ro, 0x0, .any⟩, ⟨16, 2, .ro, 0x0, .any⟩]⟩]

/-- Registers of MTR. -/
def regsMtr : List RegDef := regsMtr1 ++ regsMtr2

/-- Registers of LSW. -/
def regsLsw : List RegDef := [
  -- LSW_CTL (R364)
  ⟨0x60160010, [], false, true, true, .plain,
    [⟨0, 1, .rw, 0x0, .any⟩]⟩,
  -- LSW_LOCK (R10)
  ⟨0x60160014, [], false, false, false, .plain,
    [⟨0, 1, .w1s, 0x0, .any⟩]⟩,
  -- LSW_FENCE (R375)
  ⟨0x60160018, [], false, false, true, .plain,
    [⟨0, 16, .w1s, 0x0, .any⟩]⟩,
  -- LSW_SET (R364)
  ⟨0x6016001C, [], false, true, true, .plain,
    [⟨0, 16, .wo, 0x0, .any⟩]⟩,
  -- LSW_CLR (R364)
  ⟨0x60160020, [], false, true, true, .plain,
    [⟨0, 16, .wo, 0x0, .any⟩]⟩,
  -- LSW_LCLR (R368)
  ⟨0x60160024, [], false, true, true, .plain,
    [⟨0, 16, .wo, 0x0, .any⟩]⟩,
  -- LSW_OUT (R364)
  ⟨0x60160028, [], false, true, true, .plain,
    [⟨0, 16, .ro, 0x0, .any⟩]⟩,
  -- LSW_SUP (R372)
  ⟨0x6016002C, [], false, true, true, .plain,
    [⟨0, 2, .ro, 0x0, .any⟩, ⟨2, 2, .ro, 0x0, .any⟩, ⟨4, 2, .ro, 0x0, .any⟩, ⟨6, 2, .ro, 0x0, .any⟩, ⟨8, 1, .ro, 0x0, .any⟩]⟩,
  -- LSW_VSEG (R361)
  ⟨0x60160030, [(0x4, 0x4)], false, true, true, .plain,
    [⟨0, 16, .ro, 0x0, .any⟩]⟩,
  -- LSW_CCFG (R366)
  ⟨0x60160100, [(0x10, 0x20)], false, true, true, .plain,
    [⟨0, 8, .lk, 0xA, .range 1 200⟩, ⟨8, 4, .lk, 0x5, .range 1 15⟩, ⟨12, 2, .lk, 0x0, .range 0 2⟩, ⟨14, 1, .lk, 0x0, .any⟩, ⟨15, 1, .lk, 0x0, .any⟩, ⟨16, 8, .lk, 0x14, .any⟩]⟩,
  -- LSW_CST (R363)
  ⟨0x60160104, [(0x10, 0x20)], false, true, true, .plain,
    [⟨0, 3, .ro, 0x0, .any⟩, ⟨3, 4, .ro, 0x0, .any⟩, ⟨7, 1, .ro, 0x0, .any⟩, ⟨8, 1, .ro, 0x0, .any⟩, ⟨9, 1, .ro, 0x0, .any⟩, ⟨16, 11, .ro, 0x0, .any⟩]⟩,
  -- LSW_CFI (R362)
  ⟨0x60160108, [(0x10, 0x20)], false, true, true, .plain,
    [⟨0, 8, .ro, 0x0, .any⟩]⟩,
  -- LSW_CEVT (R366)
  ⟨0x6016010C, [(0x10, 0x20)], false, true, true, .plain,
    [⟨0, 1, .w1c, 0x0, .any⟩, ⟨1, 1, .w1c, 0x0, .any⟩, ⟨2, 1, .w1c, 0x0, .any⟩, ⟨3, 1, .w1c, 0x0, .any⟩, ⟨4, 1, .w1c, 0x0, .any⟩, ⟨5, 1, .w1c, 0x0, .any⟩, ⟨6, 1, .w1c, 0x0, .any⟩, ⟨7, 1, .w1c, 0x0, .any⟩, ⟨8, 1, .w1c, 0x0, .any⟩, ⟨9, 1, .w1c, 0x0, .any⟩]⟩,
  -- LSW_CLE (R371)
  ⟨0x60160110, [(0x10, 0x20)], false, true, true, .plain,
    [⟨0, 16, .ro, 0x0, .any⟩]⟩,
  -- LSW_CEB (R371)
  ⟨0x60160114, [(0x10, 0x20)], false, true, true, .plain,
    [⟨0, 16, .lk, 0x3E8, .range 1 65535⟩]⟩,
  -- LSW_CEACC (R371)
  ⟨0x60160118, [(0x10, 0x20)], false, false, true, .plain,
    [⟨0, 32, .rw, 0x0, .any⟩]⟩,
  -- LSW_OCCNT (R366)
  ⟨0x6016011C, [(0x10, 0x20)], false, true, true, .c16,
    [⟨0, 16, .cnt, 0x0, .any⟩, ⟨31, 1, .ro, 0x0, .any⟩]⟩]

/-- Registers of CAN. -/
def regsCan1 : List RegDef := [
  -- CAN_CTL (R378)
  ⟨0x60180010, [(0x4, 0x4000)], true, true, false, .plain,
    [⟨0, 1, .rw, 0x1, .any⟩, ⟨1, 1, .rw, 0x0, .any⟩, ⟨2, 1, .rw, 0x0, .any⟩, ⟨3, 1, .rw, 0x0, .any⟩, ⟨4, 1, .rw, 0x0, .any⟩, ⟨5, 1, .rw, 0x0, .any⟩, ⟨6, 1, .rw, 0x0, .any⟩, ⟨7, 1, .rw, 0x0, .any⟩, ⟨8, 1, .rw, 0x0, .any⟩]⟩,
  -- CAN_NTIM (R379)
  ⟨0x60180014, [(0x4, 0x4000)], true, true, false, .plain,
    [⟨0, 8, .lk, 0x1, .any⟩, ⟨8, 8, .lk, 0x3E, .range 1 255⟩, ⟨16, 7, .lk, 0xF, .any⟩, ⟨24, 7, .lk, 0xF, .any⟩]⟩,
  -- CAN_DTIM (R379)
  ⟨0x60180018, [(0x4, 0x4000)], true, true, false, .plain,
    [⟨0, 5, .lk, 0x0, .any⟩, ⟨8, 5, .lk, 0x1C, .any⟩, ⟨16, 4, .lk, 0x9, .any⟩, ⟨24, 4, .lk, 0x9, .any⟩, ⟨31, 1, .lk, 0x0, .any⟩]⟩,
  -- CAN_SSP (R380)
  ⟨0x6018001C, [(0x4, 0x4000)], true, true, false, .plain,
    [⟨0, 7, .lk, 0x0, .any⟩, ⟨8, 7, .lk, 0x0, .any⟩, ⟨16, 7, .ro, 0x0, .any⟩]⟩,
  -- CAN_BST (R386)
  ⟨0x60180020, [(0x4, 0x4000)], true, true, false, .plain,
    [⟨0, 3, .ro, 0x0, .any⟩, ⟨3, 1, .ro, 0x0, .any⟩, ⟨4, 1, .ro, 0x0, .any⟩, ⟨5, 1, .ro, 0x0, .any⟩, ⟨6, 1, .ro, 0x0, .any⟩, ⟨8, 4, .rc, 0x0, .any⟩, ⟨12, 4, .rc, 0x0, .any⟩]⟩,
  -- CAN_ERRC (R386)
  ⟨0x60180024, [(0x4, 0x4000)], true, true, false, .plain,
    [⟨0, 9, .ro, 0x0, .any⟩, ⟨16, 8, .ro, 0x0, .any⟩, ⟨24, 1, .ro, 0x0, .any⟩]⟩,
  -- CAN_EVT (R386)
  ⟨0x60180028, [(0x4, 0x4000)], true, true, false, .plain,
    [⟨0, 1, .w1c, 0x0, .any⟩, ⟨1, 1, .w1c, 0x0, .any⟩, ⟨2, 1, .w1c, 0x0, .any⟩, ⟨3, 1, .w1c, 0x0, .any⟩, ⟨4, 1, .w1c, 0x0, .any⟩, ⟨5, 1, .w1c, 0x0, .any⟩, ⟨6, 1, .w1c, 0x0, .any⟩, ⟨7, 1, .w1c, 0x0, .any⟩, ⟨8, 1, .w1c, 0x0, .any⟩, ⟨9, 1, .w1c, 0x0, .any⟩]⟩,
  -- CAN_ALC (R387)
  ⟨0x6018002C, [(0x4, 0x4000)], true, true, false, .plain,
    [⟨0, 6, .ro, 0x0, .any⟩]⟩,
  -- CAN_FLC (R385)
  ⟨0x60180030, [(0x4, 0x4000)], true, true, false, .plain,
    [⟨0, 9, .lk, 0x0, .range 0 256⟩, ⟨9, 1, .lk, 0x0, .any⟩, ⟨16, 7, .lk, 0x0, .any⟩]⟩,
  -- CAN_IDC (R388)
  ⟨0x60180034, [(0x4, 0x4000)], true, true, false, .plain,
    [⟨0, 4, .rw, 0x3, .range 1 15⟩, ⟨8, 7, .ro, 0x0, .any⟩]⟩,
  -- CAN_TXREQ (R382)
  ⟨0x60180040, [(0x4, 0x4000), (0x4, 0x4)], true, true, false, .plain,
    [⟨0, 32, .w1s, 0x0, .any⟩]⟩,
  -- CAN_TXABT (R382)
  ⟨0x60180050, [(0x4, 0x4000), (0x4, 0x4)], true, true, false, .plain,
    [⟨0, 32, .w1s, 0x0, .any⟩]⟩,
  -- CAN_NEWD (R381)
  ⟨0x60180060, [(0x4, 0x4000), (0x4, 0x4)], true, true, false, .plain,
    [⟨0, 32, .ro, 0x0, .any⟩]⟩,
  -- CAN_RXCNT (R383)
  ⟨0x60180070, [(0x4, 0x4000)], true, true, false, (.c32 0),
    [⟨0, 32, .cnt, 0x0, .any⟩]⟩,
  -- CAN_TXCNT (R382)
  ⟨0x60180074, [(0x4, 0x4000)], true, true, false, (.c32 1),
    [⟨0, 32, .cnt, 0x0, .any⟩]⟩,
  -- CAN_ERRCNT (R386)
  ⟨0x60180078, [(0x4, 0x4000)], true, true, false, (.c32 2),
    [⟨0, 32, .cnt, 0x0, .any⟩]⟩,
  -- CAN_IDCC (R388)
  ⟨0x6018007C, [(0x4, 0x4000)], true, true, false, (.c32 3),
    [⟨0, 32, .cnt, 0x0, .any⟩]⟩,
  -- CAN_LOSTC (R383)
  ⟨0x60180080, [(0x4, 0x4000)], true, true, false, (.c32 4),
    [⟨0, 32, .cnt, 0x0, .any⟩]⟩,
  -- CAN_WKCFG (R389)
  ⟨0x60180090, [(0x4, 0x4000)], false, false, true, .plain,
    [⟨0, 1, .lk, 0x0, .any⟩, ⟨1, 1, .lk, 0x0, .any⟩, ⟨2, 8, .lk, 0xA, .range 1 255⟩, ⟨16, 4, .rw, 0xF, .any⟩]⟩,
  -- CAN_LOCK (R10)
  ⟨0x60180094, [(0x4, 0x4000)], true, true, false, .plain,
    [⟨0, 1, .w1s, 0x0, .any⟩]⟩,
  -- CAN_OCFG (R381)
  ⟨0x60180400, [(0x4, 0x4000), (0x80, 0x60)], true, true, false, .plain,
    [⟨0, 1, .rw, 0x0, .any⟩, ⟨1, 1, .rw, 0x0, .any⟩, ⟨2, 1, .rw, 0x0, .any⟩, ⟨3, 1, .rw, 0x0, .any⟩, ⟨4, 1, .rw, 0x0, .any⟩]⟩,
  -- CAN_OID (R381)
  ⟨0x60180404, [(0x4, 0x4000), (0x80, 0x60)], true, true, false, .plain,
    [⟨0, 29, .rw, 0x0, .any⟩, ⟨29, 1, .rw, 0x0, .any⟩, ⟨30, 1, .rw, 0x0, .any⟩]⟩,
  -- CAN_OCTL (R381)
  ⟨0x60180408, [(0x4, 0x4000), (0x80, 0x60)], true, true, false, .plain,
    [⟨0, 4, .rw, 0x0, .any⟩, ⟨4, 1, .rw, 0x0, .any⟩, ⟨5, 1, .rw, 0x0, .any⟩, ⟨6, 1, .rw, 0x0, .any⟩]⟩,
  -- CAN_OSTAT (R381)
  ⟨0x6018040C, [(0x4, 0x4000), (0x80, 0x60)], true, true, false, .plain,
    [⟨0, 1, .w1c, 0x0, .any⟩, ⟨1, 1, .w1c, 0x0, .any⟩, ⟨2, 1, .w1c, 0x0, .any⟩, ⟨3, 1, .w1c, 0x0, .any⟩, ⟨4, 1, .w1c, 0x0, .any⟩, ⟨8, 4, .ro, 0x0, .any⟩, ⟨16, 8, .ro, 0x0, .any⟩]⟩]

/-- Registers of CAN. -/
def regsCan2 : List RegDef := [
  -- CAN_OTS (R381)
  ⟨0x60180410, [(0x4, 0x4000), (0x80, 0x60)], true, true, false, .plain,
    [⟨0, 32, .ro, 0x0, .any⟩]⟩,
  -- CAN_ODATA (R381)
  ⟨0x60180420, [(0x4, 0x4000), (0x80, 0x60), (0x10, 0x4)], true, true, false, .plain,
    [⟨0, 32, .rw, 0x0, .any⟩]⟩,
  -- CAN_FLT0 (R384)
  ⟨0x60183400, [(0x4, 0x4000), (0x100, 0xC)], true, true, false, .plain,
    [⟨0, 29, .rw, 0x0, .any⟩, ⟨29, 1, .rw, 0x0, .any⟩, ⟨30, 2, .rw, 0x0, .any⟩]⟩,
  -- CAN_FLT1 (R384)
  ⟨0x60183404, [(0x4, 0x4000), (0x100, 0xC)], true, true, false, .plain,
    [⟨0, 29, .rw, 0x0, .any⟩]⟩,
  -- CAN_FLT2 (R384)
  ⟨0x60183408, [(0x4, 0x4000), (0x100, 0xC)], true, true, false, .plain,
    [⟨0, 7, .rw, 0x0, .any⟩, ⟨8, 2, .rw, 0x0, .any⟩]⟩]

/-- Registers of CAN. -/
def regsCan : List RegDef := regsCan1 ++ regsCan2

/-- Registers of ETH. -/
def regsEth1 : List RegDef := [
  -- ETH_CTL (R391)
  ⟨0x601A0010, [(0x2, 0x10000)], true, true, false, .plain,
    [⟨0, 1, .rw, 0x0, .any⟩, ⟨1, 1, .rw, 0x0, .any⟩, ⟨2, 1, .lk, 0x0, .any⟩, ⟨3, 2, .rw, 0x2, .range 0 2⟩, ⟨5, 1, .rw, 0x1, .any⟩, ⟨6, 1, .rw, 0x0, .any⟩, ⟨7, 1, .rw, 0x1, .any⟩, ⟨8, 1, .rw, 0x1, .any⟩]⟩,
  -- ETH_MAXF (R392)
  ⟨0x601A0014, [(0x2, 0x10000)], true, true, false, .plain,
    [⟨0, 14, .lk, 0x5F2, .range 64 9600⟩]⟩,
  -- ETH_FC (R393)
  ⟨0x601A0018, [(0x2, 0x10000)], true, true, false, .plain,
    [⟨0, 8, .lk, 0xC0, .any⟩, ⟨8, 8, .lk, 0x80, .any⟩, ⟨16, 16, .lk, 0xFFFF, .any⟩]⟩,
  -- ETH_ST (R391)
  ⟨0x601A001C, [(0x2, 0x10000)], true, true, false, .plain,
    [⟨0, 1, .ro, 0x0, .any⟩, ⟨1, 2, .ro, 0x0, .any⟩, ⟨3, 1, .ro, 0x0, .any⟩, ⟨4, 1, .ro, 0x0, .any⟩, ⟨5, 1, .ro, 0x0, .any⟩]⟩,
  -- ETH_ADDRL (R392)
  ⟨0x601A0020, [(0x2, 0x10000)], true, true, false, .plain,
    [⟨0, 32, .rw, 0x0, .any⟩]⟩,
  -- ETH_ADDRH (R392)
  ⟨0x601A0024, [(0x2, 0x10000)], true, true, false, .plain,
    [⟨0, 16, .rw, 0x0, .any⟩]⟩,
  -- ETH_TXRB (R392)
  ⟨0x601A0030, [(0x2, 0x10000)], true, true, false, .plain,
    [⟨0, 32, .rw, 0x0, .any⟩]⟩,
  -- ETH_TXRL (R392)
  ⟨0x601A0034, [(0x2, 0x10000)], true, true, false, .plain,
    [⟨0, 32, .rw, 0x0, .range 2 1024⟩]⟩,
  -- ETH_TXHD (R392)
  ⟨0x601A0038, [(0x2, 0x10000)], true, true, false, .plain,
    [⟨0, 32, .ro, 0x0, .any⟩]⟩,
  -- ETH_TXTL (R392)
  ⟨0x601A003C, [(0x2, 0x10000)], true, true, false, .plain,
    [⟨0, 32, .rw, 0x0, .any⟩]⟩,
  -- ETH_RXRB (R392)
  ⟨0x601A0040, [(0x2, 0x10000)], true, true, false, .plain,
    [⟨0, 32, .rw, 0x0, .any⟩]⟩,
  -- ETH_RXRL (R392)
  ⟨0x601A0044, [(0x2, 0x10000)], true, true, false, .plain,
    [⟨0, 32, .rw, 0x0, .range 2 1024⟩]⟩,
  -- ETH_RXHD (R392)
  ⟨0x601A0048, [(0x2, 0x10000)], true, true, false, .plain,
    [⟨0, 32, .ro, 0x0, .any⟩]⟩,
  -- ETH_RXTL (R392)
  ⟨0x601A004C, [(0x2, 0x10000)], true, true, false, .plain,
    [⟨0, 32, .rw, 0x0, .any⟩]⟩,
  -- ETH_TSC (R398)
  ⟨0x601A0050, [(0x2, 0x10000)], true, true, false, .plain,
    [⟨0, 16, .lk, 0x0, .any⟩, ⟨16, 16, .lk, 0x0, .any⟩]⟩,
  -- ETH_TSQ_ST (R400)
  ⟨0x601A0054, [(0x2, 0x10000)], true, true, false, .plain,
    [⟨0, 5, .ro, 0x0, .any⟩, ⟨8, 1, .w1c, 0x0, .any⟩]⟩,
  -- ETH_TSQ_KEY (R400)
  ⟨0x601A0058, [(0x2, 0x10000)], true, true, false, .plain,
    [⟨0, 16, .wo, 0x0, .any⟩, ⟨16, 4, .wo, 0x0, .any⟩]⟩,
  -- ETH_TSQ_ID (R400)
  ⟨0x601A005C, [(0x2, 0x10000)], true, true, false, .plain,
    [⟨0, 16, .ro, 0x0, .any⟩, ⟨16, 4, .ro, 0x0, .any⟩, ⟨31, 1, .ro, 0x0, .any⟩]⟩,
  -- ETH_TSQ_NS (R400)
  ⟨0x601A0060, [(0x2, 0x10000)], true, true, false, .plain,
    [⟨0, 32, .ro, 0x0, .any⟩]⟩,
  -- ETH_TSQ_SECL (R400)
  ⟨0x601A0064, [(0x2, 0x10000)], true, true, false, .plain,
    [⟨0, 32, .ro, 0x0, .any⟩]⟩,
  -- ETH_TSQ_SECH (R400)
  ⟨0x601A0068, [(0x2, 0x10000)], true, true, false, .plain,
    [⟨0, 16, .ro, 0x0, .any⟩]⟩,
  -- ETH_TSQ_POP (R400)
  ⟨0x601A006C, [(0x2, 0x10000)], true, true, false, .plain,
    [⟨0, 1, .wo, 0x0, .any⟩]⟩,
  -- ETH_MDIO (R391)
  ⟨0x601A0070, [(0x2, 0x10000)], true, true, false, .plain,
    [⟨0, 5, .wo, 0x0, .any⟩, ⟨5, 5, .wo, 0x0, .any⟩, ⟨10, 2, .wo, 0x0, .any⟩, ⟨12, 1, .wo, 0x0, .any⟩, ⟨13, 1, .wo, 0x0, .any⟩, ⟨24, 8, .wo, 0x0, .any⟩]⟩,
  -- ETH_MDST (R391)
  ⟨0x601A0074, [(0x2, 0x10000)], true, true, false, .plain,
    [⟨0, 8, .ro, 0x0, .any⟩, ⟨8, 1, .ro, 0x0, .any⟩, ⟨24, 8, .ro, 0x0, .any⟩]⟩]

/-- Registers of ETH. -/
def regsEth2 : List RegDef := [
  -- ETH_EVT (R391)
  ⟨0x601A0078, [(0x2, 0x10000)], true, true, false, .plain,
    [⟨0, 1, .w1c, 0x0, .any⟩, ⟨1, 1, .w1c, 0x0, .any⟩, ⟨2, 1, .w1c, 0x0, .any⟩, ⟨3, 1, .w1c, 0x0, .any⟩, ⟨4, 1, .w1c, 0x0, .any⟩, ⟨5, 1, .w1c, 0x0, .any⟩, ⟨6, 1, .w1c, 0x0, .any⟩, ⟨7, 1, .w1c, 0x0, .any⟩, ⟨8, 1, .w1c, 0x0, .any⟩]⟩,
  -- ETH_MDWD (R391)
  ⟨0x601A007C, [(0x2, 0x10000)], true, true, false, .plain,
    [⟨0, 16, .rw, 0x0, .any⟩, ⟨16, 16, .ro, 0x0, .any⟩]⟩,
  -- ETH_RXCNT (R392)
  ⟨0x601A0080, [(0x2, 0x10000)], true, true, false, (.c32 0),
    [⟨0, 32, .cnt, 0x0, .any⟩]⟩,
  -- ETH_TXCNT (R392)
  ⟨0x601A0084, [(0x2, 0x10000)], true, true, false, (.c32 1),
    [⟨0, 32, .cnt, 0x0, .any⟩]⟩,
  -- ETH_RXDROP (R393)
  ⟨0x601A0088, [(0x2, 0x10000)], true, true, false, (.c32 2),
    [⟨0, 32, .cnt, 0x0, .any⟩]⟩,
  -- ETH_CRCERR (R392)
  ⟨0x601A008C, [(0x2, 0x10000)], true, true, false, (.c32 3),
    [⟨0, 32, .cnt, 0x0, .any⟩]⟩,
  -- ETH_TSDROP (R400)
  ⟨0x601A0090, [(0x2, 0x10000)], true, true, false, .c16,
    [⟨0, 16, .cnt, 0x0, .any⟩, ⟨31, 1, .ro, 0x0, .any⟩]⟩,
  -- ETH_LOCK (R10)
  ⟨0x601A0094, [(0x2, 0x10000)], true, true, false, .plain,
    [⟨0, 1, .w1s, 0x0, .any⟩]⟩]

/-- Registers of ETH. -/
def regsEth : List RegDef := regsEth1 ++ regsEth2

/-- Registers of TIM. -/
def regsTim : List RegDef := [
  -- TIM_ST (R394)
  ⟨0x601C0010, [], false, false, false, .plain,
    [⟨0, 1, .ro, 0x0, .any⟩, ⟨1, 1, .ro, 0x0, .any⟩, ⟨8, 8, .ro, 0x0, .any⟩]⟩,
  -- TIM_NS (R394)
  ⟨0x601C0014, [], false, false, false, .plain,
    [⟨0, 30, .ro, 0x0, .any⟩]⟩,
  -- TIM_SECL (R394)
  ⟨0x601C0018, [], false, false, false, .plain,
    [⟨0, 32, .ro, 0x0, .any⟩]⟩,
  -- TIM_SECH (R394)
  ⟨0x601C001C, [], false, false, false, .plain,
    [⟨0, 16, .ro, 0x0, .any⟩]⟩,
  -- TIM_RATE (R394)
  ⟨0x601C0020, [], false, false, false, .plain,
    [⟨0, 32, .rw, 0x0, .srange (-8589934) (8589934)⟩]⟩,
  -- TIM_SETN (R395)
  ⟨0x601C0024, [], false, false, false, .plain,
    [⟨0, 30, .rw, 0x0, .any⟩]⟩,
  -- TIM_SETSL (R395)
  ⟨0x601C0028, [], false, false, false, .plain,
    [⟨0, 32, .rw, 0x0, .any⟩]⟩,
  -- TIM_SETSH (R395)
  ⟨0x601C002C, [], false, false, false, .plain,
    [⟨0, 16, .rw, 0x0, .any⟩]⟩,
  -- TIM_OFSL (R395)
  ⟨0x601C0030, [], false, false, false, .plain,
    [⟨0, 32, .rw, 0x0, .any⟩]⟩,
  -- TIM_OFSH (R395)
  ⟨0x601C0034, [], false, false, false, .plain,
    [⟨0, 32, .rw, 0x0, .any⟩]⟩,
  -- TIM_CMD (R395)
  ⟨0x601C0038, [], false, false, false, .plain,
    [⟨0, 1, .wo, 0x0, .any⟩, ⟨1, 1, .wo, 0x0, .any⟩, ⟨24, 8, .wo, 0x0, .any⟩]⟩,
  -- TIM_REINIT (R396)
  ⟨0x601C003C, [], false, false, false, .plain,
    [⟨0, 32, .wo, 0x0, .any⟩]⟩,
  -- TIM_EPL (R403)
  ⟨0x601C0040, [], false, false, false, .plain,
    [⟨0, 27, .lk, 0x0, .any⟩, ⟨31, 1, .rw, 0x0, .any⟩]⟩,
  -- TIM_EPST (R403)
  ⟨0x601C0044, [], false, false, false, .plain,
    [⟨0, 32, .ro, 0x0, .any⟩]⟩,
  -- TIM_EVT (R397)
  ⟨0x601C0048, [], false, false, false, .plain,
    [⟨0, 1, .w1c, 0x0, .any⟩, ⟨1, 1, .w1c, 0x0, .any⟩, ⟨2, 1, .w1c, 0x0, .any⟩, ⟨3, 1, .w1c, 0x0, .any⟩, ⟨4, 1, .w1c, 0x0, .any⟩]⟩,
  -- TIM_LOCK (R10)
  ⟨0x601C004C, [], false, false, false, .plain,
    [⟨0, 1, .w1s, 0x0, .any⟩]⟩,
  -- TIM_TOCTL (R401)
  ⟨0x601C0100, [(0x8, 0x20)], false, false, false, .plain,
    [⟨0, 1, .rw, 0x0, .any⟩, ⟨1, 1, .rw, 0x0, .any⟩, ⟨2, 1, .w1c, 0x0, .any⟩]⟩,
  -- TIM_TOSTN (R401)
  ⟨0x601C0104, [(0x8, 0x20)], false, false, false, .plain,
    [⟨0, 30, .rw, 0x0, .any⟩]⟩,
  -- TIM_TOSTS (R401)
  ⟨0x601C0108, [(0x8, 0x20)], false, false, false, .plain,
    [⟨0, 32, .rw, 0x0, .any⟩]⟩,
  -- TIM_TOPER (R401)
  ⟨0x601C010C, [(0x8, 0x20)], false, false, false, .plain,
    [⟨0, 32, .rw, 0x0, .any⟩]⟩,
  -- TIM_TOWID (R401)
  ⟨0x601C0110, [(0x8, 0x20)], false, false, false, .plain,
    [⟨0, 32, .rw, 0x0, .any⟩]⟩,
  -- TIM_CCTL (R402)
  ⟨0x601C0200, [(0x8, 0x10)], false, false, false, .plain,
    [⟨0, 1, .rw, 0x0, .any⟩, ⟨1, 2, .rw, 0x1, .range 1 3⟩, ⟨8, 1, .w1c, 0x0, .any⟩, ⟨9, 1, .ro, 0x0, .any⟩, ⟨10, 1, .ro, 0x0, .any⟩]⟩,
  -- TIM_CNS (R402)
  ⟨0x601C0204, [(0x8, 0x10)], false, false, false, .plain,
    [⟨0, 30, .ro, 0x0, .any⟩]⟩,
  -- TIM_CSEC (R402)
  ⟨0x601C0208, [(0x8, 0x10)], false, false, false, .plain,
    [⟨0, 32, .ro, 0x0, .any⟩]⟩]

/-- Registers of PRL. -/
def regsPrl : List RegDef := [
  -- PRL_CTL (R419)
  ⟨0x601D0010, [], true, true, false, .plain,
    [⟨0, 1, .rw, 0x0, .any⟩, ⟨1, 1, .lk, 0x1, .any⟩, ⟨2, 1, .wo, 0x0, .any⟩, ⟨3, 1, .wo, 0x0, .any⟩, ⟨24, 8, .wo, 0x0, .any⟩]⟩,
  -- PRL_ST (R410)
  ⟨0x601D0014, [], true, true, false, .plain,
    [⟨0, 2, .ro, 0x0, .any⟩, ⟨2, 1, .ro, 0x0, .any⟩, ⟨3, 2, .ro, 0x0, .any⟩, ⟨5, 2, .ro, 0x0, .any⟩, ⟨7, 1, .ro, 0x0, .any⟩, ⟨8, 1, .ro, 0x0, .any⟩, ⟨9, 1, .ro, 0x0, .any⟩]⟩,
  -- PRL_LDLY (R410)
  ⟨0x601D0018, [], true, true, false, .plain,
    [⟨0, 12, .ro, 0x0, .any⟩]⟩,
  -- PRL_EVT (R421)
  ⟨0x601D001C, [], true, true, false, .plain,
    [⟨0, 1, .w1c, 0x0, .any⟩, ⟨1, 1, .w1c, 0x0, .any⟩, ⟨2, 1, .w1c, 0x0, .any⟩, ⟨3, 1, .w1c, 0x0, .any⟩, ⟨4, 1, .w1c, 0x0, .any⟩, ⟨5, 1, .w1c, 0x0, .any⟩, ⟨6, 1, .w1c, 0x0, .any⟩, ⟨7, 1, .w1c, 0x0, .any⟩, ⟨8, 1, .w1c, 0x0, .any⟩, ⟨9, 1, .w1c, 0x0, .any⟩, ⟨10, 1, .w1c, 0x0, .any⟩, ⟨11, 1, .w1c, 0x0, .any⟩]⟩,
  -- PRL_CKSRC (R424)
  ⟨0x601D0020, [], true, true, false, .plain,
    [⟨0, 32, .rw, 0x0, .any⟩]⟩,
  -- PRL_CKLEN (R424)
  ⟨0x601D0024, [], true, true, false, .plain,
    [⟨0, 19, .rw, 0x0, .any⟩]⟩,
  -- PRL_CKGO (R424)
  ⟨0x601D0028, [], true, true, false, .plain,
    [⟨0, 1, .wo, 0x0, .any⟩, ⟨24, 8, .wo, 0x0, .any⟩]⟩,
  -- PRL_CKST (R424)
  ⟨0x601D002C, [], true, true, false, .plain,
    [⟨0, 8, .ro, 0x0, .any⟩, ⟨8, 1, .ro, 0x0, .any⟩, ⟨24, 8, .ro, 0x0, .any⟩]⟩,
  -- PRL_CKRB (R424)
  ⟨0x601D0030, [], true, true, false, .plain,
    [⟨0, 32, .lk, 0x0, .any⟩]⟩,
  -- PRL_CKRI (R424)
  ⟨0x601D0034, [], true, true, false, .plain,
    [⟨0, 19, .ro, 0x0, .any⟩]⟩,
  -- PRL_CKREP (R424)
  ⟨0x601D0038, [], true, true, false, .plain,
    [⟨0, 32, .ro, 0x0, .any⟩]⟩,
  -- PRL_CRCC (R409)
  ⟨0x601D0040, [], true, true, false, .c16,
    [⟨0, 16, .cnt, 0x0, .any⟩, ⟨31, 1, .ro, 0x0, .any⟩]⟩,
  -- PRL_TAKC (R421)
  ⟨0x601D0044, [], false, false, false, .c16,
    [⟨0, 16, .cnt, 0x0, .any⟩, ⟨31, 1, .ro, 0x0, .any⟩]⟩,
  -- PRL_LDNC (R410)
  ⟨0x601D0048, [], false, false, false, .c16,
    [⟨0, 16, .cnt, 0x0, .any⟩, ⟨31, 1, .ro, 0x0, .any⟩]⟩,
  -- PRL_LOCK (R10)
  ⟨0x601D004C, [], true, false, false, .plain,
    [⟨0, 1, .w1s, 0x0, .any⟩]⟩]

/-- Registers of NVC. -/
def regsNvc : List RegDef := [
  -- NVC_CMD (R434)
  ⟨0x60030010, [], true, true, false, .plain,
    [⟨0, 2, .wo, 0x0, .any⟩, ⟨24, 8, .wo, 0x0, .any⟩]⟩,
  -- NVC_SRC (R434)
  ⟨0x60030014, [], true, true, false, .plain,
    [⟨0, 32, .rw, 0x0, .any⟩]⟩,
  -- NVC_DST (R434)
  ⟨0x60030018, [], true, true, false, .plain,
    [⟨0, 17, .rw, 0x0, .range 0 98303⟩]⟩,
  -- NVC_CNT (R434)
  ⟨0x6003001C, [], true, true, false, .plain,
    [⟨0, 7, .rw, 0x0, .range 1 64⟩]⟩,
  -- NVC_ST (R434)
  ⟨0x60030020, [], true, true, false, .plain,
    [⟨0, 8, .ro, 0x0, .any⟩, ⟨8, 1, .ro, 0x0, .any⟩, ⟨9, 5, .ro, 0x0, .any⟩, ⟨14, 1, .ro, 0x0, .any⟩, ⟨24, 8, .ro, 0x0, .any⟩]⟩,
  -- NVC_JHEAD (R435)
  ⟨0x60030024, [], true, true, false, .plain,
    [⟨0, 17, .ro, 0x0, .any⟩]⟩,
  -- NVC_EVT (R434)
  ⟨0x60030028, [], true, true, false, .plain,
    [⟨0, 1, .w1c, 0x0, .any⟩, ⟨1, 1, .w1c, 0x0, .any⟩, ⟨2, 1, .w1c, 0x0, .any⟩, ⟨3, 1, .w1c, 0x0, .any⟩, ⟨4, 1, .w1c, 0x0, .any⟩]⟩,
  -- NVC_ECC1 (R433)
  ⟨0x6003002C, [], true, true, false, .c16,
    [⟨0, 16, .cnt, 0x0, .any⟩, ⟨31, 1, .ro, 0x0, .any⟩]⟩,
  -- NVC_LOCK (R10)
  ⟨0x60030030, [], true, true, false, .plain,
    [⟨0, 1, .w1s, 0x0, .any⟩]⟩]

/-- Registers of SEC. -/
def regsSec : List RegDef := [
  -- SEC_BST (R428)
  ⟨0x60040010, [], false, false, false, .plain,
    [⟨0, 1, .ro, 0x0, .any⟩, ⟨1, 1, .ro, 0x0, .any⟩, ⟨2, 1, .ro, 0x0, .any⟩, ⟨3, 1, .ro, 0x0, .any⟩, ⟨4, 1, .ro, 0x0, .any⟩]⟩,
  -- SEC_BOOTSEL (R429)
  ⟨0x60040014, [], false, false, false, .plain,
    [⟨0, 1, .lk, 0x0, .any⟩, ⟨1, 1, .lk, 0x0, .any⟩, ⟨2, 1, .lk, 0x0, .any⟩]⟩,
  -- SEC_BOOTCONF (R429)
  ⟨0x60040018, [], true, false, false, .plain,
    [⟨0, 8, .wo, 0x0, .any⟩, ⟨24, 8, .wo, 0x0, .any⟩]⟩,
  -- SEC_RBC (R432)
  ⟨0x6004001C, [], false, false, false, .plain,
    [⟨0, 8, .ro, 0x0, .any⟩, ⟨8, 8, .ro, 0x0, .any⟩]⟩,
  -- SEC_RBADV (R432)
  ⟨0x60040020, [], true, false, false, .plain,
    [⟨0, 8, .wo, 0x0, .any⟩, ⟨8, 8, .wo, 0x0, .any⟩, ⟨24, 8, .wo, 0x0, .any⟩]⟩,
  -- SEC_LC (R437)
  ⟨0x60040024, [], false, false, false, .plain,
    [⟨0, 1, .ro, 0x0, .any⟩]⟩,
  -- SEC_KPROG (R436)
  ⟨0x60040028, [], true, false, false, .plain,
    [⟨0, 3, .wo, 0x0, .any⟩, ⟨4, 2, .wo, 0x0, .any⟩, ⟨16, 1, .wo, 0x0, .any⟩, ⟨24, 8, .wo, 0x0, .any⟩]⟩,
  -- SEC_KSRC (R436)
  ⟨0x6004002C, [], true, false, false, .plain,
    [⟨0, 32, .rw, 0x0, .any⟩]⟩,
  -- SEC_KREV (R436)
  ⟨0x60040030, [], true, false, false, .plain,
    [⟨0, 3, .wo, 0x0, .any⟩, ⟨8, 1, .wo, 0x0, .any⟩, ⟨24, 8, .wo, 0x0, .any⟩]⟩,
  -- SEC_KST (R436)
  ⟨0x60040034, [], false, false, false, .plain,
    [⟨0, 3, .ro, 0x0, .any⟩, ⟨3, 3, .ro, 0x0, .any⟩, ⟨6, 3, .ro, 0x0, .any⟩, ⟨9, 3, .ro, 0x0, .any⟩, ⟨12, 3, .ro, 0x0, .any⟩, ⟨15, 3, .ro, 0x0, .any⟩, ⟨18, 3, .ro, 0x0, .any⟩, ⟨21, 3, .ro, 0x0, .any⟩]⟩,
  -- SEC_OPST (R436)
  ⟨0x60040038, [], true, false, false, .plain,
    [⟨0, 8, .ro, 0x0, .any⟩, ⟨8, 1, .ro, 0x0, .any⟩, ⟨24, 8, .ro, 0x0, .any⟩]⟩,
  -- SEC_LOCK (R10)
  ⟨0x6004003C, [], true, false, false, .plain,
    [⟨0, 1, .w1s, 0x0, .any⟩]⟩,
  -- SEC_UID (R438)
  ⟨0x60040040, [(0x4, 0x4)], false, false, false, .plain,
    [⟨0, 32, .ro, 0x0, .any⟩]⟩]

/-- Registers of DBG. -/
def regsDbg : List RegDef := [
  -- DBG_CHAL (R438)
  ⟨0x601E0010, [(0x8, 0x4)], false, false, false, .plain,
    [⟨0, 32, .ro, 0x0, .any⟩]⟩,
  -- DBG_RSP (R438)
  ⟨0x601E0030, [(0x18, 0x4)], false, false, false, .plain,
    [⟨0, 32, .wo, 0x0, .any⟩]⟩,
  -- DBG_UREQ (R438)
  ⟨0x601E0090, [], false, false, false, .plain,
    [⟨0, 2, .wo, 0x0, .any⟩, ⟨8, 3, .wo, 0x0, .any⟩, ⟨16, 1, .wo, 0x0, .any⟩, ⟨17, 1, .wo, 0x0, .any⟩]⟩,
  -- DBG_UST (R438)
  ⟨0x601E0094, [], false, false, false, .plain,
    [⟨0, 8, .ro, 0x0, .any⟩, ⟨8, 2, .ro, 0x0, .any⟩]⟩]

end Sys2Proof.Machine
end

