-- ==== Sys2Proof/Machine/Ops.lean ====
section
/-! DEFINITION. The named operations over the register map, the counters, the memory and the mode, and the frame that every
meaning runs in. -/

namespace Sys2Proof.Machine

/-! ### Maps with one entry a key -/

/-- The value of the first entry with key `k`. -/
def mapGet {α : Type} (k : Nat) : List (Nat × α) → Option α
  | [] => none
  | (a, v) :: m => if a = k then some v else mapGet k m

/-- Put `v` at `k`, in rising order of keys. -/
def mapSet {α : Type} (k : Nat) (v : α) : List (Nat × α) → List (Nat × α)
  | [] => [(k, v)]
  | (a, w) :: m => if a = k then (k, v) :: m else if k < a then (k, v) :: (a, w) :: m else (a, w) :: mapSet k v m

/-- Drop every entry with key `k`. -/
def mapDrop {α : Type} (k : Nat) (m : List (Nat × α)) : List (Nat × α) := m.filter (fun e => e.1 != k)

/-- The value at `k`, or `dflt`. -/
def mapGetD {α : Type} (k : Nat) (dflt : α) (m : List (Nat × α)) : α := (mapGet k m).getD dflt

/-- Keys rise strictly. -/
def keysRise {α : Type} : List (Nat × α) → Bool
  | [] => true
  | [_] => true
  | (a, _) :: (b, w) :: m => decide (a < b) && keysRise ((b, w) :: m)

/-! ### Bits -/

/-- The `n` bits of `w` from bit `lo`. -/
def bitsOf (w : Word) (lo n : Nat) : Nat := (w.toNat >>> lo) % 2 ^ n

/-- `w` with its `n` bits from bit `lo` replaced by the low bits of `v`. -/
def withBits (w : Word) (lo n v : Nat) : Word :=
  BitVec.ofNat 32 (w.toNat % 2 ^ lo + (v % 2 ^ n) * 2 ^ lo + (w.toNat >>> (lo + n)) * 2 ^ (lo + n))

/-- `v` of `n` bits as a two's-complement number. -/
def signed (n v : Nat) : Int := if v % 2 ^ n < 2 ^ (n - 1) then (v % 2 ^ n : Nat) else (v % 2 ^ n : Nat) - (2 ^ n : Nat)

/-- A number as `n` bits of two's complement. -/
def unsigned (n : Nat) (v : Int) : Nat := (v % (2 ^ n : Nat)).toNat

/-- `v` held between `lo` and `hi`. -/
def clampI (lo hi v : Int) : Int := max lo (min hi v)

def Bool.bit (b : Bool) : Nat := if b then 1 else 0

/-! ### The register table -/

/-- Whether address `a` is one of the repetitions `dims` of a register at `base`. -/
def dimsHit : List (Nat × Nat) → Nat → Nat → Bool
  | [], base, a => a == base
  | (n, s) :: ds, base, a =>
    if a < base then false else if (a - base) / s < n then dimsHit ds (base + (a - base) / s * s) a else false

/-- Header registers repeat at the base of every block and unit (R53). -/
def regsHeader (base : Nat) (dims : List (Nat × Nat)) (keep : Bool) : List RegDef :=
  [⟨base, dims, false, false, keep, .plain, [⟨0, 32, .ro, 0, .any⟩]⟩,
   ⟨base + 4, dims, false, false, keep, .plain, [⟨0, 32, .ro, 0, .any⟩]⟩,
   ⟨base + 8, dims, false, false, keep, .plain, [⟨0, 32, .ro, 0, .any⟩]⟩]

/-- Peripheral blocks (R11). -/
inductive Block where
  | sys | thm | bud | nvc | sec | cpx | int | flk | acq | bmi | scr | pub | ref | ctd | lsw | mtr | can | eth | tim | prl | dbg
  deriving DecidableEq, Repr

/-- Base address of a block (R11); ETH0 for ETH. -/
def Block.base : Block → Nat
  | .sys => 0x60000000 | .thm => 0x60010000 | .bud => 0x60020000 | .nvc => 0x60030000 | .sec => 0x60040000
  | .cpx => 0x60050000 | .int => 0x60060000 | .flk => 0x60080000 | .acq => 0x60100000 | .bmi => 0x60110000
  | .scr => 0x60120000 | .pub => 0x60130000 | .ref => 0x60140000 | .ctd => 0x60150000 | .lsw => 0x60160000
  | .mtr => 0x60170000 | .can => 0x60180000 | .eth => 0x601A0000 | .tim => 0x601C0000 | .prl => 0x601D0000
  | .dbg => 0x601E0000

/-- Code of a block in xxx_ID.BLK (R53). -/
def Block.code : Block → Nat
  | .sys => 0 | .thm => 1 | .bud => 2 | .nvc => 3 | .sec => 4 | .cpx => 5 | .int => 6 | .flk => 7 | .acq => 8
  | .bmi => 9 | .scr => 10 | .pub => 11 | .ref => 12 | .ctd => 13 | .lsw => 14 | .mtr => 15 | .can => 16 | .eth => 17
  | .tim => 18 | .prl => 19 | .dbg => 20

/-- The block that an address of peripheral space lies in (R11, R27). -/
def blockOf (a : Nat) : Option Block :=
  if a < 0x60000000 then none
  else match (a - 0x60000000) / 0x10000 with
    | 0 => some .sys | 1 => some .thm | 2 => some .bud | 3 => some .nvc | 4 => some .sec | 5 => some .cpx
    | 6 => some .int | 8 => some .flk | 9 => some .flk | 10 => some .flk | 11 => some .flk | 12 => some .flk
    | 13 => some .flk | 14 => some .flk | 15 => some .flk | 16 => some .acq | 17 => some .bmi | 18 => some .scr
    | 19 => some .pub | 20 => some .ref | 21 => some .ctd | 22 => some .lsw | 23 => some .mtr | 24 => some .can
    | 26 => some .eth | 27 => some .eth | 28 => some .tim | 29 => some .prl | 30 => some .dbg
    | _ => none

/-- Base address of the block or unit that keeps a generation, a LASTST and SAT flags for an address (R53): CAN controllers
and Ethernet MACs are units, FLK has one. -/
def unitOf (a : Nat) : Nat :=
  match blockOf a with
  | some .can => a / 0x4000 * 0x4000
  | some .eth => a / 0x10000 * 0x10000
  | some b => b.base
  | none => 0

/-- Registers of a block. -/
def Block.regs : Block → List RegDef
  | .sys => regsSys | .bmi => regsBmi | .ref => regsRef | .ctd => regsCtd | .flk => regsFlk
  | .acq => regsAcq | .scr => regsScr | .pub => regsPub
  | .thm => regsThm | .bud => regsBud
  | .mtr => regsMtr
  | .lsw => regsLsw
  | .can => regsCan
  | .eth => regsEth | .tim => regsTim
  | .cpx => regsCpx | .int => regsInt | .prl => regsPrl | .nvc => regsNvc | .sec => regsSec | .dbg => regsDbg

/-- The register of the table at an address; header registers stand apart. -/
def regDef? (a : Nat) : Option RegDef :=
  match blockOf a with
  | none => none
  | some b => b.regs.find? (fun r => dimsHit r.dims r.base a)

/-- The word that a register's reset values make. -/
def RegDef.resetWord (r : RegDef) : Word :=
  BitVec.ofNat 32 (r.fields.foldl (fun acc f => acc + f.rst * 2 ^ f.lo) 0)

/-- The value that a register holds after a P reset; SCR_ROWS depends on the part (R2), SCR_KINFO[0] describes the reference
kernel (R185), which is valid once R170 has copied it (R43). (DEDUCED, log 113.) -/
def resetWord (p : Part) (a : Nat) : Word :=
  if a = 0x60120018 ∧ p = .mpl4096 then 98304#32
  else if a = 0x60120040 then 0x41060118#32
  else match regDef? a with
    | some r => r.resetWord
    | none => 0#32

/-- The address where a register's value is kept: the FLK header repeats in every port end window (R53). -/
def canonAddr (a : Nat) : Nat :=
  match blockOf a with
  | some .flk => if (a - 0x60080000) % 0x1000 < 0xC then 0x60080000 + (a - 0x60080000) % 0x1000 else a
  | _ => a

/-! ### Registers of a device -/

/-- The value a register holds. -/
def Device.rget (d : Device) (a : Nat) : Word := mapGetD a (resetWord d.part a) d.regs

/-- `d` with a register holding `v`. -/
def Device.rset (d : Device) (a : Nat) (v : Word) : Device := { d with regs := mapSet a v d.regs }

/-- The value of a field. -/
def Device.get (d : Device) (f : Fld) : Nat := bitsOf (d.rget f.addr) f.lo f.w

/-- The value of a field in two's complement. -/
def Device.gets (d : Device) (f : Fld) : Int := signed f.w (d.get f)

/-- Whether a field is not zero. -/
def Device.on (d : Device) (f : Fld) : Bool := d.get f != 0

/-- `d` with a field holding the low bits of `v`. -/
def Device.put (d : Device) (f : Fld) (v : Nat) : Device := d.rset f.addr (withBits (d.rget f.addr) f.lo f.w v)

/-- `d` with a field holding `v` in two's complement. -/
def Device.puts (d : Device) (f : Fld) (v : Int) : Device := d.put f (unsigned f.w v)

/-- `d` with every bit of a field set: raising an event. -/
def Device.up (d : Device) (f : Fld) : Device := d.put f (2 ^ f.w - 1)

/-- `d` with a field cleared. -/
def Device.down (d : Device) (f : Fld) : Device := d.put f 0

/-- `d` with a one-bit field saying `b`. -/
def Device.putB (d : Device) (f : Fld) (b : Bool) : Device := d.put f (Bool.bit b)

/-- `f d` when `c` holds, else `d`. -/
def Device.when_ (d : Device) (c : Bool) (f : Device → Device) : Device := if c then f d else d

/-! ### Status, generations, counters -/

/-- The code of a status (R57). -/
def Status.code : Status → Nat
  | .ok => 0 | .busy => 1 | .reject => 2 | .reset => 3 | .temp => 4 | .timeout => 5 | .integrity => 6 | .fenced => 7
  | .locked => 8 | .range => 9

/-- xxx_GEN.GEN of a unit (R53). -/
def genFld (u : Nat) : Fld := ⟨u + 4, 0, 8⟩
/-- xxx_GEN.LRC of a unit (R53). -/
def lrcFld (u : Nat) : Fld := ⟨u + 4, 8, 3⟩
/-- xxx_GEN.LASTST of a unit (R53). -/
def lastFld (u : Nat) : Fld := ⟨u + 4, 16, 8⟩

/-- The present generation of a unit (R51). -/
def Device.gen (d : Device) (u : Nat) : Nat := d.get (genFld u)

/-- Report a status in a unit's LASTST (R53). -/
def Device.st (d : Device) (u : Nat) (s : Status) : Device := d.put (lastFld u) s.code

/-- The present requester generation of core pair h (R312). (DEDUCED, log 86.) -/
def Device.rgen (d : Device) (h : Nat) : Nat := d.get (CPX_RGEN_GEN h)

/-- The status that the requester of an operation of unit u receives: RESET when the reply's generation is not the unit's any
more (R51), or its requester generation not that of core pair h (R312). (DEDUCED, log 86.) -/
def Device.answer (d : Device) (u gen h rgen : Nat) (st : Status) : Status :=
  if d.gen u = gen ∧ d.rgen h = rgen then st else .reset

/-- Count one event in a 16-bit event counter (R54). -/
def Device.count16 (d : Device) (a : Nat) : Device :=
  let c := bitsOf (d.rget a) 0 16
  if c = 0xFFFF then d
  else if c + 1 = 0xFFFF then d.rset a 0x8000FFFF#32 else d.rset a (BitVec.ofNat 32 (c + 1))

/-- Count one event in a 32-bit event counter whose SAT flag is bit `k` of the unit's SATF (R54). -/
def Device.count32 (d : Device) (a : Nat) (k : Nat) : Device :=
  let c := (d.rget a).toNat
  if c = 0xFFFFFFFF then d
  else
    let d := d.rset a (BitVec.ofNat 32 (c + 1))
    if c + 1 = 0xFFFFFFFF then d.put ⟨unitOf a + 8, k, 1⟩ 1 else d

/-- Raise an interrupt source that no event bit holds; it stays raised until it is taken. (DEDUCED, log 85.) -/
def Device.pulse (d : Device) (src : Nat) : Device :=
  if d.pulses.contains src then d else { d with pulses := src :: d.pulses }

/-! ### The pair link -/

/-- PRL_ST.ROLE: active, and standby or withdrawn, which follow the active (R417). -/
def Device.isActive (d : Device) : Bool := d.get PRL_ST_ROLE == 1
def Device.follower (d : Device) : Bool := d.get PRL_ST_ROLE == 2 || d.get PRL_ST_ROLE == 3

/-- Send a message while the link is up (R409). (DEDUCED, log 30.) -/
def Device.prlSend (d : Device) (m : PairMsg) : Device :=
  if d.on PRL_ST_UP then { d with prl := { d.prl with sent := d.prl.sent ++ [m] } } else d

/-- CTD_SHDREL on an active device: the drivers that the partner is known not to shadow (R418). -/
def Device.showRel (d : Device) : Device :=
  if d.on PRL_CTL_EN && d.isActive then d.put CTD_SHDREL_REL (~~~d.prl.shadowed).toNat else d

/-! ### Modes and banks -/

def Mode.code : Mode → Nat
  | .dormant => 0 | .watch => 1 | .muster => 2 | .ready => 3 | .precharge => 4 | .online => 5 | .degraded => 6 | .tripped => 7

def Mode.ofCode (n : Nat) : Mode :=
  match n with
  | 0 => .dormant | 1 => .watch | 2 => .muster | 3 => .ready | 4 => .precharge | 5 => .online | 6 => .degraded | _ => .tripped

def BankState.code : BankState → Nat
  | .opened => 0 | .precharging => 1 | .closed => 2 | .out => 3

def BankState.ofCode (n : Nat) : BankState :=
  match n with | 0 => .opened | 1 => .precharging | 2 => .closed | _ => .out

/-- The present mode (SYS_MODE.MODE). -/
def Device.mode (d : Device) : Mode := Mode.ofCode (d.get SYS_MODE_MODE)

/-- Bank state field of SYS_MODE.BANKST. -/
def bankStFld (b : Nat) : Fld := ⟨SYS_MODE, 16 + 2 * b, 2⟩

/-- The state of bank b. -/
def Device.bankSt (d : Device) (b : Nat) : BankState := BankState.ofCode (d.get (bankStFld b))

/-- `d` with bank b in a state. -/
def Device.setBankSt (d : Device) (b : Nat) (s : BankState) : Device := d.put (bankStFld b) s.code

def Device.anyClosed (d : Device) : Bool := (List.range 4).any (fun b => d.bankSt b == .closed)
def Device.anyPrecharging (d : Device) : Bool := (List.range 4).any (fun b => d.bankSt b == .precharging)

/-- The hold window runs (SYS_MODE.HOLD). -/
def Device.holding (d : Device) : Bool := d.on SYS_MODE_HOLD

/-- The modes from MUSTER onward, in which the referee, the bell and the sequencer run (R235, R237). -/
def Mode.live : Mode → Bool
  | .dormant => false | .watch => false | _ => true

/-- Set the trip latch and raise SYS_EVT.TRIPL when it was clear (R38). -/
def Device.setLatch (d : Device) : Device :=
  if d.fd.tripLatch then d else { d.up SYS_EVT_TRIPL with fd := { d.fd with tripLatch := true } }

/-- Hold of bank b (REF_ST.BOUT). -/
def bankHoldFld (b : Nat) : Fld := ⟨REF_ST, 16 + b, 1⟩
def Device.bankHold (d : Device) (b : Nat) : Bool := d.on (bankHoldFld b)

/-- End the low-current epoch, or the request for it: FLK returns to FLK_EPER.PER under R94 and the quiet time restarts
(R155). (DEDUCED, log 30.) -/
def Device.lceExit (d : Device) : Device :=
  if d.flk.lce then
    { d.put ACQ_LCST_QUIET 0 with
      flk := { d.flk with lce := false, perWanted := some (d.get FLK_EPER_PER) }
      acq := { d.acq with quietMs := 0 } }
  else d

/-- Modes that allow the low-current epoch (R154, R155). -/
def Mode.calm : Mode → Bool
  | .ready => true | .online => true | .degraded => true | _ => false

/-- The referee is disarmed (R238): REF_CTL.ARM no longer shows an arming. (DEDUCED, log 110.) -/
def Device.disarm (d : Device) : Device :=
  { (d.down REF_ST_ARMED).down REF_CTL_ARM with ref := { d.ref with armDue := none } }

/-- Change the mode. Entry into TRIPPED sets the trip latch (R38); a change ends the transition in progress, but for a pending
second stage that leads to TRIPPED (R37, R50, R332), and closes the loosen window (R240); a mode outside READY, ONLINE and
DEGRADED ends the low-current epoch (R155); entry into WATCH or DORMANT disarms the referee (R238). (DEDUCED, log 60.) -/
def Device.enter (d : Device) (m : Mode) : Device :=
  if d.mode = m then (if m = .tripped then d.setLatch else d)
  else
    let busy := m != .tripped && (d.sys.holdStage2 || d.thm.trip)
    let d := (((d.put SYS_MODE_MODE m.code).putB SYS_MODE_BUSY busy).up SYS_EVT_MODE).down REF_ST_LOOSE
    let d := d.when_ (m == .tripped) Device.setLatch
    let d := d.when_ (!m.calm) Device.lceExit
    d.when_ (!m.live) Device.disarm

/-! ### Drivers -/

def DrvState.code : DrvState → Nat
  | .off => 0 | .pullIn => 1 | .hold => 2 | .shadow => 3 | .slowQuench => 4 | .fastQuench => 5

def DrvState.ofCode (n : Nat) : DrvState :=
  match n with | 1 => .pullIn | 2 => .hold | 3 => .shadow | 4 => .slowQuench | 5 => .fastQuench | _ => .off

/-- The high side conducts (R246). -/
def DrvState.high : DrvState → Bool
  | .pullIn => true | .hold => true | .shadow => true | _ => false

def Device.drvSt (d : Device) (k : Nat) : DrvState := DrvState.ofCode (d.get (CTD_DST_STATE k))
def Device.setDrvSt (d : Device) (k : Nat) (s : DrvState) : Device := d.put (CTD_DST_STATE k) s.code

/-- The series switches of bank b are meant to conduct (R247, R321). -/
def Device.seriesWanted (d : Device) (b : Nat) : Bool :=
  !d.bankHold b && !d.fd.tripLatch && !d.fd.clockCause && !d.fd.hbCause && !d.fd.outputsOff

def BankPhase.code : BankPhase → Nat
  | .idle => 0 | .w0 => 1 | .pre => 2 | .mainPull => 3 | .overlap => 4 | .closed => 5 | .opening => 6 | .check => 7

def BankPhase.ofCode (n : Nat) : BankPhase :=
  match n with
  | 1 => .w0 | 2 => .pre | 3 => .mainPull | 4 => .overlap | 5 => .closed | 6 => .opening | 7 => .check | _ => .idle

def Device.phase (d : Device) (b : Nat) : BankPhase := BankPhase.ofCode (d.get (CTD_BST_PHASE b))
def Device.setPhase (d : Device) (b : Nat) (p : BankPhase) : Device := d.put (CTD_BST_PHASE b) p.code

/-- Phases in which a connect runs (R257). -/
def BankPhase.connecting : BankPhase → Bool
  | .w0 => true | .pre => true | .mainPull => true | _ => false

/-- Phases in which a coil of the bank may be driven. -/
def BankPhase.driven : BankPhase → Bool
  | .idle => false | .check => false | _ => true

/-- The sequencer of bank b. -/
def Device.bk (d : Device) (b : Nat) : Bank := (d.bank[b]?).getD Bank.reset
def Device.setBk (d : Device) (b : Nat) (f : Bank → Bank) : Device :=
  { d with bank := d.bank.setIfInBounds b (f (d.bk b)) }

/-- Driver k. -/
def Device.dk (d : Device) (k : Nat) : Driver := (d.drv[k]?).getD Driver.reset
def Device.setDk (d : Device) (k : Nat) (f : Driver → Driver) : Device :=
  { d with drv := d.drv.setIfInBounds k (f (d.dk k)) }

/-- A driver whose high side goes off: its pull-in, the aux check of its closing and a wait for the partner end (R249, R251,
R267). (DEDUCED, log 51.) -/
def Driver.released (v : Driver) : Driver :=
  { v with pulling := false, waitRel := false, auxDue := if v.auxDue = some true then none else v.auxDue }

/-- Start the shadow current of driver k (R266): CTD of a standby with its bit of CTD_SHD set, not a fenced driver, nor one
whose series switch does not conduct. -/
def Device.startShadow (d : Device) (k : Nat) : Device :=
  d.when_ (d.get CTD_CTL_ROLE == 2 && (d.get CTD_SHD_MASK).testBit k && d.seriesWanted (k / 3) && !d.on (CTD_DST_FEN k) &&
      !(d.drvSt k).high && d.on CTD_CTL_EN)
    fun d => d.setDrvSt k .shadow

/-- Turn the series switch of driver k off: the high side goes off in the same instant and the coil current decays by fast
quench, which is counted (R252, R465). (DEDUCED, log 51.) -/
def Device.cutDriver (d : Device) (k : Nat) : Device :=
  let d := (d.put (CTD_DST_SS k) 0).setDk k Driver.released
  match d.drvSt k with
  | .off => d
  | .fastQuench => d
  | _ => (d.setDrvSt k .fastQuench).count16 (CTD_DQCNT k)

/-- One driver stands as R247 and R465 say. -/
def Device.driverSettled (d : Device) (k : Nat) : Bool :=
  let w := d.seriesWanted (k / 3)
  (d.on (CTD_DST_SS k) == w) && (w || !(d.drvSt k).high && d.drvSt k != .slowQuench)

/-- A bank whose series switches are off has no connect, no closed phase, and is OUT when its hold is set (R230, R263). -/
def Device.bankSettled (d : Device) (b : Nat) : Bool :=
  d.seriesWanted b ||
    (!(d.phase b).connecting && d.phase b != .overlap && d.phase b != .closed &&
      (if d.bankHold b then d.bankSt b == .out else d.bankSt b != .closed && d.bankSt b != .precharging))

/-- The combinational parts agree: TRIPPED implies the trip latch (R38), and drivers and banks stand as R247 says. -/
def Device.settled (d : Device) : Bool :=
  (d.mode != .tripped || d.fd.tripLatch) && (List.range 12).all d.driverSettled && (List.range 4).all d.bankSettled

/-- The connect or the orderly open of a bank whose series switches went off ends with outcome ABORT, reason REF (R263); a bank
whose hold is set is OUT (R230), any other bank is OPEN from here on: its contactors have no drive. (DEDUCED, log 37.) -/
def Device.endSequence (d : Device) (b : Nat) : Device :=
  let conn := (d.phase b).connecting || d.phase b == .overlap
  let run := conn || (d.phase b == .opening && (d.bk b).orderly)
  let d := d.when_ run fun d => (d.put (CTD_BST_OUTC b) 4).put (CTD_BST_REASON b) 2
  let d := d.when_ conn fun d => d.up (CTD_BEVT_CONN b)
  let d := d.when_ ((d.phase b).driven) fun d =>
    (d.setPhase b .opening).setBk b fun v => { v with path := false, gapDue := false, orderly := false }
  if d.bankHold b then d.setBankSt b .out
  else if d.bankSt b = .closed ∨ d.bankSt b = .precharging then d.setBankSt b .opened else d

/-- Turn the series switch of driver k on: a standby's shadow current returns (R247, R266). -/
def Device.joinDriver (d : Device) (k : Nat) : Device :=
  let off := !d.on (CTD_DST_SS k)
  (d.put (CTD_DST_SS k) 1).when_ off fun d => d.startShadow k

/-- Bring one bank's drivers to what R247 wants. (DEDUCED, log 5 and 37.) -/
def Device.gateBank (d : Device) (b : Nat) : Device :=
  if d.seriesWanted b then ((d.joinDriver (3 * b)).joinDriver (3 * b + 1)).joinDriver (3 * b + 2)
  else (((d.cutDriver (3 * b)).cutDriver (3 * b + 1)).cutDriver (3 * b + 2)).endSequence b

/-! ### Degraded operation -/

/-- Some unit is fenced (R322). -/
def Device.anyFenced (d : Device) : Bool :=
  d.get (CPX_PST_STATE 0) == 3 || d.get (CPX_PST_STATE 1) == 3 || d.on SCR_FENCE_FENCE ||
    (List.range 128).any (fun p => d.on (FLK_PFEN_FEN p)) || (List.range 12).any (fun k => d.on (CTD_DST_FEN k)) ||
    d.on LSW_FENCE_FEN || d.on MTR_FENCE_FEN || d.on THM_SFAIL_FAIL

/-- Some string holds a pen hold (R232). -/
def Device.anyPenned (d : Device) : Bool := (List.range 16).any (fun j => d.on (REF_PEN_HOLD j))

def Device.anyOut (d : Device) : Bool := (List.range 4).any (fun b => d.bankSt b == .out)

/-- What makes the device DEGRADED while a bank is CLOSED (R35). -/
def Device.impaired (d : Device) : Bool := d.anyFenced || d.anyPenned || d.anyOut

/-- The mode that R35 chooses while a bank is CLOSED. -/
def Device.onlineMode (d : Device) : Mode := if d.impaired then .degraded else .online

/-- ONLINE becomes DEGRADED as soon as R35 says so; the way back is the epoch time's. A standby takes its mode from the active
(R417). (DEDUCED, log 5.) -/
def Device.degrade (d : Device) : Device :=
  if !d.follower && d.mode == .online && d.anyClosed && d.impaired then d.enter .degraded else d

/-- What follows from the state in the same instant: TRIPPED sets the trip latch (R38), and the series switches and high sides
follow R247 and R465, and ONLINE becomes DEGRADED (R35). (DEDUCED, log 5 and 39.) -/
def Device.settle (d : Device) : Device :=
  let d :=
    if d.settled then d
    else
      let d := d.when_ (d.mode == .tripped) Device.setLatch
      (((d.gateBank 0).gateBank 1).gateBank 2).gateBank 3
  d.degrade

/-! ### Memory -/

/-- What a byte of the address map that nothing has written reads as. The spec gives the scoreboard's values after the
initialisation of R179 and R159; the boot ROM's bytes are the implementation's; every other byte reads 0.
(DESIGN CHOICE, log 8.) -/
def memDefault (a : Nat) : Byte :=
  if a < 0x00040000 then Config.bootRom a
  else if 0x40000000 ≤ a ∧ a < 0x40C00000 then Config.rowDefault (a % 64)
  else 0#8

/-- The byte at an address. (DESIGN CHOICE, log 8.) -/
def memGet (m : List Host.Cell) (a : Nat) : Byte := mapGetD a (memDefault a) m

/-- Store one byte; storing what an unlisted address reads as removes the entry. -/
def memSet (m : List Host.Cell) (a : Nat) (v : Byte) : List Host.Cell :=
  if v = memDefault a then mapDrop a m else mapSet a v m

/-- The canonical form of memory: addresses rise strictly and no entry says what an unlisted address reads as. -/
def Memory.wf (m : List Host.Cell) : Bool := keysRise m && m.all (fun e => e.2 != memDefault e.1)

/-- `n` bytes from `a`, lowest address least significant. -/
def memRead (m : List Host.Cell) (a : Nat) : Nat → Nat
  | 0 => 0
  | n + 1 => (memGet m a).toNat + 256 * memRead m (a + 1) n

/-- Store the low `n` bytes of `v` from `a`, least significant first. -/
def memWrite (m : List Host.Cell) (a : Nat) (v : Nat) : Nat → List Host.Cell
  | 0 => m
  | n + 1 => memWrite (memSet m a (BitVec.ofNat 8 v)) (a + 1) (v / 256) n

/-- Drop every entry of a range: it reads as unlisted. -/
def memClear (m : List Host.Cell) (lo hi : Nat) : List Host.Cell := m.filter (fun e => !(decide (lo ≤ e.1) && decide (e.1 < hi)))

def Device.mread (d : Device) (a n : Nat) : Nat := memRead d.mem a n

/-- Bit errors after `n` bytes from `a` are written (R30): a word written whole takes a new code, and a word written in part is
corrected if it can be. -/
def clearUpsets (u : List (Nat × Bool)) (a n : Nat) : List (Nat × Bool) :=
  u.filter fun e => decide (8 * e.1 + 8 ≤ a) || decide (a + n ≤ 8 * e.1) ||
    (e.2 && !(decide (a ≤ 8 * e.1) && decide (8 * e.1 + 8 ≤ a + n)))
def Device.rewrote (d : Device) (a n : Nat) : Device := { d with upsets := clearUpsets d.upsets a n }

def Device.mwrite (d : Device) (a n v : Nat) : Device :=
  { d with mem := memWrite d.mem a v n, upsets := clearUpsets d.upsets a n }

/-- Some 64-bit word of `n` bytes from `a` holds a bit error, double-bit with `dbl` (R30). (DESIGN CHOICE, log 114.) -/
def Device.upsetAt (d : Device) (a n : Nat) (dbl : Bool) : Bool :=
  d.upsets.any fun e => e.2 == dbl && decide (a < 8 * e.1 + 8) && decide (8 * e.1 < a + n)

/-- The regions of R27. -/
inductive Region where
  | rom | nvm | tcm (p : Pair) | sram | epoch | port | score | periph | none
  deriving DecidableEq, Repr

/-- The region an address lies in (R27). -/
def regionOf (a : Nat) : Region :=
  if a < 0x00040000 then .rom
  else if 0x08000000 ≤ a ∧ a < 0x09800000 then .nvm
  else if 0x10000000 ≤ a ∧ a < 0x10040000 then .tcm .a
  else if 0x10100000 ≤ a ∧ a < 0x10140000 then .tcm .b
  else if 0x20000000 ≤ a ∧ a < 0x20200000 then .sram
  else if 0x30000000 ≤ a ∧ a < 0x30400000 then .epoch
  else if 0x38000000 ≤ a ∧ a < 0x38200000 then .port
  else if 0x40000000 ≤ a ∧ a < 0x40C00000 then .score
  else match blockOf a with
    | some _ => .periph
    | none => .none

/-- Rows in use (R2). -/
def Device.rowLimit (d : Device) : Nat := if d.part = .mpl4096 then 98304 else 196608

/-- Address of slot word k of row r (R159). -/
def rowAddr (r k : Nat) : Nat := 0x40000000 + 64 * r + 4 * k

/-- Slot word k of row r; rows fused off read zero (R2). -/
def Device.slot (d : Device) (r k : Nat) : Nat := if r < d.rowLimit then d.mread (rowAddr r k) 4 else 0

/-- Set slot word k of row r; rows fused off take no write (R2). -/
def Device.setSlot (d : Device) (r k v : Nat) : Device := if r < d.rowLimit then d.mwrite (rowAddr r k) 4 v else d

/-- Bits of QFLAG (R136). -/
abbrev qFRESH : Nat := 0
abbrev qMISS : Nat := 1
abbrev qCNV : Nat := 2
abbrev qPULL : Nat := 3
abbrev qBAL : Nat := 4
abbrev qOWSUS : Nat := 5
abbrev qOPENW : Nat := 6
abbrev qTSUB : Nat := 7
abbrev qTIME : Nat := 8
abbrev qSUMERR : Nat := 9
abbrev qREF : Nat := 10
abbrev qALM : Nat := 11
abbrev qNEW : Nat := 12
abbrev qABSENT : Nat := 13
abbrev qBSWF : Nat := 14
abbrev qMASKED : Nat := 15

/-- Low half of a slot (bits 15:0) and its high half (bits 31:16). -/
def Device.slotLo (d : Device) (r k : Nat) : Nat := d.slot r k % 65536
def Device.slotHi (d : Device) (r k : Nat) : Nat := d.slot r k / 65536
def Device.setSlotLo (d : Device) (r k v : Nat) : Device := if r < d.rowLimit then d.mwrite (rowAddr r k) 2 v else d
def Device.setSlotHi (d : Device) (r k v : Nat) : Device := if r < d.rowLimit then d.mwrite (rowAddr r k + 2) 2 v else d

/-- Row changes that wait for their epoch's scoreboard write, oldest first (R17). -/
def Device.heldOps (d : Device) : List RowOp := d.acq.ops ++ d.acq.pend.flatMap fun p => p.ops

/-- Bit k of QFLAG that waits for the rows of node i, the latest one. (DEDUCED, log 106.) -/
def Device.heldFlag (d : Device) (i k : Nat) : Option Bool :=
  d.heldOps.foldl (fun (m : Option Bool) o => match o with
    | .flag n j b => if n = i ∧ j = k then some b else m
    | _ => m) none

/-! ### The frame of every meaning -/

/-- A command's effect on the device, followed by what settles in the same instant; the queue stays as it is.
(DEDUCED, log 5 and 6.) -/
def onDev (s : State) (f : Device → Device) : Host.Outcome State Fault Refusal := .next { s with dev := (f s.dev).settle }

/-- The control die runs (R26, R36). (DEDUCED, log 6.) -/
def Device.awake (d : Device) : Bool := d.fd.ctl == .running

/-- An event of the control die: without effect while the die is off or held in reset. (DEDUCED, log 6.) -/
def onCtl (s : State) (f : Device → Device) : Host.Outcome State Fault Refusal :=
  onDev s fun d => if d.awake then f d else d

/-- Fresh index for a free value. (DESIGN CHOICE, log 9.) -/
def Device.fresh (d : Device) : Nat × Device := (d.free, { d with free := d.free + 1 })

end Sys2Proof.Machine
end

