-- ==== Sys2Proof/Machine/Approx.lean ====
section
/-! DEFINITION. e^(−x) in fixed point, for the pre-charge envelope and the resistor model (R258, R260). The spec names the
exponential and no precision; the value here is rounded down, within 2⁻⁴⁰ of the true one. -/

namespace Sys2Proof.Machine

/-- One in the fixed-point form: 2⁶⁴. -/
def fxOne : Nat := 2 ^ 64

/-- The Taylor sum 1 − x (1 − x/2 (1 − x/3 (...))) of `n` terms from the `k`-th, for x below one half, x in units of 2⁻⁶⁴.
(DEDUCED, log 44.) -/
def expTaylor (x : Nat) : (k n : Nat) → Nat
  | _, 0 => fxOne
  | k, n + 1 => fxOne - x * expTaylor x (k + 1) n / fxOne / k

/-- Square `n` times. -/
def fxSquares (v : Nat) : Nat → Nat
  | 0 => v
  | n + 1 => fxSquares (v * v / fxOne) n

/-- e^(−num/den) in units of 2⁻⁶⁴; 0 beyond x = 45, where it is below 2⁻⁶⁴. (DEDUCED, log 44.) -/
def expNeg (num den : Nat) : Nat :=
  if den = 0 ∨ num ≥ 45 * den then 0
  else fxSquares (expTaylor (num * fxOne / den / 128) 1 16) 7

/-- Least `n` from `lo` with e^(−n/tau) × v ≤ lim, by halving; `fuel` halvings of `step`. (DEDUCED, log 44.) -/
def waitSearch (v lim tau : Nat) : (lo step fuel : Nat) → Nat
  | lo, _, 0 => lo
  | lo, step, fuel + 1 =>
    if v * expNeg (lo + step) tau / fxOne ≤ lim then waitSearch v lim tau lo (step / 2) fuel
    else waitSearch v lim tau (lo + step) (step / 2) fuel

end Sys2Proof.Machine
end

