-- ==== Sys2Proof/Machine/Contactors.lean ====
section
/-! DEFINITION. CTD: drivers, connects, opens, the pre-charge resistor model (R245 to R267, R465). -/

namespace Sys2Proof.Machine

/-- CTD's unit base. -/
abbrev uCTD : Nat := 0x60150000
abbrev uSYS : Nat := 0x60000000
abbrev uREF : Nat := 0x60140000

/-! ### Measurement inputs -/

/-- The enabled BMI input with a function on bank b (R256). -/
def Device.inputOf (d : Device) (func b : Nat) : Option Nat :=
  (List.range 16).find? fun i => d.on (BMI_ICFG_EN i) && d.get (BMI_ICFG_FUNC i) == func && d.get (BMI_ICFG_BANK i) == b

/-- Bank b has such an input and it is not STUCK (R151). -/
def Device.inputValid (d : Device) (func b : Nat) : Bool :=
  match d.inputOf func b with
  | some i => !d.on (BMI_IST_STUCK i)
  | none => false

/-- The latest main filter output of such an input, in mA or mV (R147). -/
def Device.inputVal (d : Device) (func b : Nat) : Int :=
  match d.inputOf func b with
  | some i => d.gets (BMI_LSMP_X i)
  | none => 0

def Device.uBat (d : Device) (b : Nat) : Int := d.inputVal 2 b
def Device.uLink (d : Device) (b : Nat) : Int := d.inputVal 3 b
def Device.iBank (d : Device) (b : Nat) : Int := d.inputVal 1 b

/-! ### Drivers -/

/-- Close a driver (R249): no driver of a bank whose series switches do not conduct (R465) and no fenced one (R254). What the
open check knows of its aux is of the past (R262). -/
def Device.closeDriver (d : Device) (k : Nat) : Device :=
  if !d.seriesWanted (k / 3) || d.on (CTD_DST_FEN k) then d
  else
    (d.setDk k fun v => { v with pulling := true, moved := false, auxDue := none, waitRel := false }).when_
      (d.on CTD_CTL_EN) (fun d => d.setDrvSt k .pullIn)

/-- Turn a high side off: slow quench while the series switch conducts, fast quench while it does not (R465). -/
def Device.openDriver (d : Device) (k : Nat) : Device :=
  let d' := d.setDk k Driver.released
  if (d.drvSt k).high then
    if d.on (CTD_DST_SS k) then d'.setDrvSt k .slowQuench else (d'.setDrvSt k .fastQuench).count16 (CTD_DQCNT k)
  else d'

/-- Turn a high side off in an orderly open: an active device waits for the partner's shadow release (R267). -/
def Device.openOrderly (d : Device) (k : Nat) : Device :=
  if d.get CTD_CTL_ROLE = 1 ∧ (d.drvSt k).high ∧ ¬ (d.get CTD_SHDREL_REL).testBit k then
    (d.setDk k fun v => { v with waitRel := true }).prlSend (.shadowRelease (Fin.ofNat 12 k))
  else d.openDriver k

/-- Record a weld on a driver (R257, R258, R262). (DEDUCED, log 41.) -/
def Device.weldDriver (d : Device) (k : Nat) : Device :=
  ((d.put (CTD_DST_WELD k) 1).up (CTD_DEVT_WELD k)).put (CTD_BST_WELD (k / 3)) 1

/-! ### The resistor model -/

/-- Predicted rise of a full pre-charge in units of 2⁻⁶⁴ K (R260). -/
def Device.predictedRise (d : Device) (b : Nat) : Nat :=
  d.get (CTD_PCT_TAU b) * (d.uBat b).natAbs ^ 2 * fxOne / (2 * d.get (CTD_PCR_RPC b) * d.get (CTD_PCR_CTH b) * 100000000)

/-- The rise limit in units of 2⁻⁶⁴ K. -/
def Device.riseLimit (d : Device) (b : Nat) : Nat := d.get (CTD_PCM_DTMAX b) * fxOne

/-- The resistor gate is open (R260). -/
def Device.gateOpen (d : Device) (b : Nat) : Bool := (d.bk b).dT + d.predictedRise b ≤ d.riseLimit b

/-- Whole seconds until the gate opens (R260). -/
def Device.gateWait (d : Device) (b : Nat) : Nat :=
  let pred := d.predictedRise b
  if d.riseLimit b < pred then 0xFFFF
  else if d.gateOpen b then 0
  else if d.riseLimit b = pred then 0xFFFF
  else min 0xFFFF (waitSearch (d.bk b).dT (d.riseLimit b - pred) (d.get (CTD_PCM_TTH b)) 0 32768 16 + 1)

/-- One millisecond of bank b's resistor model, and CTD's samples of that millisecond (R257, R260, R262). -/
def Device.bankTick (d : Device) (b : Nat) : Device :=
  let v := d.bk b
  let ub := d.uBat b
  let ul := d.uLink b
  let weldV : Int := d.get (CTD_WLD_WELDV b) * 1000
  let rise := d.phase b == .w0 && (match v.uw with | some uw => decide (uw + weldV ≤ ul) | none => false)
  let path := v.path || rise
  let cool := v.dT * expNeg 1 (1000 * d.get (CTD_PCM_TTH b)) / fxOne
  let heat := if path then (ub - ul).natAbs ^ 2 * fxOne / (d.get (CTD_PCR_RPC b) * d.get (CTD_PCR_CTH b) * 100000000) else 0
  let chk := d.phase b == .check
  let d := d.setBk b fun v =>
    { v with
      w0Rise := v.w0Rise || rise
      path := path
      dT := cool + heat
      vxSeen := if chk then v.vxSeen || decide (weldV ≤ ((ub - ul).natAbs : Int)) else v.vxSeen
      weldRun := if chk then (if d.get (CTD_WLD_WELDI b) * 1000 ≤ (d.iBank b).natAbs then v.weldRun + 1 else 0) else v.weldRun }
  (d.put (CTD_PTMP_DT b) (min 0xFFFF ((d.bk b).dT / 2 ^ 58))).put (CTD_PTMP_WAIT b) (d.gateWait b)

/-! ### Connect -/

/-- The first failing check of a connect request with its status and reason (R256); `bySys` when it came by SYS_MREQ. -/
def Device.connectRefusal (d : Device) (b : Nat) (bySys : Bool) : Option (Status × Nat) :=
  if d.get CTD_CTL_ROLE = 2 then some (.reject, 10)
  else if (if bySys then d.mode != .ready else d.mode != .online && d.mode != .degraded) then some (.reject, 11)
  else if d.bankSt b ≠ .opened then some (.reject, 1)
  else if d.anyPrecharging then some (.busy, 2)
  else if !d.on REF_ST_ARMED || !d.seriesWanted b then some (.reject, 3)
  else if d.on (CTD_DST_FEN (3 * b)) || d.on (CTD_DST_FEN (3 * b + 1)) || d.on (CTD_DST_FEN (3 * b + 2)) then some (.fenced, 9)
  else if d.on (CTD_BST_WELD b) then some (.reject, 8)
  else if !d.inputValid 2 b || !d.inputValid 3 b then some (.reject, 4)
  else if d.uBat b < d.get (CTD_PCV_UMIN b) * 1000 then some (.reject, 5)
  else if d.uBat b < 2 * d.uLink b then some (.reject, 6)
  else if !d.gateOpen b then some (.busy, 7)
  else none

/-- An accepted connect: the bank becomes PRECHARGING and the pre-charge driver closes alone (R256, R257). An open check that
runs ends without a result, and so does the low-current epoch (R155). (DEDUCED, log 40.) -/
def Device.startConnect (d : Device) (b : Nat) : Device :=
  let d := d.setBk b fun v =>
    { Bank.reset with dT := v.dT }
  (((d.lceExit.setBankSt b .precharging).setPhase b .w0).closeDriver (3 * b + 2))

/-- End a connect that did not complete: pre-charge and main− open with slow quench, and main+ if it was pulled in; the bank
returns to OPEN and the device to READY from PRECHARGE (R259, R36). -/
def Device.endConnect (d : Device) (b outc reason : Nat) : Device :=
  let d := ((d.openDriver (3 * b + 2)).openDriver (3 * b + 1)).openDriver (3 * b)
  let d := (d.put (CTD_BST_OUTC b) outc).put (CTD_BST_REASON b) reason
  let d := (d.up (CTD_BEVT_CONN b)).setPhase b .opening
  let d := d.setBk b fun v => { v with path := false, gapDue := false, orderly := false }
  let d := d.setBankSt b (if d.bankSt b = .out then .out else .opened)
  d.when_ (d.mode == .precharge) fun d => d.enter .ready

/-- The armature of driver k, as R250 defines it: the aux check falls due and the connect moves on (R251, R257). A connect that
an open bank action on another bank left in READY (R36) closes its bank as well. (DEDUCED, log 37 and 51.) -/
def Device.armature (d : Device) (k : Nat) : Device :=
  let b := k / 3
  let d := d.when_ (d.on (CTD_DCFG_AUXEN k)) fun d => d.setDk k fun v => { v with auxDue := some true }
  match k % 3, d.phase b with
  | 2, .w0 => if (d.bk b).uw.isNone then d.setBk b fun v => { v with uw := some (d.uLink b) } else d
  | 1, .pre =>
    if (d.bk b).u0.isNone then
      d.setBk b fun v =>
        { v with u0 := some (d.uLink b), t := 0, fastRun := 0, slowRun := 0, hist := [d.uLink b], path := true }
    else d
  | 0, .mainPull =>
    let d := (d.setBankSt b .closed).setPhase b .overlap
    let d := ((d.put (CTD_BST_OUTC b) 1).put (CTD_BST_REASON b) 0).up (CTD_BEVT_CONN b)
    let d := d.setBk b fun v => { v with path := false }
    d.when_ (d.mode == .precharge || d.mode == .ready) fun d => d.enter d.onlineMode
  | _, _ => d

/-- The judgements of one evaluation of R258. -/
inductive Judge where
  | hot | fastEnv | slowEnv | slowTime | complete | none
  deriving DecidableEq, Repr

/-- e^(−x) ∓ m against r(t), multiplied out by U_b − U_0; for U_b ≤ U_0 the ratio has no value that the spec states.
(DESIGN CHOICE, log 11; DEDUCED, log 44.) -/
def Device.envelope (d : Device) (b t : Nat) (u0 : Int) : Bool × Bool :=
  let tau := d.get (CTD_PCT_TAU b)
  let m : Int := d.get (CTD_PCT_MARG b) * fxOne
  let num := (d.uBat b - d.uLink b) * 1000 * fxOne
  let den := d.uBat b - u0
  if den ≤ 0 then Config.ratioUndefined d.now b
  else
    (decide (num < ((expNeg (2 * t) tau : Int) * 1000 - m) * den),
     decide (((expNeg t (2 * tau) : Int) * 1000 + m) * den < num))

/-- Evaluate the pre-charge of bank b at the next millisecond (R258), and the device with its counts updated.
(DEDUCED, log 38.) -/
def Device.judge (d : Device) (b : Nat) (u0 : Int) : Judge × Device :=
  let t := (d.bk b).t + 1
  let env := d.envelope b t u0
  let fast := if env.1 then (d.bk b).fastRun + 1 else 0
  let slow := if env.2 then (d.bk b).slowRun + 1 else 0
  let ul := d.uLink b
  let hist := (ul :: (d.bk b).hist).take 11
  let tau := d.get (CTD_PCT_TAU b)
  let d := d.setBk b fun v => { v with t := t, fastRun := fast, slowRun := slow, hist := hist }
  let j : Judge :=
    if d.riseLimit b ≤ (d.bk b).dT then .hot
    else if 3 ≤ fast then .fastEnv
    else if tau ≤ 2 * t ∧ 3 ≤ slow then .slowEnv
    else if 6 * tau ≤ t then .slowTime
    else if 10 ≤ t ∧ d.get (CTD_PCT_DONE b) * d.uBat b ≤ 100 * ul ∧
        (ul - (hist[10]?).getD ul).natAbs ≤ 10 * d.get (CTD_PCV_DVDT b) then .complete
    else .none
  (j, d)

/-! ### Open -/

/-- Start an open: main+ and pre-charge at once, main− after the gap (R261, R267). -/
def Device.startOpen (d : Device) (b : Nat) (gap : Bool) : Device :=
  let d := ((d.openOrderly (3 * b)).openOrderly (3 * b + 2)).setPhase b .opening
  if gap then d.setBk b fun v => { v with gapDue := true, orderly := true }
  else (d.openOrderly (3 * b + 1)).setBk b fun v => { v with gapDue := false, orderly := true }

/-- The bank's current is at or below OPENI; without a current input it is not (R261). (DEDUCED, log 40.) -/
def Device.belowOpenI (d : Device) (b : Nat) : Bool :=
  d.inputValid 1 b && decide ((d.iBank b).natAbs ≤ d.get (CTD_OPN_OPENI b) * 1000)

/-- Count an open by force above OPENI (R261). (DEDUCED, log 40.) -/
def Device.countForced (d : Device) (b : Nat) : Device := d.when_ (!d.belowOpenI b) fun d => d.count16 (CTD_OCNT b)

/-- An open of a CLOSED bank b by force: R255 and R465 (R261). One that runs already goes on, and without a gap main− opens now.
(DEDUCED, log 40.) -/
def Device.forceOpen (d : Device) (b : Nat) (gap : Bool) : Device :=
  if d.bankSt b = .closed then
    let d := d.countForced b
    if d.phase b ≠ .opening then d.startOpen b gap
    else if !gap && (d.bk b).gapDue then (d.setBk b fun v => { v with gapDue := false }).openOrderly (3 * b + 1)
    else d
  else d

/-- What a fault of a driver does to its bank: a connect is too slow with reason DRV (R257), a closed bank opens by force
(R255). -/
def Device.driverFault (d : Device) (k : Nat) : Device :=
  let b := k / 3
  if (d.phase b).connecting then d.endConnect b 3 3 else d.forceOpen b true

/-- Fence driver k (R254): a connect of its bank is too slow; a closed driver keeps its hold. -/
def Device.fenceDriver (d : Device) (k : Nat) : Device :=
  let d := d.put (CTD_DST_FEN k) 1
  if (d.phase (k / 3)).connecting then d.endConnect (k / 3) 3 3 else d

/-- Shadow currents follow CTD_CTL and CTD_SHD (R266): an enabled standby starts those that it may, otherwise they end.
(DEDUCED, log 93.) -/
def Device.shadows (d : Device) : Device :=
  (List.range 12).foldl (fun (d : Device) k =>
    if d.get CTD_CTL_ROLE = 2 ∧ d.on CTD_CTL_EN then d.startShadow k else if d.drvSt k == .shadow then d.openDriver k else d) d

/-- A write of EN = 0 opens every CLOSED bank by force without a gap and aborts a PRECHARGING one (R465); shadow currents end.
-/
def Device.disableDrivers (d : Device) : Device :=
  ((List.range 4).foldl (fun (d : Device) b =>
    match d.bankSt b with
    | .precharging => d.endConnect b 4 0
    | .closed => d.forceOpen b false
    | _ => d) d).shadows

/-! ### Commands of CTD_BCMD -/

/-- Report a command's status in CTD_BST and CTD_GEN (R256). -/
def Device.bcmdSt (d : Device) (b : Nat) (s : Status) (gen : Nat) : Device :=
  ((d.put (CTD_BST_ST b) s.code).put (CTD_BST_GEN b) gen).st uCTD s

/-- Core commands to CTD, LSW and MTR get BUSY until the reassertion, and nothing is written while the application domain is
held (R46, R49). (DEDUCED, log 42.) -/
def Device.fieldBusy (d : Device) : Bool := d.sys.reassertDue

/-- A command of CTD_BCMD (R49, R51), its action given. (DEDUCED, log 42.) -/
def Device.bcmd (d : Device) (b gen : Nat) (f : Device → Status × Device) : Device :=
  if d.sys.appHeld then d
  else if d.fieldBusy then d.st uCTD .busy
  else if gen ≠ d.gen uCTD then d.bcmdSt b .reset (d.gen uCTD)
  else
    let r := f d
    r.2.bcmdSt b r.1 gen

/-- CTD_BCMD connect (R256). -/
def Device.bankConnect (d : Device) (b : Nat) : Status × Device :=
  match d.connectRefusal b false with
  | some (s, r) => (s, d.put (CTD_BST_REJR b) r)
  | none => (.ok, d.startConnect b)

/-- CTD_BCMD open (R261): an abort on a PRECHARGING bank. With FORCE it is always accepted: a bank that is OPEN or OUT runs the
sequence with nothing left to switch off. Without FORCE it needs a small current and a CLOSED bank; one that opens already goes
on. (DEDUCED, log 40.) -/
def Device.bankOpen (d : Device) (b : Nat) (force : Bool) : Status × Device :=
  match d.bankSt b with
  | .precharging => (.ok, d.endConnect b 4 0)
  | .closed =>
    if force then (.ok, d.forceOpen b true)
    else if !d.belowOpenI b then (.reject, d)
    else (.ok, if d.phase b = .opening then d else d.startOpen b true)
  | _ => if force then (.ok, (d.countForced b).startOpen b true) else (.reject, d)

/-- CTD_BCMD abort (R259): ends a connect; without one it gets REJECT. -/
def Device.bankAbort (d : Device) (b : Nat) : Status × Device :=
  if d.bankSt b = .precharging then (.ok, d.endConnect b 4 0) else (.reject, d)

/-- CTD_BCMD clear weld (R262): in READY only. -/
def Device.clearWeld (d : Device) (b : Nat) : Status × Device :=
  if d.mode = .ready then
    (.ok, (((d.put (CTD_BST_WELD b) 0).put (CTD_DST_WELD (3 * b)) 0).put (CTD_DST_WELD (3 * b + 1)) 0).put
      (CTD_DST_WELD (3 * b + 2)) 0)
  else (.reject, d)

/-- A write of CTD_BCMD as a register (R256 to R262, R462). -/
def Device.writeBcmd (d : Device) (b : Nat) (w : Word) : Device :=
  let gen := bitsOf w 24 8
  match bitsOf w 0 3 with
  | 1 => d.bcmd b gen (fun d => d.bankConnect b)
  | 2 => d.bcmd b gen (fun d => d.bankOpen b (bitsOf w 8 1 == 1))
  | 3 => d.bcmd b gen (fun d => d.bankAbort b)
  | 4 => d.bcmd b gen (fun d => d.clearWeld b)
  | _ => d.st uCTD .range

/-! ### Meanings -/

/-- BANK_OPEN (R261). -/
def execBankOpen (b : Fin 4) (force : Bool) (gen : Byte) (s : State) : Host.Outcome State Fault Refusal :=
  onCtl s fun d => d.bcmd b gen.toNat fun d => d.bankOpen b force

/-- BANK_ABORT (R259). -/
def execBankAbort (b : Fin 4) (gen : Byte) (s : State) : Host.Outcome State Fault Refusal :=
  onCtl s fun d => d.bcmd b gen.toNat fun d => d.bankAbort b

/-- CLEAR_WELD (R262). -/
def execClearWeld (b : Fin 4) (gen : Byte) (s : State) : Host.Outcome State Fault Refusal :=
  onCtl s fun d => d.bcmd b gen.toNat fun d => d.clearWeld b

/-- ARMATURE_MOVEMENT (R250): the dip of driver k is recorded while its pull-in runs and ARMEN = 1. -/
def execArmatureMovement (k : Fin 12) (t : Half) (s : State) : Host.Outcome State Fault Refusal :=
  onDev s fun d =>
    if d.on (CTD_DCFG_ARMEN k) && d.drvSt k == .pullIn && (d.dk k).pulling && !(d.dk k).moved then
      (((d.setDk k fun v => { v with moved := true }).put (CTD_DARMT_T k) t.toNat).up (CTD_DEVT_ARM k)).armature k
    else d

/-- A main+ or main− driver of an active device entered hold: PRL asks a standby partner to shadow it (R418). -/
def Device.askShadow (d : Device) (k : Nat) : Device :=
  if d.on PRL_CTL_EN && d.isActive && d.on PRL_ST_UP && d.get PRL_ST_PALV == 1 && k % 3 != 2 && d.drvSt k == .hold &&
      !d.prl.shadowed.getLsbD k then
    ({ d with prl := { d.prl with shadowed := d.prl.shadowed ||| (1#12 <<< k) } }.showRel).prlSend (.shadow (Fin.ofNat 12 k))
  else d

/-- PULL_IN_END (R249, R250, R266): on a device that is not standby the driver goes to hold; without a recorded movement NOARM
is set and a connect is too slow; with ARMEN = 0 this end is the armature. (DEDUCED, log 43.) -/
def execPullInEnd (k : Fin 12) (s : State) : Host.Outcome State Fault Refusal :=
  onDev s fun d =>
    if (d.dk k).pulling && d.get CTD_CTL_ROLE != 2 then
      let d := (d.setDk k fun v => { v with pulling := false }).when_ (d.drvSt k == .pullIn) fun d =>
        (d.setDrvSt k .hold).askShadow k
      if d.on (CTD_DCFG_ARMEN k) then
        if (d.dk k).moved then d
        else
          let d := d.up (CTD_DEVT_NOARM k)
          if (d.phase (k.val / 3)).connecting then d.endConnect (k.val / 3) 3 3 else d
      else d.armature k
    else d

/-- W0_END (R257 steps 3 and 4). (DEDUCED, log 41.) -/
def execW0End (b : Fin 4) (s : State) : Host.Outcome State Fault Refusal :=
  onDev s fun d =>
    if d.phase b = .w0 ∧ (d.bk b).uw.isSome then
      if (d.bk b).w0Rise then (d.weldDriver (3 * b + 1)).endConnect b 2 1
      else (d.setPhase b .pre).closeDriver (3 * b + 1)
    else d

/-- PRECHARGE_EVAL (R258, R259, R257 step 6): a standby judges nothing (R266). -/
def execPrechargeEval (b : Fin 4) (s : State) : Host.Outcome State Fault Refusal :=
  onDev s fun d =>
    if d.get CTD_CTL_ROLE = 2 then d
    else match d.phase b, (d.bk b).u0 with
    | .pre, some u0 =>
      let r := d.judge b u0
      let d := r.2
      match r.1 with
      | .hot => d.endConnect b 3 2
      | .fastEnv => (d.weldDriver (3 * b)).endConnect b 2 0
      | .slowEnv => d.endConnect b 3 0
      | .slowTime => d.endConnect b 3 1
      | .complete => (d.setPhase b .mainPull).closeDriver (3 * b)
      | .none => d
    | _, _ => d

/-- PRECHARGE_RELEASE (R257 step 8). -/
def execPrechargeRelease (b : Fin 4) (s : State) : Host.Outcome State Fault Refusal :=
  onDev s fun d => if d.phase b = .overlap then (d.openDriver (3 * b + 2)).setPhase b .closed else d

/-- OPEN_GAP_EXPIRY (R261 step 2). -/
def execOpenGapExpiry (b : Fin 4) (s : State) : Host.Outcome State Fault Refusal :=
  onDev s fun d =>
    if d.phase b = .opening ∧ (d.bk b).gapDue then
      (d.setBk b fun v => { v with gapDue := false }).openOrderly (3 * b + 1)
    else d

/-- One coil of the bank is at zero; a standby reports the release of its shadow (R418). (DEDUCED, log 51.) -/
def Device.coilZero (d : Device) (k : Nat) : Device :=
  match d.drvSt k with
  | .slowQuench | .fastQuench =>
    let d := d.when_ (d.follower && d.drvSt k == .slowQuench) fun d => d.prlSend (.released (Fin.ofNat 12 k))
    (d.setDrvSt k .off).when_ (d.on (CTD_DCFG_AUXEN k)) fun d => d.setDk k fun v => { v with auxDue := some false }
  | _ => d

/-- No high side of the bank conducts. -/
def Device.bankUndriven (d : Device) (b : Nat) : Bool :=
  !(d.drvSt (3 * b)).high && !(d.drvSt (3 * b + 1)).high && !(d.drvSt (3 * b + 2)).high

/-- COIL_CURRENT_ZERO (R261 step 3): quenched coils are off; when the bank was opening and no high side conducts, the bank is
OPEN unless it is OUT, and the open check starts (R262), on a device that is not standby (R266). -/
def execCoilCurrentZero (b : Fin 4) (s : State) : Host.Outcome State Fault Refusal :=
  onDev s fun d =>
    let d := ((d.coilZero (3 * b)).coilZero (3 * b + 1)).coilZero (3 * b + 2)
    if d.phase b = .opening ∧ d.bankUndriven b ∧ (d.bk b).gapDue = false then
      let d := d.when_ (d.bk b).orderly fun d => d.up (CTD_BEVT_OPND b)
      let d := d.when_ (d.bankSt b == .closed) fun d => d.setBankSt b .opened
      (d.setPhase b (if d.get CTD_CTL_ROLE = 2 then .idle else .check)).setBk b fun v =>
        { v with orderly := false, vxSeen := false, weldRun := 0, path := false }
    else d

/-- OPEN_CHECK_END (R262): fail, pass or indeterminate; a device that has become standby ends it without a result (R266).
(DEDUCED, log 41.) -/
def execOpenCheckEnd (b : Fin 4) (s : State) : Host.Outcome State Fault Refusal :=
  onDev s fun d =>
    if d.phase b = .check then
      let v := d.bk b
      let d := d.setPhase b .idle
      if d.get CTD_CTL_ROLE = 2 then d
      else if v.auxClosed ≠ 0#3 then
        let d := d.when_ (v.auxClosed.getLsbD 0) fun d => d.weldDriver (3 * b)
        let d := d.when_ (v.auxClosed.getLsbD 1) fun d => d.weldDriver (3 * b + 1)
        let d := d.when_ (v.auxClosed.getLsbD 2) fun d => d.weldDriver (3 * b + 2)
        d.up (CTD_BEVT_WELD b)
      else if 10 ≤ v.weldRun then ((d.weldDriver (3 * b)).weldDriver (3 * b + 1)).up (CTD_BEVT_WELD b)
      else if v.vxSeen then d
      else d.up (CTD_BEVT_INDET b)
    else d

/-- AUX_CHECK (R251): the aux input of driver k stands at `level`; a check that is due compares it. (DEDUCED, log 51.) -/
def execAuxCheck (k : Fin 12) (level : Bool) (s : State) : Host.Outcome State Fault Refusal :=
  onDev s fun d =>
    if d.on (CTD_DCFG_AUXEN k) then
      let closed := level != d.on (CTD_DCFG_AUXPOL k)
      let d := d.putB (CTD_DST_AUX k) closed
      match (d.dk k).auxDue with
      | some want =>
        let d := (d.setDk k fun v => { v with auxDue := none }).when_ (closed != want) fun d => d.up (CTD_DEVT_AUXF k)
        d.when_ (!want && closed) fun d =>
          d.setBk (k.val / 3) fun v => { v with auxClosed := v.auxClosed ||| (1#3 <<< (k.val % 3)) }
      | none => d
    else d

/-- RESISTOR_MODEL_TICK (R260): one millisecond of every bank's model. (DEDUCED, log 44.) -/
def execResistorModelTick (s : State) : Host.Outcome State Fault Refusal :=
  onDev s fun d => (((d.bankTick 0).bankTick 1).bankTick 2).bankTick 3

/-- OUTPUT_CURRENT_LIMIT (R253 to R255): SHORT turns the high side off; a second one within 1 s fences the driver. -/
def execOutputCurrentLimit (k : Fin 12) (s : State) : Host.Outcome State Fault Refusal :=
  onDev s fun d =>
    if (d.drvSt k).high then
      let again := match (d.dk k).shortAt with | some t => decide (d.now ≤ t + 1000000000) | none => false
      let d := ((d.up (CTD_DEVT_SHORT k)).openDriver k).setDk k fun v => { v with shortAt := some d.now }
      let d := d.when_ again fun d => d.put (CTD_DST_FEN k) 1
      d.driverFault k
    else d

/-- COIL_CURRENT_LOW (R253, R255): OPENC with VFIELD at 9 V or more, LOWI below it. (DEDUCED, log 51.) -/
def execCoilCurrentLow (k : Fin 12) (vfieldAtLeast9 : Bool) (s : State) : Host.Outcome State Fault Refusal :=
  onDev s fun d =>
    if d.drvSt k = .pullIn ∨ d.drvSt k = .hold then
      (d.up (if vfieldAtLeast9 then CTD_DEVT_OPENC k else CTD_DEVT_LOWI k)).driverFault k
    else d

/-- SERIES_SWITCH_TEST (R253, R254, R266): a closed driver of a device that is not standby; the branch current must fall. -/
def execSeriesSwitchTest (k : Fin 12) (fell : Bool) (s : State) : Host.Outcome State Fault Refusal :=
  onDev s fun d =>
    if d.get CTD_CTL_ROLE ≠ 2 ∧ (d.drvSt k = .pullIn ∨ d.drvSt k = .hold) ∧ fell = false then
      (d.up (CTD_DEVT_SSF k)).fenceDriver k
    else d

/-- DRIVERS_DISABLE (R465): a write of CTD_CTL.EN = 0. -/
def execDriversDisable (s : State) : Host.Outcome State Fault Refusal :=
  onCtl s fun d => if d.sys.appHeld then d else ((d.put CTD_CTL_EN 0).disableDrivers).st uCTD .ok

/-- The partner is known to source no current into coil k: an orderly open that waits goes on (R267, R418). -/
def Device.relDriver (d : Device) (k : Nat) : Device :=
  let d := { d with prl := { d.prl with shadowed := d.prl.shadowed &&& ~~~(1#12 <<< k) } }
  let d := d.put CTD_SHDREL_REL (d.get CTD_SHDREL_REL ||| 2 ^ k)
  if (d.dk k).waitRel then d.openDriver k else d

/-- The partner shadows no driver (R418). -/
def Device.relAll (d : Device) : Device := (List.range 12).foldl (fun d k => d.relDriver k) d

/-- SHADOW_RELEASED (R267): the partner's release of driver k appears and its slow quench starts. -/
def execShadowReleased (k : Fin 12) (s : State) : Host.Outcome State Fault Refusal := onDev s fun d => d.relDriver k

/-- SHADOW_RELEASE_TIMEOUT (R267): the open ends with outcome ABORT, reason PAIR, and the drivers that wait stay closed. -/
def execShadowReleaseTimeout (b : Fin 4) (s : State) : Host.Outcome State Fault Refusal :=
  onDev s fun d =>
    if (d.dk (3 * b)).waitRel || (d.dk (3 * b + 1)).waitRel || (d.dk (3 * b + 2)).waitRel then
      let clr := fun (d : Device) (k : Nat) => d.setDk k fun v => { v with waitRel := false }
      let d := clr (clr (clr d (3 * b)) (3 * b + 1)) (3 * b + 2)
      let d := (d.put (CTD_BST_OUTC b) 4).put (CTD_BST_REASON b) 3
      (d.setPhase b .closed).setBk b fun v => { v with gapDue := false, orderly := false }
    else d

end Sys2Proof.Machine
end

