-- ==== Sys2Proof/Machine/Referee.lean ====
section
/-! DEFINITION. REF: the two channels, the string map, the limit table, the classes and the three actions, holds and
releases, arming, tightening and loosening (R215 to R242). -/

namespace Sys2Proof.Machine

/-! ### The two channels' copies -/

/-- A channel of the referee (R215). -/
inductive Chan where
  | a | b
  deriving DecidableEq, Repr

/-- A word of a channel's copy of the maps, the table or the matrix (R215): channel A's stands in the registers.
(DEDUCED, log 45.) -/
def Device.refWord (d : Device) (c : Chan) (addr : Nat) : Word :=
  match c with
  | .a => d.rget addr
  | .b => mapGetD addr (resetWord d.part addr) d.ref.chB

def Device.refGet (d : Device) (c : Chan) (f : Fld) : Nat := bitsOf (d.refWord c f.addr) f.lo f.w

/-- Write a word of the maps, the table or the matrix into both copies in one cycle (R219, R239). -/
def Device.refSet (d : Device) (addr : Nat) (v : Word) : Device :=
  { d.rset addr v with ref := { d.ref with chB := mapSet addr v d.ref.chB } }

/-- Addresses of the compared words: the maps, the table, the matrix and REF_MISSC (R216). (DEDUCED, log 48.) -/
def Device.copiesAgree (d : Device) : Bool :=
  (d.ref.chB.all fun e => d.rget e.1 == e.2) &&
    (d.regs.all fun e => !(decide (0x60142000 ≤ e.1) && decide (e.1 < 0x6014A048)) || d.refWord .b e.1 == e.2)

/-- The string field of node i's map entry, and whether it is valid (R219). -/
def Device.nmapStr (d : Device) (c : Chan) (i : Nat) : Nat :=
  d.refGet c (if i % 2 = 0 then REF_NMAP_STR0 (i / 2) else REF_NMAP_STR1 (i / 2))
def Device.nmapValid (d : Device) (c : Chan) (i : Nat) : Bool :=
  d.refGet c (if i % 2 = 0 then REF_NMAP_V0 (i / 2) else REF_NMAP_V1 (i / 2)) == 1

/-- The string that node i belongs to, if any (R219). -/
def Device.nodeString (d : Device) (c : Chan) (i : Nat) : Option Nat :=
  let s := d.nmapStr c i
  if d.nmapValid c i && d.refGet c (REF_SMAP_VALID s) == 1 then some s else none

def Device.strBank (d : Device) (c : Chan) (s : Nat) : Nat := d.refGet c (REF_SMAP_BANK s)

/-! ### Port ends, and what they send out of turn -/

def Device.pt (d : Device) (p : Nat) : PortState := mapGetD p PortState.reset d.flk.ports
def Device.setPt (d : Device) (p : Nat) (f : PortState → PortState) : Device :=
  { d with flk := { d.flk with ports := mapSet p (f (d.pt p)) d.flk.ports } }

/-- A port end is enabled: its ROLE is drive or listen (R230). -/
def Device.portEnabled (d : Device) (p : Nat) : Bool := d.get (FLK_PCTL_ROLE p) == 1 || d.get (FLK_PCTL_ROLE p) == 2

/-- The port ends of the flock that port end p belongs to (R84). -/
def Device.flockEnds (d : Device) (p : Nat) : List Nat :=
  if d.on (FLK_PCTL_TOPO p) then [p / 2 * 2, p / 2 * 2 + 1] else [p]

def Device.isRing (d : Device) (p : Nat) : Bool := d.on (FLK_PCTL_TOPO p)
/-- Port end p carries the A end of a ring or a chain (R83). -/
def Device.isAEnd (d : Device) (p : Nat) : Bool := !d.isRing p || p % 2 == 0
/-- The A end or chain end of the flock of p. -/
def Device.aEnd (d : Device) (p : Nat) : Nat := if d.isRing p then p / 2 * 2 else p
def Device.isDrive (d : Device) (p : Nat) : Bool := d.get (FLK_PCTL_ROLE p) == 1
def Device.isListen (d : Device) (p : Nat) : Bool := d.get (FLK_PCTL_ROLE p) == 2
/-- Population of p's flock (R83). -/
def Device.population (d : Device) (p : Nat) : Nat := d.get (FLK_PSTAT_NODES p)
/-- Trains that port end p's flock sends (R80). -/
def Device.trains (d : Device) (p : Nat) : Nat := if d.on (FLK_PCTL_PAIRM p) then 2 else 1

/-- The second train of pair mode has begun at port end p (R70, R77). -/
def Device.secondTrain (d : Device) (p : Nat) : Bool :=
  d.on (FLK_PCTL_PAIRM p) && decide ((d.pt p).phT + (1000 + 41 * d.population p) * 1000 ≤ d.now)

/-- Port end p is the scheduled owner of its link and fills it with K28.5 (R64, R70): a drive end outside the record phase, the
other end inside it, and the reverse in the second train. (DEDUCED, log 102.) -/
def Device.ownsLink (d : Device) (p : Nat) : Bool :=
  d.portEnabled p && (d.isDrive p != ((d.pt p).phase && !d.secondTrain p))

/-- Port end p sends a preemptive sequence from `at_`: inserted in what it sends, or a seize of 1.5 µs (R66, R67). The rest of
a frame, and what follows on the link, leaves 1 µs later. (DEDUCED, log 102.) -/
def Device.preempt (d : Device) (p at_ : Nat) : Device :=
  d.setPt p fun v => { v with
    seqUntil := max v.seqUntil (at_ + if d.ownsLink p then 1000 else 1500)
    txUntil := if at_ < v.txUntil then v.txUntil + 1000 else v.txUntil
    lineAt := if at_ < v.lineAt then v.lineAt + 1000 else v.lineAt }

/-- Port end p is sending a WHISTLE, MARKER or BELL, so it takes nothing from the link (R69). (DEDUCED, log 102.) -/
def Device.contends (d : Device) (p : Nat) : Bool := decide (d.now < (d.pt p).seqUntil)

/-! ### Whistles -/

/-- Whistles of a port end that have not left it yet (R236). -/
def Device.whistlesOf (d : Device) (p : Nat) : List WhistleReq :=
  d.ref.whistles.filter fun w => w.port.val == p && decide (d.now ≤ w.at_)

/-- Request one whistle at port end p: it leaves at once or 1 µs after the one before it (R236). (DEDUCED, log 43.) -/
def Device.whistleAt (d : Device) (p : Fin 128) (arg : Byte) : Device :=
  let last := (d.whistlesOf p.val).foldl (fun m w => max m (w.at_ + 1000)) d.now
  ({ d with ref := { d.ref with whistles := d.ref.whistles ++ [⟨p, arg, last⟩] } } : Device).preempt p.val last

/-- Replace every pending whistle of port end p by one 0xFF (R236). -/
def Device.whistleAllAt (d : Device) (p : Fin 128) : Device :=
  ({ d with ref := { d.ref with
      whistles := (d.ref.whistles.filter fun w => !(w.port == p && decide (d.now < w.at_))) ++ [⟨p, 0xFF#8, d.now⟩] } }
    : Device).preempt p.val d.now

/-- WHISTLE 0xFF at every enabled port end (R230, R235). (DEDUCED, log 43.) -/
def Device.whistleEverywhere (d : Device) : Device :=
  (List.finRange 128).foldl (fun d p => if d.portEnabled p.val then d.whistleAllAt p else d) d

/-! ### Pen holds -/

def penFld (s : Nat) : Fld := ⟨REF_PEN (s / 32), s % 32, 1⟩
def Device.penHeld (d : Device) (s : Nat) : Bool := d.on (penFld s)

/-- Start the pen confirmation of s unless one runs (R231). -/
def Device.startConf (d : Device) (s : Fin 512) : Device :=
  if d.ref.confs.any (fun c => c.str == s) then d
  else { d with ref := { d.ref with confs := d.ref.confs ++ [⟨s, d.now⟩] } }

/-- The port ends of the flock of string s's HEAD that whistle (R230). -/
def Device.stringEnds (d : Device) (c : Chan) (s : Nat) : List Nat :=
  (d.flockEnds (d.refGet c (REF_SMAP_END s))).filter d.portEnabled

/-- Strings in use whose HEAD sits on the flock of port end p (R236). -/
def Device.flockStrings (d : Device) (p : Nat) : List (Fin 512) :=
  (List.finRange 512).filter fun s =>
    d.on (REF_SMAP_VALID s.val) && (d.flockEnds p).contains (d.get (REF_SMAP_END s.val))

/-- Whistle the HEAD of s; more than 8 pending on its flock become one 0xFF and pen every string of the flock (R236). -/
def Device.whistleString (d : Device) (c : Chan) (s : Nat) : Device :=
  let ends := d.stringEnds c s
  let arg := BitVec.ofNat 8 (d.refGet c (REF_SMAP_APOS s))
  let full := ends.any fun p => 8 ≤ (d.whistlesOf p).length
  if full then
    let d := ends.foldl (fun d p => d.whistleAllAt (Fin.ofNat 128 p)) d
    (d.flockStrings (d.refGet c (REF_SMAP_END s))).foldl (fun d t => (d.put (penFld t.val) 1).startConf t) d
  else ends.foldl (fun d p => d.whistleAt (Fin.ofNat 128 p) arg) d

/-- Pen string s (R230). -/
def Device.penString (d : Device) (c : Chan) (s : Fin 512) (confirm : Bool) : Device :=
  let d := (d.whistleString c s.val).put (penFld s.val) 1
  if confirm then d.startConf s else d

/-! ### Open bank and open all -/

/-- Open bank b (R230): the hold is set and the bank is OUT; an action that leaves no bank CLOSED takes the device to READY
(R36), but for one on a bank that was already open while another one is PRECHARGING in PRECHARGE. On a bank whose hold is set
nothing changes. (DEDUCED, log 37 and 73.) -/
def Device.openBankAct (d : Device) (b : Nat) : Device :=
  if d.bankHold b then d
  else
    let d := ((d.put (bankHoldFld b) 1).endSequence b)
    if (d.mode = .online ∨ d.mode = .degraded) ∧ ¬ d.anyClosed ∨ d.mode = .precharge ∧ ¬ d.anyPrecharging then d.enter .ready
    else d

/-- Open all (R230): every bank hold and every pen hold, WHISTLE 0xFF, TRIP_N, TRIPPED. -/
def Device.openAllAct (d : Device) : Device :=
  let d := (List.range 4).foldl (fun d b => (d.put (bankHoldFld b) 1).endSequence b) d
  let d := (List.range 16).foldl (fun d j => d.put (REF_PEN_HOLD j) 0xFFFFFFFF) d
  ((d.whistleEverywhere).put REF_ST_TRIPO 1).enter .tripped

/-! ### Classes -/

/-- What an evaluation raises: its class, and the channel and the reading judged where it has them. -/
structure Raise where
  cls : Nat
  ch  : Nat
  val : Int
  deriving DecidableEq, Repr

/-- What a class names (R228). -/
structure Named where
  /-- the class was raised by a node, which belongs to a string or to none -/
  node : Option Nat
  str  : Option Nat
  bank : Option Nat
  deriving DecidableEq, Repr

/-- The action of a class: 1 pen, 2 open bank, 3 open all (R228); a node of no string opens all (R219). -/
def Device.classAct (d : Device) (c : Chan) (n : Named) (cls : Nat) : Nat :=
  if 15 ≤ cls then 3
  else if n.node.isSome && n.str.isNone then 3
  else bitsOf (d.refWord c REF_ESC) (2 * cls) 2

/-- Class of the strongest action, the lowest number among equals (R229): (class, action). (DEDUCED, log 36.) -/
def strongest : List (Nat × Nat) → Option (Nat × Nat)
  | [] => none
  | x :: xs =>
    match strongest xs with
    | none => some x
    | some y => if y.2 < x.2 ∨ (y.2 = x.2 ∧ x.1 ≤ y.1) then some x else some y

/-- The bank that an open bank action of the class opens. -/
def Device.namedBank (d : Device) (c : Chan) (n : Named) : Option Nat :=
  match n.bank, n.str with
  | some b, _ => some b
  | none, some s => some (d.strBank c s)
  | none, none => none

/-- Carry out an action (R230). A device of a pair carries out an open bank as an open all while the link is down (R415).
(DEDUCED, log 73.) -/
def Device.carryOut (d : Device) (c : Chan) (n : Named) (act : Nat) : Device :=
  match act with
  | 1 => match n.str with | some s => d.penString c (Fin.ofNat 512 s) true | none => d
  | 2 =>
    if d.on PRL_ST_ROLE && !d.on PRL_ST_UP then (d.up PRL_EVT_ESCAL).openAllAct
    else match d.namedBank c n with
      | some b =>
        if d.bankHold b then d
        else match n.str with
          | some s => (d.openBankAct b).penString c (Fin.ofNat 512 s) false
          | none => d.openBankAct b
      | none => d
  | 3 => d.openAllAct
  | _ => d

/-- Send an action that this referee has decided to the partner (R414). -/
def Device.sendAction (d : Device) (cls act : Nat) (n : Named) (bank : Option Nat) : Device :=
  let a : RefAct := match act with | 1 => .pen | 2 => .openBank | 3 => .openAll | _ => .none
  d.prlSend (.action ⟨Fin.ofNat 20 cls, a, n.str.map (Fin.ofNat 512), bank.map (Fin.ofNat 4)⟩)

/-- Record a class in REF_CSTAT (R229). (DEDUCED, log 36.) -/
def Device.markClass (d : Device) (cls : Nat) : Device := d.put ⟨REF_CSTAT, cls, 1⟩ 1

/-- A class that names bank b, if it names one, has acted: the bank's quiet time starts again (R234). -/
def Device.actsOn (d : Device) (b : Option Nat) : Device :=
  match b with
  | some b => { d with ref := { d.ref with bankQuiet := d.ref.bankQuiet.setIfInBounds b 0 } }
  | none => d

/-- Channel c of the referee has failed (R217). -/
def Device.chanFailed (d : Device) : Chan → Bool
  | .a => d.ref.failed.getLsbD 0
  | .b => d.ref.failed.getLsbD 1

/-- The evaluation of channel c raised `rs`, naming `n`, in epoch `ep` (R228, R229, R238): a failed channel raises nothing
(R217), and classes 15 to 19 act from MUSTER onward. REF_LAST holds a node for classes 0 to 9, REF_LASTC the low bits of a
substitute above 65,535. (DEDUCED, log 36.) -/
def Device.raise (d : Device) (c : Chan) (rs : List Raise) (n : Named) (ep : Nat) : Device :=
  if rs.isEmpty || d.chanFailed c then d
  else
    let d := rs.foldl (fun d r => d.markClass r.cls) d
    let low := rs.any (fun r => decide (r.cls < 10))
    let d := d.when_ low fun d => { d with ref := { d.ref with noisy := true } }
    if d.on REF_ST_ARMED || (d.mode.live && rs.any (fun r => decide (15 ≤ r.cls))) then
      let d := rs.foldl (fun d r => if r.cls < 15 then d.count16 (REF_ACTCNT r.cls) else d) d
      match strongest (rs.map fun r => (r.cls, d.classAct c n r.cls)) with
      | none => d
      | some (cls, act) =>
        let d := d.actsOn (if act = 0 then none else d.namedBank c n)
        let r := (rs.find? fun r => r.cls == cls).getD ⟨cls, 0, 0⟩
        let d := (d.put REF_LAST_CLASS cls).put REF_LAST_ACT act
        let d := (d.put REF_LAST_STR (n.str.getD 0)).put REF_LAST_BANK ((d.namedBank c n).getD 0)
        let d := d.put REF_LAST_NODE (if cls < 10 then n.node.getD 0 else 0)
        let d := ((d.put REF_LASTC_CH r.ch).puts REF_LASTC_VAL r.val).put REF_LASTEP_EPOCH ep
        (d.carryOut c n act).sendAction cls act n (d.namedBank c n)
    else d

/-- A class that both channels raise alike: either channel's action is carried out (R215), and that of the one that is left
(R217). (DEDUCED, log 36.) -/
def Device.raiseBoth (d : Device) (rs : List Raise) (n : Named) (ep : Nat) : Device :=
  if d.chanFailed .a then d.raise .b rs n ep
  else
    let d' := d.raise .a rs n ep
    let sameWords := rs.all fun r => d.classAct .a n r.cls == d.classAct .b n r.cls
    if sameWords || d.chanFailed .b then d' else
      match strongest (rs.map fun r => (r.cls, d.classAct .b n r.cls)) with
      | some (cls, act) =>
        if d.on REF_ST_ARMED then (d'.carryOut .b n act).sendAction cls act n (d.namedBank .b n) else d'
      | none => d'

/-- The present epoch number (FLK_EPNUM). -/
def Device.epoch (d : Device) : Nat := d.get FLK_EPNUM_EPOCH

/-- A class without a node that names a bank. -/
def Device.raiseBank (d : Device) (cls b : Nat) : Device := d.raiseBoth [⟨cls, 0, 0⟩] ⟨none, none, some b⟩ d.epoch

/-- A class 15 to 19 (R228). -/
def Device.raiseAll (d : Device) (cls : Nat) : Device := d.raiseBoth [⟨cls, 0, 0⟩] ⟨none, none, none⟩ d.epoch

/-! ### Evaluating a record -/

/-- Directions of a bank (R223). -/
inductive Dir where
  | charge | discharge | rest | unknown
  deriving DecidableEq, Repr

/-- The direction of bank b (R223). -/
def Device.direction (d : Device) (b : Nat) : Dir :=
  if d.inputValid 1 b then
    let i := d.iBank b
    let idb : Int := d.get REF_DIR_IDB * 1000
    if idb < i then .charge else if i < -idb then .discharge else .rest
  else .unknown

/-- What FLK holds of node i. -/
def Device.fnode (d : Device) (i : Nat) : Option FlkNode := mapGet i d.flk.nodes
/-- CELLMASK and TEMPMASK that FLK last sent node i; a node powers up with all of them (R108, R224). -/
def Device.cellMask (d : Device) (i : Nat) : Nat := match d.fnode i with | some n => n.cellm.toNat | none => 0xFFFFFF
def Device.tempMask (d : Device) (i : Nat) : Nat := match d.fnode i with | some n => n.tempm.toNat | none => 0xFF

/-- OPEN wires of node i as presented at the last close (R141, R225). -/
def Device.openWires (d : Device) (i : Nat) : Nat := mapGetD i 0 d.ref.openWires

/-- Cells of the run that cell c belongs to: consecutive OPEN inner wires join cells; wire w bounds cells w − 1 and w (R225). -/
def runLow (wires : Nat) : Nat → Nat
  | 0 => 0
  | c + 1 => if wires.testBit (c + 1) then runLow wires c else c + 1

def runHigh (wires c : Nat) : Nat → Nat
  | 0 => c
  | fuel + 1 => if c < 23 ∧ wires.testBit (c + 1) then runHigh wires (c + 1) fuel else c

/-- The reading that the referee judges for cell c (R225): the substitute when an OPEN wire bounds it, none when it is
unjudged. -/
def substituted (wires pop : Nat) (r : Record) (c : Nat) : Option Int :=
  let cell := fun (i : Nat) => ((r.cell[i]?).getD 0xFFFF#16).toNat
  if wires.testBit c || wires.testBit (c + 1) then
    let lo := runLow wires c
    let hi := runHigh wires c 24
    let run := (List.range 24).filter fun i => decide (lo ≤ i) && decide (i ≤ hi)
    if (lo = 0 ∧ wires.testBit 0) ∨ (hi = 23 ∧ wires.testBit 24) then
      let others := (List.range 24).filter fun i => pop.testBit i && !run.contains i
      if r.msum = 0xFFFF#16 ∨ others.any (fun i => cell i == 0xFFFF) then none
      else some ((20 * (r.msum.toNat : Int) - ((others.map cell).sum : Nat)) / run.length)
    else if run.any (fun i => cell i == 0xFFFF) then none
    else some (((run.map cell).sum / run.length : Nat) : Int)
  else if cell c = 0xFFFF then none
  else some (cell c : Int)

/-- One channel of the evaluation: a class and a reading, or no judgement (R224). -/
inductive Verdict where
  | unjudged
  | inside
  | raised (r : Raise)
  deriving DecidableEq, Repr

/-- Judge cell c of a record against the entry of string s (R224); OV 0xFFFF and UV 0 disable their checks (R222). -/
def Device.judgeCell (d : Device) (ch : Chan) (s wires pop : Nat) (r : Record) (c : Nat) : Verdict :=
  let ov := d.refGet ch (REF_SLIM0_OV s)
  let uv := d.refGet ch (REF_SLIM0_UV s)
  match substituted wires pop r c with
  | none => .unjudged
  | some v =>
    if (ov : Int) < v ∧ ov ≠ 0xFFFF then .raised ⟨0, c, v⟩
    else if v < uv then (if uv = 0 then .inside else .raised ⟨1, c, v⟩)
    else .inside

/-- Judge temperature channel t of a record (R224): the verdicts on charge and discharge limits. -/
def Device.judgeTemp (d : Device) (ch : Chan) (s : Nat) (dir : Dir) (r : Record) (t : Nat) : List Verdict :=
  let raw := ((r.temp[t]?).getD 0x8000#16).toNat
  if raw = 0x8000 ∨ raw = 0x7FFF ∨ raw = 0x7FFE then [.unjudged]
  else
    let x := signed 16 raw
    let chg := if dir = .charge ∨ dir = .unknown then
        (if signed 16 (d.refGet ch (REF_SLIM1_OTC s)) < x then [Verdict.raised ⟨2, 24 + t, raw⟩] else []) ++
        (if x < signed 16 (d.refGet ch (REF_SLIM2_UTC s)) then [Verdict.raised ⟨4, 24 + t, raw⟩] else [])
      else []
    let dis := if dir ≠ .charge then
        (if signed 16 (d.refGet ch (REF_SLIM1_OTD s)) < x then [Verdict.raised ⟨3, 24 + t, raw⟩] else [])
      else []
    if (chg ++ dis).isEmpty then [.inside] else chg ++ dis

/-- What channel ch finds in the record of node i: the classes of cells and temperatures (R224). -/
def Device.judgeRecord (d : Device) (ch : Chan) (i : Nat) (r : Record) : List (Nat × Verdict) :=
  let s := d.nmapStr ch i
  let pop := d.cellMask i
  let wires := d.openWires i
  let dir := d.direction (d.strBank ch s)
  let cells := ((List.range 24).filter fun c => pop.testBit c).map fun c => (c, d.judgeCell ch s wires pop r c)
  let temps := ((List.range 8).filter fun t => (d.tempMask i).testBit t).flatMap fun t =>
    (d.judgeTemp ch s dir r t).map fun v => (24 + t, v)
  cells ++ temps

/-- The raised classes of a list of verdicts. -/
def raisesOf (vs : List (Nat × Verdict)) : List Raise :=
  vs.filterMap fun v => match v.2 with | .raised r => some r | _ => none

/-- Count one unjudged epoch of a channel of node i, once an epoch; MISS when the count has reached NM, once a run (R226). -/
def Device.countUnjudged (d : Device) (i ch ep : Nat) : Bool × Device :=
  let v := mapGetD (32 * i + ch) ⟨0, 0, false⟩ d.ref.unjudged
  let n := if v.count ≠ 0 ∧ v.epoch = ep then v.count else v.count + 1
  let hit := decide (d.get REF_MISSC_NM ≤ n) && !v.raised
  (hit, { d with ref := { d.ref with unjudged := mapSet (32 * i + ch) ⟨n, ep, v.raised || hit⟩ d.ref.unjudged } })

/-- Count one unjudged epoch of several channels of node i: whether MISS is raised (R226). -/
def Device.countAll (d : Device) (i ep : Nat) (chs : List Nat) : Bool × Device :=
  chs.foldl (fun (acc : Bool × Device) ch =>
    let x := acc.2.countUnjudged i ch ep
    (acc.1 || x.1, x.2)) (false, d)

/-- Restart the count of a channel of node i. -/
def Device.clearUnjudged (d : Device) (i ch : Nat) : Device :=
  { d with ref := { d.ref with unjudged := mapDrop (32 * i + ch) d.ref.unjudged } }

/-- Names of a class raised by node i, in the eyes of channel ch (R219). -/
def Device.namedNode (d : Device) (ch : Chan) (i : Nat) : Named := ⟨some i, d.nodeString ch i, none⟩

/-- PENF on string s and its bank (R231). -/
def Device.raisePenf (d : Device) (s : Fin 512) : Device :=
  let d := { d with ref := { d.ref with confs := d.ref.confs.filter fun c => c.str != s } }
  d.raiseBoth [⟨10, 0, 0⟩] ⟨none, some s.val, some (d.strBank .a s.val)⟩ d.epoch

/-- FLAGS bits of a record (R78). -/
def recFlag (r : Record) (k : Nat) : Bool := r.flags.toNat.testBit k

/-- Check the pen confirmation of string s on a record of its HEAD whose window opened at `win`: whether it raises PENF
(R231). -/
def Device.checkConf (d : Device) (s : Nat) (r : Record) (win : Nat) : Bool × Device :=
  match d.ref.confs.find? (fun c => c.str.val == s) with
  | none => (false, d)
  | some c =>
    if win < c.at_ + 20000000 then (false, d)
    else
      (recFlag r 7 || recFlag r 8, { d with ref := { d.ref with confs := d.ref.confs.filter fun x => x.str.val != s } })

/-- Wires of node i that the record in hand finds OPEN for the third time in a row (R228 class 7), and the device with the runs
counted on. -/
def Device.countOpen (d : Device) (i : Nat) : Bool × Device :=
  let run := fun (w : Nat) => if (d.openWires i).testBit w then min 4 (mapGetD (25 * i + w) 0 d.ref.openRun + 1) else 0
  let m := (List.range 25).foldl (fun m w => if run w = 0 then mapDrop (25 * i + w) m else mapSet (25 * i + w) (run w) m) d.ref.openRun
  ((List.range 25).any fun w => run w == 3, { d with ref := { d.ref with openRun := m } })

/-- Evaluate an accepted record of node i, of epoch ep, whose window opened at `win` (R215, R224 to R226, R228 class 7, R231).
-/
def Device.evalRecord (d : Device) (i : Nat) (r : Record) (ep win : Nat) : Device :=
  let va := d.judgeRecord .a i r
  let vb := d.judgeRecord .b i r
  let unj := (va.filter fun v => v.2 == .unjudged).map (·.1)
  let jud := (va.filter fun v => v.2 != .unjudged).map (·.1)
  let d := jud.foldl (fun d ch => d.clearUnjudged i ch) d
  let miss := d.countAll i ep unj
  let owe := miss.2.countOpen i
  let d := owe.2
  let clean := (raisesOf va).isEmpty && !recFlag r 4
  let d := { d with ref := { d.ref with
    cleanNow := if clean then i :: d.ref.cleanNow else d.ref.cleanNow
    dirtyNow := if clean then d.ref.dirtyNow else i :: d.ref.dirtyNow } }
  let conf := match d.nodeString .a i with
    | some s => if d.get (REF_SMAP_HEAD s) = i then
        ({ d with ref := { d.ref with
          headSwf0 := if recFlag r 8 then mapDrop s d.ref.headSwf0 else mapSet s 1 d.ref.headSwf0 } } : Device).checkConf s r win
      else (false, d)
    | none => (false, d)
  let d := conf.2
  let extra : List Raise := (if miss.1 then [⟨8, 0, 0⟩] else []) ++ (if owe.1 then [⟨7, 0, 0⟩] else []) ++
    (if conf.1 then [⟨10, 0, 0⟩] else [])
  let ra : List Raise := raisesOf va ++ extra
  let rb : List Raise := raisesOf vb ++ extra
  let na : Named := d.namedNode .a i
  let nb : Named := d.namedNode .b i
  if decide (ra = rb) && decide (na = nb) then d.raiseBoth ra na ep
  else (d.raise .a ra na ep).raise .b rb nb ep

/-- A position of node i is declared missing: every judged channel counts one unjudged epoch (R226). -/
def Device.refMissing (d : Device) (i ep : Nat) : Device :=
  let chs := ((List.range 24).filter fun c => (d.cellMask i).testBit c) ++
    ((List.range 8).filter fun t => (d.tempMask i).testBit t).map (24 + ·)
  let r := d.countAll i ep chs
  let d := { r.2 with ref := { r.2.ref with dirtyNow := i :: r.2.ref.dirtyNow } }
  if r.1 then d.raiseBoth [⟨8, 0, 0⟩] (d.namedNode .a i) ep else d

/-! ### Bank current -/

/-- IB2 and IB1 on one main filter output of bank b's current input, in mA (R227). CLIP counts as beyond band 2; 0xFFFF disables
a check of band 1 only (R222). Outputs beyond a band on either side follow one another. (DEDUCED, log 36.) -/
def Device.judgeCurrent (d : Device) (b : Nat) (x : Int) (clip : Bool) : Device :=
  let above := fun (f : Fld) => decide ((d.get f : Int) * 1000 < x)
  let below := fun (f : Fld) => decide (x < -((d.get f : Int) * 1000))
  let out1 := (above (REF_BLIM0_IC1 b) && d.get (REF_BLIM0_IC1 b) != 0xFFFF) ||
    (below (REF_BLIM0_ID1 b) && d.get (REF_BLIM0_ID1 b) != 0xFFFF)
  let out2 := above (REF_BLIM1_IC2 b) || below (REF_BLIM1_ID2 b) || clip
  let n := (d.ref.ib2[b]?).getD 0
  let d := { d with ref := { d.ref with
    ib2 := d.ref.ib2.setIfInBounds b (if out2 then min 3 (n + 1) else 0)
    ib1 := d.ref.ib1.setIfInBounds b out1
    ib1Raised := if out1 then d.ref.ib1Raised else d.ref.ib1Raised.setIfInBounds b false } }
  if out2 && n == 1 then d.raiseBank 12 b else d

/-- IINV: the current input of bank b is invalid while the bank is PRECHARGING or CLOSED, or STUCK at any time (R227). It is
raised once, when the condition begins. -/
def Device.judgeInput (d : Device) (b : Nat) : Device :=
  let stuck := match d.inputOf 1 b with | some i => d.on (BMI_IST_STUCK i) | none => false
  let live := d.bankSt b == .precharging || d.bankSt b == .closed
  let bad := stuck || (live && (d.inputOf 1 b).isNone)
  let was := (d.ref.iinv[b]?).getD false
  let d := { d with ref := { d.ref with iinv := d.ref.iinv.setIfInBounds b bad } }
  if bad && !was then d.raiseBank 14 b else d

/-- IINV on every bank. -/
def Device.judgeInputs (d : Device) : Device := (((d.judgeInput 0).judgeInput 1).judgeInput 2).judgeInput 3

/-! ### Releases -/

/-- Nodes of string s (R219). -/
def Device.stringNodes (d : Device) (s : Nat) : List Nat :=
  (List.range 8192).filter fun i => d.nodeString .a i == some s

/-- Some row of node i is ABSENT (R144): QFLAG bit of ABSENT in slot k0. -/
def Device.nodeAbsent (d : Device) (i : Nat) : Bool :=
  (d.heldFlag i qABSENT).getD ((List.range 24).any fun c => (d.slotHi (24 * i + c) 0).testBit qABSENT)

/-- String s qualifies for a release of its pen hold (R233); a number that no string uses has no HEAD. (DEDUCED, log 47.) -/
def Device.penReleasable (d : Device) (s : Nat) : Bool :=
  d.mode != .tripped && ((mapGet s d.ref.headSwf0).isSome || !d.on (REF_SMAP_VALID s)) &&
    (d.stringNodes s).all fun i =>
      decide (10 ≤ mapGetD i 0 d.ref.clean) && !d.ref.dirtyNow.contains i && d.openWires i == 0 && !d.nodeAbsent i

/-- A pen release by pair A, or by PRL for the partner's (R233). (DEDUCED, log 47.) -/
def Device.releasePen (d : Device) (s : Fin 512) (all : Bool) : Status × Device :=
  let one := fun (d : Device) (t : Fin 512) =>
    { d.put (penFld t.val) 0 with ref := { d.ref with confs := d.ref.confs.filter fun c => c.str != t } }
  if all then
    let ok := (List.finRange 512).filter fun t => d.penHeld t.val && d.penReleasable t.val
    let d := ok.foldl one d
    (if d.anyPenned then .reject else .ok, d)
  else if !d.penHeld s.val then (.ok, d)
  else if d.penReleasable s.val then (.ok, one d s) else (.reject, d)

/-- A bank release (R234): the bank returns from OUT to OPEN. (DEDUCED, log 46.) -/
def Device.releaseBank (d : Device) (b : Nat) : Status × Device :=
  if !d.bankHold b then (.ok, d)
  else if d.mode != .tripped && d.inputValid 1 b && (d.ref.bankQuiet[b]?).getD 0 == 101 then
    (.ok, (d.put (bankHoldFld b) 0).setBankSt b .opened)
  else (.reject, d)

/-! ### Arming, tightening, loosening -/

/-- Arm or disarm (R238): accepted in MUSTER and READY, due at the next epoch time. (DEDUCED, log 110.) -/
def Device.armWrite (d : Device) (arm disarm : Bool) : Device :=
  if arm && disarm then d.st uREF .reject
  else if !arm && !disarm then d.st uREF .ok
  else if d.mode = .muster ∨ d.mode = .ready then
    ({ d.putB REF_CTL_ARM arm with ref := { d.ref with armDue := some arm } }).st uREF .ok
  else d.st uREF .reject

/-- A field moved to a looser value: `up` when a larger value is looser (R221). -/
def looserField (up sgn : Bool) (old new : Word) (lo n : Nat) : Bool :=
  let o := bitsOf old lo n
  let v := bitsOf new lo n
  let so := signed n o
  let sv := signed n v
  if up then (if sgn then decide (so < sv) else decide (o < v)) else (if sgn then decide (sv < so) else decide (v < o))

/-- Whether a new word of table index x is looser in any field (R221). -/
def looserWord (x : Nat) (old new : Word) : Bool :=
  let l := fun up sgn lo n => looserField up sgn old new lo n
  if x < 0x800 then
    match x % 4 with
    | 0 => l true false 0 16 || l false false 16 16
    | 1 => l true true 0 16 || l true true 16 16
    | 2 => l false true 0 16 || l true true 16 16
    | _ => l true false 0 16 || l false false 16 16
  else if x < 0x810 then
    match x % 4 with
    | 0 => l true false 0 16 || l true false 16 16
    | 1 => l true false 0 16 || l true false 16 16
    | 2 => l true false 0 16
    | _ => false
  else if x = 0x810 then (List.range 15).any fun k => l false false (2 * k) 2
  else l true false 0 4

/-- Reserved bits zero, NM 1 to 15, T1 at least 1, actions allowed for their class (R239, R228). (DEDUCED, log 45.) -/
def tableWordOk (x : Nat) (v : Word) : Bool :=
  if x < 0x800 then true
  else if x < 0x810 then
    match x % 4 with
    | 2 => bitsOf v 16 16 == 0 && bitsOf v 0 16 != 0
    | 3 => v == 0#32
    | _ => true
  else if x = 0x810 then
    bitsOf v 30 2 == 0 && (List.range 15).all fun k => bitsOf v (2 * k) 2 != 0 && (decide (k < 10) || bitsOf v (2 * k) 2 != 1)
  else bitsOf v 4 28 == 0 && bitsOf v 0 4 != 0

/-- Report a compare-and-write (R239). -/
def Device.tst (d : Device) (s : Status) (why gen : Nat) : Device :=
  ((d.put REF_TST_ST s.code).put REF_TST_WHY why).put REF_TST_GEN gen

/-- A CHAN cause (R216): open all from MUSTER onward (R238), REF_CHCNT, no bell until a P reset. (DEDUCED, log 48.) -/
def Device.chanCause (d : Device) : Device :=
  (((d.put REF_ST_CHOK 0).count16 REF_CHCNT).raiseAll 16)

/-- The sensed state of TRIP_N (R237): low from the instant at which it was sensed, after which another device may have let go
of it; that is a free value. (DESIGN CHOICE, log 20.) -/
def Device.tripSensed (d : Device) : Bool :=
  d.on REF_ST_TRIPI && (d.ref.lowAt == some d.now || Config.tripNHeld d.now)

/-- Write a word of the table into both copies; changed comparator thresholds go to the string's nodes (R239, R238). -/
def Device.tableStore (d : Device) (x : Nat) (new : Word) : Device :=
  let d := d.refSet (0x60148000 + 4 * x) new
  if x < 0x800 ∧ 2 ≤ x % 4 ∧ d.on REF_ST_ARMED then
    { d with ref := { d.ref with setcmpDue := if d.ref.setcmpDue.contains (x / 4) then d.ref.setcmpDue else d.ref.setcmpDue ++ [x / 4] } }
  else d

/-- The compare-and-write (R239). The status of acceptance is in LASTST, that of completion in REF_TST. -/
def Device.compareWrite (d : Device) (gen : Nat) : Device :=
  if gen ≠ d.gen uREF then (d.tst .reset 0 (d.gen uREF)).st uREF .reset
  else
    let d := d.st uREF .ok
    let x := d.get REF_TADDR_IDX
    let a := 0x60148000 + 4 * x
    let old := d.refWord .a a
    let new := d.rget REF_TNEW
    if d.follower then (d.tst .reject 2 gen).st uREF .reject
    else if 0x811 < x then d.tst .range 3 gen
    else if d.refWord .a a ≠ d.refWord .b a then (d.tst .reject 1 gen).chanCause
    else if old ≠ d.rget REF_TCMP then d.tst .reject 1 gen
    else if !tableWordOk x new then d.tst .range 3 gen
    else if d.on REF_ST_ARMED && looserWord x old new && !(d.on REF_ST_LOOSE && d.mode == .ready) then d.tst .reject 2 gen
    else
      ((d.tableStore x new).tst .ok 0 gen).when_ d.isActive fun d => d.prlSend (.mirror (.tableWrite (BitVec.ofNat 12 x) new))

/-- A write of REF_UNLK (R240). (DEDUCED, log 50.) -/
def Device.loosenKey (d : Device) (key : Word) : Device :=
  let restart := fun (d : Device) (k : Option Nat) => { d with ref := { d.ref with key1At := k } }
  if d.on REF_ST_LOOSE then
    if key = 0xB4#32 ∨ key = 0x4B#32 then d.st uREF .reject else (d.put REF_ST_LOOSE 0).st uREF .reject
  else if d.mode ≠ .ready ∨ !d.on REF_ST_ARMED then (restart d none).st uREF .reject
  else match d.ref.key1At with
    | some t =>
      if key = 0x4B#32 ∧ d.now ≤ t + 10000000 then ((restart d none).put REF_ST_LOOSE 1).st uREF .ok
      else if key = 0xB4#32 then (restart d (some d.now)).st uREF (if d.now ≤ t + 10000000 then .reject else .ok)
      else (restart d none).st uREF .reject
    | none => if key = 0xB4#32 then (restart d (some d.now)).st uREF .ok else d.st uREF .reject

/-- A write of REF_PENCLR (R233); an active device sends the releases to the standby, which takes none of its own (R417). -/
def Device.writePenclr (d : Device) (s : Fin 512) (all : Bool) : Device :=
  if d.follower then d.st uREF .reject
  else
    let r := d.releasePen s all
    let gone := (List.finRange 512).filter fun t => (all || t == s) && d.penHeld t.val && !r.2.penHeld t.val
    (gone.foldl (fun (d : Device) t => if d.isActive then d.prlSend (.mirror (.penRelease t)) else d) r.2).st uREF r.1

/-- A write of REF_BCLR (R234, R417). -/
def Device.writeBclr (d : Device) (b : Nat) : Device :=
  if d.follower then d.st uREF .reject
  else
    let r := d.releaseBank b
    ((r.2.when_ (d.isActive && d.bankHold b && r.1 == .ok) fun d => d.prlSend (.mirror (.bankRelease (Fin.ofNat 4 b)))).st uREF r.1)

/-! ### Meanings -/

/-- PEN_CONFIRM_DEADLINE (R231): no record confirmed the pen of s within 3 P + 20 ms. -/
def execPenConfirmDeadline (str : Fin 512) (s : State) : Host.Outcome State Fault Refusal :=
  onCtl s fun d => if d.ref.confs.any (fun c => c.str == str) then d.raisePenf str else d

/-- BAND1_PERSISTENCE (R227): the outputs of bank b have stayed beyond band 1 for T1. -/
def execBand1Persistence (b : Fin 4) (s : State) : Host.Outcome State Fault Refusal :=
  onCtl s fun d =>
    if d.ref.ib1[b] && !d.ref.ib1Raised[b] then
      ({ d with ref := { d.ref with ib1Raised := d.ref.ib1Raised.set b true } }).raiseBank 11 b.val
    else d

/-- CHANNEL_COMPARE_PASS (R216): the 10 ms pass over the maps, the table and the matrix. (DEDUCED, log 48.) -/
def execChannelComparePass (s : State) : Host.Outcome State Fault Refusal :=
  onCtl s fun d => if d.copiesAgree then d else d.chanCause

/-- CHANNEL_DISAGREE (R216): the decided actions have differed for more than 1 µs. (DEDUCED, log 48.) -/
def execChannelDisagree (s : State) : Host.Outcome State Fault Refusal := onCtl s fun d => d.chanCause

/-- One more channel has failed (R217): a line that is silent already cannot fall silent again. (DESIGN CHOICE, log 20.) -/
def Device.channelFails (d : Device) : Device :=
  let x := d.fresh
  let f := if d.ref.failed = 0#2 then (if Config.failedChannelA x.1 then 1#2 else 2#2) else 3#2
  { x.2 with ref := { x.2.ref with failed := f } }

/-- HEARTBEAT_TIMEOUT (R217): the field die turns every series switch off, asserts TRIP_N and enters TRIPPED. -/
def execHeartbeatTimeout (s : State) : Host.Outcome State Fault Refusal :=
  onDev s fun d =>
    let d := d.channelFails
    let d := { d with fd := { d.fd with hbCause := true } }
    let d := (d.put REF_ST_TRIPO 1).setLatch
    if d.mode.live then d.enter .tripped else d

/-- TRIP_N_SENSED (R237): low for 250 cycles while this device does not drive it. -/
def execTripNSensed (s : State) : Host.Outcome State Fault Refusal :=
  onCtl s fun d =>
    if d.on REF_ST_TRIPO then d
    else
      let d := { d.put REF_ST_TRIPI 1 with ref := { d.ref with lowAt := some d.now } }
      if d.mode.live then d.raiseAll 15 else d

/-- ARM (R238): a write of REF_CTL with ARM = 1. -/
def execArm (s : State) : Host.Outcome State Fault Refusal :=
  onCtl s fun d => if d.sys.appHeld then d else d.armWrite true false

/-- DISARM (R238): a write of REF_CTL with DISARM = 1. -/
def execDisarm (s : State) : Host.Outcome State Fault Refusal :=
  onCtl s fun d => if d.sys.appHeld then d else d.armWrite false true

/-- TABLE_COMPARE_WRITE (R239): a write of REF_TGO with GO = 1. -/
def execTableCompareWrite (gen : Byte) (s : State) : Host.Outcome State Fault Refusal :=
  onCtl s fun d => if d.sys.appHeld then d else d.compareWrite gen.toNat

/-- LOOSEN_KEY (R240). -/
def execLoosenKey (key : Word) (s : State) : Host.Outcome State Fault Refusal :=
  onCtl s fun d => if d.sys.appHeld then d else d.loosenKey key

/-- LOOSEN_WINDOW_EXPIRY (R240): 1,000 ms after it opened. -/
def execLoosenWindowExpiry (s : State) : Host.Outcome State Fault Refusal := onCtl s fun d => d.put REF_ST_LOOSE 0

/-- PEN_RELEASE (R233): a write of REF_PENCLR with GO = 1. -/
def execPenRelease (str : Fin 512) (all : Bool) (s : State) : Host.Outcome State Fault Refusal :=
  onCtl s fun d => if d.sys.appHeld then d else d.writePenclr str all

/-- BANK_RELEASE (R234): a write of REF_BCLR with GO = 1. -/
def execBankRelease (b : Fin 4) (s : State) : Host.Outcome State Fault Refusal :=
  onCtl s fun d => if d.sys.appHeld then d else d.writeBclr b.val

end Sys2Proof.Machine
end

