-- ==== Sys2Proof/Machine/Flock.lean ====
section
/-! DEFINITION. FLK: ports, frames and their CRC, commands and replies, enumeration, calibration, fold-back, the period
(R60 to R95, R125, R323, R466, R467). -/

namespace Sys2Proof.Machine

abbrev uFLK : Nat := 0x60080000

/-! ### CRC-32C (R73) -/

/-- One bit of the reflected CRC-32C. -/
def crcBit (c : Nat) : Nat := if c % 2 = 1 then (c / 2) ^^^ 0x82F63B78 else c / 2

/-- One byte of the CRC. -/
def crcByte (c : Nat) (b : Byte) : Nat :=
  crcBit (crcBit (crcBit (crcBit (crcBit (crcBit (crcBit (crcBit (c ^^^ b.toNat))))))))

/-- CRC-32C over a list of bytes. (PRESUMED, log 89.) -/
def crc32c (bs : List Byte) : Nat := bs.foldl crcByte 0xFFFFFFFF ^^^ 0xFFFFFFFF

/-- The low `n` bytes of `v`, least significant first (R72). -/
def leBytes (v : Nat) : Nat → List Byte
  | 0 => []
  | n + 1 => BitVec.ofNat 8 v :: leBytes (v / 256) n

/-- The number that bytes spell, least significant first. -/
def leNat : List Byte → Nat
  | [] => 0
  | b :: bs => b.toNat + 256 * leNat bs

/-- Bytes 0x00 to 0x4B of a record (R78). -/
def recordBytes (r : Record) : List Byte :=
  [r.pos, r.seq] ++ leBytes r.flags.toNat 2 ++ (r.cell.toList.flatMap fun c => leBytes c.toNat 2) ++
    (r.temp.toList.flatMap fun t => leBytes t.toNat 2) ++ leBytes r.msum.toNat 2 ++ leBytes r.istr.toNat 3 ++ [r.status] ++
    leBytes r.sioff.toNat 2

/-- The record's CRC is right (R78). -/
def recordCrcOk (r : Record) : Bool := crc32c (recordBytes r) == r.crc.toNat

/-- The frame's CRC over header and payload is right (R72). -/
def frameCrcOk (f : Frame) : Bool := crc32c ([f.addr, f.opc, f.tag, f.len] ++ f.payload) == f.crc.toNat

/-! ### Port ends -/

/-- Port ends that are not fused off (R1). (DEDUCED, log 35.) -/
def Device.portCount (d : Device) : Nat := if d.part = .mpl4096 then 64 else 128
def Device.ports (d : Device) : List Nat := List.range d.portCount

/-- The other end of p's ring. -/
def otherEnd (p : Nat) : Nat := if p % 2 = 0 then p + 1 else p - 1
/-- Flocks with an enabled end, by A end or chain end. -/
def Device.enabledFlocks (d : Device) : List Nat :=
  d.ports.filter fun p => d.isAEnd p && (d.portEnabled p || (d.isRing p && d.portEnabled (p + 1)))

/-- A-position from a position counted at port end p (R91). -/
def Device.aPos (d : Device) (p q : Nat) : Nat := if d.isAEnd p then q else d.population (d.aEnd p) + 1 - q
/-- Node index at A-position q of the flock with A end a (R83). -/
def Device.nodeIndex (d : Device) (a q : Nat) : Nat := d.get (FLK_PBASE_BASE a) + q - 1
/-- Limit of node indices (R83). -/
def Device.nodeLimit (d : Device) : Nat := if d.part = .mpl4096 then 4096 else 8192

/-- The flock and the A-position of node i. -/
def Device.nodePlace (d : Device) (i : Nat) : Option (Nat × Nat) :=
  (d.enabledFlocks.find? fun a =>
    decide (d.get (FLK_PBASE_BASE a) ≤ i) && decide (i < d.get (FLK_PBASE_BASE a) + d.population a)).map fun a =>
      (a, i + 1 - d.get (FLK_PBASE_BASE a))

/-- The port end that reaches A-position q of flock a: the A end, or the B end beyond a break (R91). -/
def Device.reachEnd (d : Device) (a q : Nat) : Nat :=
  if d.isRing a && (d.on (FLK_PSTAT_FOLD a) && decide ((d.pt a).brkA < q) || !d.isDrive a) then a + 1 else a

/-- Positions, counted from port end p, that it can reach (R85, R91). -/
def Device.reachable (d : Device) (p : Nat) : List Nat :=
  let n := d.population p
  let k := if d.isRing p && d.on (FLK_PSTAT_FOLD p) then
      (if d.isAEnd p then (d.pt (d.aEnd p)).brkA else n - (d.pt (d.aEnd p)).brkA) else n
  (List.range k).map (· + 1)

/-! ### The epoch schedule that commands have to fit in (R70, R71, R411, R413) -/

/-- The instant of a follower's next epoch time when MARKERs place it: the mean over the rings, plus 200 µs.
(DEDUCED, log 29.) -/
def Device.followAt (d : Device) : Option Nat :=
  if d.prl.marks.isEmpty then none
  else some ((d.prl.marks.map (·.2)).sum / d.prl.marks.length + 200000)

/-- The instant of a follower's next epoch time by the epoch message: a period after the epoch it names began, or at once
where the follower has not reached that epoch (R411). (DEDUCED, log 29.) -/
def Device.messageAt (d : Device) : Option Nat :=
  d.prl.epochMsg.map fun m => if m.1 = d.epoch then m.2 + d.flk.per * 1000000 else m.2

/-- The instant in ns of the next epoch time (R21, R403, R411): a follower goes by the MARKERs, else by the epoch message,
else by its own schedule. (DEDUCED, log 29.) -/
def Device.nextEpochAt (d : Device) : Nat :=
  let own := ((d.flk.lastT + d.flk.per * 1000000 : Nat) + d.tim.adjust : Int).toNat
  if d.follower then (d.followAt.or d.messageAt).getD own else own

/-- What a standby may send from port end p: PING, READID, DIAGRD, and SETDELAY of the delay counted from its own end (R413). -/
def Device.slotAllows (d : Device) (p : Nat) (c : FlkCmd) : Bool :=
  match c.opc.toNat with
  | 0x03 => true | 0x10 => true | 0x11 => true
  | 0x04 => (c.payload[8]?).getD 0#8 == (if d.isAEnd p then 1#8 else 2#8)
  | _ => false

/-- Put a frame of FLK's own, or of acquisition, at the end of a port end's queue. On a standby PRL passes acquisition's
OWTEST to the active, and any other frame that R413 does not name is dropped. (DEDUCED, log 74.) -/
def Device.enqueue (d : Device) (p : Nat) (c : FlkCmd) : Device :=
  if d.follower && !d.slotAllows p c then
    (if c.src == .acq && c.opc == 0x0E#8 then
      d.prlSend (.owtest (d.nodeIndex (d.aEnd p) c.addr.toNat) ((c.payload[0]?).getD 0#8).toNat
        (((c.payload[1]?).getD 0#8).toNat + 256 * ((c.payload[2]?).getD 0#8).toNat))
    else d)
  else d.setPt p fun v => { v with autoQ := v.autoQ ++ [c] }

/-- Queue a frame to node i. -/
def Device.sendNode (d : Device) (src : CmdSrc) (i opc : Nat) (payload : List Byte) : Device :=
  match d.nodePlace i with
  | none => d
  | some (a, q) =>
    d.enqueue (d.reachEnd a q) ⟨src, BitVec.ofNat 8 q, BitVec.ofNat 8 opc, payload, d.gen uFLK⟩

/-- Queue a broadcast at port end p (R74). -/
def Device.broadcastAt (d : Device) (p opc : Nat) (payload : List Byte) : Device :=
  d.enqueue p ⟨.flk, 0xFF#8, BitVec.ofNat 8 opc, payload, d.gen uFLK⟩

/-- Queue a broadcast at every drive end. -/
def Device.broadcast (d : Device) (opc : Nat) (payload : List Byte) : Device :=
  d.ports.foldl (fun d p => if d.isDrive p then d.broadcastAt p opc payload else d) d

/-- Valid symbols have been seen at port end p (FLK_PSTAT.LINK). -/
def Device.linkUp (d : Device) (p : Nat) : Device := d.put (FLK_PSTAT_LINK p) 1

/-! ### Admission and the period -/

/-- FLK admits period `per` for a flock of `n` nodes with `t` trains (R80), in units of 10 µs and percent. (DEDUCED, log 28.) -/
def admits (per n t : Nat) : Bool :=
  decide (1000 + t * n * 41 + (if t = 1 then 500 else 810) ≤ per * 1000) && decide (t * n * 40 * 100 ≤ 77 * per * 1000)

/-- Every enabled flock admits the period (R81). (DEDUCED, log 28.) -/
def Device.allAdmit (d : Device) (per : Nat) : Bool := d.enabledFlocks.all fun a => admits per (d.population a) (d.trains a)

/-- The limits of R109 for node timers against the longest period in use. -/
def timersOk (tstr tbal per : Nat) (lce : Bool) : Bool :=
  let p := if lce then max per 100 else per
  decide (3 * p ≤ tstr * 10) && decide (tstr * 10 ≤ tbal * 100)

/-- A write of FLK_EPER.PER (R81, R94, R109, R155, R462); a standby takes its period from the active (R411). While acquisition
asks for the low-current epoch the new period waits for its end. (DEDUCED, log 30.) -/
def Device.periodWrite (d : Device) (per : Nat) : Device :=
  if d.follower then d.st uFLK .reject
  else if per < 2 ∨ 100 < per then d.st uFLK .range
  else if !d.allAdmit per then d.st uFLK .range
  else if !timersOk (d.get FLK_NTIM_TSTR) (d.get FLK_NTIM_TBAL) per (d.on ACQ_LCE_EN) then d.st uFLK .range
  else
    let d := { d.put FLK_EPER_PER per with flk := { d.flk with src := d.flk.src &&& 0x3#4 } }
    let d := if d.flk.lce then d else { d with flk := { d.flk with perWanted := some per } }
    d.st uFLK .ok

/-- A write of FLK_NTIM (R109): both fields are locked fields (R463); FLK sends the values to the nodes. -/
def Device.ntimWrite (d : Device) (tstr tbal : Nat) : Device :=
  if tstr < 10 ∨ 500 < tstr ∨ tbal < 5 ∨ 100 < tbal then d.st uFLK .range
  else if d.on FLK_LOCK_LOCK then
    d.st uFLK (if tstr = d.get FLK_NTIM_TSTR ∧ tbal = d.get FLK_NTIM_TBAL then .ok else .locked)
  else if !timersOk tstr tbal (d.get FLK_EPER_PER) (d.on ACQ_LCE_EN) then d.st uFLK .range
  else
    let d := (d.put FLK_NTIM_TSTR tstr).put FLK_NTIM_TBAL tbal
    (d.broadcast 0x07 (leBytes tstr 2 ++ leBytes tbal 1 ++ leBytes (d.get FLK_TONE_PER) 1)).st uFLK .ok

/-! ### Fencing and fold-back -/

/-- The learning gate's disqualifier `bit` (0 TEMP, 1 RATE, 2 INTR, 3 NEW, 4 KERN) on string s: an OPEN string becomes
SPOILED with it as the reason, a SPOILED one adds it (R183, R184). -/
def Device.spoil (d : Device) (s bit : Nat) : Device :=
  match d.get (PUB_LGS_STATE s) with
  | 1 => ((d.put (PUB_LGS_STATE s) 2).put (PUB_LGS_REASON s) (2 ^ bit)).up PUB_EVT_SPOIL
  | 2 => d.put (PUB_LGS_REASON s) (d.get (PUB_LGS_REASON s) ||| 2 ^ bit)
  | _ => d

/-- Strings in use (PUB_STR) whose HEAD node port end p carries (R184). -/
def Device.headStrings (d : Device) (p : Nat) : List Nat :=
  (List.range 512).filter fun s => d.on (PUB_STR_VALID s) &&
    (((d.nodePlace (d.get (PUB_STR_HEAD s))).map fun x => d.reachEnd x.1 x.2 == p).getD false)

/-- LOSS at port end p: LINK goes to 0, and the learning gate spoils the strings whose HEAD the end carries (R184). -/
def Device.loseLink (d : Device) (p : Nat) : Device :=
  (d.headStrings p).foldl (fun d s => d.spoil s 2) ((d.put (FLK_PSTAT_LINK p) 0).up (FLK_PEVT_LOSS p))

/-- No valid symbols for 16 µs of expected traffic (FLK_PSTAT.LINK). -/
def Device.linkLoss (d : Device) (p : Nat) : Device := if d.on (FLK_PSTAT_LINK p) then d.loseLink p else d

/-- Fence port end p (R323): it drives nothing, its ROLE reads off. -/
def Device.fencePort (d : Device) (p cause : Nat) : Device :=
  if d.on (FLK_PFEN_FEN p) then d
  else
    ((((d.put (FLK_PFEN_FEN p) 1).put (FLK_PFEN_CAUSE p) cause).loseLink p).put (FLK_PCTL_ROLE p) 0)

/-- Declare a break at the listen end p of a ring with FOLDEN = 1 (R90): `brk` is BRKPOS and the last A-position that the A end
reaches, when the record phase shows them. (DEDUCED, log 24.) -/
def Device.declareBreak (d : Device) (p : Nat) (brk : Option (Nat × Nat)) (atBell : Bool) : Device :=
  let a := d.aEnd p
  let d := (d.up (FLK_PEVT_BRK p)).up (FLK_PEVT_BRK (otherEnd p))
  let d := (d.put (FLK_PSTAT_FOLD p) 1).put (FLK_PSTAT_FOLD (otherEnd p)) 1
  let d := match brk with
    | some x => ((d.put (FLK_PSTAT_BRKPOS a) x.1).put (FLK_PSTAT_BRKPOS (a + 1)) x.1).setPt a fun v => { v with brkA := x.2 }
    | none => d.setPt a fun v => { v with brkOpen := true, brkA := d.population a }
  let d := d.setPt (a + 1) fun v => { v with traceRun := 0, healDue := false }
  let d := d.setPt p fun v => { v with driveNext := atBell }
  if atBell then d else d.put (FLK_PCTL_ROLE p) 1

/-- A break may be declared at port end p (R90). -/
def Device.canBreak (d : Device) (p : Nat) : Bool :=
  d.isRing p && d.isListen p && d.on (FLK_PCTL_FOLDEN p) && !d.on (FLK_PSTAT_FOLD p) && !(d.pt p).driveNext

/-! ### Replies -/

/-- Count code violations at port end p (R65). (DESIGN CHOICE, log 104.) -/
def Device.countCv (d : Device) (p n : Nat) : Device := (List.range (min n 65535)).foldl (fun d _ => d.count16 (FLK_PCV p)) d

/-- Longest reply payload of an opcode (R106), for the space of the circular area (R93) and the deadline (R74).
(DEDUCED, log 99.) -/
def replyMax (opc : Nat) : Nat :=
  match opc with
  | 0x01 => 12 | 0x0A => 4 | 0x0C => 2 | 0x10 => 22 | 0x11 => 16 | _ => 1

/-- Report a status of pair A's command in FLK_PRSP (R74). -/
def Device.prsp (d : Device) (p : Nat) (st gen : Nat) : Device :=
  ((d.put (FLK_PRSP_ST p) st).put (FLK_PRSP_GEN p) gen).up (FLK_PRSP_DONE p)

/-- Store a reply's header and payload in the circular area (R93). (DEDUCED, log 98 and 99.) (DESIGN CHOICE, log 104.) -/
def Device.storeReply (d : Device) (p : Nat) (f : Frame) : Device :=
  let bytes := [f.addr, f.opc, f.tag, f.len] ++ f.payload
  let base := 0x38000000 + 0x4000 * p + 0x2800
  let r := bytes.foldl (fun (acc : Nat × List Host.Cell) b => ((acc.1 + 1) % 6144, memSet acc.2 (base + acc.1) b))
    ((d.pt p).wr, d.mem)
  let d := ({ d with mem := r.2 } : Device).rewrote base 6144
  (d.setPt p fun v => { v with wr := r.1, used := v.used + bytes.length, lastLen := bytes.length }).put (FLK_PRSP_LEN p)
    f.payload.length

/-! ### Diagnostic rotations -/

/-- Smallest divisor k of 24 with (24 / k) × P at most `lim`. -/
def bswkFor (per lim : Nat) : Nat :=
  ([1, 2, 3, 4, 6, 8, 12, 24].find? fun k => decide (24 / k * per ≤ lim)).getD 24

/-- SETDIAG values for a flock of n nodes in a device of `dev` nodes at period P (R125): OWS, BSWB, BSWK, REFS. -/
def diagFor (n dev per : Nat) : Nat × Nat × Nat × Nat :=
  let ows := max 1 (1000 / (5 * per))
  if 4096 < dev then
    let k := bswkFor per 60000
    (ows, 60000 / (24 / k * per), k, 1)
  else if n ≤ 16 then (ows, 0, 0, 1000 / per)
  else
    let k := bswkFor per 1000
    (ows, 1000 / (24 / k * per), k, 1000 / per)

/-- Nodes of the device. -/
def Device.devicePopulation (d : Device) : Nat := (d.enabledFlocks.map d.population).sum

/-- The SETDIAG payload of flock a (R125). -/
def Device.diagPayload (d : Device) (a : Nat) : List Byte :=
  let v := diagFor (d.population a) d.devicePopulation d.flk.per
  leBytes v.1 2 ++ leBytes v.2.1 2 ++ leBytes v.2.2.1 1 ++ leBytes v.2.2.2 2

/-- Program every flock's rotations by broadcast SETDIAG (R125). -/
def Device.sendDiag (d : Device) : Device :=
  d.enabledFlocks.foldl (fun d a =>
    let pay := d.diagPayload a
    let d := if d.isDrive a then d.broadcastAt a 0x0D pay else d
    if d.isRing a && d.isDrive (a + 1) then d.broadcastAt (a + 1) 0x0D pay else d) d

/-- The full-node tests of flocks of at most 16 nodes in a device of at most 4,096: BSWTEST of all 24 switches and DIAGRD, to
every node (R125). -/
def Device.fullTests (d : Device) : Device :=
  if 4096 < d.devicePopulation then d
  else (d.enabledFlocks.filter fun a => decide (d.population a ≤ 16)).foldl (fun d a =>
    (List.range (d.population a)).foldl (fun d k =>
      (d.sendNode .flk (d.get (FLK_PBASE_BASE a) + k) 0x0F (leBytes 0xFFFFFF 3)).sendNode .flk (d.get (FLK_PBASE_BASE a) + k)
        0x10 []) d) d

/-- READID on behalf of acquisition to every node of flock a (R142). -/
def Device.readFlock (d : Device) (a : Nat) : Device :=
  (List.range (d.population a)).foldl (fun d k => d.sendNode .acq (d.get (FLK_PBASE_BASE a) + k) 0x11 []) d

/-- Update what FLK holds of the nodes that a frame from port end p reaches. -/
def Device.mapNodes (d : Device) (p : Nat) (addr : Nat) (f : FlkNode → FlkNode) : Device :=
  let a := d.aEnd p
  let lo := d.get (FLK_PBASE_BASE a)
  let hit := fun (i : Nat) => if addr = 0xFF then decide (lo ≤ i) && decide (i < lo + d.population a)
    else i + 1 == lo + addr
  { d with flk := { d.flk with nodes := d.flk.nodes.map fun e => if hit e.1 then (e.1, f e.2) else e } }

/-- What FLK remembers of a command that it sends: masks (R224), SETDIAG (R124), OWTEST (R140), SETPER (R70),
SLEEP (R128). -/
def Device.noteSent (d : Device) (p : Nat) (c : FlkCmd) : Device :=
  let ad := c.addr.toNat
  match c.opc.toNat with
  | 0x08 =>
    d.mapNodes p ad fun n => { n with cellm := BitVec.ofNat 24 (leNat (c.payload.take 3)), tempm := (c.payload[3]?).getD 0#8 }
  | 0x0D => d.mapNodes p ad fun n => { n with diag := (d.epoch, leNat (c.payload.take 2)) :: n.diag.take 3 }
  | 0x0E =>
    d.mapNodes p ad fun n => { n with owReq := some (((c.payload[0]?).getD 0#8).toNat, leNat (c.payload.drop 1)) }
  | 0x06 =>
    (d.setPt p fun v => { v with setper := true }).when_ (d.isRing p) fun d =>
      d.setPt (otherEnd p) fun v => { v with setper := true }
  | 0x12 => (d.flockEnds p).foldl (fun d p => d.setPt p fun v => { v with asleep := true }) d
  | _ => d

/-! ### FLK_PCMD -/

/-- The frame that pair A has written to FLK_PFRM[p] (R72). -/
def Device.pfrmByte (d : Device) (p k : Nat) : Byte := BitVec.ofNat 8 (bitsOf (d.rget (FLK_PFRM p (k / 4))) (8 * (k % 4)) 8)
def Device.pfrmCmd (d : Device) (p gen : Nat) : FlkCmd :=
  let len := (d.pfrmByte p 3).toNat
  ⟨.firmware, d.pfrmByte p 0, d.pfrmByte p 1, (List.range len).map fun k => d.pfrmByte p (4 + k), gen⟩

/-- The frame is a SWITCH with ACT = 1 to the HEAD of a string that holds its pen hold (R232). -/
def Device.closesHeld (d : Device) (p : Nat) (c : FlkCmd) : Bool :=
  c.opc == 0x0C#8 && (c.payload[0]?).getD 0#8 == 1#8 &&
    (match d.nodeString .a (d.nodeIndex (d.aEnd p) c.addr.toNat) with
     | some s => d.penHeld s
     | none => false)

/-- A write of FLK_PCMD with GO = 1 (R51, R71, R232, R323, R413, R417). (DEDUCED, log 98.) -/
def Device.pcmd (d : Device) (p gen : Nat) : Device :=
  let fwOut := match (d.pt p).out with | some c => c.src == .firmware | none => false
  if gen ≠ d.gen uFLK then
    (if fwOut then d else d.prsp p Status.reset.code (d.gen uFLK)).st uFLK .reset
  else if (d.pt p).queued.isSome || fwOut then d.st uFLK .busy
  else if 252 < (d.pfrmByte p 3).toNat then d.st uFLK .range
  else if d.on (FLK_PFEN_FEN p) then (d.prsp p Status.fenced.code gen).st uFLK .fenced
  else
    let c := d.pfrmCmd p gen
    if d.closesHeld p c || (d.follower && !d.slotAllows p c) then (d.prsp p Status.reject.code gen).st uFLK .reject
    else
      ((d.setPt p fun v => { v with queued := some c, rgen := d.rgen 0 }).put (FLK_PRSP_DONE p) 0).st uFLK .ok

/-! ### FLK_OPS -/

/-- The flocks that an operation names (FLK_OPS.RING, ALL). (DEDUCED, log 76.) -/
def Device.opFlocks (d : Device) (ring : Nat) (all : Bool) : List Nat :=
  if all then d.enabledFlocks else d.enabledFlocks.filter fun a => a / 2 == ring

/-- Calibration of flock a begins (R85, R466): 16 PINGs to every node from every end that can reach it, and a new measurement
of an intact ring's D_ring. -/
def Device.startCalibration (d : Device) (a : Nat) : Device :=
  let d := (d.flockEnds a).foldl (fun d p =>
    if d.portEnabled p then d.setPt p fun v => { v with pings := [], calib := (d.reachable p).map fun q => (q, 16) } else d) d
  d.when_ (d.isRing a && !d.on (FLK_PSTAT_FOLD a)) fun d => d.setPt (a + 1) fun v => { v with measure := 16, traces := [] }

/-- K28.5 for N × 26 µs wakes the sleeping flock of port end p (R128): no frame leaves the end before that is over. (DEDUCED,
log 103.) -/
def Device.wakeFlock (d : Device) (p : Nat) : Device :=
  if (d.pt p).asleep then
    d.setPt p fun v => { v with asleep := false, lineAt := max v.lineAt d.now + 26000 * max 1 (d.population p) }
  else d

/-- Wake the nodes that port end p reaches and release them, as muster and an enumeration begin (R128). (DEDUCED, log 103.) -/
def Device.releaseNodes (d : Device) (p : Nat) : Device :=
  if (d.pt p).autoQ.any fun c => c.opc == 0x13#8 then d else (d.wakeFlock p).broadcastAt p 0x13 []

/-- RELEASE at every drive end (R128). (DEDUCED, log 103.) -/
def Device.releaseFlocks (d : Device) : Device := d.ports.foldl (fun d p => if d.isDrive p then d.releaseNodes p else d) d

/-- Start a FLK_OPS operation (R467, R85, R128, R238, R51); a standby enumerates nothing, since R413 lets it send no ASSIGN.
(DEDUCED, log 33 and 103.) -/
def Device.flkOps (d : Device) (op : FlkOp) (ring : Nat) (all : Bool) (gen : Nat) : Device :=
  let enum := match op with | .enumerate _ => true | .calibrate => false
  if gen ≠ d.gen uFLK then (d.put FLK_OPST_ST Status.reset.code).st uFLK .reset
  else if d.on FLK_OPST_BUSY then d.st uFLK .busy
  else if enum && (d.on REF_ST_ARMED || d.follower) then (d.put FLK_OPST_ST Status.reject.code).st uFLK .reject
  else
    let ends := d.opFlocks ring all
    let d := { d with flk := { d.flk with op := some op, opEnds := ends, opGen := gen, opRgen := d.rgen 0, src := d.flk.src &&& 0xC#4 } }
    let d := if enum then
        ends.foldl (fun d a =>
          let drv := if d.isDrive a || !d.isRing a then a else a + 1
          let d := (d.flockEnds a).foldl (fun d p => d.setPt p fun v =>
            { v with found := [], assigning := p == drv, closed := false, setper := false }) d
          d.releaseNodes drv) d
      else ends.foldl (fun d a => d.startCalibration a) d
    (((d.put FLK_OPST_BUSY 1).put FLK_OPST_ST 0).st uFLK .ok)

/-- The operation of FLK_OPS ends with a status and raises its source (112 for enumeration, 113 for calibration). -/
def Device.opDone (d : Device) (st : Status) (bit : Nat) : Device :=
  { (d.put FLK_OPST_BUSY 0).put FLK_OPST_ST (d.answer uFLK d.flk.opGen 0 d.flk.opRgen st).code with
    flk := { d.flk with op := none, opEnds := [], src := d.flk.src ||| (1#4 <<< bit) } }

/-- One string of R84: strings along increasing A-position; (next string, string in progress). (DEDUCED, log 33.) -/
def assignStrings : List Found → (next : Nat) → (cur : Option Nat) → List (Option Nat) × Nat
  | [], next, _ => ([], next)
  | f :: fs, next, cur =>
    match f.cls with
    | .head =>
      let s := if next < 512 then some next else none
      let r := assignStrings fs (next + 1) s
      (s :: r.1, r.2)
    | .cell =>
      let r := assignStrings fs next cur
      (cur :: r.1, r.2)

/-- Write STRIX of all 24 rows of node i (R84), in MUSTER only (R29). (DEDUCED, log 33.) -/
def Device.writeStrix (d : Device) (i : Nat) (s : Option Nat) : Device :=
  d.when_ (d.mode == .muster) fun d =>
    (List.range 24).foldl (fun d c => d.setSlotHi (24 * i + c) 1 (s.getD 0xFFFF)) d

/-- Write the maps of node i at A-position q of flock a, belonging to string s (R219, R84). (DEDUCED, log 33.) -/
def Device.writeMaps (d : Device) (i a q : Nat) (f : Found) (s : Option Nat) : Device :=
  let w := d.rget (REF_NMAP (i / 2))
  let e := match s with | some n => 0x8000 + n | none => 0
  let d := d.refSet (REF_NMAP (i / 2)) (if i % 2 = 0 then withBits w 0 16 e else withBits w 16 16 e)
  match s, f.cls with
  | some n, .head =>
    let bank := d.get (REF_SMAP_BANK n)
    let d := d.refSet (REF_SMAP n) (BitVec.ofNat 32 (i + bank * 2 ^ 13 + 2 ^ 15 + a * 2 ^ 16 + q * 2 ^ 23))
    (d.put (PUB_STR_HEAD n) i).put (PUB_STR_VALID n) 1
  | _, _ => d

/-- Nodes found on flock a, in A-position order (R467): those from the A end, then those from the B end backwards. (DEDUCED,
log 33.) -/
def Device.foundOf (d : Device) (a : Nat) : List Found :=
  (d.pt a).found ++ (if d.isRing a then (d.pt (a + 1)).found.reverse else [])

/-- Enumeration of one flock ends: population, base, strings and maps (R83, R84, R467). `acc` is the device, the next node
index, the next string and whether a range was exceeded; `old` is what FLK held of the nodes of a flock that the operation
does not name. A CELL node without a HEAD before it gets RANGE (R84). (DEDUCED, log 33.) -/
def enumFlock (named : List Nat) (old : Nat → Option (List FlkNode)) (acc : Device × Nat × Nat × Bool) (a : Nat) :
    Device × Nat × Nat × Bool :=
  let (d, base, str, bad) := acc
  let fs := (d.foundOf a).take 128
  let excess := decide (128 < (d.foundOf a).length) || decide (d.nodeLimit < base + fs.length)
  let fs := if d.nodeLimit < base + fs.length then [] else fs
  let n := fs.length
  let d := ((d.put (FLK_PSTAT_NODES a) n).put (FLK_PBASE_BASE a) base).when_ (d.isRing a) fun d =>
    (d.put (FLK_PSTAT_NODES (a + 1)) n).put (FLK_PBASE_BASE (a + 1)) base
  let d := d.when_ excess fun d => d.up (FLK_PEVT_EXCESS a)
  let (ss, str') := assignStrings fs str none
  let d := (List.range n).foldl (fun d k =>
    match fs[k]?, ss[k]? with
    | some f, some s =>
      let i := base + k
      let d := (d.writeStrix i s).writeMaps i a (k + 1) f s
      let held : FlkNode := match (old a).bind (fun l => l[k]?) with
        | some v => v
        | none => ⟨f.cls, f.ver, f.uid, 0xFFFFFF#24, 0xFF#8, [], none, true⟩
      { d with flk := { d.flk with nodes := mapSet i held d.flk.nodes } }
    | _, _ => d) d
  let ring := d.isRing a
  let drv := if ring && !d.isDrive a then a + 1 else a
  let pay := leBytes n 1 ++ leBytes ((if ring then 1 else 0) + (if d.on (FLK_PCTL_PAIRM a) then 2 else 0)) 1
  let both := ring && !(d.pt drv).closed && !(d.pt (otherEnd drv)).closed && !(d.pt (otherEnd drv)).found.isEmpty
  let d := d.when_ (named.contains a) fun d =>
    (d.broadcastAt drv 0x02 pay).when_ both fun d => d.broadcastAt (otherEnd drv) 0x02 pay
  (d, base + n, str', bad || excess || decide (512 < str') || ss.any Option.isNone)

/-- Shortest period that every enabled flock admits, from the present one (R81). -/
def Device.shortestPeriod (d : Device) (per : Nat) : Nat → Nat
  | 0 => 100
  | fuel + 1 => if d.allAdmit per then per else d.shortestPeriod (per + 1) fuel

/-- Enumeration ends (R467, R83, R84, R81, R125, R142). Flocks that the operation does not name keep their nodes; bases run
over every flock. (DEDUCED, log 33.) -/
def Device.enumerationDone (d : Device) : Device :=
  let ends := d.flk.opEnds
  let all := d.enabledFlocks
  let held := fun (a : Nat) => (List.range (d.population a)).filterMap fun k => d.fnode (d.get (FLK_PBASE_BASE a) + k)
  let kept := (all.filter fun a => !ends.contains a).map fun a => (a, held a)
  let d : Device := kept.foldl (fun (d : Device) x => (d.setPt x.1 fun v =>
      { v with found := x.2.map fun n => (⟨n.cls, n.ver, n.uid⟩ : Found) }).setPt (otherEnd x.1) fun v =>
      if d.isRing x.1 then { v with found := [] } else v) d
  let d : Device := { d with flk := { d.flk with nodes := [], diagSent := none } }
  let r := all.foldl (enumFlock ends fun a => mapGet a kept) (d, 0, 0, false)
  let d : Device := r.1
  let d : Device := ends.foldl (fun d a => d.setPt a fun v => { v with assigning := false }) d
  let per : Nat := d.shortestPeriod (d.get FLK_EPER_PER) 100
  let d : Device := if per = d.get FLK_EPER_PER then d else
    { d.put FLK_EPER_PER per with flk := { d.flk with perWanted := some per, src := d.flk.src ||| 0x8#4 } }
  let st : Status := if r.2.2.2 then .range else .ok
  match d.flk.op with
  | some (.enumerate true) =>
    let d : Device := { d.put FLK_OPST_ST st.code with flk := { d.flk with op := some .calibrate, src := d.flk.src ||| 0x1#4 } }
    ends.foldl (fun (d : Device) a => d.startCalibration a) d
  | _ => d.opDone st 0

/-- Mean of delays (R85, R87, R466). (DEDUCED, log 34.) -/
def meanOf (l : List Nat) : Nat := if l.isEmpty then 0 else l.sum / l.length

/-- Write the delay of position q from port end p and tell the node by SETDELAY (R85). (DEDUCED, log 34.) -/
def Device.setDelay (d : Device) (p q delay : Nat) : Device :=
  let d := d.put (FLK_NDLY_DLY p (q - 1)) delay
  let a := d.aEnd p
  let i := d.nodeIndex a (d.aPos p q)
  let mine := leBytes (delay % 2 ^ 20) 4
  let none4 := leBytes 0 4
  if d.isAEnd p then d.sendNode .flk i 0x04 (mine ++ none4 ++ [1#8]) else d.sendNode .flk i 0x04 (none4 ++ mine ++ [2#8])

/-- Every PING of the calibration in progress has had its reply or its TIMEOUT (R85). -/
def Device.calibrated (d : Device) : Bool :=
  (d.flk.opEnds.flatMap d.flockEnds).all fun p => (d.pt p).calib.isEmpty

/-- The heal of a fold-back on the ring with A end a (R92): the B end listens again from the next BELL. (DEDUCED, log 105.) -/
def Device.heal (d : Device) (a : Nat) : Device :=
  ((d.up (FLK_PEVT_HEAL a)).up (FLK_PEVT_HEAL (a + 1))).setPt (a + 1) fun v => { v with listenNext := true, healDue := false }

/-- A PING of a calibration to position q from port end p has ended: with a full 16 replies the mean becomes the delay (R85);
once no PING is left a heal that waited for them goes on (R92). (DEDUCED, log 34.) -/
def Device.calibStep (d : Device) (p q : Nat) (ok : Bool) : Device :=
  match mapGet q (d.pt p).calib with
  | none => d
  | some left =>
    let d := d.setPt p fun v => { v with
      calib := if ok && decide (1 < left) then v.calib.map (fun e => if e.1 = q then (q, left - 1) else e) else mapDrop q v.calib }
    let d := if ok && left == 1 then d.setDelay p q (meanOf ((mapGetD q [] (d.pt p).pings).take 16)) else d
    let a := d.aEnd p
    if (d.pt (a + 1)).healDue && d.isRing p && (d.pt a).calib.isEmpty then d.heal a else d

/-- Calibration ends (R85). (DEDUCED, log 34.) -/
def Device.calibrationDone (d : Device) : Device := d.opDone .ok 1

/-! ### Frames on the line -/

/-- The frame that port end p sends next: RELEASE and SETRING of an enumeration, its ASSIGN, a calibration's PING, pair A's
frame, then FLK's and acquisition's own (R71, R467, R85, R128). (DEDUCED, log 98.) -/
def Device.nextFrame (d : Device) (p : Nat) : Option (FlkCmd × Device) :=
  let v := d.pt p
  let own := fun (o : Nat) (ad : Nat) (pay : List Byte) => (⟨.flk, BitVec.ofNat 8 ad, BitVec.ofNat 8 o, pay, d.gen uFLK⟩ : FlkCmd)
  match v.autoQ.find? (fun c => c.src == .flk && (c.opc == 0x13#8 || c.opc == 0x02#8)) with
  | some c => some (c, d.setPt p fun v => { v with autoQ := v.autoQ.erase c })
  | none =>
    if v.assigning then some (own 0x01 0 [BitVec.ofNat 8 (v.found.length + 1)], d)
    else
      match v.calib, v.queued, v.autoQ with
      | (q, _) :: _, _, _ => some (own 0x03 (d.aPos p q) [], d)
      | [], some c, _ => some (c, d.setPt p fun v => { v with queued := none })
      | [], none, c :: cs => some (c, d.setPt p fun v => { v with autoQ := cs })
      | [], none, [] => none

/-- Duration of a frame with `n` bytes of payload in ns: SOF, header, payload, CRC and EOF at 500 ns a symbol (R60, R72). -/
def frameNs (n : Nat) : Nat := (10 + n) * 500

/-- The delay D of R74 in ns for a command from port end p. -/
def Device.delayNs (d : Device) (p : Nat) (c : FlkCmd) : Nat :=
  let q := if c.addr = 0#8 then (d.pt p).found.length + 1 else d.aPos p c.addr.toNat
  let dl := d.get (FLK_NDLY_DLY p (q - 1))
  if c.addr = 0#8 ∨ dl = 0 then 1000 * q else (dl + 3) / 4

/-- From a command's first symbol to its retry deadline in ns (R74): the reply begins with the preamble of R64. (DEDUCED, log
102.) -/
def Device.commandNs (d : Device) (p : Nat) (c : FlkCmd) : Nat :=
  if c.addr = 0xFF#8 then frameNs c.payload.length
  else frameNs c.payload.length - 500 + 20000 + 2 * d.delayNs p c + 2000 + frameNs (replyMax c.opc.toNat) + 5000

/-- Frames go in the standby slot only: on a standby, and on a joining device that calibrates (R413, R419 step 4). (DEDUCED,
log 76.) -/
def Device.slotted (d : Device) : Bool := d.follower || d.prl.join == some .calibrate

/-- The instant at which port end p can start a frame: after step 8 of R70, or step 7 where no record phase runs, when the
line is free and, on a standby, inside its slot (R413). (DEDUCED, log 102.) -/
def Device.frameAt (d : Device) (p : Nat) : Nat :=
  let phase := if (d.pt p).setper then d.trains p * d.population p * 41000 else 0
  let t := max (max d.now (d.pt p).lineAt) (d.flk.lastT + 1000000 + phase)
  if d.slotted then max t (d.nextEpochAt - 810000) else t

/-- The frame, its deadline, one retry and that retry's deadline end before step 3 (R71); in a pair the reply ends before the
standby slot, or inside it (R413). (DEDUCED, log 102.) -/
def Device.fits (d : Device) (p : Nat) (c : FlkCmd) : Bool :=
  let t := d.frameAt p
  let n := d.commandNs p c
  if d.slotted then decide (t + n + 510000 ≤ d.nextEpochAt)
  else
    decide (t + (if c.addr = 0xFF#8 then n else 2 * n) + 210000 ≤ d.nextEpochAt) &&
      (!d.on PRL_CTL_EN || decide (t + n + 810000 ≤ d.nextEpochAt))

/-- The line of port end p carries a command from `t` on (R66, R71). (DEDUCED, log 102.) -/
def Device.sendAt (d : Device) (p : Nat) (c : FlkCmd) (t : Nat) : Device :=
  d.setPt p fun v => { v with txUntil := t + frameNs c.payload.length, lineAt := t + d.commandNs p c, cut := false }

/-- Port end p starts its next command frame (R70, R71, R93, R232): a broadcast has no reply and completes at once.
(DEDUCED, log 98 and 99.) -/
def Device.frameStart (d : Device) (p : Nat) : Device :=
  if !d.portEnabled p || (d.pt p).out.isSome || (d.pt p).phase || !d.flk.cmdOpen then d
  else match d.nextFrame p with
    | none => d
    | some (c, d') =>
      if 6144 < (d.pt p).used + 4 + replyMax c.opc.toNat && c.src == .firmware || !d.fits p c then d
      else if c.src == .firmware && d.closesHeld p c then d'.prsp p Status.reject.code c.gen
      else
        let d := ((d'.noteSent p c).sendAt p c (d.frameAt p)).setPt p fun v => { v with tag := v.tag + 1#8, retried := false }
        if c.addr = 0xFF#8 then (if c.src = .firmware then d.prsp p 0 c.gen else d)
        else d.setPt p fun v => { v with out := some c }

/-- The last ASSIGN found no node: the end's part of the enumeration is over, and an open ring goes on from its other end
(R467). -/
def Device.assignEnds (d : Device) (p : Nat) : Device :=
  let d := d.setPt p fun v => { v with assigning := false }
  let b := otherEnd p
  if d.isRing p && !(d.pt p).closed && d.portEnabled b && (d.pt b).found.isEmpty && d.flk.opEnds.contains (d.aEnd p) &&
      (d.isAEnd p == d.isDrive (d.aEnd p)) then
    (d.setPt b fun v => { v with assigning := true }).releaseNodes b
  else d

/-- What acquisition is told of one of its commands: the node, the opcode, and the reply payload or none on TIMEOUT. -/
structure AcqReply where
  node    : Nat
  opc     : Nat
  payload : Option (List Byte)
  deriving DecidableEq, Repr

/-- The outcome of a retry deadline (R74): one retry, then TIMEOUT; a command of another generation ends with RESET (R51). -/
def Device.retryDeadline (d : Device) (p : Nat) : Device × Option AcqReply :=
  match (d.pt p).out with
  | none => (d, none)
  | some c =>
    if c.gen ≠ d.gen uFLK then
      let d := d.setPt p fun v => { v with out := none, retried := false, cut := false }
      (if c.src = .firmware then d.prsp p Status.reset.code (d.gen uFLK) else d, none)
    else if !(d.pt p).retried then
      ((d.sendAt p c (max d.now (d.pt p).lineAt)).setPt p fun v => { v with retried := true }, none)
    else
      let d := d.setPt p fun v => { v with out := none, retried := false, cut := false }
      if c.opc = 0x01#8 ∧ c.src = .flk then (d.assignEnds p, none)
      else match c.src with
        | .firmware => (d.prsp p (d.answer uFLK c.gen 0 (d.pt p).rgen .timeout).code c.gen, none)
        | .flk => (if c.opc = 0x03#8 then d.calibStep p (d.aPos p c.addr.toNat) false else d, none)
        | .acq => (d, some ⟨d.nodeIndex (d.aEnd p) c.addr.toNat, c.opc.toNat, none⟩)

/-- The reply to PING (R85, R87): a calibration counts it; otherwise a mean that differs from the node's programmed value by 4
ns or more is sent. (DEDUCED, log 34.) -/
def Device.pingReply (d : Device) (p : Nat) (c : FlkCmd) (rtQns : Nat) : Device :=
  let q := d.aPos p c.addr.toNat
  let l := ((rtQns - 80000) / 2 :: mapGetD q [] (d.pt p).pings).take 64
  let d := d.setPt p fun v => { v with pings := mapSet q l v.pings }
  if (mapGet q (d.pt p).calib).isSome then d.calibStep p q true
  else
    let cur := d.get (FLK_NDLY_DLY p (q - 1))
    let m := meanOf l
    if cur ≠ 0 ∧ 16 ≤ (if m < cur then cur - m else m - cur) then d.setDelay p q m else d

/-- The identity that an ASSIGN reply carries (R106). -/
def foundIn (pay : List Byte) : Found :=
  ⟨if (pay[1]?).getD 0#8 = 1#8 then .head else .cell, BitVec.ofNat 16 (leNat ((pay.drop 2).take 2)),
    BitVec.ofNat 64 (leNat ((pay.drop 4).take 8))⟩

/-- What FLK does with the reply to a command of its own (R85, R238, R467). -/
def Device.ownReply (d : Device) (p : Nat) (c : FlkCmd) (f : Frame) (rtQns : Nat) : Device :=
  if c.opc = 0x01#8 then
    if (f.payload[0]?).getD 0#8 = 0#8 then
      let d := d.setPt p fun v => { v with found := v.found ++ [foundIn f.payload] }
      if 129 ≤ (d.pt p).found.length then d.assignEnds p else d
    else d
  else if c.opc = 0x03#8 then d.pingReply p c rtQns
  else if c.opc = 0x09#8 ∧ (f.payload[0]?).getD 0#8 = 0#8 then
    let i := d.nodeIndex (d.aEnd p) c.addr.toNat
    { d with flk := { d.flk with setcmpNodes := d.flk.setcmpNodes.filter (· != i) } }
  else d

/-- The reply answers the command on the line (R72): source position, opcode and tag. A command that an ALARM cut has no
reply (R67). -/
def Device.answers (d : Device) (p : Nat) (c : FlkCmd) (f : Frame) : Bool :=
  f.addr == (if c.addr = 0#8 then (c.payload[0]?).getD 0#8 else c.addr) && f.opc == c.opc ||| 0x80#8 && f.tag == (d.pt p).tag &&
    !(d.pt p).cut

/-- A reply or another frame arrives at port end p (R65, R74, R51, R85, R93, R467). A frame that a code violation, LEN or a
missing EOF spoils is discarded; the last two are counted with the CRC failures, and only replies to pair A's commands are
stored in the circular area. (DESIGN CHOICE, log 104.) -/
def Device.replyFrame (d : Device) (p : Nat) (f : Frame) (rtQns : Nat) : Device × Option AcqReply :=
  let d := (d.linkUp p).countCv p (f.violations + if d.contends p then 0 else f.stray)
  if f.codeViolation then (d, none)
  else if !f.eof || f.len.toNat != f.payload.length || !frameCrcOk f then (d.count16 (FLK_PCRC p), none)
  else if f.opc = 0x01#8 ∧ f.addr = 0#8 then
    (d.setPt (otherEnd p) fun v => if v.assigning then { v with closed := true } else v, none)
  else match (d.pt p).out with
    | none => (d, none)
    | some c =>
      if !d.answers p c f then (d, none)
      else
        let d := d.setPt p fun v => { v with
          out := none, retried := false
          lineAt := max d.now (v.txUntil - 500 + rtQns / 4 + frameNs f.payload.length + 2000) }
        if c.gen ≠ d.gen uFLK then
          (if c.src = .firmware then d.prsp p Status.reset.code (d.gen uFLK) else d, none)
        else match c.src with
          | .firmware =>
            (if d.rgen 0 = (d.pt p).rgen then (d.storeReply p f).prsp p ((f.payload[0]?).getD 0#8).toNat c.gen
              else d.prsp p Status.reset.code c.gen, none)
          | .acq => (d, some ⟨d.nodeIndex (d.aEnd p) c.addr.toNat, c.opc.toNat, some f.payload⟩)
          | .flk => (d.ownReply p c f rtQns, none)

/-! ### Bell, marker, line schedule -/

/-- The clock monitor's last two windows were bad: neither BELL nor MARKER nor WHISTLE can be sent (R25). -/
def Device.clockDead (d : Device) : Bool := d.fd.clockCause && d.fd.clockBadPrev

/-- The device rings: not while a CHAN cause stands, and only from MUSTER to TRIPPED (R235); not with a bad clock (R25), nor
with both referee channels failed (R217). -/
def Device.rings (d : Device) : Bool := d.mode.live && d.on REF_ST_CHOK && !d.clockDead && d.ref.failed != 3#2

/-- Fold-back and heal changes take effect at a BELL (R90, R92), listen ends wait for this epoch's BELL and MARKER, and a ring
whose drive end changed or whose fold-back ended has D_ring measured anew (R466). (DEDUCED, log 105.) -/
def Device.bellRoles (d : Device) : Device :=
  d.ports.foldl (fun d p =>
    let v := d.pt p
    let fold := d.on (FLK_PSTAT_FOLD p)
    let anew := fun (d : Device) => d.when_ (d.isRing p) fun d => d.setPt (d.aEnd p + 1) fun v => { v with measure := 16, traces := [] }
    let d := if v.driveNext then anew ((d.put (FLK_PCTL_ROLE p) 1).setPt p fun v => { v with driveNext := false }) else d
    let d := if v.listenNext then
        let d := anew ((((d.put (FLK_PCTL_ROLE p) 2).put (FLK_PSTAT_FOLD p) 0).put (FLK_PSTAT_FOLD (otherEnd p)) 0).setPt p fun v =>
          { v with listenNext := false, traceRun := 0 })
        if fold then d.readFlock (d.aEnd p) else d
      else d
    if v.bellIn || v.markIn then d.setPt p fun v => { v with bellIn := false, markIn := false } else d) d

/-- BELL at step 1 of R70 (R235, R236, R323). `absent` marks drive ends that found their output absent from the line. A
standby whose ends all listen rings none (R412). -/
def Device.ringBell (d : Device) (absent : BitVec 128) : Device :=
  let d := d.bellRoles
  if d.follower && !(d.ports.any fun p => d.isDrive p) then d else
  let d := (d.put REF_ST_BELL (d.get REF_ST_BELL + 1)).when_ d.follower fun d => { d with prl := { d.prl with bellIn := true } }
  let d := d.ports.foldl (fun d p =>
    if d.isDrive p then
      let n := if absent.getLsbD p then (d.pt p).absentRun + 1 else 0
      let d := (d.preempt p d.now).setPt p fun v => { v with absentRun := n }
      if 3 ≤ n then d.fencePort p 2 else d
    else d) d
  if !d.on REF_ST_ARMED || d.mode == .tripped then d.whistleEverywhere else d

/-- Trailing missing positions of the drive end a at the end of its record phase: the last position before them (R90).
(DEDUCED, log 24.) -/
def lastPresent (acc : List Nat) : Nat → Nat
  | 0 => 0
  | n + 1 => if acc.contains (n + 1) then n + 1 else lastPresent acc n

/-- End of the record phase at port end p: presence words and breaks; the near parties take their links back with a preamble of
4 symbols (R64, R70, R90). (DEDUCED, log 24.) -/
def Device.recordPhaseEnd (d : Device) (p : Nat) : Device :=
  let acc := (d.pt p).accepted
  let word := fun (j : Nat) => (List.range 32).foldl (fun w b => if acc.contains (32 * j + b + 1) then w + 2 ^ b else w) 0
  let d := (List.range 4).foldl (fun d j => d.put (FLK_PPRES_PRES p j) (word j)) d
  let d := d.setPt p fun v => { v with phase := false, lineAt := max v.lineAt (d.now + 2000) }
  let n := d.population p
  let last := lastPresent acc n
  let b := otherEnd p
  if d.isDrive p && d.isRing p && d.canBreak b && decide (1 ≤ last) && decide (last < n) then
    d.declareBreak b (some (last, if d.isAEnd p then last else n - last)) true
  else if (d.pt p).brkOpen && d.isAEnd p then
    ((d.put (FLK_PSTAT_BRKPOS p) last).put (FLK_PSTAT_BRKPOS b) last).setPt p fun v => { v with brkOpen := false, brkA := last }
  else d

/-- TRACE from the drive end of the ring with A end a (R92, R466): in every command interval of a fold-back, from the A end;
while a measurement of D_ring needs it; and once a second as a refresh. A TRACE that did not arrive breaks the run. (DEDUCED,
log 105.) -/
def Device.sendTrace (d : Device) (a : Nat) : Device :=
  let v := d.pt (a + 1)
  let fold := d.on (FLK_PSTAT_FOLD a)
  let due := fold || decide (0 < v.measure) || decide (v.traceMs + 1000 ≤ d.flk.totalMs)
  let drv := if d.isDrive a then a else a + 1
  if due && d.isDrive drv then
    (d.broadcastAt drv 0x05 (leBytes (d.epoch % 65536) 2)).setPt (a + 1) fun v =>
      { v with traceRun := if v.traceOut then 0 else v.traceRun, traceMs := d.flk.totalMs, traceOut := true }
  else d

/-- One PING of the delay refresh at port end p, to its next position (R87). -/
def Device.refreshPing (d : Device) (p : Nat) : Device :=
  match (d.reachable p)[(d.pt p).refresh % max 1 (d.reachable p).length]? with
  | some q =>
    (d.enqueue p ⟨.flk, BitVec.ofNat 8 (d.aPos p q), 0x03#8, [], d.gen uFLK⟩).setPt p fun v => { v with refresh := q }
  | none => d

/-- The delay refresh of a command interval: one PING at every enabled end (R87). (DEDUCED, log 34.) -/
def Device.refreshPings (d : Device) : Device :=
  if d.flk.op.isSome then d else d.ports.foldl (fun d p => if d.portEnabled p then d.refreshPing p else d) d

/-- Automatic frames of a command interval: STOPBAL in the first one of a hold window (R48), SETPER (R94), TRACE (R92, R466),
SETCMP (R238), rotations and full-node tests (R125). (DEDUCED, log 30 and 49.) -/
def Device.autoFrames (d : Device) : Device :=
  let d : Device := if d.sys.stopbalDue then
      { d.broadcast 0x0B [] with sys := { d.sys with stopbalDue := false } } else d
  let d : Device := match d.flk.perNext, d.flk.perWanted with
    | none, some per =>
      { d with flk := { d.flk with perNext := some (per, d.epoch + 2), nextLce := d.flk.lce, perWanted := none } }
    | _, _ => d
  let d : Device := match d.flk.perNext with
    | some (per, eff) => d.broadcast 0x06 (leBytes per 1 ++ leBytes (eff % 65536) 2)
    | none => d
  let d : Device := d.enabledFlocks.foldl (fun d a => if d.isRing a then d.sendTrace a else d) d
  let strs := d.ref.setcmpDue
  let d : Device := { d with ref := { d.ref with setcmpDue := [] } }
  let d : Device := strs.foldl (fun d s =>
    let ns := (d.stringNodes s).filter fun i => !d.flk.setcmpNodes.contains i
    { d with flk := { d.flk with setcmpNodes := d.flk.setcmpNodes ++ ns } }) d
  let d : Device := d.flk.setcmpNodes.foldl (fun d i =>
    match d.nodeString .a i with
    | some s => d.sendNode .flk i 0x09 (leBytes (d.get (REF_SLIM3_AOV s)) 2 ++ leBytes (d.get (REF_SLIM3_AUV s)) 2 ++
        leBytes (d.get (REF_SLIM2_AOT s)) 2)
    | none => d) d
  let v := diagFor 17 d.devicePopulation d.flk.per
  let d : Device := if d.flk.diagSent = some v ∨ d.devicePopulation = 0 then d
    else { d.sendDiag with flk := { d.sendDiag.flk with diagSent := some v } }
  if d.flk.totalMs < d.flk.testMs + 1000 then d
  else { d.fullTests with flk := { d.fullTests.flk with testMs := d.flk.totalMs } }

/-! ### Meanings -/

/-- BELL_RING (R235, R236, R90, R323). -/
def execBellRing (absent : BitVec 128) (s : State) : Host.Outcome State Fault Refusal :=
  onCtl s fun d => if d.rings then d.ringBell absent else d

/-- BELL_CHECK (R90): the BELL has not reached the listen end by D_ring + 2 µs. (DEDUCED, log 24.) -/
def execBellCheck (p : Fin 128) (s : State) : Host.Outcome State Fault Refusal :=
  onCtl s fun d =>
    if d.isListen p && !(d.pt p).bellIn then
      let d := d.put (FLK_PSTAT_CONT p) 0
      let enum := match d.flk.op with | some (.enumerate _) => d.flk.opEnds.contains (d.aEnd p) | _ => false
      if d.canBreak p && d.get (FLK_PRING_DRING (d.aEnd p)) != 0 && !enum then
        d.declareBreak p none false
      else d
    else d

/-- MARKER_CHECK (R90): the BELL arrived and the MARKER has not, so fold-back starts with the next BELL. -/
def execMarkerCheck (p : Fin 128) (s : State) : Host.Outcome State Fault Refusal :=
  onCtl s fun d =>
    if d.isListen p && !(d.pt p).markIn then
      let d := d.put (FLK_PSTAT_CONT p) 0
      if d.canBreak p && (d.pt p).bellIn && d.get (FLK_PRING_DRING (d.aEnd p)) != 0 then d.declareBreak p none true else d
    else d

/-- MARKER at every drive end (R66, R70 step 4); the command interval is over. -/
def Device.injectMarker (d : Device) : Device :=
  let d := d.ports.foldl (fun d p => if d.isDrive p then d.preempt p d.now else d) d
  { d with flk := { d.flk with marker := d.epoch + 1, cmdOpen := false } }

/-- MARKER_INJECT (R70 step 4): MARKER with the number of the epoch that begins 200 µs later leaves every drive end; none
leaves with a bad clock (R25). -/
def execMarkerInject (s : State) : Host.Outcome State Fault Refusal :=
  onCtl s fun d => if d.mode.live && !d.clockDead then d.injectMarker else d

/-- RECORD_PHASE_LINK_TAKE (R70 step 6): the record phase of a flock that has had SETPER begins. -/
def execRecordPhaseLinkTake (s : State) : Host.Outcome State Fault Refusal :=
  onCtl s fun d =>
    d.ports.foldl (fun d p =>
      if d.portEnabled p && (d.pt p).setper then
        d.setPt p fun v =>
          { v with phase := true, phEpoch := d.epoch, phT := d.flk.lastT, accepted := [], missing := [] }
      else d) d

/-- RECORD_PHASE_END (R70 step 8, R90). -/
def execRecordPhaseEnd (p : Fin 128) (s : State) : Host.Outcome State Fault Refusal :=
  onCtl s fun d => if (d.pt p).phase then d.recordPhaseEnd p else d

/-- COMMAND_FRAME_START (R71). -/
def execCommandFrameStart (p : Fin 128) (s : State) : Host.Outcome State Fault Refusal := onCtl s fun d => d.frameStart p

/-- An ALARM arrives at port end p: an end that is sending a command yields and discards the frame, and owes the preamble
(R64, R67). (DEDUCED, log 102.) -/
def Device.yieldTo (d : Device) (p : Nat) : Device :=
  match (d.pt p).out with
  | some c =>
    let v := d.pt p
    if v.txUntil ≤ d.now + frameNs c.payload.length ∧ d.now < v.txUntil then
      d.setPt p fun v => { v with cut := true, txUntil := d.now }
    else d
  | none => d

/-- ALARM_RECEIVED (R228 classes 5 and 6, R65, R67): the argument names the raising node's A-position. -/
def execAlarmReceived (p : Fin 128) (arg : Byte) (s : State) : Host.Outcome State Fault Refusal :=
  onCtl s fun d =>
    if d.portEnabled p then
      let d := (d.linkUp p).yieldTo p
      let i := d.nodeIndex (d.aEnd p) (arg.toNat % 128 + 1)
      let d := { d with ref := { d.ref with dirtyNow := i :: d.ref.dirtyNow } }
      d.raiseBoth [⟨if arg.toNat < 128 then 5 else 6, 0, 0⟩] (d.namedNode .a i) d.epoch
    else d

/-- FLK takes D_ring of the ring with A end a as the mean of its last 16 TRACEs (R466). (DEDUCED, log 34 and 105.) -/
def Device.takeRing (d : Device) (a : Nat) : Device :=
  let m := meanOf (d.pt (a + 1)).traces
  (d.put (FLK_PRING_DRING a) m).put (FLK_PRING_DRING (a + 1)) m

/-- The heal of R92 after 16 TRACEs: first the calibration of D_A of nodes that lack it, then the B end listens again.
(DEDUCED, log 105.) -/
def Device.startHeal (d : Device) (a : Nat) : Device :=
  let lack := ((List.range (d.population a)).map (· + 1)).filter fun q => d.get (FLK_NDLY_DLY a (q - 1)) == 0
  if lack.isEmpty then d.heal a
  else (d.setPt a fun v => { v with calib := lack.map fun q => (q, 16) }).setPt (a + 1) fun v => { v with healDue := true }

/-- A TRACE crosses the ring with A end a (R92, R466): its delay, which a ring that the partner drives measures against the
control stream, so that the link's own delay is added. (DEDUCED, log 105.) -/
def Device.traceIn (d : Device) (a delayQns : Nat) : Device :=
  let own := d.isDrive a || d.isDrive (a + 1)
  let t := if own then delayQns else delayQns + d.get PRL_LDLY_DLY
  let left := (d.pt (a + 1)).measure
  let d := d.setPt (a + 1) fun v => { v with
    traceOut := false, traceRun := min 16 (v.traceRun + 1), traces := (t :: v.traces).take 16, measure := v.measure - 1 }
  if d.on (FLK_PSTAT_FOLD a) then
    (if (d.pt (a + 1)).traceRun = 16 ∧ (d.pt (a + 1)).healDue = false ∧ (d.pt (a + 1)).listenNext = false then d.startHeal a else d)
  else if left ≤ 1 ∧ (d.pt (a + 1)).traces.length = 16 then d.takeRing a else d

/-- TRACE_ARRIVAL (R92, R466): a TRACE reaches the far end of ring k with its propagation delay. (DEDUCED, log 105.) -/
def execTraceArrival (k : Fin 64) (delayQns : Nat) (s : State) : Host.Outcome State Fault Refusal :=
  onCtl s fun d =>
    let a := 2 * k.val
    if d.isRing a && ((d.pt (a + 1)).traceOut || !d.isDrive a && !d.isDrive (a + 1)) then d.traceIn a delayQns else d

/-- ENUMERATE (R467): FLK_OPS with OP enumerate. (DEDUCED, log 33.) -/
def execEnumerate (ring : Fin 64) (all : Bool) (gen : Byte) (s : State) : Host.Outcome State Fault Refusal :=
  onCtl s fun d => if d.sys.appHeld then d else d.flkOps (.enumerate false) ring all gen.toNat

/-- CALIBRATE (R85): FLK_OPS with OP calibrate. -/
def execCalibrate (ring : Fin 64) (all : Bool) (gen : Byte) (s : State) : Host.Outcome State Fault Refusal :=
  onCtl s fun d => if d.sys.appHeld then d else d.flkOps .calibrate ring all gen.toNat

/-- ENUMERATE_AND_CALIBRATE (R467, R85): FLK_OPS with OP both. -/
def execEnumerateAndCalibrate (ring : Fin 64) (all : Bool) (gen : Byte) (s : State) : Host.Outcome State Fault Refusal :=
  onCtl s fun d => if d.sys.appHeld then d else d.flkOps (.enumerate true) ring all gen.toNat

/-- CALIBRATION_DONE (R85, R466). -/
def execCalibrationDone (s : State) : Host.Outcome State Fault Refusal :=
  onCtl s fun d => if d.flk.op = some .calibrate ∧ d.calibrated then d.calibrationDone else d

/-- COMMAND_QUEUE (R71): FLK_PCMD with GO = 1. -/
def execCommandQueue (p : Fin 128) (gen : Byte) (s : State) : Host.Outcome State Fault Refusal :=
  onCtl s fun d => if d.sys.appHeld || decide (d.portCount ≤ p.val) then d else d.pcmd p gen.toNat

/-- Release the space of the last reply (R93). (DEDUCED, log 99.) -/
def Device.releaseReply (d : Device) (p : Nat) : Device :=
  (d.setPt p fun v => { v with used := v.used - v.lastLen, lastLen := 0 }).st uFLK .ok

/-- REPLY_SPACE_RELEASE (R93): FLK_PRSP with REL = 1. -/
def execReplySpaceRelease (p : Fin 128) (s : State) : Host.Outcome State Fault Refusal :=
  onCtl s fun d => if d.sys.appHeld || decide (d.portCount ≤ p.val) then d else d.releaseReply p

/-- PERIOD_WRITE (R81, R94, R109): FLK_EPER.PER. -/
def execPeriodWrite (per : BitVec 7) (s : State) : Host.Outcome State Fault Refusal :=
  onCtl s fun d => if d.sys.appHeld then d else d.periodWrite per.toNat

/-- NODE_TIMER_WRITE (R109): FLK_NTIM. -/
def execNodeTimerWrite (tstr : BitVec 9) (tbal : BitVec 7) (s : State) : Host.Outcome State Fault Refusal :=
  onCtl s fun d => if d.sys.appHeld then d else d.ntimWrite tstr.toNat tbal.toNat

/-- PORT_FENCE (R323): FLK_PFEN with FEN = 1. -/
def execPortFence (p : Fin 128) (s : State) : Host.Outcome State Fault Refusal :=
  onCtl s fun d => if d.sys.appHeld || decide (d.portCount ≤ p.val) then d else (d.fencePort p 0).st uFLK .ok

end Sys2Proof.Machine
end

