-- ==== Sys2Proof/Machine/Acquisition.lean ====
section
/-! DEFINITION. ACQ: records into epoch buffers, node summaries and rows; quality flags; sense wires; module swap; the
low-current epoch; and the arrival of records and replies at the port ends (R15 to R17, R79, R93, R129 to R145, R154, R155). -/

namespace Sys2Proof.Machine

abbrev uACQ : Nat := 0x60100000
abbrev uPUB : Nat := 0x60130000
abbrev uSCR : Nat := 0x60120000

/-! ### Where acquisition writes (R31, R32) -/

/-- Address of cell c of node i, and of temperature channel t, in the epoch buffer slot of epoch e (R31). -/
def epochCell (e i c : Nat) : Nat := 0x30000000 + e % 8 * 0x80000 + 2 * (24 * i + c)
def epochTemp (e i t : Nat) : Nat := 0x30000000 + e % 8 * 0x80000 + 0x60000 + 2 * (8 * i + t)
/-- Address of the node summary of node i for epoch e (R32). -/
def summaryAt (e i : Nat) : Nat := 0x20180000 + e % 8 * 0x10000 + 8 * i

/-- Write the readings of node i to the epoch buffer slot of epoch e. -/
def Device.storeReadings (d : Device) (e i : Nat) (cell temp : Nat → Nat) : Device :=
  let d := (List.range 24).foldl (fun (d : Device) c => d.mwrite (epochCell e i c) 2 (cell c)) d
  (List.range 8).foldl (fun (d : Device) t => d.mwrite (epochTemp e i t) 2 (temp t)) d

/-- Write a node summary. -/
def Device.storeSummary (d : Device) (e i msum istr status sioff : Nat) : Device :=
  (((d.mwrite (summaryAt e i) 2 msum).mwrite (summaryAt e i + 2) 3 istr).mwrite (summaryAt e i + 5) 1 status).mwrite
    (summaryAt e i + 6) 2 sioff

/-- Cell c, and temperature channel t, of a record. -/
def recCell (r : Record) (c : Nat) : Nat := ((r.cell[c]?).getD 0xFFFF#16).toNat
def recTemp (r : Record) (t : Nat) : Nat := ((r.temp[t]?).getD 0x8000#16).toNat
/-- STATUS bits of a record (R78). -/
def recStatus (r : Record) (k : Nat) : Bool := r.status.toNat.testBit k

/-! ### Nodes and rows -/

/-- Node indices of the enabled flocks. -/
def Device.allNodes (d : Device) : List Nat :=
  d.enabledFlocks.flatMap fun a => (List.range (d.population a)).map fun k => d.get (FLK_PBASE_BASE a) + k

/-- Name the node of an event in ACQ_EVNODE. (DEDUCED, log 25.) -/
def Device.evNode (d : Device) (i : Nat) : Device := d.put ACQ_EVNODE_INDEX i
def Device.evWire (d : Device) (i w : Nat) : Device := (d.evNode i).put ACQ_EVNODE_WIRE w

/-- Set or clear bit k of QFLAG in a row. -/
def Device.setQ (d : Device) (row k : Nat) (b : Bool) : Device :=
  let q := d.slotHi row 0
  d.setSlotHi row 0 (if b then q ||| 2 ^ k else if q.testBit k then q - 2 ^ k else q)

/-- Set or clear bit k of QFLAG in all rows of node i, or in its populated rows. -/
def Device.setNodeQ (d : Device) (i k : Nat) (b : Bool) : Device :=
  (List.range 24).foldl (fun (d : Device) c => d.setQ (24 * i + c) k b) d
def Device.setPopQ (d : Device) (i k : Nat) (b : Bool) : Device :=
  (List.range 24).foldl (fun (d : Device) c => if (d.cellMask i).testBit c then d.setQ (24 * i + c) k b else d) d

/-- NEW of a node, as acquisition last set it. -/
def Device.nodeNew (d : Device) (i : Nat) : Bool :=
  (d.heldFlag i qNEW).getD ((List.range 24).any fun c => (d.slotHi (24 * i + c) 0).testBit qNEW)

/-- MODID of a node, as acquisition last set it. -/
def Device.nodeModid (d : Device) (i : Nat) : Nat :=
  d.heldOps.foldl (fun m o => match o with
    | .modid n v => if n = i then v else m
    | _ => m) (d.slot (24 * i) 13)

/-! ### Row changes beside the epoch's write (R17) -/

/-- A sweep runs or is due, so the rows still belong to its epoch (R17). (DEDUCED, log 27.) -/
def Device.sweepHolds (d : Device) : Bool := d.scr.sweep.isSome || d.scr.due.isSome

/-- Carry out a row change; NEW is set in populated rows and cleared in all (R143, R145). -/
def Device.applyOp (d : Device) : RowOp → Device
  | .bit row k b => d.setQ row k b
  | .flag n k b => if k = qNEW ∧ b then d.setPopQ n k b else d.setNodeQ n k b
  | .modid n v => (List.range 24).foldl (fun (d : Device) c => d.setSlot (24 * n + c) 13 v) d

/-- The rows belong to the epoch whose records are being processed: no sweep holds them and nothing waits before it. (DEDUCED,
log 106.) -/
def Device.rowsFree (d : Device) : Bool :=
  !d.sweepHolds && d.acq.ops.isEmpty &&
    (match d.acq.pend with | [] => true | [p] => p.writes.isEmpty && p.ops.isEmpty | _ => false)

/-- A row change by acquisition: at once, or with the scoreboard write of the newest pending epoch (R17). (DEDUCED, log 106.) -/
def Device.rowOp (d : Device) (o : RowOp) : Device :=
  if d.rowsFree then d.applyOp o
  else match d.acq.pend.getLast? with
    | some p => { d with acq := { d.acq with pend := d.acq.pend.dropLast ++ [{ p with ops := p.ops ++ [o] }] } }
    | none => { d with acq := { d.acq with ops := d.acq.ops ++ [o] } }

/-! ### Wire states (R139) -/

def wireKey (i w : Nat) : Nat := 25 * i + w
def Device.wire (d : Device) (i w : Nat) : Option WireState := mapGet (wireKey i w) d.acq.wires
def Device.wireSuspect (d : Device) (i w : Nat) : Bool := match d.wire i w with | some s => !s.isOpen | none => false
def Device.wireOpen (d : Device) (i w : Nat) : Bool := match d.wire i w with | some s => s.isOpen | none => false

/-- Put wire w of node i into a state, and bring OWSUS and OPENW of the rows beside it along (R136, R139). (DEDUCED, log 25.) -/
def Device.setWire (d : Device) (i w : Nat) (s : Option WireState) : Device :=
  let d : Device := { d with acq := { d.acq with
    wires := match s with | some v => mapSet (wireKey i w) v d.acq.wires | none => mapDrop (wireKey i w) d.acq.wires } }
  [w - 1, w].foldl (fun (d : Device) c =>
    if c < 24 ∧ (c + 1 = w ∨ c = w) then
      (d.rowOp (.bit (24 * i + c) qOWSUS (d.wireSuspect i c || d.wireSuspect i (c + 1)))).rowOp
        (.bit (24 * i + c) qOPENW (d.wireOpen i c || d.wireOpen i (c + 1)))
    else d) d

/-- Every wire of node i returns to NONE. -/
def Device.clearWires (d : Device) (i : Nat) : Device :=
  (List.range 25).foldl (fun (d : Device) w => if (d.wire i w).isSome then d.setWire i w none else d) d

/-- Request OWTEST of the group of wire w of node i, two epochs on (R139). -/
def Device.requestOwtest (d : Device) (i w : Nat) : Device :=
  d.sendNode .acq i 0x0E (leBytes (w % 5) 1 ++ leBytes ((d.epoch + 2) % 65536) 2)

/-- A sign, or a pull that responds, on wire w: NONE to SUSPECT. -/
def Device.suspectWire (d : Device) (i w : Nat) : Device :=
  let d := ((d.setWire i w (some ⟨false, false⟩)).up ACQ_EVT_OWSUS).evWire i w
  d.when_ (d.on ACQ_CTL_OWFAST) fun d => d.requestOwtest i w

/-- The outcome of a pull of wire w of node i (R139); NEW and ABSENT take precedence (R145). (DEDUCED, log 25.) -/
def Device.pullResult (d : Device) (i w : Nat) (responds : Bool) : Device :=
  if d.nodeNew i || d.nodeAbsent i then d
  else match d.wire i w, responds with
  | none, true => d.suspectWire i w
  | none, false => d
  | some ⟨false, _⟩, true => ((d.setWire i w (some ⟨true, false⟩)).up ACQ_EVT_OWOPEN).evWire i w
  | some ⟨false, _⟩, false => ((d.setWire i w none).up ACQ_EVT_CELLEV).evWire i w
  | some ⟨true, _⟩, true => d.setWire i w (some ⟨true, false⟩)
  | some ⟨true, false⟩, false => d.setWire i w (some ⟨true, true⟩)
  | some ⟨true, true⟩, false => ((d.setWire i w none).up ACQ_EVT_OWCLR).evWire i w

/-- The SETDIAG that governs node i's rotations at epoch e: the latest one sent two epochs before it or earlier (R124).
(DEDUCED, log 26.) -/
def FlkNode.diagAt (n : FlkNode) (e : Nat) : Option (Nat × Nat) := n.diag.find? fun x => decide (x.1 + 2 ≤ e)

/-- The pulled group that FLK computes for node i at epoch e, if it can (R124, R140). (DEDUCED, log 26.) -/
def Device.pulledGroup (d : Device) (i e : Nat) : Option Nat :=
  match d.fnode i, d.nodePlace i with
  | some n, some (_, q) =>
    let asked := match n.owReq with | some (g, eff) => if eff = e % 65536 then some g else none | none => none
    match asked with
    | some g => some g
    | none =>
      match n.diagAt e with
      | some (sent, ows) =>
        let c := e - (sent + 2)
        if ows = 0 then none else if (c + q) % ows = 0 then some ((c + q) / ows % 5) else none
      | none => none
  | _, _ => none

/-- Cell c is bounded by a wire of group g (R120). -/
def inGroup (g c : Nat) : Bool := c % 5 == g || (c + 1) % 5 == g

/-- The OWP part of a record's evaluation (R140): the group pulled, and the device with its consequences. (DEDUCED, log 26.) -/
def Device.evalPull (d : Device) (i e : Nat) (r : Record) : Option Nat × Device :=
  if recStatus r 0 then
    let g := d.pulledGroup i e
    match g with
    | some n =>
      if recStatus r 1 then
        (g, ({ d with acq := { d.acq with pulls := d.acq.pulls ++ [⟨i, e, g⟩] } } : Device).sendNode .acq i 0x10 [])
      else (g, (List.range 5).foldl (fun (d : Device) k => d.pullResult i (n + 5 * k) false) d)
    | none =>
      (none, ({ d with acq := { d.acq with
          pulls := d.acq.pulls ++ [⟨i, e, none⟩]
          noGroup := if d.acq.noGroup.contains i then d.acq.noGroup else d.acq.noGroup ++ [i] } } : Device).sendNode .acq i 0x10 [])
  else (none, d)

/-! ### Open sense wire or failing cell (R138) -/

/-- SUMERR of a record (R136). -/
def sumErr (pop tol : Nat) (r : Record) : Bool :=
  let cs := (List.range 24).filter fun c => pop.testBit c
  if r.msum = 0xFFFF#16 ∨ cs.any (fun c => recCell r c == 0xFFFF) then false
  else decide (20 * tol < ((20 * (r.msum.toNat : Int)) - ((cs.map (recCell r)).sum : Nat)).natAbs)

/-- Wires with a sign, and cells with a cell event, by the pseudo-code of R138. Differences stand in 100 µV times the number
of cells, so that the common-mode change divides out exactly. -/
def openWireSigns (pop owdelta owsumt : Nat) (serr : Bool) (old : RefRecord) (r : Record) : List Nat × List Nat :=
  let was := fun (c : Nat) => (old.cell[c]?).getD 0xFFFF
  let cs := (List.range 24).filter fun c => pop.testBit c && recCell r c != 0xFFFF && was c != 0xFFFF
  let n : Int := cs.length
  let diff := fun (c : Nat) => ((recCell r c : Int) - (was c : Int))
  let dsum : Int := (cs.map diff).sum
  let dd := fun (c : Nat) => n * diff c - dsum
  let lim : Int := 10 * owdelta * n
  let dm : Int := dsum - 20 * ((r.msum.toNat : Int) - (old.msum : Int))
  let inner := ((List.range 23).map (· + 1)).filter fun w =>
    cs.contains (w - 1) && cs.contains w && decide (dd (w - 1) * dd w < 0) &&
      decide (lim ≤ min (dd (w - 1)).natAbs (dd w).natAbs) && decide (((dd (w - 1) + dd w).natAbs : Int) ≤ 10 * owsumt * n) && !serr
  let edge := [((0 : Nat), (0 : Nat)), (24, 23)].filterMap fun x =>
    if cs.contains x.2 && decide (lim ≤ ((dd x.2).natAbs : Int)) && decide ((10 * owdelta : Int) ≤ (dm.natAbs : Int)) then some x.1 else none
  let signs := inner ++ edge
  (signs, cs.filter fun c => decide (lim ≤ ((dd c).natAbs : Int)) && !signs.contains c && !signs.contains (c + 1))

/-- Evaluate the open-wire signs of an accepted record (R138): skipped with OWP or CVERR, with OWEN = 0, and while NEW or
ABSENT stands (R145). (DEDUCED, log 25.) -/
def Device.evalWires (d : Device) (i e : Nat) (r : Record) (serr : Bool) : Device :=
  if recStatus r 0 || recStatus r 4 then d
  else
    let old := mapGet i d.acq.refs
    let d : Device := { d with acq := { d.acq with
      refs := mapSet i ⟨e, (List.range 24).map (recCell r), r.msum.toNat⟩ d.acq.refs } }
    match old with
    | none => d
    | some o =>
      if !d.on ACQ_CTL_OWEN || d.nodeNew i || d.nodeAbsent i || decide (o.epoch + 7 < e) || decide (e ≤ o.epoch) then d
      else
        let s := openWireSigns (d.cellMask i) (d.get ACQ_OWCFG_OWDELTA) (d.get ACQ_OWCFG_OWSUMT) serr o r
        let d : Device := s.1.foldl (fun (d : Device) w => if (d.wire i w).isNone then d.suspectWire i w else d) d
        s.2.foldl (fun (d : Device) _ => ((d.up ACQ_EVT_CELLEV).evNode i).count32 ACQ_CELLEVCNT 3) d

/-! ### Module swap and removal (R142 to R144) -/

/-- Ask node i for its MODID. -/
def Device.requestId (d : Device) (i : Nat) : Device := d.sendNode .acq i 0x11 []

/-- The thermistors of an evaluated record (R144). A record that shows every one open again calls the READID that a returning
module waits for off. (DESIGN CHOICE, log 107.) -/
def Device.evalThermistors (d : Device) (i : Nat) (r : Record) : Device :=
  let ts := (List.range 8).filter fun t => (d.tempMask i).testBit t
  if ts.isEmpty then d
  else if ts.all fun t => recTemp r t == 0x7FFF then
    let n := mapGetD i 0 d.acq.therm + 1
    let d : Device := { d with acq := { d.acq with
      therm := mapSet i (min n 3) d.acq.therm, back := d.acq.back.filter (· != i) } }
    if n = 3 ∧ d.nodeAbsent i = false then
      let d := (((d.rowOp (.flag i qABSENT true)).clearWires i).up ACQ_EVT_ABSENT).evNode i
      let s := d.slotHi (24 * i) 1
      d.when_ (decide (s < 512)) fun d => d.raiseBoth [⟨9, 0, 0⟩] ⟨none, some s, none⟩ d.epoch
    else d
  else
    let d : Device := { d with acq := { d.acq with therm := mapDrop i d.acq.therm } }
    if d.nodeAbsent i && !d.acq.back.contains i then
      ({ d with acq := { d.acq with back := d.acq.back ++ [i] } } : Device).requestId i
    else d

/-- NEW on node i (R143). -/
def Device.markNew (d : Device) (i : Nat) : Device := (d.rowOp (.flag i qNEW true)).clearWires i

/-- ABSENT of node i ends. -/
def Device.clearAbsent (d : Device) (i : Nat) : Device :=
  let d := d.rowOp (.flag i qABSENT false)
  { d with acq := { d.acq with back := d.acq.back.filter (· != i) } }

/-- A READID of node i returned MODID v (R143, R144). -/
def Device.modidRead (d : Device) (i v : Nat) : Device :=
  let back := d.acq.back.contains i
  if v = 0xFFFFFFFF then
    let d := (d.up ACQ_EVT_IDERR).evNode i
    if back then (d.clearAbsent i).markNew i else d
  else
    let d := d.when_ back fun d => d.clearAbsent i
    if d.nodeModid i = v then d
    else (((d.rowOp (.modid i v)).markNew i).up ACQ_EVT_NEW).evNode i

/-! ### Row writes (R133 to R137) -/

/-- The temperature channel of cell c (ACQ_TMAP). (DEDUCED, log 26.) -/
def Device.tempOf (d : Device) (c : Nat) : Nat :=
  bitsOf (d.rget (if c < 8 then ACQ_TMAP0 else if c < 16 then ACQ_TMAP1 else ACQ_TMAP2)) (3 * (c % 8)) 3

/-- A temperature channel has a usable reading (R137). -/
def Device.tempValid (d : Device) (i : Nat) (r : Record) (t : Nat) : Bool :=
  (d.tempMask i).testBit t && recTemp r t != 0x8000 && recTemp r t != 0x7FFF && recTemp r t != 0x7FFE

/-- The highest valid reading of a record, as the 16 bits that hold it (R137). -/
def Device.hottest (d : Device) (i : Nat) (r : Record) : Option Nat :=
  ((List.range 8).filter (d.tempValid i r)).foldl (fun (m : Option Nat) t =>
    match m with
    | none => some (recTemp r t)
    | some v => some (if signed 16 v < signed 16 (recTemp r t) then recTemp r t else v)) none

/-- TIME of a record (R135). -/
def Device.timeBad (d : Device) (r : Record) : Bool :=
  recFlag r 3 || decide (d.get ACQ_TIMCFG_SKEW < (signed 16 r.sioff.toNat).natAbs)

/-- Row data of an accepted record (R133, R136, R137). (DEDUCED, log 26.) -/
def Device.recordWrite (d : Device) (i : Nat) (r : Record) (pulled : Option Nat) : NodeWrite :=
  let pop := d.cellMask i
  let serr := sumErr pop (d.get ACQ_OWCFG_SUMTOL) r
  let hot := d.hottest i r
  let bit := fun (b : Bool) (k : Nat) => if b then 2 ^ k else 0
  let common := bit (recFlag r 5) qBAL + bit (d.timeBad r) qTIME + bit serr qSUMERR + bit (recStatus r 2) qREF +
    bit (recFlag r 4) qALM + bit (recStatus r 3) qBSWF
  let vlast := fun (c : Nat) => if !pop.testBit c then some 0xFFFF else if recCell r c = 0xFFFF then none else some (recCell r c)
  let own := fun (c : Nat) =>
    if !pop.testBit c then 2 ^ qMASKED else if recCell r c = 0xFFFF then 2 ^ qCNV else 2 ^ qFRESH
  let sub := fun (c : Nat) => !d.tempValid i r (d.tempOf c)
  { node := i, miss := false
    vlast := (List.range 24).map vlast
    bits := (List.range 24).map fun c =>
      common + own c + bit (match pulled with | some g => inGroup g c | none => false) qPULL +
        bit (d.wireSuspect i c || d.wireSuspect i (c + 1)) qOWSUS + bit (d.wireOpen i c || d.wireOpen i (c + 1)) qOPENW +
        bit (sub c) qTSUB
    tcell := (List.range 24).map fun c => if sub c then hot else some (recTemp r (d.tempOf c)) }

/-- Row data of a missing position (R130, R133, R136). -/
def Device.missWrite (d : Device) (i : Nat) : NodeWrite :=
  let pop := d.cellMask i
  let bit := fun (b : Bool) (k : Nat) => if b then 2 ^ k else 0
  { node := i, miss := true
    vlast := (List.range 24).map fun c => if pop.testBit c then none else some 0xFFFF
    bits := (List.range 24).map fun c =>
      (if pop.testBit c then 2 ^ qMISS else 2 ^ qMASKED) +
        bit (d.wireSuspect i c || d.wireSuspect i (c + 1)) qOWSUS + bit (d.wireOpen i c || d.wireOpen i (c + 1)) qOPENW
    tcell := (List.range 24).map fun _ => none }

/-- Bits of QFLAG that a write keeps: NEW and ABSENT always; PULL's neighbours 2 to 4, 8 to 11 and 14 on a missing record
(R136). -/
def qKeep (miss : Bool) : Nat := if miss then 0x7F1C else 0x3000

/-- Write one row. -/
def Device.writeRow (d : Device) (w : NodeWrite) (c : Nat) : Device :=
  let row := 24 * w.node + c
  let d := match (w.vlast[c]?).getD none with | some v => d.setSlotLo row 0 v | none => d
  let d := d.setSlotHi row 0 ((d.slotHi row 0 &&& qKeep w.miss) + (w.bits[c]?).getD 0)
  match (w.tcell[c]?).getD none with | some t => d.setSlotLo row 1 t | none => d

/-- Write all rows of a node (R134). -/
def Device.applyWrite (d : Device) (w : NodeWrite) : Device :=
  (List.range 24).foldl (fun (d : Device) c => d.writeRow w c) d

/-! ### Epochs awaiting their scoreboard write (R17, R134) -/

/-- Lanes in service (R175). -/
def Device.lanesInService (d : Device) : List Nat :=
  (List.range 64).filter fun l => !(d.get SCR_FENCE_FENCE).testBit (l / 8)

/-- The scorer can start a sweep (R18, R170, R175, R179): with every group fenced it stops instead. (DEDUCED, log 27 and 113.)
-/
def Device.scorerReady (d : Device) : Bool :=
  d.on SCR_CTL_RUN && d.on PUB_CTL_EN && d.pub.initd && !d.on SCR_ST_FENCED && d.on (SCR_KINFO_VALID (d.get SCR_KSEL_SLOT))

/-- Set of pending epochs with epoch e in it; the oldest one is discarded when all eight slots are pending (R17), and what it
holds of NEW, ABSENT and MODID passes to the next one. (DEDUCED, log 106.) -/
def Device.openPend (d : Device) (e per ms : Nat) : Device :=
  if d.acq.pend.any (fun p => p.epoch == e) then d
  else
    let d : Device := match d.acq.pend with
      | p :: q :: ps =>
        if 6 ≤ ps.length then
          let keep := p.ops.filter fun o => match o with | .bit _ _ _ => false | _ => true
          (({ d with acq := { d.acq with pend := { q with ops := keep ++ q.ops } :: ps } } : Device).up ACQ_EVT_EPDROP).count32
            ACQ_DROPCNT 1
        else d
      | _ => d
    { d with acq := { d.acq with pend := d.acq.pend ++ [⟨e, per, ms, false, [], []⟩] } }

/-- Write a node's rows for epoch e, or hold the write (R134): directly only when the oldest pending epoch is e, no sweep holds
the rows and none of its writes is held. -/
def Device.rowWrite (d : Device) (e : Nat) (w : NodeWrite) : Device :=
  let direct := !d.sweepHolds && d.acq.ops.isEmpty &&
    (match d.acq.pend with | p :: _ => p.epoch == e && p.writes.isEmpty && p.ops.isEmpty | [] => true)
  if direct then d.applyWrite w
  else { d with acq := { d.acq with pend := d.acq.pend.map fun p => if p.epoch = e then { p with writes := p.writes ++ [w] } else p } }

/-- Held writes in node-index order, those of one node in the order they came (R134). -/
def insertWrite (w : NodeWrite) : List NodeWrite → List NodeWrite
  | [] => [w]
  | v :: l => if w.node < v.node then w :: v :: l else v :: insertWrite w l
def inNodeOrder (l : List NodeWrite) : List NodeWrite := l.foldl (fun m w => insertWrite w m) []

/-- The scoreboard write of the oldest pending epoch proceeds: what is held is written; once the epoch is closed its sweep
falls due (R18, R134). (DEDUCED, log 27 and 106.) -/
def Device.boardWrite (d : Device) : Device :=
  match d.acq.pend with
  | [] => if d.sweepHolds then d else { d.acq.ops.foldl (fun (d : Device) o => d.applyOp o) d with acq := { d.acq with ops := [] } }
  | p :: ps =>
    if d.sweepHolds then d
    else
      let acq := d.acq
      let d : Device := acq.ops.foldl (fun (d : Device) o => d.applyOp o) d
      let d : Device := (inNodeOrder p.writes).foldl (fun (d : Device) w => d.applyWrite w) d
      let d : Device := p.ops.foldl (fun (d : Device) o => d.applyOp o) d
      if p.closed then
        let d : Device := { d with acq := { acq with pend := ps, ops := [] } }
        if d.scorerReady then { d with scr := { d.scr with due := some (p.epoch, p.per, p.ms) } } else d
      else { d with acq := { acq with pend := { p with writes := [], ops := [] } :: ps, ops := [] } }

/-! ### Processing records -/

/-- The nodes with an accepted record of epoch e. -/
def Device.gotOf (d : Device) (e : Nat) : List Nat := mapGetD e [] d.acq.got

/-- Acquisition has epoch e open (R15). -/
def Device.epochOpen (d : Device) (e : Nat) : Bool := d.acq.opens.any fun o => o.epoch == e

/-- Nodes marked missing in epoch e. -/
def Device.missingOf (d : Device) (e : Nat) : List Nat :=
  ((d.acq.opens.find? fun o => o.epoch == e).map OpenEpoch.missing).getD []

/-- Acquisition processes an accepted record of node i and epoch e (R129, R131, R132). A record of an epoch that acquisition
never opened is late. (DESIGN CHOICE, log 107.) -/
def Device.acquire (d : Device) (i e : Nat) (r : Record) : Device :=
  if (d.gotOf e).contains i then d.count32 ACQ_DUPCNT 2
  else
    let late := !d.epochOpen e
    let d : Device := { d with acq := { d.acq with got := (mapSet e (d.gotOf e ++ [i]) d.acq.got).filter fun x => decide (e < x.1 + 8) } }
    let d := d.storeReadings e i (recCell r) (recTemp r)
    let d := d.storeSummary e i r.msum.toNat r.istr.toNat (r.status.toNat % 64 + if late then 0xC0 else 0) r.sioff.toNat
    if late then (d.up ACQ_EVT_LATE).count32 ACQ_LATECNT 0
    else
      let d := d.evalThermistors i r
      let serr := sumErr (d.cellMask i) (d.get ACQ_OWCFG_SUMTOL) r
      let d := d.evalWires i e r serr
      let p := d.evalPull i e r
      let d := p.2
      let d := d.when_ serr fun d => (d.up ACQ_EVT_SUMERR).evNode i
      let d := d.when_ (d.timeBad r) fun d => (d.up ACQ_EVT_TIME).evNode i
      let d := d.when_ (decide (0 < mapGetD i 0 d.acq.lost)) fun d => d.requestId i
      let d : Device := { d with acq := { d.acq with lost := mapDrop i d.acq.lost } }
      d.rowWrite e (d.recordWrite i r p.1)

/-- Mark node i missing in epoch e (R130). -/
def Device.markMissing (d : Device) (i e : Nat) : Device :=
  let d := d.storeReadings e i (fun _ => 0xFFFF) (fun _ => 0x8000)
  let d := d.storeSummary e i 0xFFFF 0 0x80 0x8000
  let d : Device := { d with acq := { d.acq with
    opens := d.acq.opens.map fun o => if o.epoch = e then { o with missing := i :: o.missing } else o } }
  d.rowWrite e (d.missWrite i)

/-- A position of node i is declared missing in epoch e, if that is open (R130). -/
def Device.acqMissing (d : Device) (e i : Nat) : Device :=
  if d.epochOpen e && !(d.gotOf e).contains i && !(d.missingOf e).contains i then d.markMissing i e else d

/-! ### The low-current epoch (R154, R155) -/

/-- Enabled bank current inputs. -/
def Device.currentInputs (d : Device) : List Nat := (List.range 16).filter fun i => d.on (BMI_ICFG_EN i) && d.get (BMI_ICFG_FUNC i) == 1

/-- |EMEAN| of every bank with an enabled current input is below LCTH (0.1 A). -/
def Device.currentsLow (d : Device) : Bool :=
  d.currentInputs.all fun i => decide ((d.gets (BMI_EMEAN_X i)).natAbs < d.get ACQ_LCE_LCTH * 100)

/-- A bank's |WMEAN| or |EMEAN| reaches LCTH. -/
def Device.currentsHigh (d : Device) : Bool :=
  d.currentInputs.any fun i =>
    decide (d.get ACQ_LCE_LCTH * 100 ≤ (d.gets (BMI_EMEAN_X i)).natAbs) || decide (d.get ACQ_LCE_LCTH * 100 ≤ (d.gets (BMI_WMEAN_X i)).natAbs)

/-- The quiet count at the close of an epoch of `per` ms, and the request for the 100 ms period. -/
def Device.countQuiet (d : Device) (per : Nat) : Device :=
  let quiet := d.on ACQ_LCE_EN && d.mode.calm && !d.anyPrecharging && d.currentsLow
  let ms := if quiet then d.acq.quietMs + per else 0
  let d : Device := { d.put ACQ_LCST_QUIET (min 60 (ms / 1000)) with acq := { d.acq with quietMs := ms } }
  if decide (60000 ≤ ms) && !d.flk.lce && !d.follower then { d with flk := { d.flk with lce := true, perWanted := some 100 } }
  else if d.flk.lce && (!d.on ACQ_LCE_EN || !d.mode.calm || d.anyPrecharging || d.currentsHigh) then d.lceExit
  else d

/-- A write of ACQ_LCE (R154, R155, R109). -/
def Device.lceWrite (d : Device) (en : Bool) (lcth : Nat) : Device :=
  if en && d.currentInputs.isEmpty then d.st uACQ .range
  else if en && !timersOk (d.get FLK_NTIM_TSTR) (d.get FLK_NTIM_TBAL) (d.get FLK_EPER_PER) true then d.st uACQ .range
  else
    let d := ((d.putB ACQ_LCE_EN en).put ACQ_LCE_LCTH lcth).st uACQ .ok
    if en then d else d.lceExit

/-! ### The close (R15, R130, R134, R141) -/

/-- OPEN wires of node i as a mask. -/
def Device.openMask (d : Device) (i : Nat) : Nat :=
  (List.range 25).foldl (fun m w => if d.wireOpen i w then m + 2 ^ w else m) 0

/-- Present the wire states to the referee (R141). -/
def Device.presentWires (d : Device) : Device :=
  let open_ := (d.acq.wires.filter fun e => e.2.isOpen).map fun e => e.1 / 25
  { d with ref := { d.ref with openWires := open_.foldl (fun m i => mapSet i (d.openMask i) m) [] } }

/-- Close open epoch `o`, apart from what the publish unit and the pair link do at the close. (DEDUCED, log 27.) -/
def Device.closeEpoch (d : Device) (o : OpenEpoch) : Device :=
  let e := o.epoch
  let d : Device := d.allNodes.foldl (fun (d : Device) i => d.acqMissing e i) d
  let d : Device := (d.missingOf e).foldl (fun (d : Device) i =>
    { d with acq := { d.acq with lost := mapSet i (mapGetD i 0 d.acq.lost + 1) d.acq.lost } }) d
  let d := (d.up ACQ_EVT_CLOSED).put ACQ_LASTEP_EPOCH e
  let d := (d.presentWires).countQuiet o.per
  let d : Device := { d with acq := { d.acq with
    opens := d.acq.opens.filter fun x => x.epoch != e
    lastPer := o.per
    pend := d.acq.pend.map fun p => if p.epoch = e then { p with closed := true } else p } }
  d.boardWrite

/-- The end delivers records: a drive end, and both ends of a ring in pair mode (R75, R77). -/
def Device.delivers (d : Device) (p : Nat) : Bool :=
  d.isDrive p || (d.isListen p && d.isRing p && d.on (FLK_PCTL_PAIRM p))

/-- Every enabled port end has delivered, or declared missing, every record of epoch e (R15). (DEDUCED, log 27.) -/
def Device.delivered (d : Device) (e : Nat) : Bool :=
  d.ports.all fun p =>
    let v := d.pt p
    !d.delivers p || d.population p == 0 || decide (e < v.phEpoch) ||
      (v.phEpoch == e && (List.range (d.population p)).all fun k => v.accepted.contains (k + 1) || v.missing.contains (k + 1))

/-- The instant of open epoch o's close deadline (R15, ACQ_CLOSE). -/
def Device.closeAt (d : Device) (o : OpenEpoch) : Nat :=
  o.at_ + (if d.get ACQ_CLOSE_CLDL = 0 then o.per * 1000000 else d.get ACQ_CLOSE_CLDL * 100000)

/-- Epoch e opens in acquisition (R464, R15). -/
def Device.openEpoch (d : Device) (e per ms : Nat) : Device :=
  if d.on ACQ_CTL_EN then
    ({ d with acq := { d.acq with opens := d.acq.opens ++ [⟨e, d.flk.lastT, per, []⟩] } } : Device).openPend e per ms
  else d

/-! ### Replies to acquisition -/

/-- FLK's count of R124 is unknown: no pull is attributed to a group until a new SETDIAG takes effect (R140). -/
def Device.forgetDiag (d : Device) (i : Nat) : Device :=
  { d with
    acq := { d.acq with noGroup := if d.acq.noGroup.contains i then d.acq.noGroup else d.acq.noGroup ++ [i] }
    flk := { d.flk with nodes := d.flk.nodes.map fun e => if e.1 = i then (i, { e.2 with diag := [] }) else e } }

/-- A DIAGRD reply of node i matches pull p or not (R140). (DEDUCED, log 26.) -/
def Device.diagReply (d : Device) (i : Nat) (p : Pull) (pay : List Byte) : Device :=
  let owg := leNat ((pay.drop 1).take 1)
  let owe := leNat ((pay.drop 2).take 2)
  let owm := leNat ((pay.drop 4).take 4)
  let dcnt := leNat ((pay.drop 18).take 4)
  let d := match ((d.fnode i).bind fun n => n.diagAt d.epoch) with
    | some (sent, _) => if d.epoch - (sent + 2) = dcnt then d else d.forgetDiag i
    | none => d
  if owe = p.epoch % 65536 ∧ owg < 5 ∧ (p.group = none ∨ p.group = some owg) then
    (List.range 5).foldl (fun (d : Device) k => d.pullResult i (owg + 5 * k) (owm.testBit (owg + 5 * k))) d
  else d

/-- Acquisition takes the outcome of one of its commands (R140, R143, R144): a DIAGRD answers the oldest pull of its node. -/
def Device.acqReply (d : Device) (a : AcqReply) : Device :=
  let i := a.node
  let ok := match a.payload with | some (0#8 :: _) => true | _ => false
  match a.opc, a.payload with
  | 0x10, none => { d with acq := { d.acq with again := d.acq.again ++ [(i, 0x10)] } }
  | 0x10, some pay =>
    match d.acq.pulls.find? (fun p => p.node == i) with
    | none => d
    | some p =>
      let d : Device := { d with acq := { d.acq with pulls := d.acq.pulls.erase p } }
      if ok then d.diagReply i p pay else d
  | 0x11, none => if d.acq.back.contains i then { d with acq := { d.acq with again := d.acq.again ++ [(i, 0x11)] } } else d
  | 0x11, some pay => if ok then d.modidRead i (leNat ((pay.drop 12).take 4)) else d
  | _, _ => d

/-- Acquisition's frames of a command interval: repeats (R140, R144), new SETDIAG (R140), the READID rotation (R142). -/
def Device.acqFrames (d : Device) : Device :=
  let rep := d.acq.again
  let ng := d.acq.noGroup
  let d : Device := { d with acq := { d.acq with again := [], noGroup := [] } }
  let d : Device := rep.foldl (fun (d : Device) x => d.sendNode .acq x.1 x.2 []) d
  let d : Device := ng.foldl (fun (d : Device) i =>
    match d.nodePlace i with
    | some (a, _) => d.sendNode .flk i 0x0D (d.diagPayload a)
    | none => d) d
  if d.on ACQ_CTL_EN then
    d.enabledFlocks.foldl (fun (d : Device) a =>
      let n := d.population a
      if n = 0 then d
      else
        let q0 := mapGetD a 0 d.acq.idPos
        let k := min n (d.get ACQ_CTL_IDROT)
        let d : Device := (List.range k).foldl (fun (d : Device) j => d.requestId (d.get (FLK_PBASE_BASE a) + (q0 + j) % n)) d
        { d with acq := { d.acq with idPos := mapSet a ((q0 + k) % n) d.acq.idPos } }) d
  else d

/-! ### Records at a port end (R79, R93) -/

/-- A port end accepts a record (R79). -/
def Device.accepts (d : Device) (p : Nat) (r : Record) : Bool :=
  let v := d.pt p
  decide (0 < v.phEpoch) && recordCrcOk r && !r.codeViolation && r.seq.toNat == v.phEpoch % 256 &&
    decide (1 ≤ r.pos.toNat) && decide (r.pos.toNat ≤ d.population p) && (recFlag r 1 == !d.isAEnd p) &&
    !v.accepted.contains r.pos.toNat

/-- Store a record in the port buffer; a previous one that acquisition has not copied is overrun (R93). -/
def Device.bufferRecord (d : Device) (p : Nat) (r : Record) : Device :=
  let q := r.pos.toNat
  let bytes := recordBytes r ++ leBytes r.crc.toNat 4
  let at0 := 0x38000000 + 0x4000 * p + 80 * (q - 1)
  let m := (bytes.zipIdx).foldl (fun m x => memSet m (at0 + x.2) x.1) d.mem
  let d := d.when_ ((d.pt p).uncopied.contains q) fun d => d.up (FLK_PEVT_OVR p)
  (({ d with mem := m } : Device).rewrote at0 80).setPt p fun v =>
    { v with accepted := q :: v.accepted, uncopied := if v.uncopied.contains q then v.uncopied else q :: v.uncopied }

/-- A record arrives at port end p (R79, R65, R129, R215). (DEDUCED, log 25.) -/
def Device.recordIn (d : Device) (p : Nat) (r : Record) : Device :=
  let d := (d.linkUp p).countCv p (r.violations + if d.contends p then 0 else r.stray)
  if r.codeViolation then d
  else if !recordCrcOk r then d.count16 (FLK_PCRC p)
  else if !d.accepts p r then d.count16 (FLK_PDISC p)
  else
    let e := (d.pt p).phEpoch
    let t := (d.pt p).phT
    let i := d.nodeIndex (d.aEnd p) (d.aPos p r.pos.toNat)
    let d := (d.bufferRecord p r).evalRecord i r e t
    if d.on ACQ_CTL_EN then
      (d.setPt p fun v => { v with uncopied := v.uncopied.filter (· != r.pos.toNat) }).acquire i e r
    else d

/-- Position q of port end p has no accepted record by its bound (R79, R130, R226). -/
def Device.positionMissing (d : Device) (p q : Nat) : Device :=
  let v := d.pt p
  if v.phEpoch = 0 ∨ d.population p < q ∨ v.accepted.contains q ∨ v.missing.contains q then d
  else
    let i := d.nodeIndex (d.aEnd p) (d.aPos p q)
    let d := (d.setPt p fun v => { v with missing := q :: v.missing }).count16 (FLK_PMISS p)
    let d := d.refMissing i v.phEpoch
    if d.on ACQ_CTL_EN then d.acqMissing v.phEpoch i else d

/-! ### Meanings -/

/-- COMMAND_INTERVAL_START (R70 step 9, R71, R87, R142); the ends of a standby wait for its slot (R413). (DEDUCED, log 49.) -/
def execCommandIntervalStart (s : State) : Host.Outcome State Fault Refusal :=
  onCtl s fun d =>
    if d.mode.live && !d.follower then
      ({ d with flk := { d.flk with cmdOpen := true } }).autoFrames.acqFrames.refreshPings
    else d

/-- RECORD_RECEIVED (R79, R129 to R145, R215). -/
def execRecordReceived (p : Fin 128) (r : Record) (s : State) : Host.Outcome State Fault Refusal :=
  onCtl s fun d => if d.portEnabled p.val then d.recordIn p.val r else d

/-- POSITION_MISSING (R79): the operand is the position less 1. -/
def execPositionMissing (p q : Fin 128) (s : State) : Host.Outcome State Fault Refusal :=
  onCtl s fun d => if d.portEnabled p.val then d.positionMissing p.val (q.val + 1) else d

/-- REPLY_FRAME (R74, R51). -/
def execReplyFrame (p : Fin 128) (f : Frame) (rtQns : Nat) (s : State) : Host.Outcome State Fault Refusal :=
  onCtl s fun d =>
    let r := d.replyFrame p.val f rtQns
    match r.2 with
    | some a => r.1.acqReply a
    | none => r.1

/-- RETRY_DEADLINE (R74). -/
def execRetryDeadline (p : Fin 128) (s : State) : Host.Outcome State Fault Refusal :=
  onCtl s fun d =>
    let r := d.retryDeadline p.val
    match r.2 with
    | some a => r.1.acqReply a
    | none => r.1

/-- LINK_LOSS (R184): no valid symbols for 16 µs of expected traffic. -/
def execLinkLoss (p : Fin 128) (s : State) : Host.Outcome State Fault Refusal := onCtl s fun d => d.linkLoss p.val

/-- ENUMERATION_DONE (R467, R83, R84, R142). -/
def execEnumerationDone (s : State) : Host.Outcome State Fault Refusal :=
  onCtl s fun d =>
    match d.flk.op with
    | some (.enumerate _) =>
      let ends := d.flk.opEnds
      let d := d.enumerationDone
      ends.foldl (fun (d : Device) a => d.readFlock a) d
    | _ => d

/-- WIRE_SUSPECT_TIMEOUT (R139): 2 s SUSPECT without a pull. -/
def execWireSuspectTimeout (i : Fin 8192) (w : Fin 25) (s : State) : Host.Outcome State Fault Refusal :=
  onCtl s fun d => if d.wireSuspect i.val w.val then d.requestOwtest i.val w.val else d

/-- ACQ_SCOREBOARD_WRITE (R134). -/
def execAcqScoreboardWrite (s : State) : Host.Outcome State Fault Refusal := onCtl s Device.boardWrite

/-- A write of ACQ_MIDLD with GO = 1 (R143). -/
def Device.modidLoad (d : Device) (i : Nat) : Device :=
  if d.mode ≠ .muster ∧ d.mode ≠ .ready then d.st uACQ .reject
  else if d.nodeLimit ≤ i then d.st uACQ .range
  else
    let v := (d.rget ACQ_MIDVAL).toNat
    (d.rowOp (.modid i v)).st uACQ .ok

/-- MODID_LOAD (R143). -/
def execModidLoad (idx : BitVec 13) (s : State) : Host.Outcome State Fault Refusal :=
  onCtl s fun d => if d.sys.appHeld then d else d.modidLoad idx.toNat

/-- LCE_WRITE (R154, R155, R109). -/
def execLceWrite (en : Bool) (lcth : Half) (s : State) : Host.Outcome State Fault Refusal :=
  onCtl s fun d => if d.sys.appHeld then d else d.lceWrite en lcth.toNat

end Sys2Proof.Machine
end

