-- ==== Sys2Proof/Machine/BankMeasure.lean ====
section
/-! DEFINITION. BMI: filter outputs, fast comparators, means, stuck inputs, insulation monitoring (R146 to R153, R156 to R158),
and what the referee makes of them (R227). -/

namespace Sys2Proof.Machine

abbrev uBMI : Nat := 0x60110000

/-- The nearest integer to num / den, ties away from zero (R147, R187). -/
def roundAway (num : Int) (den : Nat) : Int :=
  if den = 0 then 0
  else if 0 ≤ num then ((2 * num + den) / (2 * den : Nat)) else -((2 * -num + den) / (2 * den : Nat))

/-- Raw value of a ones density num / den (R147). -/
def rawValue (num den : Nat) : Int := clampI (-32768) 32767 (roundAway ((2 * (num : Int) - den) * 32768) den)

/-- Physical value of a raw value (R147), toward zero; one that 32 bits cannot hold is a free value. (DESIGN CHOICE, log 12.) -/
def Device.physical (d : Device) (i : Nat) (raw : Int) : Nat :=
  let x := ((raw - d.gets (BMI_OFFS_OFFS i)) * d.gets (BMI_GAIN_GAIN i)).tdiv 65536
  if -(2 ^ 31) ≤ x ∧ x < 2 ^ 31 then unsigned 32 x else (Config.bmiOverflow x).toNat

/-- OSR of input i (BMI_ICFG.OSR). -/
def Device.osr (d : Device) (i : Nat) : Nat := 32 * 2 ^ d.get (BMI_ICFG_OSR i)

/-- The timestamp word of an output of input i that appears now (R149): epoch number and FAB cycles from its epoch time. -/
def Device.stampNow (d : Device) (i : Nat) : Word :=
  let back := 75 * (d.osr i - 1) + 4 * d.get (BMI_ICFG_ISODLY i) + 25
  let inEpoch := d.now - d.flk.lastT
  if back ≤ inEpoch then BitVec.ofNat 32 ((inEpoch - back) / 4 % 2 ^ 27 + d.epoch % 32 * 2 ^ 27)
  else BitVec.ofNat 32 ((d.flk.prevLen + inEpoch - back) / 4 % 2 ^ 27 + (d.epoch + 31) % 32 * 2 ^ 27)

/-- A fast comparator of an input with function 1 to 5 names its bank (R227). -/
def Device.fastClass (d : Device) (i : Nat) : Device :=
  let f := d.get (BMI_ICFG_FUNC i)
  d.when_ (decide (1 ≤ f) && decide (f ≤ 5)) fun d => d.raiseBank 13 (d.get (BMI_ICFG_BANK i))

/-- A main filter output (R147 to R149, R151, R227). -/
def Device.mainOutput (d : Device) (i num : Nat) : Device :=
  if !d.on BMI_CTL_CLKEN || !d.on (BMI_ICFG_EN i) then d
  else
    let raw := rawValue num (d.osr i ^ 3)
    let clip := decide (26214 < raw.natAbs)
    let d := d.when_ clip fun d => d.up (BMI_IST_CLIP i)
    if d.on (BMI_IST_STUCK i) then d
    else
      let d := d.put (BMI_LSMP_X i) (d.physical i raw)
      let d : Device := { d with bmi := { d.bmi with stamp := d.bmi.stamp.setIfInBounds i (d.stampNow i) } }
      if d.get (BMI_ICFG_FUNC i) = 1 then d.judgeCurrent (d.get (BMI_ICFG_BANK i)) (d.gets (BMI_LSMP_X i)) clip else d

/-- A fast filter output (R152). -/
def Device.fastOutput (d : Device) (i num : Nat) : Device :=
  if !d.on BMI_CTL_CLKEN || !d.on (BMI_ICFG_EN i) || !d.on (BMI_FCFG_FEN i) then d
  else
    let raw := rawValue num 4096
    let beyond := decide (d.gets (BMI_FCMP_HI i) < raw) || decide (raw < d.gets (BMI_FCMP_LO i))
    let lim := d.get (BMI_FCFG_FCNT i) + 1
    let o := if beyond then min lim ((d.bmi.fastOut[i]?).getD 0 + 1) else 0
    let n := if beyond then 0 else min lim ((d.bmi.fastIn[i]?).getD 0 + 1)
    let was := (d.bmi.comp[i]?).getD false
    let now := if was then n != lim else o == lim
    let d : Device := { d with bmi := { d.bmi with
      fastOut := d.bmi.fastOut.setIfInBounds i o, fastIn := d.bmi.fastIn.setIfInBounds i n
      comp := d.bmi.comp.setIfInBounds i now } }
    if now && !was then (d.up (BMI_IST_FTRIP i)).fastClass i else d

/-- Means of one input at the end of an epoch (R150). (DEDUCED, log 31.) While the input is STUCK or CLKEN = 0 they are held.
(DESIGN CHOICE, log 107.) -/
def Device.inputMeans (d : Device) (i epoch per : Nat) (ones : BmiOnes) : Device :=
  if d.on (BMI_ICFG_EN i) && d.on BMI_CTL_CLKEN && !d.on (BMI_IST_STUCK i) then
    let d := d.put (BMI_WMEAN_X i) (d.physical i (rawValue ones.window 20000))
    let d := d.put (BMI_EMEAN_X i) (d.physical i (rawValue ones.epoch (per * 20000)))
    d.put (BMI_MEP_EP i) epoch
  else d

/-- Means of every input (R150). (DEDUCED, log 31.) -/
def Device.bmiMeans (d : Device) (epoch per : Nat) (ones : Vector BmiOnes 16) : Device :=
  (List.range 16).foldl (fun (d : Device) i =>
    match ones[i]? with | some o => d.inputMeans i epoch per o | none => d) d

/-- STUCK (R151, R227). -/
def Device.stuck (d : Device) (i : Nat) : Device :=
  if d.on (BMI_ICFG_EN i) then (d.up (BMI_IST_STUCK i)).judgeInputs else d

/-- A write of BMI_FCMP (R153). -/
def Device.fcmpWrite (d : Device) (i lo hi : Nat) : Device :=
  let wider := decide (d.gets (BMI_FCMP_HI i) < signed 16 hi) || decide (signed 16 lo < d.gets (BMI_FCMP_LO i))
  if wider && d.mode != .ready then d.st uBMI .reject
  else ((d.put (BMI_FCMP_LO i) lo).put (BMI_FCMP_HI i) hi).st uBMI .ok

/-! ### Insulation monitoring -/

def Device.im (d : Device) (b : Nat) : Imd := (d.bmi.imd[b]?).getD ⟨.idle, 0, 0, false, 0, 0, false⟩
def Device.setIm (d : Device) (b : Nat) (f : Imd → Imd) : Device :=
  { d with bmi := { d.bmi with imd := d.bmi.imd.setIfInBounds b (f (d.im b)) } }

/-- The pins IMD_SWP[b] and IMD_SWN[b] (R156); the standby of a device pair drives neither (R158). -/
def Device.imdPins (d : Device) (b : Nat) : Bool × Bool :=
  if d.get CTD_CTL_ROLE = 2 then (false, false)
  else match (d.im b).phase with
    | .p => (true, false)
    | .n => (false, true)
    | _ => (false, false)

/-- A resistance RN × num / den in kΩ as it is reported (R157), rounded down. (DEDUCED, log 13.) -/
def ohms (num den : Int) (free : BitVec 16) : Nat :=
  if den = 0 then free.toNat
  else
    let v := num.tdiv den
    if v < 10 then 0 else if 50000 < v then 0xFFFF else v.toNat

/-- A threshold flag with its hysteresis (R158). -/
def imdFlag (was : Bool) (riso th : Nat) : Bool := if riso < th then true else if 5 * th ≤ 4 * riso then false else was

/-- The result at the end of a cycle of bank b, whose insulation input is i (R157, R158). (DEDUCED, log 13.) -/
def Device.imdResult (d : Device) (b i : Nat) : Device :=
  let v := d.im b
  let low := decide (v.uP < 100000) || decide (v.uN < 100000)
  let uns := !v.okP || !v.okN
  let d := d.put (BMI_IMDS_CYC b) (d.get (BMI_IMDS_CYC b) + 1)
  let d := d.when_ uns fun d => d.up (BMI_IST_IUNSET i)
  let d := d.when_ low fun d => d.up (BMI_IST_ILOWV i)
  if uns || low then d
  else
    let bP := v.uP - v.aP
    let bN := v.uN - v.aN
    let rn : Int := d.get (BMI_IMDC_RN b)
    let delta := v.aN * bP - v.aP * bN
    let free := Config.imdUndefined v.aP v.uP v.aN v.uN
    let iso := ohms (rn * delta) (bN * v.uP + v.aP * v.uN) free
    let d := (d.put (BMI_IMDR_RPOS b) (ohms (rn * delta) (bN * v.uP) free)).put (BMI_IMDR_RNEG b) (ohms (rn * delta) (v.aP * v.uN) free)
    let d := (d.put (BMI_IMDS_RISO b) iso).put (BMI_IMDS_VALID b) 1
    let d := d.up (BMI_IST_INEW i)
    let d := d.putB (BMI_IST_IWARN i) (imdFlag (d.on (BMI_IST_IWARN i)) iso (d.get (BMI_IMDT_WARN b)))
    d.putB (BMI_IST_IFAULT i) (imdFlag (d.on (BMI_IST_IFAULT i)) iso (d.get (BMI_IMDT_FAULT b)))

/-- A phase or a gap of bank b's cycle ends (R156). -/
def Device.imdTimer (d : Device) (b : Nat) (m : ImdMeans) : Device :=
  let settled := decide (100 * (m.aLast - m.aPrev).natAbs ≤ m.uLast.natAbs)
  match (d.im b).phase with
  | .idle => d
  | .p => d.setIm b fun v => { v with phase := .gapP, aP := m.aLast, uP := m.uLast, okP := settled }
  | .gapP => (d.put (BMI_IMDS_PH b) 1).setIm b fun v => { v with phase := .n }
  | .n => d.setIm b fun v => { v with phase := .gapN, aN := m.aLast, uN := m.uLast, okN := settled }
  | .gapN =>
    let d := (d.put (BMI_IMDS_PH b) 0).setIm b fun v => { v with phase := .p }
    match d.inputOf 4 b with
    | some i => d.imdResult b i
    | none => d

/-- A write of BMI_IMDC.EN (R156): EN = 1 needs a battery voltage input and an insulation input. -/
def Device.imdEnable (d : Device) (b : Nat) (en : Bool) : Status × Device :=
  if en && ((d.inputOf 2 b).isNone || (d.inputOf 4 b).isNone) then (.range, d)
  else if en == d.on (BMI_IMDC_EN b) then (.ok, d)
  else
    let d := ((d.putB (BMI_IMDC_EN b) en).put (BMI_IMDS_PH b) 0).put (BMI_IMDS_VALID b) 0
    (.ok, d.setIm b fun v => { v with phase := if en then .p else .idle })

/-! ### Meanings -/

/-- BANK_CONNECT (R256, R227): CTD_BCMD connect by pair A; the referee judges the change of the bank's state. -/
def execBankConnect (b : Fin 4) (gen : Byte) (s : State) : Host.Outcome State Fault Refusal :=
  onCtl s fun d => (d.bcmd b gen.toNat fun d => d.bankConnect b).judgeInputs

/-- BMI_FILTER_OUTPUT (R148): `num` is the filter's integer output, 0 to OSR³. -/
def execBmiFilterOutput (i : Fin 16) (num : Nat) (s : State) : Host.Outcome State Fault Refusal :=
  onCtl s fun d => d.mainOutput i.val num

/-- FAST_FILTER_OUTPUT (R152): `num` is the filter's integer output, 0 to 4,096. -/
def execFastFilterOutput (i : Fin 16) (num : Nat) (s : State) : Host.Outcome State Fault Refusal :=
  onCtl s fun d => d.fastOutput i.val num

/-- STUCK_TIMEOUT (R151): 64 modulator clocks without a transition. -/
def execStuckTimeout (i : Fin 16) (s : State) : Host.Outcome State Fault Refusal := onCtl s fun d => d.stuck i.val

/-- FAST_BAND_WRITE (R153): a write of BMI_FCMP. -/
def execFastBandWrite (i : Fin 16) (lo hi : Half) (s : State) : Host.Outcome State Fault Refusal :=
  onCtl s fun d => if d.sys.appHeld then d else d.fcmpWrite i.val lo.toNat hi.toNat

/-- IMD_PHASE_TIMER (R156 to R158). -/
def execImdPhaseTimer (b : Fin 4) (m : ImdMeans) (s : State) : Host.Outcome State Fault Refusal :=
  onCtl s fun d => d.imdTimer b.val m

end Sys2Proof.Machine
end

