-- ==== Sys2Proof/Machine/Float.lean ====
section
/-! DEFINITION. Binary64 arithmetic as R276 defines it: every result is computed exactly on integers and rounded once, to
nearest with ties to even; the conditions stand beside the result as the bits of c12 (FFLAGS). -/

namespace Sys2Proof.Machine

/-- Bits of FFLAGS (R276). -/
abbrev fNX : Nat := 1
abbrev fUF : Nat := 2
abbrev fOF : Nat := 4
abbrev fDZ : Nat := 8
abbrev fNV : Nat := 16

/-- A result of R276 and the conditions that it raised. -/
structure FRes where
  bits  : DWord
  flags : Nat
  deriving DecidableEq, Repr

/-- What a binary64 pattern stands for: NaN, infinity, or (−1)^neg × man × 2^exp. -/
inductive FVal where
  | nan (signalling : Bool)
  | inf (neg : Bool)
  | fin (neg : Bool) (man : Nat) (exp : Int)
  deriving DecidableEq, Repr

/-- The quiet NaN of an invalid operation (R276). -/
abbrev qNaN : DWord := 0x7FF8000000000000#64

def fSign (w : DWord) : Bool := w.toNat.testBit 63
/-- Infinity and zero of a sign. -/
def fInf (neg : Bool) : DWord := if neg then 0xFFF0000000000000#64 else 0x7FF0000000000000#64
def fZero (neg : Bool) : DWord := if neg then 0x8000000000000000#64 else 0#64

/-- Read a pattern. -/
def fVal (w : DWord) : FVal :=
  let e := (w.toNat >>> 52) % 2048
  let m := w.toNat % 2 ^ 52
  if e = 2047 then (if m = 0 then .inf (fSign w) else .nan (!m.testBit 51))
  else if e = 0 then .fin (fSign w) m (-1074)
  else .fin (fSign w) (m + 2 ^ 52) ((e : Int) - 1075)

def FVal.isNan : FVal → Bool
  | .nan _ => true
  | _ => false
def FVal.isSnan : FVal → Bool
  | .nan s => s
  | _ => false

/-- `m` shifted right by `n` places, rounded to nearest with ties to even, and whether bits were lost. -/
def rneShift (m n : Nat) : Nat × Bool :=
  let k := m >>> n
  let r := m % 2 ^ n
  let h := 2 ^ n / 2
  if r = 0 then (k, false)
  else (if h < r ∨ (r = h ∧ k % 2 = 1) then k + 1 else k, true)

/-- Round (−1)^neg × m × 2^e to binary64, `m` not 0. `tinyB` says that tininess is detected before rounding.
(DESIGN CHOICE, log 14.) -/
def roundPack (neg : Bool) (m : Nat) (e : Int) (tinyB : Bool) : FRes :=
  let top : Int := e + Nat.log2 m
  let q : Int := max (top - 52) (-1074)
  let r := if q ≤ e then (m <<< (e - q).toNat, false) else rneShift m (q - e).toNat
  let body : Nat := (q + 1074).toNat * 2 ^ 52 + r.1
  let free := if top - 52 ≤ e then m <<< (e - (top - 52)).toNat else (rneShift m (top - 52 - e).toNat).1
  let tiny := if tinyB then decide (top < -1022)
    else decide (top < -1023) || (decide (top = -1023) && decide (free < 2 ^ 53))
  if 2047 * 2 ^ 52 ≤ body then ⟨fInf neg, fOF + fNX⟩
  else
    ⟨BitVec.ofNat 64 (body + if neg then 2 ^ 63 else 0),
      (if r.2 then fNX else 0) + (if r.2 && tiny then fUF else 0)⟩

/-- The exact value of `z` × 2^e rounded; zero takes the sign `zneg`. -/
def roundInt (z : Int) (e : Int) (zneg : Bool) (tinyB : Bool) : FRes :=
  if z = 0 then ⟨fZero zneg, 0⟩ else roundPack (decide (z < 0)) z.natAbs e tinyB

/-- A NaN result of quiet NaN operands: a quiet NaN whose sign and payload stay open. -/
def freeNan (a b c : DWord) : DWord :=
  let v := (Config.nanResult a b c).toNat
  BitVec.ofNat 64 (0x7FF8000000000000 + v % 2 ^ 51 + v / 2 ^ 51 * 2 ^ 63)

/-- The result of an operation with a NaN among its operands. (DESIGN CHOICE, log 14.) -/
def nanOp (a b c : DWord) (signalling : Bool) : FRes := if signalling then ⟨qNaN, fNV⟩ else ⟨freeNan a b c, 0⟩

/-- man × 2^exp as an integer in units of 2^e, for e at most exp. -/
def scaled (neg : Bool) (m : Nat) (x e : Int) : Int :=
  let v : Int := ((m <<< (x - e).toNat : Nat) : Int)
  if neg then -v else v

/-- Sum of two finite values. -/
def addFin (n1 : Bool) (m1 : Nat) (e1 : Int) (n2 : Bool) (m2 : Nat) (e2 : Int) (tinyB : Bool) : FRes :=
  let e := min e1 e2
  roundInt (scaled n1 m1 e1 e + scaled n2 m2 e2 e) e (n1 && n2) tinyB

/-- FADD. -/
def fAdd (a b : DWord) : FRes :=
  match fVal a, fVal b with
  | .fin n1 m1 e1, .fin n2 m2 e2 => addFin n1 m1 e1 n2 m2 e2 (Config.tinyBefore a b 0#64)
  | .inf n1, .inf n2 => if n1 = n2 then ⟨fInf n1, 0⟩ else ⟨qNaN, fNV⟩
  | .inf n1, .fin _ _ _ => ⟨fInf n1, 0⟩
  | .fin _ _ _, .inf n2 => ⟨fInf n2, 0⟩
  | x, y => nanOp a b 0#64 (x.isSnan || y.isSnan)

/-- FNEG: the sign bit inverted. -/
def fNeg (a : DWord) : DWord := a ^^^ 0x8000000000000000#64
/-- FABS: the sign bit cleared. -/
def fAbs (a : DWord) : DWord := a &&& 0x7FFFFFFFFFFFFFFF#64

/-- FSUB: f[RS1] − f[RS2]; the sign of a NaN operand plays no part. -/
def fSub (a b : DWord) : FRes := if (fVal b).isNan then fAdd a b else fAdd a (fNeg b)

/-- FMUL. -/
def fMul (a b : DWord) : FRes :=
  match fVal a, fVal b with
  | .fin n1 m1 e1, .fin n2 m2 e2 =>
    if m1 * m2 = 0 then ⟨fZero (n1 != n2), 0⟩
    else roundPack (n1 != n2) (m1 * m2) (e1 + e2) (Config.tinyBefore a b 0#64)
  | .inf n1, .inf n2 => ⟨fInf (n1 != n2), 0⟩
  | .inf n1, .fin n2 m2 _ => if m2 = 0 then ⟨qNaN, fNV⟩ else ⟨fInf (n1 != n2), 0⟩
  | .fin n1 m1 _, .inf n2 => if m1 = 0 then ⟨qNaN, fNV⟩ else ⟨fInf (n1 != n2), 0⟩
  | x, y => nanOp a b 0#64 (x.isSnan || y.isSnan)

/-- FDIV. The quotient carries at least 66 bits and a last bit that says whether a remainder is left. -/
def fDiv (a b : DWord) : FRes :=
  match fVal a, fVal b with
  | .fin n1 m1 e1, .fin n2 m2 e2 =>
    if m2 = 0 then (if m1 = 0 then ⟨qNaN, fNV⟩ else ⟨fInf (n1 != n2), fDZ⟩)
    else if m1 = 0 then ⟨fZero (n1 != n2), 0⟩
    else
      let q := (m1 <<< 120) / m2
      let r := (m1 <<< 120) % m2
      roundPack (n1 != n2) (2 * q + if r = 0 then 0 else 1) (e1 - e2 - 121) (Config.tinyBefore a b 0#64)
  | .inf _, .inf _ => ⟨qNaN, fNV⟩
  | .inf n1, .fin n2 _ _ => ⟨fInf (n1 != n2), 0⟩
  | .fin n1 _ _, .inf n2 => ⟨fZero (n1 != n2), 0⟩
  | x, y => nanOp a b 0#64 (x.isSnan || y.isSnan)

/-- Integer square root of `n` below 2^(2k), built from its high bit. -/
def isqrt (n : Nat) : (k r : Nat) → Nat
  | 0, r => r
  | k + 1, r => isqrt n k (if (r + 2 ^ k) * (r + 2 ^ k) ≤ n then r + 2 ^ k else r)

/-- FSQRT. -/
def fSqrt (a : DWord) : FRes :=
  match fVal a with
  | .nan s => nanOp a 0#64 0#64 s
  | .inf n => if n then ⟨qNaN, fNV⟩ else ⟨fInf false, 0⟩
  | .fin n m e =>
    if m = 0 then ⟨fZero n, 0⟩
    else if n then ⟨qNaN, fNV⟩
    else
      let odd := e % 2 = 1
      let m' := (if odd then 2 * m else m) <<< 128
      let e' := (if odd then e - 1 else e) - 128
      let r := isqrt m' 92 0
      roundPack false (2 * r + if r * r = m' then 0 else 1) (e' / 2 - 1) (Config.tinyBefore a 0#64 0#64)

/-- FMAC: c + a × b, rounded once. (DESIGN CHOICE, log 14.) -/
def fMac (a b c : DWord) : FRes :=
  let prod : FVal := match fVal a, fVal b with
    | .fin n1 m1 e1, .fin n2 m2 e2 => .fin (n1 != n2) (m1 * m2) (e1 + e2)
    | .inf n1, .inf n2 => .inf (n1 != n2)
    | .inf n1, .fin n2 m2 _ => if m2 = 0 then .nan true else .inf (n1 != n2)
    | .fin n1 m1 _, .inf n2 => if m1 = 0 then .nan true else .inf (n1 != n2)
    | x, y => .nan (x.isSnan || y.isSnan)
  let operandNan := (fVal a).isNan || (fVal b).isNan
  match prod, fVal c with
  | .fin n1 m1 e1, .fin n2 m2 e2 => addFin n1 m1 e1 n2 m2 e2 (Config.tinyBefore a b c)
  | .inf n1, .inf n2 => if n1 = n2 then ⟨fInf n1, 0⟩ else ⟨qNaN, fNV⟩
  | .inf n1, .fin _ _ _ => ⟨fInf n1, 0⟩
  | .fin _ _ _, .inf n2 => ⟨fInf n2, 0⟩
  | .nan s, .nan s' =>
    if operandNan || s' then nanOp a b c (s || s')
    else if Config.fmacNanInvalid a b c then ⟨qNaN, fNV⟩ else nanOp a b c false
  | .nan s, _ => nanOp a b c s
  | _, .nan s => nanOp a b c s

/-- The order of two values that are no NaN, −0 equal to +0. -/
def fOrder (a b : DWord) : Ordering :=
  match fVal a, fVal b with
  | .fin n1 m1 e1, .fin n2 m2 e2 =>
    let e := min e1 e2
    compare (scaled n1 m1 e1 e) (scaled n2 m2 e2 e)
  | .inf n1, .inf n2 => if n1 = n2 then .eq else if n1 then .lt else .gt
  | .inf n1, _ => if n1 then .lt else .gt
  | _, .inf n2 => if n2 then .gt else .lt
  | _, _ => .eq

def fLess (a b : DWord) : Bool := fOrder a b == .lt

/-- FMIN (`wantMax = false`) and FMAX: one NaN gives the other operand, and −0 is below +0. -/
def fMinMax (wantMax : Bool) (a b : DWord) : FRes :=
  let na := (fVal a).isNan
  let nb := (fVal b).isNan
  let sig := (fVal a).isSnan || (fVal b).isSnan
  if na && nb then nanOp a b 0#64 sig
  else if na then ⟨b, if sig then fNV else 0⟩
  else if nb then ⟨a, if sig then fNV else 0⟩
  else
    let lt := fLess a b || (fOrder a b == .eq && fSign a && !fSign b)
    ⟨if lt != wantMax then a else b, 0⟩

/-- FCMP (R275): the condition and the conditions raised. (DESIGN CHOICE, log 14.) -/
def fCmp (fn : FcmpFn) (a b : DWord) : Bool × Nat :=
  let un := (fVal a).isNan || (fVal b).isNan
  let sig := (fVal a).isSnan || (fVal b).isSnan
  let quiet := if sig then fNV else 0
  match fn with
  | .feq => (!un && fOrder a b == .eq, quiet)
  | .flt => (!un && fOrder a b == .lt, if un && (sig || Config.cmpNanInvalid a b) then fNV else 0)
  | .fle => (!un && fOrder a b != .gt, if un && (sig || Config.cmpNanInvalid a b) then fNV else 0)
  | .fun_ => (un, quiet)

/-- FCVT.FG and FCVT.FGU: an integer as binary64. -/
def fOfInt (z : Int) : FRes := roundInt z 0 false false

/-- Rounding of FCVT.GF. -/
inductive Rnd where
  | rne | rtz | rdn | rup | rna
  deriving DecidableEq, Repr

/-- The value man × 2^exp with its sign as an integer, and whether it was inexact. -/
def toInteger (rm : Rnd) (neg : Bool) (m : Nat) (e : Int) : Int × Bool :=
  if 0 ≤ e then (scaled neg m e 0, false)
  else
    let n := (-e).toNat
    let k := m >>> n
    let r := m % 2 ^ n
    let h := 2 ^ n / 2
    let up : Bool := match rm with
      | .rne => decide (h < r) || (r == h && k % 2 == 1)
      | .rtz => false
      | .rdn => neg && r != 0
      | .rup => !neg && r != 0
      | .rna => decide (h ≤ r)
    let k : Int := ((if up && r != 0 then k + 1 else k : Nat) : Int)
    (if neg then -k else k, r != 0)

/-- The signed limits of 64 bits. -/
abbrev s64Max : Int := 0x7FFFFFFFFFFFFFFF
abbrev s64Min : Int := -0x8000000000000000

/-- FCVT.GF: f as s64, stopping at its limits, NaN giving 0 (R276). -/
def fToInt (rm : Rnd) (a : DWord) : Int × Nat :=
  match fVal a with
  | .nan _ => (0, fNV)
  | .inf n => (if n then s64Min else s64Max, fNV)
  | .fin n m e =>
    let r := toInteger rm n m e
    if s64Max < r.1 then (s64Max, fNV)
    else if r.1 < s64Min then (s64Min, fNV)
    else (r.1, if r.2 then fNX else 0)

end Sys2Proof.Machine
end

