-- ==== Sys2Proof/Machine/Kernel.lean ====
section
/-! DEFINITION. The lookup of R172 and the reference kernel of R185 to R212, one invocation as a function of its row, its
context and the lookup tables. Arithmetic is binary64 (R187) in the order in which the rules write it; a slot is converted once,
when the invocation ends. -/

namespace Sys2Proof.Machine

/-- The lookup of R172 at x, with base x0 and shift s, over points p. -/
def lookup (p : Nat → Int) (x0 : Int) (s : Nat) (x : Int) : Int :=
  let d := x - x0
  if d < 0 then p 0
  else
    let i := d.toNat / 2 ^ s
    if 1023 ≤ i then p 1023
    else
      let f : Int := d - (i * 2 ^ s : Nat)
      p i + (p (i + 1) - p i) * f / (2 ^ s : Nat)

/-! ### Arithmetic of the kernel (R187) -/

def kAdd (a b : DWord) : DWord := (fAdd a b).bits
def kSub (a b : DWord) : DWord := (fSub a b).bits
def kMul (a b : DWord) : DWord := (fMul a b).bits
def kDiv (a b : DWord) : DWord := (fDiv a b).bits
def kMin (a b : DWord) : DWord := (fMinMax false a b).bits
def kMax (a b : DWord) : DWord := (fMinMax true a b).bits
/-- An integer, and n × 10^(−k), as binary64. -/
def kI (z : Int) : DWord := (fOfInt z).bits
def kDec (n : Int) (k : Nat) : DWord := kDiv (kI n) (kI (10 ^ k : Nat))
def kLt (a b : DWord) : Bool := (fCmp .flt a b).1
def kLe (a b : DWord) : Bool := (fCmp .fle a b).1
/-- Rounding to nearest with ties away from zero, up, and down. -/
def kRna (a : DWord) : Int := (fToInt .rna a).1
def kCeil (a : DWord) : Int := (fToInt .rup a).1
def kFloor (a : DWord) : Int := (fToInt .rdn a).1
/-- 2^16, 2^30 and 2^32. -/
def k16 : DWord := kI 65536
def k30 : DWord := kI 1073741824
def k32 : DWord := kI 4294967296

/-- `v` saturated at an unsigned field of n bits, and at a signed one. -/
def satU (n : Nat) (v : Int) : Nat := (clampI 0 ((2 ^ n : Nat) - 1) v).toNat
def satS (n : Nat) (v : Int) : Int := clampI (-((2 ^ (n - 1) : Nat) : Int)) ((2 ^ (n - 1) : Nat) - 1) v

/-! ### Inputs and row state -/

/-- What an invocation of the reference kernel reads and never changes. -/
structure KEnv where
  /-- lookup of table t at x -/
  lut : Nat → Int → Int
  /-- the string current is present, and its value in mA (c2) -/
  cur : Bool
  c2  : Int
  /-- PER and DT in ms (c3, c4) -/
  c3  : Nat
  c4  : Nat
  vlast : Nat
  qflag : Nat
  tcell : Int
  strix : Nat
  socp  : Nat
  /-- learning gate state as loaded (LRNST[25:24]) -/
  gate  : Nat

/-- The kernel-owned fields of a row (R159, R191). Va and Vb stand in V as binary64 until the invocation ends. -/
structure KRow where
  soci : Nat
  qacc : Int
  capl : Nat
  rser : Nat
  rpol : Nat
  taup : Nat
  va   : DWord
  vb   : DWord
  sohc : Nat
  sohr : Nat
  lopen  : Bool
  lclean : Bool
  apend  : Bool
  /-- reserved bit 3 of LRNST -/
  lrn3 : Bool
  lcyc : Nat
  rqt  : Nat
  restt : Nat
  ilimc : Nat
  ilimd : Nat
  socb0 : Nat
  unanch   : Bool
  disagree : Bool
  curlost  : Bool
  derate   : Bool
  chinh    : Bool
  everanch : Bool
  qsat     : Bool
  balreq   : Bool
  balt : Nat
  lead : Bool
  msf  : Nat
  dcnt : Nat
  tsig : Int

/-- Slot word n of an invocation. -/
def kWord (k : Vector Word 16) (n : Nat) : Nat := ((k[n]?).getD 0#32).toNat

/-- The fields of the kernel-owned slots (R159, R191). -/
def loadRow (k : Vector Word 16) : KRow :=
  let w := kWord k
  let bit := fun (n b : Nat) => (w n).testBit b
  { soci := w 3, qacc := signed 64 (w 4 + 2 ^ 32 * w 5), capl := w 6, rser := w 7 % 65536, rpol := w 7 / 65536,
    taup := w 8 % 65536, va := kMul (kI (signed 16 (w 8 / 65536))) (kDec 1 5), sohc := w 9 % 65536, sohr := w 9 / 65536,
    lopen := bit 10 0, lclean := bit 10 1, apend := bit 10 2, lrn3 := bit 10 3, lcyc := w 10 / 16 % 16, rqt := w 10 / 256 % 65536,
    restt := w 11, ilimc := w 12 % 65536, ilimd := w 12 / 65536, vb := kMul (kI (signed 16 (w 14))) (kDec 1 5),
    socb0 := w 14 / 65536, unanch := bit 15 0, disagree := bit 15 1, curlost := bit 15 2, derate := bit 15 3,
    chinh := bit 15 4, everanch := bit 15 5, qsat := bit 15 6, balreq := bit 15 7, balt := w 15 / 256 % 128,
    lead := bit 15 15, msf := w 15 / 65536 % 1024, dcnt := w 15 / 2 ^ 26 % 4, tsig := signed 4 (w 15 / 2 ^ 28) }

/-- LRNST with its kernel bits (R191). -/
def KRow.lrnst (r : KRow) (gateBits : Nat) : Nat :=
  Bool.bit r.lopen + 2 * Bool.bit r.lclean + 4 * Bool.bit r.apend + 8 * Bool.bit r.lrn3 + 16 * r.lcyc + 256 * r.rqt + 2 ^ 24 * gateBits

/-- KSCR1 (R191). -/
def KRow.kscr1 (r : KRow) : Nat :=
  Bool.bit r.unanch + 2 * Bool.bit r.disagree + 4 * Bool.bit r.curlost + 8 * Bool.bit r.derate + 16 * Bool.bit r.chinh +
    32 * Bool.bit r.everanch + 64 * Bool.bit r.qsat + 128 * Bool.bit r.balreq + 256 * r.balt + 2 ^ 15 * Bool.bit r.lead +
    2 ^ 16 * r.msf + 2 ^ 26 * r.dcnt + 2 ^ 28 * unsigned 4 r.tsig

/-- Convert every kernel-owned slot (R187); the others stay as they were loaded. -/
def KRow.store (r : KRow) (k : Vector Word 16) : Vector Word 16 :=
  let w := BitVec.ofNat 32
  let q := unsigned 64 r.qacc
  let pol := fun (v : DWord) => unsigned 16 (satS 16 (kRna (kDiv v (kDec 1 5))))
  let k := (((k.setIfInBounds 3 (w r.soci)).setIfInBounds 4 (w (q % 2 ^ 32))).setIfInBounds 5 (w (q / 2 ^ 32))).setIfInBounds 6 (w r.capl)
  let k := ((k.setIfInBounds 7 (w (r.rser + 65536 * r.rpol))).setIfInBounds 8 (w (r.taup + 65536 * pol r.va))).setIfInBounds 9
    (w (r.sohc + 65536 * r.sohr))
  let k := ((k.setIfInBounds 10 (w (r.lrnst (kWord k 10 / 2 ^ 24)))).setIfInBounds 11 (w r.restt)).setIfInBounds 12
    (w (r.ilimc + 65536 * r.ilimd))
  (k.setIfInBounds 14 (w (pol r.vb + 65536 * r.socb0))).setIfInBounds 15 (w r.kscr1)

/-- Parameter i of T63 (R190). -/
def KEnv.par (e : KEnv) (i : Nat) : Int := e.lut 63 i
def KEnv.q (e : KEnv) (b : Nat) : Bool := e.qflag.testBit b

/-- The lookup of table t at a binary64 input, converted to s32. -/
def KEnv.tab (e : KEnv) (t : Nat) (x : DWord) : DWord := kI (e.lut t (satS 32 (kRna x)))
/-- A lookup at TCELL. -/
def KEnv.tabT (e : KEnv) (t : Nat) : DWord := kI (e.lut t e.tcell)

/-- The voltage is usable (R206). -/
def KEnv.usable (e : KEnv) : Bool :=
  e.q qFRESH && !e.q qOPENW && !e.q qOWSUS && !e.q qPULL && !e.q qCNV && !e.q qSUMERR && !e.q qREF && !e.q qMISS

/-- Interpolation in θ over five tables from `base` (R189): at −10, 0, 10, 25 and 45 °C. -/
def KEnv.overTemp (e : KEnv) (base : Nat) (x : DWord) : DWord :=
  let mix := fun (j : Nat) (t0 t1 : Int) =>
    let a := e.tab (base + j) x
    let b := e.tab (base + j + 1) x
    kAdd a (kDiv (kMul (kSub b a) (kSub (kDiv (kI e.tcell) (kI 64)) (kI t0))) (kI (t1 - t0)))
  if e.tcell < -640 then e.tab base x
  else if e.tcell < 0 then mix 0 (-10) 0
  else if e.tcell < 640 then mix 1 0 10
  else if e.tcell < 1600 then mix 2 10 25
  else if e.tcell ≤ 2880 then mix 3 25 45
  else e.tab (base + 4) x

/-- OCV(s, θ) in 100 µV, s in 2⁻¹⁶. -/
def KEnv.ocv (e : KEnv) (s : DWord) : DWord := e.overTemp 0 s
/-- SOC(u, θ) in 2⁻¹⁶, u in V. -/
def KEnv.soc (e : KEnv) (u : DWord) : DWord := e.overTemp 5 (kMul u (kI 10000))
/-- The slope σ of the OCV curve at s (R196), in 100 µV per 2⁻¹⁶. -/
def KEnv.slope (e : KEnv) (s : DWord) : DWord :=
  let at_ := fun (x : DWord) => e.ocv (kMax (kI 0) (kMin (kI 65535) x))
  kDiv (kSub (at_ (kAdd s (kI 655))) (at_ (kSub s (kI 655)))) (kI 1310)
/-- e^(−x), 0 for x at least 8 (R189). -/
def KEnv.expNeg (e : KEnv) (x : DWord) : DWord :=
  if kLt x (kI 8) then kDiv (e.tab 22 (kMul x k16)) k30 else kI 0

/-! ### The cell model (R193) -/

/-- I in A, and Δt in s. -/
def KEnv.amps (e : KEnv) : DWord := kMul (kI e.c2) (kDec 1 3)
def KEnv.dt (e : KEnv) : DWord := kMul (kI e.c4) (kDec 1 3)
/-- f = T21(TCELL) / 65,536. -/
def KEnv.fRes (e : KEnv) : DWord := kDiv (e.tabT 21) k16

def KRow.rs (e : KEnv) (r : KRow) : DWord := kMul (kMul (kI r.rser) e.fRes) (kDec 1 6)
def KRow.rp (e : KEnv) (r : KRow) : DWord := kMul (kMul (kI r.rpol) e.fRes) (kDec 1 6)
def KRow.ra (e : KEnv) (r : KRow) : DWord := kMul (kDiv (kI (e.par 24)) k16) (r.rp e)
def KRow.rb (e : KEnv) (r : KRow) : DWord := kSub (r.rp e) (r.ra e)
/-- τa; TAUP is never smaller than 1. -/
def KRow.tauA (r : KRow) : DWord := kMul (kDec 1 2) (kI (max 1 r.taup))
def KRow.tauB (r : KRow) : DWord := kMul (kI 16) r.tauA

/-- Va and Vb after Δt. -/
def KRow.branches (e : KEnv) (r : KRow) : KRow :=
  let ea := e.expNeg (kDiv e.dt r.tauA)
  let eb := e.expNeg (kDiv e.dt r.tauB)
  { r with
    va := kAdd (kMul r.va ea) (kMul (kMul (r.ra e) e.amps) (kSub (kI 1) ea))
    vb := kAdd (kMul r.vb eb) (kMul (kMul (r.rb e) e.amps) (kSub (kI 1) eb)) }

/-- s = SOCI / 2¹⁶. -/
def KRow.s (r : KRow) : DWord := kDiv (kI r.soci) k16
/-- VLAST in V. -/
def KEnv.volts (e : KEnv) : DWord := kMul (kI e.vlast) (kDec 1 4)

/-- The residual e. -/
def KRow.residual (e : KEnv) (r : KRow) : DWord :=
  kSub e.volts (kAdd (kAdd (kAdd (kMul (e.ocv r.s) (kDec 1 4)) (kMul e.amps (r.rs e))) r.va) r.vb)

/-- u := VLAST × 10⁻⁴ V − I × RS − Va − Vb (R196, R199). -/
def KRow.rested (e : KEnv) (r : KRow) : DWord := kSub (kSub (kSub e.volts (kMul e.amps (r.rs e))) r.va) r.vb

/-! ### Voltage estimate (R199) and the bound (R197) -/

/-- SOCV and U_v of a valid estimate. -/
def KRow.estimate (e : KEnv) (r : KRow) : Option (DWord × Int) :=
  if e.usable && e.cur && kLe (kI e.c2.natAbs) (kDiv (kI r.capl) (kI 5)) then
    let v := e.soc (r.rested e)
    let sg := e.slope v
    let u := kCeil (kDiv (kAdd (kI (e.par 10)) (kMul (kI 2000) (fAbs (kMul e.amps (r.rs e))))) sg)
    if kLt (kI 0) sg && decide (u ≤ 2 * e.par 11) then some (v, u) else none
  else none

/-- 235,929.6 × CAPL. -/
def KRow.capUnits (r : KRow) : DWord := kMul (kDec 2359296 1) (kI r.capl)

/-- SOCB of R197. (DEDUCED, log 52.) -/
def KRow.socb (e : KEnv) (r : KRow) : Nat :=
  let g := kCeil (kDiv (kMul (kI (e.par 12)) (kI r.qacc.natAbs)) r.capUnits)
  let o := kCeil (kDiv (kMul (kMul (kI (e.par 13)) (kI r.restt)) k16) (kMul (kI 3600) (kI r.capl)))
  let u := kCeil (kDiv (kMul (kI (e.par 15)) (kI (max 0 ((r.restt : Int) - e.par 14)))) (kI 3600))
  satU 16 (min 0x8000 (r.socb0 + g + o + u))

/-! ### The steps of the sweep path -/

/-- Initialisation (R192). -/
def KRow.initialise (e : KEnv) (r : KRow) : KRow :=
  let r : KRow := { r with
    capl := satU 32 (e.par 1), rser := satU 16 (e.par 2), rpol := satU 16 (e.par 3), taup := satU 16 (e.par 4)
    sohc := 0xFFFF, sohr := 0xFFFF, va := kI 0, vb := kI 0, qacc := 0, restt := 0, ilimc := 0, ilimd := 0
    lopen := false, lclean := false, apend := false, lrn3 := false, lcyc := 0, rqt := 0
    unanch := false, disagree := false, curlost := false, derate := false, chinh := false, everanch := false
    qsat := false, balreq := false, balt := 0, msf := 0, dcnt := 0, tsig := 0 }
  match r.estimate e with
  | some (v, u) => { r with soci := satU 32 (kRna (kMul v k16)), socb0 := satU 16 u }
  | none => { r with soci := 0x80000000, socb0 := 0x8000 }

/-- The closure of the interval that ends at the anchor (R209), then the re-base (R196), whose bound saturates at its field
where the slope is 0 and is 0 where it is negative (R187). (DEDUCED, log 52.) -/
def KRow.close (e : KEnv) (r : KRow) : KRow :=
  let q := kI r.qacc
  let sa := r.socb0
  let s1 := kSub (kDiv (kI r.soci) k32) (kDiv q r.capUnits)
  let ds := kSub (kDiv (kI sa) k16) s1
  let cm := kDiv q (kMul (kDec 2359296 1) ds)
  let ok := r.lopen && r.lclean && e.gate == 1 && kLe (kDiv (kI (e.par 20)) k16) (fAbs ds) && kLt (kI 0) (kMul q ds) &&
    kLe (kMul (kDec 5 1) (kI r.capl)) cm && kLe cm (kMul (kDec 12 1) (kI r.capl))
  let r : KRow := if ok then
      let c := satU 32 (r.capl + kRna (kMul (kDiv (kI (e.par 21)) k16) (kSub cm (kI r.capl))))
      { r with
        capl := c
        sohc := satU 16 (kFloor (kDiv (kMul k16 (kI c)) (kI (e.par 1))))
        lcyc := min 15 (r.lcyc + 1) }
    else r
  let sg := e.slope (kI sa)
  { r with
    soci := sa * 65536, qacc := 0
    socb0 := satU 16 (kCeil (kDiv (kI (e.par 10)) sg))
    apend := false, lopen := true, lclean := e.gate == 1 }

/-- Charge counting (R194). -/
def KRow.count (e : KEnv) (r : KRow) : KRow :=
  let dq := kRna (kDiv (kMul (kMul (kI e.c2) (kI e.c4)) k16) (kI 1000000))
  let q := r.qacc + dq
  let q' := satS 64 q
  let ds := kRna (kDiv (kMul (kI dq) k16) (kMul (kDec 36 1) (kI r.capl)))
  let s := (r.soci : Int) + ds
  let s' := satU 32 s
  { r with
    qacc := q', qsat := r.qsat || decide (q' ≠ q), soci := s'
    lclean := r.lclean && decide (q' = q) && decide ((s' : Int) = s) }

/-- String current missing (R197, R206). -/
def KRow.lost (e : KEnv) (r : KRow) : KRow :=
  let x := kCeil (kDiv (kMul (kMul (kI (max r.ilimc r.ilimd)) (kI e.c4)) k16) (kMul (kI 36000) (kI r.capl)))
  { r with curlost := true, lclean := false, socb0 := satU 16 (min 0x8000 (r.socb0 + x)) }

/-- The row is resting (R195). -/
def KRow.resting (e : KEnv) (r : KRow) : Bool :=
  e.cur && e.usable && kLt (kI e.c2.natAbs) (kDiv (kMul (kI (e.par 19)) (kI r.capl)) k16)

/-- An anchor event, from the RQT before and after this invocation (R195). -/
def KRow.anchorDue (e : KEnv) (r : KRow) (before : Nat) : Bool :=
  let t := e.lut 20 e.tcell
  r.resting e && decide (t ≤ r.rqt) &&
    (decide ((before : Int) < t) || decide (((before : Int) - t) / 60 < ((r.rqt : Int) - t) / 60))

/-- A strong anchor: s_a and b_a (R196). -/
def KRow.strong (e : KEnv) (r : KRow) : Option (Nat × Nat) :=
  let sa := satU 16 (kRna (e.soc (r.rested e)))
  let sg := e.slope (kI sa)
  let b := kCeil (kDiv (kI (e.par 10)) sg)
  if kLt (kI 0) sg && decide (b ≤ e.par 11) then some (sa, satU 16 b) else none

/-- Disagreement of charge and voltage (R200); `true` when the spoil entry is emitted. -/
def KRow.disagreement (e : KEnv) (r : KRow) (est : Option (DWord × Int)) : KRow × Bool :=
  match est with
  | none => (r, false)
  | some (v, u) =>
    let gap := fAbs (kSub r.s v)
    let b := r.socb e
    let dis := kLt (kI (b + u + e.par 18)) gap
    let r : KRow := { r with dcnt := if dis then min 3 (r.dcnt + 1) else 0 }
    let new := r.dcnt == 3 && !r.disagree
    let r : KRow := if new then { r with disagree := true, lclean := false } else r
    let r : KRow := if r.disagree then
        let x := kRna (kMax (kI 0) (kSub (kAdd gap (kI u)) (kI b)))
        { r with socb0 := satU 16 (max r.socb0 (min 0x8000 (r.socb0 + x))) }
      else r
    (r, new)

/-- Impedance tracking (R203) with the residual `res`. (DEDUCED, log 52.) -/
def KRow.adapt (e : KEnv) (r : KRow) (res : DWord) : KRow :=
  let hold := fun (x : DWord) (nom : Int) => satU 16 (kRna (kMin (kMax x (kDiv (kI nom) (kI 2))) (kI (4 * nom))))
  let load := kLe (kDiv (kI r.capl) (kI 10)) (kI e.c2.natAbs)
  let vab := kAdd r.va r.vb
  let rest := r.resting e
  let pol := rest && kLe (kDec 5 3) (fAbs vab)
  let sig := rest && kLe (kDec 2 3) (fAbs vab)
  let r : KRow := if load then
      { r with rser := hold (kAdd (kI r.rser) (kMul (kDiv (kMul (kDiv (kI (e.par 25)) k16) res) (kMul e.amps e.fRes)) (kI 1000000))) (e.par 2) }
    else r
  let r : KRow := if pol then
      { r with rpol := hold (kAdd (kI r.rpol) (kDiv (kMul (kMul (kDiv (kI (e.par 26)) k16) res) (kI r.rpol)) vab)) (e.par 3) }
    else r
  let pr := kMul res vab
  let r : KRow := if sig then
      { r with tsig := satS 4 (r.tsig - (if kLt (kI 0) pr then 1 else if kLt pr (kI 0) then -1 else 0)) }
    else r
  if load || pol || sig then
    { r with sohr := satU 16 (kFloor (kDiv (kMul k16 (kI (e.par 2))) (kI r.rser))) }
  else r

/-- The floor applies (R202, R178). -/
def KEnv.floored (e : KEnv) : Bool :=
  e.q qFRESH && !e.q qOPENW && !e.q qCNV && decide ((e.vlast : Int) ≤ e.par 9)

/-- Current limits (R204, R205) with the final SOCB. -/
def KRow.limits (e : KEnv) (r : KRow) (b : Nat) : KRow :=
  let sc := kMin (kI 65535) (kAdd r.s (kI b))
  let sd := kMax (kI 0) (kSub r.s (kI b))
  let t16 := e.tabT 16
  let ict := kDiv (kMul (kMul (kI (e.par 5)) t16) (e.tab 18 sc)) k32
  let idt := kDiv (kMul (kMul (kI (e.par 6)) (e.tabT 17)) (e.tab 19 sd)) k32
  let h := kI (e.par 22)
  let ea := e.expNeg (kDiv h r.tauA)
  let eb := e.expNeg (kDiv h r.tauB)
  let reff := kAdd (kAdd (r.rs e) (kMul (r.ra e) (kSub (kI 1) ea))) (kMul (r.rb e) (kSub (kI 1) eb))
  let icv := kDiv (kMul (kI 10) (kSub (kSub (kSub (kMul (kI (e.par 7)) (kDec 1 4)) (kMul (e.ocv sc) (kDec 1 4)))
    (kMul r.va ea)) (kMul r.vb eb))) reff
  let idv := kDiv (kMul (kI 10) (kSub (kAdd (kAdd (kMul (e.ocv sd) (kDec 1 4)) (kMul r.va ea)) (kMul r.vb eb))
    (kMul (kI (e.par 8)) (kDec 1 4)))) reff
  let k := if (b : Int) ≤ e.par 16 then kI 1
    else kMax (kDec 5 1) (kSub (kI 1) (kDiv (kMul (kDec 5 1) (kI (b - e.par 16))) (kI (e.par 17 - e.par 16))))
  let lim := fun (t v : DWord) => satU 16 (kFloor (kMul k (kMax (kI 0) (kMin t v))))
  let cold := decide (e.tcell < e.par 23) || e.lut 16 e.tcell == 0
  let none_ := e.q qOPENW || e.q qABSENT
  { r with
    ilimc := if cold || none_ then 0 else lim ict icv
    ilimd := if none_ then 0 else lim idt idv
    chinh := cold }

/-- UNANCH and DERATE (R198). -/
def KRow.flags (e : KEnv) (r : KRow) (b : Nat) : KRow :=
  { r with unanch := r.unanch || decide (e.par 14 < (r.restt : Int)), derate := decide (e.par 16 < (b : Int)) }

/-- LCLEAN under R208. -/
def KRow.gateClean (e : KEnv) (r : KRow) : KRow := { r with lclean := r.lclean && e.gate == 1 }

/-- Queue entries of kinds SOC and LRN (R176). -/
def qSoc (c b : Nat) : QEntry := ⟨0, BitVec.ofNat 32 (c + 65536 * b)⟩
def qLrn (c : Nat) : QEntry := ⟨1, BitVec.ofNat 32 c⟩

/-- Candidate of R201. -/
def KRow.candidate (e : KEnv) (r : KRow) (floored : Bool) (anchor : Option Nat) (est : Option (DWord × Int)) : Nat :=
  if floored then 0
  else match anchor with
    | some sa => sa
    | none =>
      satU 16 (kRna (if r.disagree then
          (match est with | some (v, _) => kMin r.s v | none => kMin r.s (kI e.socp))
        else r.s))

/-- Whole seconds that c4 carries out of MSF, and the timers MSF and RESTT after them (R195). -/
def KRow.seconds (e : KEnv) (r : KRow) : Nat := (r.msf + e.c4) / 1000
def KRow.timed (e : KEnv) (r : KRow) : KRow := { r with msf := (r.msf + e.c4) % 1000, restt := satU 32 (r.restt + r.seconds e) }

/-- RQT after `sec` seconds (R195); c4 = 0 leaves it (R206). -/
def KRow.rests (e : KEnv) (r : KRow) (sec : Nat) : KRow :=
  if e.c4 = 0 then r else { r with rqt := if r.resting e then satU 16 (r.rqt + sec) else 0 }

/-- A row with ABSENT (R206): charge count, branch voltages and impedance are held, no anchor is taken and the limits are 0; the
timers advance (R195), a re-base that is due takes place (R196, R209), and a missing current raises the bound (R197).
(DEDUCED, log 52.) -/
def KRow.absent (e : KEnv) (r : KRow) : KRow × List QEntry :=
  let sec := r.seconds e
  let r := r.timed e
  let r := if r.apend then r.close e else r
  let r : KRow := if e.cur then { r with curlost := false } else r.lost e
  let r := r.rests e sec
  let b := r.socb e
  let r := ((r.flags e b).limits e b).gateClean e
  (r, [qSoc (r.candidate e false none none) b])

/-- The sweep path after initialisation, in the order of R210. (DEDUCED, log 52.) -/
def KRow.sweep (e : KEnv) (r : KRow) : KRow × List QEntry :=
  let sec := r.seconds e
  let r := r.timed e
  let r := if r.apend then r.close e else r
  let r : KRow := if e.cur then
      let r : KRow := { r with curlost := false }
      if 0 < e.c4 then (r.count e).branches e else r
    else r.lost e
  let res := if e.cur then r.residual e else kI 0
  let before := r.rqt
  let r := r.rests e sec
  let anchor := if r.anchorDue e before then r.strong e else none
  let r : KRow := match anchor with
    | some (sa, _) =>
      { r with socb0 := sa, apend := true, restt := 0, dcnt := 0, everanch := true, unanch := false, disagree := false }
    | none => r
  let est := if anchor.isSome then none else r.estimate e
  let x := r.disagreement e est
  let r := x.1
  let r := if anchor.isNone && e.usable && e.cur && !r.disagree && !r.unanch then r.adapt e res else r
  let floored := e.floored
  let r : KRow := if floored then { r with soci := 0, lclean := false } else r
  let b := match anchor with | some (_, ba) => ba | none => r.socb e
  let r := ((r.flags e b).limits e b).gateClean e
  let lead := if anchor.isSome && r.lead then [qLrn 2, qLrn 1] else []
  (r, (if x.2 then [qLrn 3] else []) ++ lead ++ [qSoc (r.candidate e floored (anchor.map (·.1)) est) b])

/-! ### The maintenance path (R211, R212) -/

/-- (DEDUCED, log 52.) -/
def KRow.maintain (e : KEnv) (r : KRow) : KRow :=
  let step := (r.taup + 31) / 32
  let t : Int := if 4 ≤ r.tsig then r.taup - step else if r.tsig ≤ -4 then r.taup + step else r.taup
  let n := e.par 4
  let lo := (n + 3) / 4
  let delta := (e.socp : Int) - e.lut 62 e.strix
  let asks := decide (e.par 28 ≤ delta) && decide (e.par 29 ≤ (e.vlast : Int)) && decide (e.tcell ≤ e.par 30) &&
    e.q qFRESH && !e.q qOWSUS && !e.q qOPENW && !e.q qNEW && !e.q qABSENT && !e.q qBSWF
  let ib := kDiv (kMul (kI 100) (kI e.vlast)) (kI (e.par 27))
  let duty := kSub (kI 1) (kDiv (kDec 14 1) (kI e.c3))
  let bt := kFloor (kDiv (kMul (kMul (kI delta) (kI r.capl)) (kI 3600)) (kMul (kMul k16 ib) duty))
  let balt := if asks then (clampI 0 127 bt).toNat else 0
  { r with
    taup := satU 16 (min (min 65535 (4 * n)) (max lo t)), tsig := 0
    balt := balt, balreq := decide (1 ≤ balt) }

/-! ### One invocation -/

/-- The inputs of an invocation with row words k and context c (R165, R189). -/
def kEnv (lut : Nat → Int → Int) (k : Vector Word 16) (c2 : Word) (c3 c4 : Nat) : KEnv :=
  let w := kWord k
  { lut := lut, cur := c2 != 0x80000000#32, c2 := if c2 = 0x80000000#32 then 0 else c2.toInt, c3 := c3, c4 := c4
    vlast := w 0 % 65536, qflag := w 0 / 65536, tcell := signed 16 (w 1), strix := w 1 / 65536, socp := w 2 % 65536
    gate := w 10 / 2 ^ 24 % 4 }

/-- The reference kernel (R185 to R212): the slots at END and the publish queue. (DEDUCED, log 52 and 53.) -/
def refKernel (lut : Nat → Int → Int) (k : Vector Word 16) (c2 : Word) (c3 c4 c5 : Nat) : Vector Word 16 × List QEntry :=
  let e := kEnv lut k c2 c3 c4
  if e.par 0 ≠ 0x100 then
    if c5 = 0 then (k.setIfInBounds 12 0#32, [qSoc 0 0x8000]) else (k, [])
  else if c5 ≠ 0 then (((loadRow k).maintain e).store k, [])
  else
    let r := loadRow k
    let r := if r.capl = 0 ∨ (e.q qNEW ∧ !e.q qABSENT) then r.initialise e else r
    let x := if e.q qABSENT then r.absent e else r.sweep e
    (x.1.store k, x.2)

end Sys2Proof.Machine
end

