-- ==== Sys2Proof/Machine/Publish.lean ====
section
/-! DEFINITION. PUB: SOCP and SOCB of a retiring row, the learning gate, the published limits, and what the publish unit does
at an acquisition close (R176 to R184). -/

namespace Sys2Proof.Machine

/-! ### Rows and strings -/

/-- QFLAG, STRIX and TCELL of a row. -/
def Device.rowQ (d : Device) (r k : Nat) : Bool := (d.slotHi r 0).testBit k
def Device.strix (d : Device) (r : Nat) : Nat := d.slotHi r 1
def Device.rowTemp (d : Device) (r : Nat) : Int := signed 16 (d.slotLo r 1)

/-- A row is inert (R162). -/
def Device.inert (d : Device) (r : Nat) : Bool := d.rowQ r qMASKED || d.strix r == 0xFFFF

/-- Half of a row: H = 24 × ⌈SCR_ROWS / 48⌉ (R169). -/
def Device.halfAt (d : Device) : Nat := 24 * ((d.get SCR_ROWS_ROWS + 47) / 48)
def Device.halfOf (d : Device) (r : Nat) : Nat := if r < d.halfAt then 0 else 1

/-- Status byte of the summary of node i for epoch e: bits 7 and 6 name a missing and a late record (R32, R130, R131). -/
def Device.summaryStatus (d : Device) (e i : Nat) : Nat := d.mread (summaryAt e i + 5) 1

/-- String current of string s in epoch e in mA, unless the HEAD record is missing or late (R165, R177). (DEDUCED, log 56.) -/
def Device.stringCurrent (d : Device) (e s : Nat) : Option Int :=
  if s < 512 ∧ d.on (PUB_STR_VALID s) then
    let h := d.get (PUB_STR_HEAD s)
    if 64 ≤ d.summaryStatus e h then none else some (signed 24 (d.mread (summaryAt e h + 2) 3))
  else none

/-- Rows of string s within the rows swept. -/
def Device.stringRows (d : Device) (s : Nat) : List Nat :=
  (List.range (min (d.get SCR_ROWS_ROWS) d.rowLimit)).filter fun r => d.strix r == s && !d.inert r

/-! ### Learning gate (R183, R184) -/

/-- TCELL of a FRESH row lies outside the gate temperatures. -/
def Device.rowTempBad (d : Device) (r : Nat) : Bool :=
  d.rowQ r qFRESH && (decide (d.rowTemp r < d.gets PUB_LGT_TLO) || decide (d.gets PUB_LGT_THI < d.rowTemp r))

/-- |string current| is above RATE × CAP, in 0.01 C of 0.1 Ah, which is 1 mA; every epoch while CAP = 0. -/
def Device.rateBad (d : Device) (e s : Nat) : Bool :=
  d.get PUB_LGR_CAP == 0 ||
    (match d.stringCurrent e s with
     | some i => decide (d.get PUB_LGR_RATE * d.get PUB_LGR_CAP < i.natAbs)
     | none => false)

/-- A node of string s was missing or late in 4 consecutive epochs. (DEDUCED, log 56.) -/
def Device.intrBad (d : Device) (s : Nat) : Bool := d.acq.lost.any fun x => decide (4 ≤ x.2) && d.strix (24 * x.1) == s

/-- The port end that carries the HEAD of string s has lost its link. -/
def Device.headLost (d : Device) (s : Nat) : Bool :=
  match d.nodePlace (d.get (PUB_STR_HEAD s)) with
  | some x => !d.on (FLK_PSTAT_LINK (d.reachEnd x.1 x.2))
  | none => false

/-- Reason bits of the disqualifiers that hold for string s in epoch e. -/
def Device.disqualifiers (d : Device) (e s : Nat) : Nat :=
  let rows := d.stringRows s
  Bool.bit (rows.any d.rowTempBad) + 2 * Bool.bit (d.rateBad e s) + 4 * Bool.bit (d.intrBad s || d.headLost s) +
    8 * Bool.bit (rows.any fun r => d.rowQ r qNEW)

/-- One LRN entry for string s in epoch e (R183). (DEDUCED, log 56.) -/
def Device.lrnEntry (d : Device) (e s v : Nat) : Device :=
  match v % 4 with
  | 1 =>
    if d.get (PUB_LGS_STATE s) = 1 then d
    else
      let why := d.disqualifiers e s
      if why = 0 then d.put (PUB_LGS_STATE s) 1
      else ((d.put (PUB_LGS_STATE s) 2).put (PUB_LGS_REASON s) why).up PUB_EVT_SPOIL
  | 2 =>
    match d.get (PUB_LGS_STATE s) with
    | 1 => (d.put (PUB_LGS_STATE s) 0).put (PUB_LGS_RES s) 1
    | 2 => (d.put (PUB_LGS_STATE s) 0).put (PUB_LGS_RES s) 0
    | _ => d
  | 3 => d.spoil s 4
  | _ => d

/-- The gate writes its state to LRNST[31:24] of a retiring row. -/
def Device.gateToRow (d : Device) (r s : Nat) : Device :=
  let g := d.get (PUB_LGS_STATE s) + 4 * d.get (PUB_LGS_RES s) + 8 * d.get (PUB_LGS_REASON s)
  d.setSlot r 10 (d.slot r 10 % 2 ^ 24 + 2 ^ 24 * g)

/-! ### SOCP and SOCB (R178) -/

/-- The row's glide fraction, and its initialised bit. (DEDUCED, log 58.) -/
def Device.glide (d : Device) (r : Nat) : Nat := mapGetD r 0 d.pub.glide
def Device.rowInit (d : Device) (r : Nat) : Bool := mapGetD r false d.pub.init

/-- (DEDUCED, log 58.) -/
def Device.setGlide (d : Device) (r g : Nat) (init : Bool) : Device :=
  { d with pub := { d.pub with
    glide := if g = 0 then mapDrop r d.pub.glide else mapSet r g d.pub.glide
    init := if init then mapSet r true d.pub.init else mapDrop r d.pub.init } }

/-- The row sees discharge: its string's last discharge epoch is no older than e − k (R177). (DEDUCED, log 56.) -/
def Device.seesDischarge (d : Device) (r e k : Nat) : Bool :=
  match mapGet (d.strix r) d.pub.lde with
  | some l => decide (e ≤ l + k)
  | none => false

/-- The upward or downward glide from `a` toward candidate `c` × 2¹⁶ (R178). (DEDUCED, log 58.) -/
def glideStep (c socp a up dn : Nat) (dis : Bool) : Nat :=
  if socp < c ∧ !dis then min (a + up) (c * 65536)
  else if c < socp then max (a - dn) (c * 65536)
  else a

/-- SOCP and SOCB of a non-inert row whose invocation carried the SOC entry `v`, in epoch e with DT = dt (R178). -/
def Device.socEntry (d : Device) (r v e k dt : Nat) : Device :=
  let c := v % 65536
  let socp := d.slotLo r 2
  let dis := d.seesDischarge r e k
  let d' := d.setSlotHi r 2 (v / 65536)
  if d.rowQ r qFRESH && !d.rowQ r qOPENW && !d.rowQ r qCNV && decide (d.slotLo r 0 ≤ d.get PUB_UVF_UVF) then
    (d'.setSlotLo r 2 0).setGlide r 0 (d.rowInit r)
  else if !d.rowInit r || d.rowQ r qNEW then
    (d'.setSlotLo r 2 (if dis && d.rowInit r then min c socp else c)).setGlide r 0 true
  else
    let a := glideStep c socp (socp * 65536 + d.glide r) (d.get PUB_GLIDE_UP * dt) (d.get PUB_GLIDE_DN * dt) dis
    (d'.setSlotLo r 2 (a / 65536)).setGlide r (a % 65536) true

/-! ### Candidates (R180) -/

/-- A row's limits enter the candidates of its string and half; an ABSENT row counts as 0. -/
def Device.addCandidate (d : Device) (r : Nat) : Device :=
  let key := 2 * d.strix r + d.halfOf r
  let c := if d.rowQ r qABSENT then 0 else d.slotLo r 12
  let x := if d.rowQ r qABSENT then 0 else d.slotHi r 12
  let new := match mapGet key d.pub.cand with | some (a, b) => (min a c, min b x) | none => (c, x)
  { d with pub := { d.pub with cand := mapSet key new d.pub.cand } }

/-- Drop the candidates of the halves that a sweep covers. -/
def Device.clearCandidates (d : Device) (half0 half1 : Bool) : Device :=
  { d with pub := { d.pub with cand := d.pub.cand.filter fun x => !(if x.1 % 2 = 0 then half0 else half1) } }

/-- C(s) in both directions. (DEDUCED, log 57.) -/
def Device.candidate (d : Device) (s : Nat) : Nat × Nat :=
  match mapGet (2 * s) d.pub.cand, mapGet (2 * s + 1) d.pub.cand with
  | some a, some b => (min a.1 b.1, min a.2 b.2)
  | some a, none => a
  | none, some b => b
  | none, none => (0, 0)

/-! ### Published limits (R180 to R182) -/

/-- One limit: it falls to its candidate at once and rises by at most `rate` a second over `ms` milliseconds, with the
fraction in thousandths carried. (DEDUCED, log 56 and 57.) -/
def slewLimit (c l frac rate ms : Nat) : Nat × Nat :=
  if c < l then (c, 0)
  else
    let acc := frac + rate * ms
    if c ≤ l + acc / 1000 then (c, 0) else (l + acc / 1000, acc % 1000)

/-- Commit the limits of string s. (DEDUCED, log 57.) -/
def Device.commitString (d : Device) (ms s : Nat) : Device :=
  let f := mapGetD s (0, 0) d.pub.frac
  let put := fun (d : Device) (a b : Nat × Nat) =>
    { (d.put (PUB_SLIM_ILIMC s) a.1).put (PUB_SLIM_ILIMD s) b.1 with pub := { d.pub with
        frac := if a.2 = 0 ∧ b.2 = 0 then mapDrop s d.pub.frac else mapSet s (a.2, b.2) d.pub.frac } }
  if d.penHeld s then put d (0, 0) (0, 0)
  else
    let c := d.candidate s
    let rate := d.get PUB_SLEW_SSLEW
    put d (slewLimit c.1 (d.get (PUB_SLIM_ILIMC s)) f.1 rate ms) (slewLimit c.2 (d.get (PUB_SLIM_ILIMD s)) f.2 rate ms)

/-- Commit the limits of bank b (R181), in 0.1 A: caps and BSLEW are in 1 A. (DEDUCED, log 57.) -/
def Device.commitBank (d : Device) (ms b : Nat) : Device :=
  let ss := (List.range 512).filter fun s => d.on (PUB_STR_VALID s) && d.get (PUB_STR_BANK s) == b && !d.penHeld s
  let closed := d.bankSt b == .closed
  let cand := fun (cap : Nat) (f : Nat → Fld) => if closed then min (10 * cap) (ss.map fun s => d.get (f s)).sum else 0
  let fr := mapGetD (512 + b) (0, 0) d.pub.frac
  let rate := 10 * d.get PUB_SLEW_BSLEW
  let c := slewLimit (cand (d.get (PUB_BCAP_CHG b)) PUB_SLIM_ILIMC) (d.get (PUB_BLIMC_LIM b)) fr.1 rate ms
  let x := slewLimit (cand (d.get (PUB_BCAP_DIS b)) PUB_SLIM_ILIMD) (d.get (PUB_BLIMD_LIM b)) fr.2 rate ms
  { (d.put (PUB_BLIMC_LIM b) c.1).put (PUB_BLIMD_LIM b) x.1 with pub := { d.pub with
      frac := if c.2 = 0 ∧ x.2 = 0 then mapDrop (512 + b) d.pub.frac else mapSet (512 + b) (c.2, x.2) d.pub.frac } }

/-- Every limit of strings and banks is 0 (R182). -/
def Device.zeroLimits (d : Device) : Device :=
  let d := (List.range 512).foldl (fun (d : Device) s => (d.put (PUB_SLIM_ILIMC s) 0).put (PUB_SLIM_ILIMD s) 0) d
  let d := (List.range 4).foldl (fun (d : Device) b => (d.put (PUB_BLIMC_LIM b) 0).put (PUB_BLIMD_LIM b) 0) d
  { d with pub := { d.pub with frac := [] } }

/-- Acquisition clears NEW that stood when the sweep started (R145). -/
def Device.clearNew (d : Device) : Device := d.pub.news.foldl (fun (d : Device) i => d.rowOp (.flag i qNEW false)) d

/-- The publish instant of epoch e at epoch time `ms` (R19, R180, R181, R145). -/
def Device.publish (d : Device) (e ms : Nat) : Device :=
  let dt := match d.pub.lastMs with | some m => ms - m | none => 0
  let d : Device := (List.range 512).foldl (fun (d : Device) s => d.commitString dt s) d
  let d : Device := (List.range 4).foldl (fun (d : Device) b => d.commitBank dt b) d
  let d : Device := { d.put PUB_CEP_EPOCH e with pub := { d.pub with commit := none, lastMs := some ms } }
  let d := d.clearNew
  (({ d with pub := { d.pub with news := [] } } : Device).pulse 160).pulse 161

/-! ### At an acquisition close -/

/-- LDE of every string in use for epoch e (R177), and the gate's disqualifiers of the close (R184). -/
def Device.closeStrings (d : Device) (e : Nat) : Device :=
  (List.range 512).foldl (fun (d : Device) s =>
    if d.on (PUB_STR_VALID s) then
      let low := match d.stringCurrent e s with | some i => decide (i < -(100 * d.get PUB_DBAND_DB : Nat)) | none => true
      let d : Device := if low then { d with pub := { d.pub with lde := mapSet s e d.pub.lde } } else d
      let d := d.when_ (d.rateBad e s) fun d => d.spoil s 1
      d.when_ (d.intrBad s) fun d => d.spoil s 2
    else d) d

/-! ### Meanings -/

/-- STALE_TIMEOUT (R182): no publish instant for PUB_STALE ms of epoch time. -/
def execStaleTimeout (s : State) : Host.Outcome State Fault Refusal :=
  onCtl s fun d => d.zeroLimits.up PUB_EVT_STALE

/-- PUB_INIT_DONE (R179): every row has SOCP = 0x0000 and SOCB = 0xFFFF, which is what an unlisted byte of slot k2 reads as. -/
def execPubInitDone (s : State) : Host.Outcome State Fault Refusal :=
  onCtl s fun d =>
    if d.pub.initd then d
    else
      let mem := d.mem.filter fun x => !(decide (0x40000000 ≤ x.1) && decide (x.1 < 0x40C00000) && x.1 % 64 / 4 == 2)
      { d.up PUB_EVT_INITD with mem := mem, pub := { d.pub with initd := true } }

/-- PUBLISH_INSTANT (R19, R180, R181). -/
def execPublishInstant (s : State) : Host.Outcome State Fault Refusal :=
  onCtl s fun d => match d.pub.commit with | some (e, ms) => d.publish e ms | none => d

end Sys2Proof.Machine
end

