-- ==== Sys2Proof/Machine/Scorer.lean ====
section
/-! DEFINITION. SCR: sweeps, lanes and invocations, background jobs, lane fencing, the sweep rate and the lookup tables (R159 to
R175). Kernel loads stand with the images. -/

namespace Sys2Proof.Machine

/-! ### Lookup tables (R172, R173) -/

/-- Point i of table t. -/
def Device.lutPoint (d : Device) (t i : Nat) : Int := (mapGetD (1024 * t + i) 0#32 d.scr.luts).toInt

/-- The lookup of table t at x. -/
def Device.lut (d : Device) (t : Nat) (x : Int) : Int :=
  lookup (d.lutPoint t) (d.gets (SCR_LUTX_X0 t)) (d.get (SCR_LUTS_SHIFT t)) x

/-! ### Lanes -/

def Device.lane (d : Device) (l : Nat) : Lane := mapGetD l Lane.idle d.scr.lanes
def Device.setLane (d : Device) (l : Nat) (f : Lane → Lane) : Device :=
  { d with scr := { d.scr with lanes := mapSet l (f (d.lane l)) d.scr.lanes } }

/-- The kernel slot that the lanes run, and whether they run a job. -/
def Device.runningSlot (d : Device) : Option (Nat × Bool) :=
  match d.scr.sweep with
  | some w => some (w.slot, false)
  | none => match d.scr.job with
    | some j => if j.placed then some (j.slot, true) else none
    | none => none

/-- Epoch whose data an invocation names: the one being swept, or the last closed one for a job (R165). -/
def Device.invocationEpoch (d : Device) : Nat :=
  match d.scr.sweep with
  | some w => w.epoch
  | none => d.get ACQ_LASTEP_EPOCH

/-- The word of slot n of row r. -/
def Device.rowWord (d : Device) (r n : Nat) : Word := BitVec.ofNat 32 (d.slot r n)

/-- Context of an invocation of row r (R165). `dt` is c4. (DESIGN CHOICE, log 15.) -/
def Device.context (d : Device) (r dt : Nat) : Vector DWord 6 :=
  let e := d.invocationEpoch
  let cur := if d.inert r then none else d.stringCurrent e (d.strix r)
  let c2 : Nat := match cur with | some i => unsigned 32 i | none => 0x80000000
  let per : Nat := match d.scr.sweep with | some w => w.per | none => d.acq.lastPer
  let job : Nat := match d.scr.sweep with
    | some _ => 0
    | none => match d.scr.job with | some j => j.slot + 1 | none => 0
  (Vector.replicate 6 0#64).mapFinIdx fun n _ _ =>
    BitVec.ofNat 64 (match n with | 0 => r | 1 => e | 2 => c2 | 3 => per | 4 => dt | _ => job)

/-- Lane l begins the invocation of row r, at position `idx` of the range (R160, R289). -/
def Device.beginRow (d : Device) (l r idx : Nat) : Device :=
  let x := d.fresh
  let dt := match d.scr.sweep with
    | some w => if d.halfOf r = 0 then w.dt0 else w.dt1
    | none => (Config.jobDt x.1).toNat
  let d := if d.scr.sweep.isSome then d else x.2
  let k := Vector.ofFn fun (n : Fin 16) => d.rowWord r n.val
  d.setLane l fun _ => { Lane.idle with row := some r, idx := idx, k := k, c := d.context r dt }

/-- Give out rows lo + start, lo + start + 1, … below hi to lanes in service (R163). (DESIGN CHOICE, log 2; DEDUCED, log 54.) -/
def Device.giveRows (d : Device) (lanes : List Nat) (lo start hi : Nat) : Device :=
  lanes.zipIdx.foldl (fun (d : Device) x =>
    if lo + start + x.2 < hi then d.beginRow x.1 (lo + start + x.2) (start + x.2) else d.setLane x.1 fun _ => Lane.idle) d

/-- No lane has work. -/
def Device.clearLanes (d : Device) : Device := { d with scr := { d.scr with lanes := [] } }

/-! ### State of the scorer -/

/-- SCR_ST.STATE as the scorer's work says (R173, R175). -/
def Device.scrState (d : Device) : Device :=
  let live := d.on SCR_CTL_RUN && !d.on SCR_ST_FENCED
  d.put SCR_ST_STATE (if d.scr.sweep.isSome then 2 else if !live then 0 else
    match d.scr.job with | some j => if j.placed then 3 else 1 | none => 1)

def Device.scrStopped (d : Device) : Bool := d.get SCR_ST_STATE == 0

/-- With every group fenced, the scorer stops once no sweep and no job runs (R175). (DEDUCED, log 54.) -/
def Device.stopIfFenced (d : Device) : Device :=
  let placed := match d.scr.job with | some j => j.placed | none => false
  if d.lanesInService.isEmpty && d.scr.sweep.isNone && !placed && !d.on SCR_ST_FENCED then
    ((((d.put SCR_ST_FENCED 1).put SCR_ST_LANES 0).up SCR_EVT_STOP).clearLanes).scrState
  else d

/-- Fence the lane groups of a mask (R175). -/
def Device.fenceLanes (d : Device) (mask : Nat) : Device :=
  let old := d.get SCR_FENCE_FENCE
  if mask ||| old = old then d
  else ((d.put SCR_FENCE_FENCE (mask ||| old)).up SCR_EVT_FENCE).stopIfFenced

/-! ### Jobs (R174) -/

/-- Rows of the job retired from its first row on. -/
def jobPrefix (done : List Nat) : Nat → Nat → Nat
  | 0, n => n
  | fuel + 1, n => if done.contains n then jobPrefix done fuel (n + 1) else n

/-- First position of the job that has not retired. -/
def Job.next (j : Job) : Nat := min j.count (jobPrefix j.done j.done.length 0)

/-- Abort the job's invocations in flight; it resumes later from its first row that has not retired. -/
def Device.suspendJob (d : Device) : Device :=
  match d.scr.job with
  | none => d
  | some j =>
    let n := j.next
    let d : Device := { d with scr := { d.scr with job := some { j with placed := false, done := List.range n } } }
    (d.put SCR_JST_NEXT (j.first + n)).clearLanes

/-- Place the waiting job on the lanes in service; budget state B4 holds it back (R330). (DEDUCED, log 55.) -/
def Device.placeJob (d : Device) : Device :=
  match d.scr.job with
  | none => d
  | some j =>
    if j.placed || d.scr.sweep.isSome || d.lanesInService.isEmpty || !d.on SCR_CTL_RUN || d.get THM_ST_STATE == 4 then d
    else
      let ls := d.lanesInService
      let d : Device := { d.put SCR_ST_LANES ls.length with scr := { d.scr with job := some { j with placed := true } } }
      let d := d.giveRows ls j.first j.next (j.first + j.count)
      (d.put SCR_JST_NEXT (min (j.first + j.count) (j.first + j.next + ls.length))).scrState

/-- The job ends with a status (R174, R335), which its requester receives as RESET when either generation has moved on (R51,
R312); a sweep in progress keeps its lanes. (DEDUCED, log 54 and 55.) -/
def Device.endJob (d : Device) (st : Nat) : Device :=
  match d.scr.job with
  | none => d
  | some j =>
    let mine := j.entry.isSome || (d.gen uSCR == j.gen && d.rgen 0 == j.rgen)
    let d : Device := { d with scr := { d.scr with job := none } }
    let d := d.when_ d.scr.sweep.isNone Device.clearLanes
    let d := ((((d.put SCR_JST_ST (if mine then st else Status.reset.code)).put SCR_JST_BUSY 0).up SCR_EVT_JOB).stopIfFenced).scrState
    match j.entry with
    | none => d
    | some q =>
      let d : Device := { d with bud := { d.bud with refAt := d.bud.refAt.setIfInBounds q d.now } }
      let d := (d.put (BUD_QVAL_LAST q) st).put BUD_JST_BUSY 0
      let d := if st = 0 then d.up BUD_EVT_JOB else if st = Status.timeout.code then d.up BUD_EVT_JTO else d
      d.when_ (d.on (BUD_QCFG_ONCE q)) fun d => d.put (BUD_QCFG_EN q) 0

/-- A job of slot `slot` over rows `first` to first + count − 1 is accepted. -/
def Device.beginJob (d : Device) (slot first count gen : Nat) (entry : Option Nat) : Device :=
  let d : Device := { d with scr := { d.scr with job := some ⟨slot, first, count, [], gen, d.rgen 0, entry, false⟩ } }
  ((((d.put SCR_JST_BUSY 1).put SCR_JST_NEXT first)).placeJob).scrState

/-- A write of SCR_JOB with GO = 1 (R174, R336, R51). -/
def Device.jobWrite (d : Device) (slot gen : Nat) : Device :=
  let answer := fun (st : Status) => (d.put SCR_JST_ST st.code).st uSCR st
  let first := d.get SCR_JROW_FIRST
  let count := d.get SCR_JCNT_COUNT
  if gen ≠ d.gen uSCR then d.st uSCR .reset
  else if d.on BUD_CTL_EN then answer .reject
  else if d.scrStopped then answer .reject
  else if d.scr.job.isSome then d.st uSCR .busy
  else if !d.on (SCR_KINFO_VALID slot) then answer .reject
  else if count = 0 ∨ d.get SCR_ROWS_ROWS < first + count then answer .range
  else (d.beginJob slot first count gen none).st uSCR .ok

/-! ### Sweeps (R18, R163, R168, R169) -/

/-- SCR clock period in ns (R22, R330). (DEDUCED, log 55.) -/
def Device.scrNs (d : Device) : Nat := if d.sys.step < 2 then 2 else 4

/-- T_full in ns: SCR_ROWS rows with L lanes and bound B. -/
def Device.fullSweepNs (d : Device) (lanes bound : Nat) : Nat :=
  (d.get SCR_ROWS_ROWS + lanes - 1) / lanes * bound * d.scrNs

/-- The half that the sweep covers (none: all rows) and whether the rate changes (R169). -/
def Device.chooseRate (d : Device) (lanes bound : Nat) : Option Nat × Bool :=
  let t := d.fullSweepNs lanes bound
  let lim : Int := (d.flk.per : Int) * 1000000 - d.get BUD_RSV_RSV * 100000
  if !d.on SCR_ST_HALF then (if lim < (t : Int) then (some 0, true) else (none, false))
  else
    let next := 1 - d.get SCR_ST_HSEL
    if next = 0 ∧ 10 * (t : Int) ≤ 9 * lim then (none, true) else (some next, false)

/-- The last row of the sweep has retired: the sweep ends, and the commit is due (R18, R19). SCR_SWT holds the duration of
R168. (DEDUCED, log 54 and 55.) -/
def Device.endSweep (d : Device) : Device :=
  match d.scr.sweep with
  | none => d
  | some w =>
    let d : Device := { d with
      scr := { d.scr with sweep := none }, pub := { d.pub with commit := some (w.epoch, w.ms) } }
    let d := ((((d.clearLanes).up SCR_EVT_SWEEP).put SCR_SWEP_EPOCH w.epoch).put SCR_SWT_CYC (w.ns / 4)).scrState
    (d.stopIfFenced).placeJob

/-- Start the sweep of epoch e with period `per`, `ms` of epoch time after the start (R18); an empty half ends
at once (R169). (DEDUCED, log 54.) -/
def Device.startSweep (d : Device) (e per ms : Nat) : Device :=
  let d := d.suspendJob
  let ls := d.lanesInService
  let slot := d.get SCR_KSEL_SLOT
  let bound := d.get (SCR_KINFO_BOUND slot)
  let rate := d.chooseRate ls.length bound
  let d := match rate.1 with
    | some h => (d.put SCR_ST_HALF 1).put SCR_ST_HSEL h
    | none => d.put SCR_ST_HALF 0
  let d := d.when_ rate.2 fun d => d.up SCR_EVT_HALF
  let rows := min (d.get SCR_ROWS_ROWS) d.rowLimit
  let lo := if rate.1 = some 1 then d.halfAt else 0
  let hi := if rate.1 = some 0 then d.halfAt else rows
  let since := fun (x : Option Nat) => match x with | some m => ms - m | none => 0
  let d := ((d.put SCR_ST_LANES ls.length).put SCR_ST_KACT slot).clearCandidates (rate.1 != some 1) (rate.1 != some 0)
  let d : Device := { d with
    pub := { d.pub with news := d.allNodes.filter fun i => (d.slotHi (24 * i) 0).testBit qNEW }
    scr := { d.scr with
      due := none
      sweep := some ⟨e, per, ms, lo, hi, ls, slot, since d.scr.last0, since d.scr.last1, hi - lo, 0,
        if rate.1.isSome then 2 else 1⟩
      last0 := if rate.1 = some 1 then d.scr.last0 else some ms
      last1 := if rate.1 = some 0 then d.scr.last1 else some ms } }
  let d := (d.giveRows ls lo 0 hi).scrState
  d.when_ (hi ≤ lo) Device.endSweep

/-! ### Retirement (R160, R164, R166, R167, R176) -/

/-- What an invocation carries to its retirement after B cycles: its slots and its queue, or none when it was aborted or has
not reached its end within them (R164, R167). (DEDUCED, log 53 and 96.) -/
def Device.invocationResult (d : Device) (v : Lane) (slot : Nat) : Option (Vector Word 16 × List QEntry) :=
  if d.on (SCR_KINFO_ROM slot) && !v.ran then
    let c := fun (n : Nat) => ((v.c[n]?).getD 0#64).toNat
    some (refKernel d.lut v.k (BitVec.ofNat 32 (c 2)) (c 3) (c 4) (c 5))
  else if v.ended && decide (v.cyc ≤ d.get (SCR_KINFO_BOUND slot)) then some (v.k, v.queue)
  else none

/-- Write back slots k3 to k9, k11, k12, k14, k15 and k10[23:0] of row r (R160). -/
def Device.writeBack (d : Device) (r : Nat) (k : Vector Word 16) : Device :=
  let d : Device := [3, 4, 5, 6, 7, 8, 9, 11, 12, 14, 15].foldl (fun (d : Device) n => d.setSlot r n (kWord k n)) d
  d.setSlot r 10 (d.slot r 10 / 2 ^ 24 * 2 ^ 24 + kWord k 10 % 2 ^ 24)

/-- A residue mismatch in lane group g (R166), and the fence of a second one within 1 s (R175). -/
def Device.residue (d : Device) (g : Nat) : Device :=
  let d := (d.up SCR_EVT_RES).count16 (SCR_RESCNT g)
  let again := match (d.scr.resAt[g]?).getD none with | some t => decide (d.now ≤ t + 1000000000) | none => false
  let d : Device := { d with scr := { d.scr with resAt := d.scr.resAt.setIfInBounds g (some d.now) } }
  d.when_ again fun d => d.fenceLanes (2 ^ g)

/-- Entries of an invocation that retires (R176): learning entries in order, the last SOC entry, and BADQ. -/
def Device.retireEntries (d : Device) (r e : Nat) (q : List QEntry) : Device :=
  let s := d.strix r
  let d : Device := q.foldl (fun (d : Device) x =>
    if x.kind = 1 then d.lrnEntry e s x.data.toNat else if 2 ≤ x.kind then d.up PUB_EVT_BADQ else d) d
  d.gateToRow r s

/-- The last SOC entry of a queue. -/
def lastSoc (q : List QEntry) : Option Nat := (q.filter fun x => x.kind == 0).getLast?.map fun x => x.data.toNat

/-- TEMP and NEW of a row that a sweep retires (R184). -/
def Device.rowDisqualifies (d : Device) (r : Nat) : Device :=
  let s := d.strix r
  let d := d.when_ (d.rowTempBad r) fun d => d.spoil s 0
  d.when_ (d.rowQ r qNEW) fun d => d.spoil s 3

/-- A sweep invocation of row r retires in sweep w with a result, or aborted. -/
def Device.retireSweepRow (d : Device) (w : Sweep) (r : Nat) (res : Option (Vector Word 16 × List QEntry)) (badq : Bool) : Device :=
  if d.inert r then (((d.setSlotLo r 2 0).setSlotHi r 2 0xFFFF).setGlide r 0 true)
  else
    let soc := match res with | some x => lastSoc x.2 | none => none
    let d := match res, soc with
      | some (k, q), some v =>
        let dt := if d.halfOf r = 0 then w.dt0 else w.dt1
        let d := d.when_ badq fun d => d.up PUB_EVT_BADQ
        (((d.writeBack r k).rowDisqualifies r).retireEntries r w.epoch q).socEntry r v w.epoch w.back dt
      | some _, none => (d.count32 PUB_NOSOCCNT 0).up PUB_EVT_NOSOC
      | none, _ => d
    d.addCandidate r

/-- A job invocation of row r retires (R174). -/
def Device.retireJobRow (d : Device) (r : Nat) (res : Option (Vector Word 16 × List QEntry)) (badq : Bool) : Device :=
  match res with
  | some (k, q) =>
    if d.inert r then d
    else
      let d := d.when_ badq fun d => d.up PUB_EVT_BADQ
      (d.writeBack r k).retireEntries r (d.get ACQ_LASTEP_EPOCH) q
  | none => d

/-- Lane l has no row left or takes its next one (R163). (DEDUCED, log 54.) -/
def Device.nextRow (d : Device) (l idx lanes lo hi : Nat) : Device :=
  if lo + idx + lanes < hi then d.beginRow l (lo + idx + lanes) (idx + lanes) else d.setLane l fun _ => Lane.idle

/-- The invocation of lane l reaches its B cycles; `f` is what the lane's own checks found. (DEDUCED, log 54 and 55.) -/
def Device.retire (d : Device) (l : Nat) (f : LaneFault) : Device :=
  let v := d.lane l
  match v.row, d.runningSlot with
  | some r, some (slot, isJob) =>
    let fault := match v.abort, f with
      | some x, _ => some x
      | none, .none => none
      | none, x => some x
    let res := if fault.isSome then none else d.invocationResult v slot
    let d := match fault with
      | some .residue => d.residue (l / 8)
      | some .lutEcc => (d.up SCR_EVT_RES).count16 (SCR_RESCNT (l / 8))
      | some .none => d
      | none => if res.isNone then d.up SCR_EVT_BOUND else d
    if isJob then
      match d.scr.job with
      | some j =>
        let d := d.retireJobRow r res v.badq
        let j : Job := { j with done := v.idx :: j.done }
        let d : Device := { d with scr := { d.scr with job := some j } }
        let n := d.get SCR_ST_LANES
        (d.put SCR_JST_NEXT (min (j.first + j.count) (max (d.get SCR_JST_NEXT) (r + n + 1)))).nextRow l v.idx n j.first (j.first + j.count)
      | none => d
    else
      match d.scr.sweep with
      | some w =>
        let d := d.retireSweepRow w r res v.badq
        let pass := if v.idx % w.lanes.length = 0 then d.get (SCR_KINFO_BOUND slot) * d.scrNs else 0
        let d : Device := { d with scr := { d.scr with sweep := some { w with left := w.left - 1, ns := w.ns + pass } } }
        let d := d.nextRow l v.idx w.lanes.length w.lo w.hi
        if w.left ≤ 1 then d.endSweep else d
      | none => d
  | _, _ => d

/-! ### Writes -/

/-- SCR_CTL.RUN := 1 (R18, R165). -/
def Device.scrStart (d : Device) : Device :=
  if d.on SCR_CTL_RUN then d.st uSCR .ok
  else
    let d : Device := { d.put SCR_CTL_RUN 1 with scr := { d.scr with last0 := none, last1 := none, due := none } }
    ((d.stopIfFenced).scrState).st uSCR .ok

/-- SCR_CTL.RUN := 0 (R173, R174): a sweep in progress completes, a job is aborted. (DESIGN CHOICE, log 15.) -/
def Device.scrStop (d : Device) : Device :=
  let d : Device := { d.put SCR_CTL_RUN 0 with scr := { d.scr with due := none } }
  let x := d.fresh
  let d := if d.scr.job.isSome then x.2.endJob (Config.jobStopStatus x.1).val else d
  (d.scrState).st uSCR .ok

/-- A write of SCR_KSEL (R171, R463). -/
def Device.kselWrite (d : Device) (slot : Nat) : Device :=
  if d.on SCR_LOCK_LOCK then d.st uSCR (if slot = d.get SCR_KSEL_SLOT then .ok else .locked)
  else if !d.on (SCR_KINFO_VALID slot) then d.st uSCR .reject
  else (d.put SCR_KSEL_SLOT slot).st uSCR .ok

/-- POINT increments after an access while AINC is set. -/
def Device.lutStep (d : Device) : Device := d.when_ (d.on SCR_LUTA_AINC) fun d => d.put SCR_LUTA_POINT (d.get SCR_LUTA_POINT + 1)

/-- A write of SCR_LUTD (R173). -/
def Device.lutWrite (d : Device) (v : Word) : Device :=
  if d.scrStopped then
    let key := 1024 * d.get SCR_LUTA_TABLE + d.get SCR_LUTA_POINT
    let luts := if v = 0#32 then mapDrop key d.scr.luts else mapSet key v d.scr.luts
    ({ d with scr := { d.scr with luts := luts } } : Device).lutStep.st uSCR .ok
  else d.st uSCR .busy

/-- A write of SCR_ROWS (R168, R462, R463). -/
def Device.scrRowsWrite (d : Device) (v : Nat) : Device :=
  if !d.scrStopped then d.st uSCR .busy
  else if v = 0 ∨ v % 24 ≠ 0 ∨ d.rowLimit < v then d.st uSCR .range
  else if d.on SCR_LOCK_LOCK then d.st uSCR (if v = d.get SCR_ROWS_ROWS then .ok else .locked)
  else (d.put SCR_ROWS_ROWS v).st uSCR .ok

/-! ### Meanings -/

/-- SCORER_START (R18): SCR_CTL.RUN = 1. -/
def execScorerStart (s : State) : Host.Outcome State Fault Refusal :=
  onCtl s fun d => if d.sys.appHeld then d else d.scrStart

/-- SCORER_STOP (R173): SCR_CTL.RUN = 0. -/
def execScorerStop (s : State) : Host.Outcome State Fault Refusal :=
  onCtl s fun d => if d.sys.appHeld then d else d.scrStop

/-- SWEEP_START (R18, R169, R175): fencing takes effect at the start, and with every group fenced the scorer stops. -/
def execSweepStart (s : State) : Host.Outcome State Fault Refusal :=
  onCtl s fun d =>
    match d.scr.due with
    | some (e, per, ms) =>
      if d.scr.sweep.isNone && d.scorerReady then
        if d.lanesInService.isEmpty then ({ d.suspendJob with scr := { d.suspendJob.scr with due := none } } : Device).stopIfFenced
        else d.startSweep e per ms
      else d
    | none => d

/-- INVOCATION_RETIRE (R164). (DEDUCED, log 53 and 96.) -/
def execInvocationRetire (l : Fin 64) (f : LaneFault) (s : State) : Host.Outcome State Fault Refusal :=
  onCtl s fun d => d.retire l.val f

/-- KERNEL_SELECT (R171): SCR_KSEL. -/
def execKernelSelect (slot : Fin 8) (s : State) : Host.Outcome State Fault Refusal :=
  onCtl s fun d => if d.sys.appHeld then d else d.kselWrite slot.val

/-- LUT_DATA_ACCESS (R173): a write of SCR_LUTD, or a read (`none`). -/
def execLutDataAccess (wr : Option Word) (s : State) : Host.Outcome State Fault Refusal :=
  onCtl s fun d =>
    match wr with
    | some v => if d.sys.appHeld then d else d.lutWrite v
    | none => d.lutStep

/-- JOB_START (R174): SCR_JOB with GO = 1. -/
def execJobStart (slot : Fin 8) (gen : Byte) (s : State) : Host.Outcome State Fault Refusal :=
  onCtl s fun d => if d.sys.appHeld then d else d.jobWrite slot.val gen.toNat

/-- JOB_DONE (R174): every row of the job has retired. -/
def execJobDone (s : State) : Host.Outcome State Fault Refusal :=
  onCtl s fun d =>
    match d.scr.job with
    | some j => if j.next = j.count then d.endJob 0 else d
    | none => d

/-- LANE_FENCE_WRITE (R175): SCR_FENCE. -/
def execLaneFenceWrite (mask : BitVec 8) (s : State) : Host.Outcome State Fault Refusal :=
  onCtl s fun d => if d.sys.appHeld then d else (d.fenceLanes mask.toNat).st uSCR .ok

end Sys2Proof.Machine
end

