-- ==== Sys2Proof/Machine/Thermal.lean ====
section
/-! DEFINITION. THM and the budget scheduler: sensors, the reported temperature, budget states, the orderly trip, the energy
bucket and job dispatch (R24, R327 to R336, R341). -/

namespace Sys2Proof.Machine

/-! ### Sensors (R327 to R329) -/

/-- Zone of a sensor (R327). -/
def sensorZone (n : Nat) : Nat :=
  if n < 4 then 0 else if n < 7 then 1 else if n < 10 then 2 else if n < 12 then 3 else if n < 16 then 4 else 5

/-- The sensor sits on the field die (R327). -/
def onFieldDie (n : Nat) : Bool := decide (12 ≤ n)

/-- THM_SNS of sensor n. -/
def snsAddr (n : Nat) : Nat := 0x60010040 + 4 * n
def snsVal (n : Nat) : Fld := ⟨snsAddr n, 0, 16⟩
def snsFailed (n : Nat) : Fld := ⟨snsAddr n, 19, 1⟩

/-- Sensor n has not failed. -/
def Device.healthy (d : Device) (n : Nat) : Bool := !(d.get THM_SFAIL_FAIL).testBit n

/-- A path's conversion in 1/64 °C lies inside −55 °C to 200 °C. -/
def pathOk (p : Int) : Bool := decide (-3520 ≤ p) && decide (p ≤ 12800)

/-- The reading of a good sample: the mean of the two paths; `none` for a sample that R328 counts toward a failure.
(DEDUCED, log 59.) -/
def sampleReading (s : SensorSample) : Option Int :=
  match s.p1, s.p2 with
  | some a, some b =>
    if pathOk a && pathOk b && decide ((a - b).natAbs ≤ 256) then
      some ((a + b) / 2 + if (a + b) % 2 = 1 ∧ Config.thmRoundUp (a + b) then 1 else 0)
    else none
  | _, _ => none

/-- Declare sensor n failed (R328, R331 rules 3 and 4). (DEDUCED, log 59 and 63.) -/
def Device.failSensor (d : Device) (n : Nat) : Device :=
  let d := ((d.put THM_SFAIL_FAIL (d.get THM_SFAIL_FAIL ||| 2 ^ n)).put (snsFailed n) 1).up THM_EVT_SFAIL
  let d := d.put THM_ST_HOLD 1
  let inZone := (List.range 18).filter fun k => sensorZone k == sensorZone n && !d.healthy k
  if 2 ≤ inZone.length ∧ ¬ d.on THM_ST_ZHOLD then (d.put THM_ST_ZHOLD 1).up THM_EVT_ZHOLD else d

/-- One sensor's sample. A bad sample gives no reading: the sensor keeps its value until it fails.
(DESIGN CHOICE, log 18; DEDUCED, log 59.) -/
def Device.sensorIn (d : Device) (n : Nat) (s : SensorSample) : Device :=
  if !d.healthy n then d
  else
    match sampleReading s with
    | some v => { d.puts (snsVal n) v with thm := { d.thm with bad := d.thm.bad.setIfInBounds n 0 } }
    | none =>
      let c := (d.thm.bad[n]?).getD 0 + 1
      let d : Device := { d with thm := { d.thm with bad := d.thm.bad.setIfInBounds n (min c 3) } }
      if 3 ≤ c then d.failSensor n else d

/-- The highest value of the healthy sensors among `ns`. -/
def Device.hottestOf (d : Device) (ns : List Nat) : Option Int :=
  ((ns.filter d.healthy).map fun n => d.gets (snsVal n)).max?

/-- A failed sensor's value (R329). (DEDUCED, log 59.) -/
def Device.substitute (d : Device) (n : Nat) : Option Int :=
  match d.hottestOf ((List.range 18).filter fun k => sensorZone k == sensorZone n) with
  | some v => some (v + 640)
  | none => (d.hottestOf ((List.range 18).filter fun k => onFieldDie k == onFieldDie n)).map (· + 640)

/-- Failed sensors take their substitute values. -/
def Device.substituteAll (d : Device) : Device :=
  (List.range 18).foldl (fun d n =>
    if d.healthy n then d else match d.substitute n with | some v => d.puts (snsVal n) v | none => d) d

/-- Some die has no healthy sensor (R329). -/
def Device.dieBlind (d : Device) : Bool := !(List.range 12).any d.healthy || !((List.range 18).drop 12).any d.healthy

/-- The reported temperature in 1/64 °C (R329). -/
def Device.tj (d : Device) : Int := d.gets THM_ST_TJ

/-! ### Budget states (R330, R331) -/

/-- The highest budget state whose entry threshold a temperature reaches. -/
def entryState (t : Int) : Nat :=
  if 150 * 64 ≤ t then 4 else if 147 * 64 ≤ t then 3 else if 144 * 64 ≤ t then 2 else if 140 * 64 ≤ t then 1 else 0

/-- The leaving threshold of a state. -/
def leaveAt (st : Nat) : Int := match st with | 4 => 147 * 64 | 3 => 144 * 64 | 2 => 141 * 64 | _ => 137 * 64

/-- Enter a budget state; entry into B4 sheds background jobs (R330). -/
def Device.enterBudget (d : Device) (st : Nat) : Device :=
  let old := d.get THM_ST_STATE
  let d := (d.put THM_ST_STATE st).up THM_EVT_STEP
  if st = 4 ∧ old ≠ 4 then ((d.up THM_EVT_SHED).suspendJob).scrState else d

/-- The upward move of R331 rules 1, 4 and 5. -/
def Device.raiseBudget (d : Device) : Device :=
  let want := max (if d.on THM_ST_ZHOLD then 4 else entryState d.tj) (d.get THM_MIN_MIN)
  if d.get THM_ST_STATE < want then { d.enterBudget want with thm := { d.thm with due := false } } else d

/-- A downward move is allowed and the temperature is below the leaving threshold (R331 rules 2, 4 and 5). -/
def Device.mayStepDown (d : Device) : Bool :=
  let st := d.get THM_ST_STATE
  decide (d.get THM_MIN_MIN < st) && !d.on THM_ST_ZHOLD && decide (d.tj < leaveAt st)

/-- Move down one state; a job that B4 held back goes on. -/
def Device.stepDown (d : Device) : Device :=
  let d := d.enterBudget (d.get THM_ST_STATE - 1)
  ({ d with thm := { d.thm with due := false } } : Device).placeJob.scrState

/-! ### The orderly trip (R332) -/

/-- Open the pre-charge and main+ contactors of bank b with slow quench (R332 step 1, R50 step 1); a connect ends here
with abort reason r.
(DEDUCED, log 60.) -/
def Device.openFirst (d : Device) (r b : Nat) : Device :=
  let conn := (d.phase b).connecting
  let d := ((d.openDriver (3 * b)).openDriver (3 * b + 2)).setBk b fun v => { v with path := false, gapDue := false }
  let d := d.when_ conn fun d =>
    (((d.put (CTD_BST_OUTC b) 4).put (CTD_BST_REASON b) r).up (CTD_BEVT_CONN b)).setBankSt b .opened
  d.when_ (d.phase b).driven fun d => d.setPhase b .opening

/-- Step 1 of R332 (reason 0) and of R50 (reason HOLD, R263) on every bank. (DEDUCED, log 60.) -/
def Device.openFirstStage (d : Device) (r : Nat) : Device := (((d.openFirst r 0).openFirst r 1).openFirst r 2).openFirst r 3

/-- Main− of every bank opens with slow quench (R332 step 2, R50 step 3). (DEDUCED, log 60.) -/
def Device.openSecondStage (d : Device) : Device :=
  (((d.openDriver 1).openDriver 4).openDriver 7).openDriver 10

/-- The reported temperature is at the trip threshold, or a die has no healthy sensor (R332). (DEDUCED, log 60.) -/
def Device.overTemp (d : Device) : Bool := decide (160 * 64 ≤ d.tj) || d.dieBlind

/-- THM_EVT.TRIP is set in every mode when the condition begins, of which `was` says whether it held before; the sequence
starts once, in a mode that a trip leaves (R36, R332): a transition is in progress (R37). (DEDUCED, log 60.) -/
def Device.orderlyTrip (d : Device) (was : Bool) : Device :=
  let d := d.when_ (d.overTemp && !was) fun d => d.up THM_EVT_TRIP
  if d.overTemp && !d.thm.trip && d.mode.live && d.mode != .tripped then
    let d := (((d.up THM_EVT_TRIP).openFirstStage 0).suspendJob).scrState
    { d.put SYS_MODE_BUSY 1 with thm := { d.thm with trip := true } }
  else d

/-- What every new set of sensor values leads to: the substitutes, the reported temperature, FAST, the upward move and the
orderly trip (R329 to R332), whose condition `was` before. -/
def Device.thmEvaluate (d : Device) (was : Bool) : Device :=
  let d := d.substituteAll
  let d := match ((List.range 18).map fun n => d.gets (snsVal n)).max? with
    | some t => d.puts THM_ST_TJ t
    | none => d
  let d := d.putB THM_ST_FAST (decide (130 * 64 ≤ d.tj))
  let d : Device := { d with thm := { d.thm with due := d.thm.due && decide (d.tj < leaveAt (d.get THM_ST_STATE)) } }
  d.raiseBudget.orderlyTrip was

/-- One sample of every sensor (R328 to R332). -/
def Device.thermalSample (d : Device) (v : Vector SensorSample 18) : Device :=
  ((List.range 18).foldl (fun d n => d.sensorIn n ((v[n]?).getD ⟨none, none⟩)) d).thmEvaluate d.overTemp

/-! ### The budget scheduler (R334 to R336) -/

/-- Energy rate of a budget state in percent (R330). -/
def energyRate (st : Nat) : Nat := match st with | 0 => 100 | 1 => 50 | 2 => 25 | 3 => 10 | _ => 0

/-- The bucket with a content in pJ, held at its limit; BUD_BKT shows it in µJ. -/
def Device.setBucket (d : Device) (pj : Nat) : Device :=
  let v := min pj (1000 * d.get BUD_EBUD_EBUD * 1000000)
  { d.put BUD_BKT_BKT (v / 1000000) with bud := { d.bud with bucket := v } }

/-- Cost of entry j in pJ (R335). (DEDUCED, log 61.) -/
def Device.entryCost (d : Device) (j : Nat) : Nat :=
  d.get (BUD_QCNT_COUNT j) * d.get (SCR_KINFO_BOUND (d.get (BUD_QCFG_SLOT j))) * 56

/-- Entry j is eligible (R335, R330). (DEDUCED, log 61.) -/
def Device.eligible (d : Device) (j : Nat) : Bool :=
  let e := d.entryCost j
  let count := d.get (BUD_QCNT_COUNT j)
  let st := d.get THM_ST_STATE
  d.on (BUD_QCFG_EN j) && d.on (SCR_KINFO_VALID (d.get (BUD_QCFG_SLOT j))) && decide (0 < count) &&
    decide (d.get (BUD_QROW_FIRST j) + count ≤ d.get SCR_ROWS_ROWS) &&
    (d.on (BUD_QCFG_ONCE j) || decide ((d.bud.refAt[j]?).getD 0 + d.get (BUD_QCFG_PER j) * 100000000 ≤ d.now)) &&
    decide (e ≤ d.bud.bucket) && decide (st < 4) &&
    (decide (st < 2) || decide (d.get BUD_EBUD_VMIN * e ≤ d.get (BUD_QVAL_VALUE j) * 1000000000))

/-- The better of two entries: the higher value per joule, the earlier one among equals. (DEDUCED, log 61.) -/
def Device.betterEntry (d : Device) (best : Option Nat) (j : Nat) : Option Nat :=
  match best with
  | none => some j
  | some i =>
    if d.get (BUD_QVAL_VALUE i) * d.entryCost j < d.get (BUD_QVAL_VALUE j) * d.entryCost i then some j else some i

/-- Dispatch the best eligible entry while the scorer is idle (R335). -/
def Device.dispatch (d : Device) : Device :=
  if d.get SCR_ST_STATE = 1 ∧ d.on BUD_CTL_EN ∧ d.scr.job.isNone ∧ d.scr.due.isNone then
    match ((List.range 16).filter d.eligible).foldl d.betterEntry none with
    | none => d
    | some j =>
      let d := d.setBucket (d.bud.bucket - d.entryCost j)
      let d := (d.put BUD_JST_ENTRY j).put BUD_JST_BUSY 1
      d.beginJob (d.get (BUD_QCFG_SLOT j)) (d.get (BUD_QROW_FIRST j)) (d.get (BUD_QCNT_COUNT j)) (d.gen uSCR) (some j)
  else d

/-! ### Meanings -/

/-- THROTTLE_STEP (R24, R330): the clocks of the present budget state come into force. (DEDUCED, log 22.) -/
def execThrottleStep (s : State) : Host.Outcome State Fault Refusal :=
  onCtl s fun d => { d with sys := { d.sys with step := d.get THM_ST_STATE } }

/-- THERMAL_SAMPLE (R328 to R332). -/
def execThermalSample (v : Vector SensorSample 18) (s : State) : Host.Outcome State Fault Refusal :=
  onCtl s fun d => d.thermalSample v

/-- BUDGET_STEP_DOWN (R331): the second of rule 2 has passed; during the hold of rule 3 the move waits for its end. -/
def execBudgetStepDown (s : State) : Host.Outcome State Fault Refusal :=
  onCtl s fun d =>
    if !d.mayStepDown then d
    else if d.on THM_ST_HOLD then { d with thm := { d.thm with due := true } }
    else d.stepDown

/-- SENSOR_FAIL_HOLD_EXPIRY (R331 rule 3). -/
def execSensorFailHoldExpiry (s : State) : Host.Outcome State Fault Refusal :=
  onCtl s fun d =>
    let d := d.put THM_ST_HOLD 0
    if d.thm.due && d.mayStepDown then d.stepDown else d

/-- ORDERLY_TRIP_SECOND_STAGE (R332): main− of every bank opens and the referee opens all, without a class.
(DEDUCED, log 60.) -/
def execOrderlyTripSecondStage (s : State) : Host.Outcome State Fault Refusal :=
  onCtl s fun d =>
    if d.thm.trip then { d.openSecondStage.openAllAct with thm := { d.thm with trip := false } } else d

/-- BUCKET_FILL (R335). -/
def execBucketFill (s : State) : Host.Outcome State Fault Refusal :=
  onCtl s fun d => d.setBucket (d.bud.bucket + d.get BUD_EBUD_EBUD * energyRate (d.get THM_ST_STATE) * 10000)

/-- JOB_DISPATCH (R335). -/
def execJobDispatch (s : State) : Host.Outcome State Fault Refusal := onCtl s Device.dispatch

end Sys2Proof.Machine
end

