-- ==== Sys2Proof/Machine/MotorLaw.lean ====
section
/-! DEFINITION. Arithmetic of the motor control law (R345 to R348): turns and vectors in fixed point, the voltage limit, the
space-vector modulation and the predicted current. The spec gives the law in real numbers; every quotient is rounded down.
(DEDUCED, log 64.) -/

namespace Sys2Proof.Machine

/-- One in the fixed-point form of sines: 2³⁰. -/
abbrev trigOne : Int := 2 ^ 30

/-- y (1 − y²/(k(k+1)) (1 − ...)) of `n` terms, `y2` = y² in units of 2⁻³⁰: the Taylor sum of the sine without its factor.
(DEDUCED, log 64.) -/
def sinTaylor (y2 : Int) : (k n : Nat) → Int
  | _, 0 => trigOne
  | k, n + 1 => trigOne - y2 * sinTaylor y2 (k + 2) n / trigOne / ((k * (k + 1) : Nat) : Int)

/-- Sine of `x` × 2⁻¹⁶ turns for `x` up to a quarter turn, in units of 2⁻³⁰. (DEDUCED, log 64.) -/
def sinQuarter (x : Nat) : Int :=
  let y : Int := (x : Int) * 3373259426 / 32768
  y * sinTaylor (y * y / trigOne) 2 7 / trigOne

/-- Sine of an angle in 2⁻¹⁶ turns, in units of 2⁻³⁰. (DEDUCED, log 64.) -/
def sinTurn (a : Int) : Int :=
  let b := (a % 65536).toNat
  let r := b % 16384
  let s := sinQuarter (if b / 16384 % 2 = 1 then 16384 - r else r)
  if b < 32768 then s else -s

/-- Cosine of an angle in 2⁻¹⁶ turns, in units of 2⁻³⁰. (DEDUCED, log 64.) -/
def cosTurn (a : Int) : Int := sinTurn (a + 16384)

/-- A vector turned forward by an angle in 2⁻¹⁶ turns. (DEDUCED, log 64.) -/
def turnBy (v : Int × Int) (a : Int) : Int × Int :=
  ((v.1 * cosTurn a - v.2 * sinTurn a) / trigOne, (v.1 * sinTurn a + v.2 * cosTurn a) / trigOne)

/-- Three phase values as a vector in the frame at an angle, amplitudes kept. (DEDUCED, log 64.) -/
def toFrame (i : Int × Int × Int) (a : Int) : Int × Int :=
  turnBy (i.1, (i.2.1 - i.2.2) * 577350269 / 1000000000) (-a)

/-- A vector in the frame at an angle as three phase values. (DEDUCED, log 64.) -/
def toPhases (v : Int × Int) (a : Int) : Int × Int × Int :=
  let w := turnBy v a
  let h := w.2 * 1732050808 / 1000000000
  (w.1, (h - w.1) / 2, (-h - w.1) / 2)

/-- Integer square root by bits: the largest root below 2ⁿ added to `r`. (DEDUCED, log 64.) -/
def rootBits (v : Nat) : (r n : Nat) → Nat
  | r, 0 => r
  | r, n + 1 => rootBits v (if (r + 2 ^ n) * (r + 2 ^ n) ≤ v then r + 2 ^ n else r) n

/-- Magnitude of a vector. (DEDUCED, log 64.) -/
def magnitude (v : Int × Int) : Nat := rootBits (v.1.natAbs * v.1.natAbs + v.2.natAbs * v.2.natAbs) 0 40

/-- V_av = MMAX × VBUS / √3 in mV, with MMAX in 1/256 and VBUS in 0.1 V (R347). (DEDUCED, log 64.) -/
def vAvailable (mmax vbus : Nat) : Nat := mmax * vbus * 100 * 577350269 / 256000000000

/-- A vector limited to a magnitude (R347). (DEDUCED, log 64.) -/
def limitTo (v : Int × Int) (lim : Nat) : Int × Int :=
  let m := magnitude v
  if m ≤ lim then v else (v.1 * lim / m, v.2 * lim / m)

/-- Modulation of a vector in mV, in 1/256 of VBUS / √3 (MTR_VB). (DEDUCED, log 64.) -/
def modulation (v : Int × Int) (vbus : Nat) : Nat := magnitude v * 256 * 1732050808 / (100000000000 * vbus)

/-- Min-max zero sequence (R347): phase voltages in mV as twice the compare value above TOP/2. (DEDUCED, log 64.) -/
def spaceVector (v : Int × Int × Int) (top vbus : Nat) : Int × Int × Int :=
  let z := -(max v.1 (max v.2.1 v.2.2) + min v.1 (min v.2.1 v.2.2)) / 2
  let f := fun x : Int => clampI (-(top : Int)) top (2 * top * (x + z) / (100 * (vbus : Int)))
  (f v.1, f v.2.1, f v.2.2)

/-- One function on three phases. -/
def onPhases (f : Int → Int) (v : Int × Int × Int) : Int × Int × Int := (f v.1, f v.2.1, f v.2.2)

/-- Second lowest of three values (R346). -/
def secondLowest (a b c : Int) : Int := max (min a b) (min (max a b) c)

/-- Voltage ω × L × i in mV: speed in 10⁻⁹ rpm, inductance in µH, current in 0.01 A (R347). (DEDUCED, log 64.) -/
def speedVoltage (nNano : Int) (pp l : Nat) (i : Int) : Int := nNano * pp * 10471976 * l * i / 10000000000000000000000

/-- Electrical angle in 2⁻¹⁶ turns that a speed in 10⁻⁹ rpm covers in a time in ns. (DEDUCED, log 64.) -/
def angleIn (nNano : Int) (pp ns : Nat) : Int := nNano * pp * ns * 65536 / 60000000000000000000

/-- Change of a current in 0.01 A: a voltage in mV on an inductance in µH for a time in ns (R348). (DEDUCED, log 64.) -/
def currentStep (mv : Int) (l ns : Nat) : Int := mv * ns / (10000 * (l : Int))

/-- The predicted d and q current (R348): previous currents in 0.01 A, applied voltage in mV, RS in mΩ, LD and LQ in µH, the
back-EMF in mV, turned by the angle advanced in one period. (DEDUCED, log 64.) -/
def predictCurrent (i v : Int × Int) (rs ld lq : Nat) (emf adv : Int) (ns : Nat) : Int × Int :=
  turnBy (i.1 + currentStep (v.1 - rs * i.1 / 100) ld ns, i.2 + currentStep (v.2 - rs * i.2 / 100 - emf) lq ns) (-adv)

end Sys2Proof.Machine
end

