-- ==== Sys2Proof/Machine/Motors.lean ====
section
/-! DEFINITION. MTR: the four motor control units (R342 to R360). -/

namespace Sys2Proof.Machine

abbrev uMTR : Nat := 0x60170000

/-- States of a unit, coded as MTR_ST.STATE codes them. -/
inductive MotorSt where
  | stopped | catch_ | brake | align | ifRamp | hfi | run | stopping | coast | waitRt | fault | fenced
  deriving DecidableEq, Repr

def MotorSt.code : MotorSt → Nat
  | .stopped => 0 | .catch_ => 1 | .brake => 2 | .align => 3 | .ifRamp => 4 | .hfi => 5 | .run => 6 | .stopping => 7
  | .coast => 8 | .waitRt => 9 | .fault => 10 | .fenced => 11

def MotorSt.ofCode (n : Nat) : MotorSt :=
  match n with
  | 1 => .catch_ | 2 => .brake | 3 => .align | 4 => .ifRamp | 5 => .hfi | 6 => .run | 7 => .stopping | 8 => .coast
  | 9 => .waitRt | 10 => .fault | 11 => .fenced | _ => .stopped

/-- States in which the gates switch. -/
def MotorSt.driven : MotorSt → Bool
  | .brake => true | .align => true | .ifRamp => true | .hfi => true | .run => true | .stopping => true | _ => false

/-- States of a unit that has been started and has not come to rest. -/
def MotorSt.active : MotorSt → Bool
  | .stopped => false | .fault => false | .fenced => false | _ => true

def Device.motSt (d : Device) (u : Nat) : MotorSt := MotorSt.ofCode (d.get (MTR_ST_STATE u))
def Device.mot (d : Device) (u : Nat) : Motor := (d.mtr[u]?).getD Motor.reset
def Device.setMot (d : Device) (u : Nat) (f : Motor → Motor) : Device :=
  { d with mtr := d.mtr.setIfInBounds u (f (d.mot u)) }

/-- Unit u is enabled, and it is fenced. -/
def Device.motEnabled (d : Device) (u : Nat) : Bool := (d.get MTR_CTL_EN).testBit u
def Device.motFenced (d : Device) (u : Nat) : Bool := (d.get MTR_FENCE_FEN).testBit u

/-- Enter a state; limits, confidence, pauses and the loop end with the gates. -/
def Device.setMotSt (d : Device) (u : Nat) (st : MotorSt) : Device :=
  let d := d.put (MTR_ST_STATE u) st.code
  if st.driven then d
  else
    let d := ((((d.put (MTR_ST_LIMV u) 0).put (MTR_ST_LIMS u) 0).put (MTR_ST_LIMI u) 0).put (MTR_ST_CONF u) 0).put
      (MTR_ST_PAUSE u) 0
    d.setMot u fun m =>
      { m with good := 0, skips := 0, force := false, brkHold := false, pendSync := false, loop := MotorLoop.reset }

/-- STOPPED is entered. -/
def Device.motStop (d : Device) (u : Nat) : Device :=
  if d.motSt u = .stopped then d
  else ((d.setMotSt u .stopped).up (MTR_UEVT_STOP u)).setMot u fun m =>
    { m with measuring := false, resync := false, uvWait := false, uvCatch := false, nref := 0, ifq := 0, synced := false }

/-- The unit coasts with its gates off (R355). -/
def Device.motCoast (d : Device) (u : Nat) : Device :=
  if (d.motSt u).active then
    (d.setMotSt u .coast).setMot u fun m => { m with measuring := false, resync := false, uvWait := false, uvCatch := false }
  else d

/-- Start a catch-spin (R352): the gates go off. -/
def Device.motCatch (d : Device) (u : Nat) (resync uv : Bool) : Device :=
  (d.setMotSt u .catch_).setMot u fun m => { m with measuring := false, resync := resync, uvCatch := uv, uvWait := false }

/-- Fence unit u (R358). -/
def Device.fenceMotor (d : Device) (u : Nat) : Device :=
  let d := d.put MTR_FENCE_FEN (d.get MTR_FENCE_FEN ||| 2 ^ u)
  (d.setMotSt u .fenced).setMot u fun m => { m with measuring := false, resync := false, uvWait := false, uvCatch := false }

/-- Instants of a list within a span up to now, the present one added. -/
def recent (l : List Nat) (now span : Nat) : List Nat := (now :: l).filter fun t => decide (now ≤ t + span)

/-- Enter FAULT with a code (R357); OC and STAGE faults three times in 60 s and LANE faults twice in 1 s fence the unit
(R358). (DEDUCED, log 65.) -/
def Device.motFault (d : Device) (u code : Nat) : Device :=
  if d.motSt u = .fenced ∨ d.motSt u = .fault ∨ (d.motSt u = .stopped ∧ ¬ d.motEnabled u) then d
  else
    let d := ((d.setMotSt u .fault).put (MTR_ST_FLT u) code).up (MTR_UEVT_FAULT u)
    let d := d.setMot u fun m =>
      { m with measuring := false, resync := false, uvWait := false, uvCatch := false
               ocAt := if code ≤ 2 then recent m.ocAt d.now 60000000000 else m.ocAt
               laneAt := if code = 6 then recent m.laneAt d.now 1000000000 else m.laneAt }
    if (code ≤ 2 ∧ 3 ≤ (d.mot u).ocAt.length) ∨ (code = 6 ∧ 2 ≤ (d.mot u).laneAt.length) then d.fenceMotor u else d

/-- The speed reference in rpm. -/
def Device.sref (d : Device) (u : Nat) : Int := d.gets (MTR_SREF_SREF u)

/-- 10⁻⁹ rpm. -/
abbrev nano : Int := 1000000000

/-- The two polarity pulses of R350, in ns. -/
abbrev polarityNs : Nat := 2000000

/-- Start from rest (R351, R352, R350): ALIGN at angle 0, or the polarity pulses of HFI, after BRAKE too.
(DEDUCED, log 65.) -/
def Device.startRest (d : Device) (u : Nat) : Device :=
  let d := d.setMot u fun m =>
    { m with nref := 0, ifq := 0, resync := false, uvCatch := false
             loop := { m.loop with ang := 0, pol := polarityNs } }
  d.setMotSt u (if d.on (MTR_RL_SAL u) then .hfi else .align)

/-- RUN is entered with NREF preset to a speed in rpm. -/
def Device.enterRun (d : Device) (u : Nat) (n : Int) : Device :=
  ((d.setMotSt u .run).up (MTR_UEVT_RUN u)).setMot u fun m =>
    { m with nref := n * nano, ifq := 0, resync := false, uvCatch := false }

/-- A resync fails (R356): the first failure tries again at once, the second is a fault. -/
def Device.resyncFailed (d : Device) (u : Nat) : Device :=
  let f := d.get (MTR_ST_FAILS u) + 1
  let d := d.put (MTR_ST_FAILS u) f
  if 2 ≤ f then d.motFault u 5 else d.motCatch u true false

/-- The 50 ms measurement ends with a speed in rpm (R351, R352, R356); an entry into HFI has its polarity pulses (R350).
(DEDUCED, log 65.) -/
def Device.catchDone (d : Device) (u : Nat) (rpm : Int) : Device :=
  let rel := if d.sref u < 0 then -rpm else rpm
  let n := rel.natAbs
  let rest := decide (n < d.get (MTR_CS_CSMIN u))
  let with_ := decide (0 ≤ rel)
  let brk := decide (n ≤ d.get (MTR_CS_BRKLIM u))
  let res := if rest then 0 else if with_ then 1 else if brk then 2 else 3
  let d := ((d.puts (MTR_CSR_CSPD u) rel).put (MTR_CSR_CRES u) res).up (MTR_UEVT_CATCH u)
  let m := d.mot u
  let d := d.setMot u fun m => { m with measuring := false }
  if m.resync then
    if rest || !with_ then d.resyncFailed u
    else (d.enterRun u rpm).setMot u fun m => { m with pendSync := true, good := 0 }
  else if rest then d.startRest u
  else if with_ then
    if d.get (MTR_HOV_HOV u) ≤ n then d.enterRun u rpm
    else
      let d := d.setMot u fun m =>
        { m with nref := rpm * nano, ifq := rpm * nano, uvCatch := false
                 loop := { m.loop with angDue := true, pol := polarityNs } }
      d.setMotSt u (if d.on (MTR_RL_SAL u) then .hfi else .ifRamp)
  else if brk then (d.setMotSt u .brake).setMot u fun m => { m with uvCatch := false }
  else ((d.setMotSt u .waitRt).up (MTR_UEVT_REVHI u)).setMot u fun m => { m with uvCatch := false }

/-! ### Commands -/

/-- Whether a start is accepted (R351, R350). -/
def Device.startStatus (d : Device) (u : Nat) : Status :=
  let zero := [MTR_RL_RS u, MTR_LDQ_LD u, MTR_LDQ_LQ u, MTR_KE_KE u, MTR_RL_PP u, MTR_ISC_IFS u, MTR_ISC_VFS u,
    MTR_LIM_IMAX u, MTR_LIM_SMAX u, MTR_BUS_VPAUSE u, MTR_BUS_VOVF u].any fun f => !d.on f
  if d.motFenced u then .fenced
  else if !d.motEnabled u || d.motSt u != .stopped then .reject
  else if d.mode = .dormant ∨ d.mode = .watch ∨ d.mode = .muster then .reject
  else if d.sref u = 0 ∨ zero ∨ d.get (MTR_BUS_VOVF u) ≤ d.get (MTR_BUS_VPAUSE u) then .range
  else if d.on (MTR_RL_SAL u) && decide (1000000000 < 64 * d.get (MTR_PWM_TOP u) * d.get (MTR_HFI_FH u)) then .range
  else .ok

/-- MTR_CMD start. -/
def Device.motorStart (d : Device) (u : Nat) : Status × Device :=
  let st := d.startStatus u
  (st, if st = .ok then (d.put (MTR_ST_FAILS u) 0).motCatch u false false else d)

/-- A stop (R355, R360). -/
def Device.motorStop (d : Device) (u : Nat) : Device :=
  match d.motSt u with
  | .catch_ => d.motStop u
  | .brake => d.motStop u
  | .align => d.motStop u
  | .waitRt => d.motStop u
  | .ifRamp => (d.setMot u fun m => { m with nref := m.ifq }).setMotSt u .stopping
  | .hfi => d.setMotSt u .stopping
  | .run => d.setMotSt u .stopping
  | .coast => d.setMot u fun m => { m with uvWait := false }
  | _ => d

/-- MTR_CMD clear (R357). (DEDUCED, log 65.) -/
def Device.motorClear (d : Device) (u : Nat) : Status × Device :=
  if d.motSt u = .fault then (.ok, (d.put (MTR_ST_FLT u) 0).put (MTR_ST_FAILS u) 0 |>.motStop u) else (.reject, d)

/-- A command of MTR_CMD (R49, R51), its action given. (DEDUCED, log 42.) -/
def Device.motorCmd (d : Device) (gen : Nat) (f : Device → Status × Device) : Device :=
  if d.sys.appHeld then d
  else if d.fieldBusy then d.st uMTR .busy
  else if gen ≠ d.gen uMTR then d.st uMTR .reset
  else
    let r := f d
    r.2.st uMTR r.1

/-- A write of MTR_CMD as a register. -/
def Device.writeMcmd (d : Device) (u : Nat) (w : Word) : Device :=
  let gen := bitsOf w 24 8
  match bitsOf w 0 3 with
  | 1 => d.motorCmd gen fun d => d.motorStart u
  | 2 => d.motorCmd gen fun d => (.ok, d.motorStop u)
  | 3 => d.motorCmd gen fun d => (.ok, d.motCoast u)
  | 4 => d.motorCmd gen fun d => d.motorClear u
  | _ => d.st uMTR .range

/-- A write of MTR_SREF (R355, R49); zero acts as a stop. -/
def Device.srefWrite (d : Device) (u v : Nat) : Device :=
  if d.sys.appHeld then d
  else if d.fieldBusy then d.st uMTR .busy
  else if d.get (MTR_LIM_SMAX u) < (signed 16 v).natAbs then d.st uMTR .range
  else
    let d := (d.put (MTR_SREF_SREF u) v).st uMTR .ok
    if v % 65536 = 0 then d.motorStop u else d

/-- A write of MTR_CTL.EN: a cleared bit coasts its unit (R355). -/
def Device.motEnWrite (d : Device) (v : Nat) : Device :=
  let d := d.put MTR_CTL_EN v
  (List.range 4).foldl (fun d u => if v.testBit u then d else d.motCoast u) d

/-- A write of MTR_FENCE (R358, R360). (DEDUCED, log 66.) -/
def Device.fenceMotors (d : Device) (mask : Nat) : Device :=
  (List.range 4).foldl (fun d u => if mask.testBit u ∧ ¬ d.motFenced u then d.fenceMotor u else d) d

/-- The hold window has expired (R359). (DEDUCED, log 66.) -/
def Device.motorsHoldExpired (d : Device) : Device :=
  (List.range 4).foldl (fun d u =>
    match d.motSt u with
    | .catch_ => d.motStop u
    | .waitRt => d.motStop u
    | .align => d.motorStop u
    | .brake => d.motorStop u
    | .ifRamp => d.motorStop u
    | .hfi => d.motorStop u
    | .run => d.motorStop u
    | _ => d) d

/-! ### The current loop (R345 to R356) -/

/-- Length of a PWM period in ns (R345). -/
def Device.pwmNs (d : Device) (u : Nat) : Nat := 8 * d.get (MTR_PWM_TOP u)

/-- Compare values of the three phases in the period in force (R345). -/
def Device.compares (d : Device) (u : Nat) : Int × Int × Int :=
  let l := (d.mot u).loop
  onPhases (fun x => (d.get (MTR_PWM_TOP u) + x) / 2) (l.devU, l.devV, l.devW)

/-- On-times of the high and the low gate of a phase in one period in 4 ns, by its compare value (R345): a pulse or gap
shorter than the dead time is removed. -/
def gateTimes (top dt cmp : Nat) : Nat × Nat :=
  if 2 * cmp < dt then (0, 2 * top)
  else if 2 * (top - cmp) < dt then (2 * top, 0)
  else (2 * cmp - dt, 2 * (top - cmp) - dt)

/-- On-times of the six gates in the period in force in 4 ns, as (high, low) of U, V and W (R342, R345); all gates are off in
a state that does not drive. -/
def Device.gates (d : Device) (u : Nat) : List (Nat × Nat) :=
  if (d.motSt u).driven then
    let c := d.compares u
    [c.1, c.2.1, c.2.2].map fun x => gateTimes (d.get (MTR_PWM_TOP u)) (d.get (MTR_PWM_DT u)) x.toNat
  else [(0, 0), (0, 0), (0, 0)]

/-- The period's sample pair is valid (R346). -/
def Device.sampleValid (d : Device) (u : Nat) : Bool :=
  let c := d.compares u
  decide (secondLowest c.1 c.2.1 c.2.2 + d.get (MTR_SMP_TSET u) + d.get (MTR_PWM_DT u) ≤ d.get (MTR_PWM_TOP u))

/-- A current as its converter reads it, within ±IFS (R343). -/
def Device.readCurrent (d : Device) (u : Nat) (i : Int) : Int := clampI (-(d.get (MTR_ISC_IFS u) : Int)) (d.get (MTR_ISC_IFS u)) i

/-- Bus voltage as its converter reads it, up to VFS (R343). -/
def Device.readBus (d : Device) (u : Nat) (s : MotorSample) : Nat := min (d.get (MTR_ISC_VFS u)) s.vbus

/-- The three currents (R346): the two phases with the lowest duty are sampled, the third is minus their sum. -/
def Device.sampled (d : Device) (u : Nat) (s : MotorSample) : Int × Int × Int :=
  let iu := d.readCurrent u s.iu
  let iv := d.readCurrent u s.iv
  let iw := d.readCurrent u s.iw
  let c := d.compares u
  if c.2.1 ≤ c.1 ∧ c.2.2 ≤ c.1 then (-(iv + iw), iv, iw)
  else if c.2.2 ≤ c.2.1 then (iu, -(iu + iw), iw)
  else (iu, iv, -(iu + iv))

/-- One turn in the unit of an imposed angle. -/
abbrev ifTurn : Int := 60000000000000000000

/-- Angle in 2⁻¹⁶ turns and speed in 10⁻⁹ rpm of the frame that the current loop works in: imposed in ALIGN and IFRAMP
(R352), the observer's or the injection's elsewhere (R349, R350). -/
def Device.frame (d : Device) (u : Nat) (s : MotorSample) : Int × Int :=
  match d.motSt u with
  | .align => (0, 0)
  | .ifRamp => ((d.mot u).loop.ang * 65536 / ifTurn, (d.mot u).ifq)
  | _ => (s.theta.toNat, s.nEst * nano)

/-- The three currents of a skipped period, predicted (R348). (DEDUCED, log 64.) -/
def Device.predicted (d : Device) (u : Nat) (s : MotorSample) : Int × Int × Int :=
  let l := (d.mot u).loop
  let f := d.frame u s
  let emf : Int := if s.nEst < 0 then -(10 * (s.emf : Int)) else 10 * s.emf
  toPhases (predictCurrent (l.id, l.iq) (l.vd, l.vq) (d.get (MTR_RL_RS u)) (d.get (MTR_LDQ_LD u)) (d.get (MTR_LDQ_LQ u)) emf
    (angleIn f.2 (d.get (MTR_RL_PP u)) (d.pwmNs u)) (d.pwmNs u)) f.1

/-- Count a skipped period; SKMAX in a row force the next vector (R348). -/
def Device.skipCount (d : Device) (u : Nat) : Device :=
  let n := (d.mot u).skips + 1
  let d := (d.count16 (MTR_SKIPC u)).setMot u fun m => { m with skips := n, force := false }
  if d.get (MTR_SMP_SKMAX u) ≤ n then (d.up (MTR_UEVT_SKIP u)).setMot u fun m => { m with force := true } else d

/-- Skip or convert (R346, R348): the period's three currents, and the count of skips. -/
def Device.skipStep (d : Device) (u : Nat) (s : MotorSample) : (Int × Int × Int) × Device :=
  if d.sampleValid u then (d.sampled u s, d.setMot u fun m => { m with skips := 0, force := false })
  else (d.predicted u s, d.skipCount u)

/-- A good period (R349): 0.6 to 1.4 times KE × |n| / 1000 rpm, and a phase error below 20°. -/
def Device.goodPeriod (d : Device) (u : Nat) (s : MotorSample) : Bool :=
  let e := d.get (MTR_KE_KE u) * s.nEst.natAbs
  decide (6 * e ≤ 10000 * s.emf) && decide (10000 * s.emf ≤ 14 * e) && decide (s.phErr < 200)

/-- The confidence of the observer (R349). -/
def Device.goodStep (d : Device) (u : Nat) (s : MotorSample) : Device :=
  let g := if d.goodPeriod u s then min 64 ((d.mot u).good + 1) else 0
  (d.setMot u fun m => { m with good := g }).putB (MTR_ST_CONF u) (g == 64)

/-- Move `x` toward `t` by at most `step`. -/
def toward (x t step : Int) : Int := if x < t then min t (x + step) else max t (x - step)

/-- The ramp pause while NREF falls (R354). -/
def Device.pauseStep (d : Device) (u vbus : Nat) (falling : Bool) : Device :=
  let vp := d.get (MTR_BUS_VPAUSE u)
  if d.on (MTR_ST_PAUSE u) then
    if vbus + d.get (MTR_BUS2_VHYS u) < vp then d.put (MTR_ST_PAUSE u) 0 else d
  else d.putB (MTR_ST_PAUSE u) (falling && decide (vp < vbus))

/-- One period of NREF's ramp toward `target` in 10⁻⁹ rpm (R353, R354). -/
def Device.rampStep (d : Device) (u vbus : Nat) (target : Int) : Device :=
  let x := (d.mot u).nref
  let falling := decide (target.natAbs < x.natAbs) || decide (x * target < 0)
  let d := d.pauseStep u vbus falling
  let dt : Int := d.pwmNs u
  if falling then
    if d.on (MTR_ST_PAUSE u) then d
    else d.setMot u fun m => { m with nref := toward m.nref (if x * target < 0 then 0 else target) (d.get (MTR_RAMP_DEC u) * dt) }
  else if x = target then d
  else if d.on (MTR_ST_LIMV u) || d.on (MTR_ST_LIMS u) || d.on (MTR_ST_LIMI u) || d.on (MTR_ST_PAUSE u) then
    d.up (MTR_UEVT_LIMIT u)
  else d.setMot u fun m => { m with nref := toward m.nref target (d.get (MTR_RAMP_ACC u) * dt) }

/-- The handover speed in 10⁻⁹ rpm, with the sign of `x`. -/
def Device.hovAs (d : Device) (u : Nat) (x : Int) : Int :=
  if x < 0 then -((d.get (MTR_HOV_HOV u) : Int) * nano) else (d.get (MTR_HOV_HOV u) : Int) * nano

/-- A period in RUN (R353 to R356). -/
def Device.runStep (d : Device) (u vbus : Nat) (s : MotorSample) : Device :=
  let m := d.mot u
  let sref := d.sref u * nano
  let d :=
    if m.pendSync && m.good == 64 then
      (d.up (MTR_UEVT_RESYNC u)).setMot u fun m => { m with pendSync := false, synced := true, okNs := 0 }
    else d.setMot u fun m => { m with okNs := m.okNs + d.pwmNs u }
  let d :=
    if 10000000000 ≤ (d.mot u).okNs ∧ ¬ (d.mot u).pendSync then
      (d.put (MTR_ST_FAILS u) 0).setMot u fun m => { m with synced := false }
    else d
  if m.nref * sref < 0 then
    let d := d.rampStep u vbus (d.hovAs u m.nref)
    if (d.mot u).nref.natAbs ≤ d.get (MTR_HOV_HOV u) * 1000000000 then
      (d.setMot u fun m => { m with ifq := m.nref, loop := { m.loop with ang := s.theta.toNat * ifTurn / 65536 } }).setMotSt u
        (if d.on (MTR_RL_SAL u) then .hfi else .ifRamp)
    else d
  else
    let d := d.rampStep u vbus sref
    if d.on (MTR_RL_SAL u) && decide (10 * s.nEst.natAbs < 8 * d.get (MTR_HOV_HOV u)) then d.setMotSt u .hfi else d

/-- Hand over from IFRAMP to RUN (R352): currents and voltages are carried into the observer's frame, and the speed
integrator keeps the q current. (DEDUCED, log 64.) -/
def Device.handOver (d : Device) (u : Nat) (s : MotorSample) (i : Int × Int × Int) (n : Int) : Device :=
  let f := d.frame u s
  let d := d.enterRun u n
  let q := (toFrame i s.theta.toNat).2
  let e := (n - s.nEst) * nano
  d.setMot u fun m =>
    let v := turnBy (m.loop.intD, m.loop.intQ) (f.1 - s.theta.toNat)
    { m with loop := { m.loop with intD := v.1, intQ := v.2, iqRef := q
                                   intS := q * 10000000000000000000 - d.get (MTR_GS_KPS u) * e * nano } }

/-- A period in IFRAMP (R352, R355): the vector's angle advances, the frequency ramps at IFACC to HOV and holds until the
observer is confident. -/
def Device.ifStep (d : Device) (u : Nat) (s : MotorSample) (i : Int × Int × Int) : Device :=
  let t := d.hovAs u (d.sref u)
  let d := d.setMot u fun m =>
    let a := if m.loop.angDue then s.theta.toNat * ifTurn / 65536 else m.loop.ang
    { m with ifq := toward m.ifq t (d.get (MTR_STB_IFACC u) * d.pwmNs u)
             loop := { m.loop with ang := (a + m.ifq * d.get (MTR_RL_PP u) * d.pwmNs u) % ifTurn, angDue := false } }
  let m := d.mot u
  if m.ifq = t ∧ m.good = 64 then d.handOver u s i (t / nano) else d.setMot u fun m => { m with nref := m.ifq }

/-- A period in HFI (R350, R355): the polarity pulses come before the first ramp; through zero the frequency ramps at IFACC.
(DEDUCED, log 65.) -/
def Device.hfiStep (d : Device) (u vbus : Nat) (s : MotorSample) : Device :=
  let d := d.setMot u fun m =>
    { m with loop := { m.loop with hfi := (m.loop.hfi + d.get (MTR_HFI_FH u) * d.pwmNs u) % 1000000000
                                   pol := m.loop.pol - d.pwmNs u } }
  let m := d.mot u
  if 0 < m.loop.pol then d else
  let sref := d.sref u * nano
  let d :=
    if m.nref * sref < 0 then
      d.setMot u fun m => { m with nref := toward m.nref sref (d.get (MTR_STB_IFACC u) * d.pwmNs u) }
    else d.rampStep u vbus sref
  let m := d.mot u
  if 0 ≤ s.nEst * d.sref u ∧ d.get (MTR_HOV_HOV u) ≤ s.nEst.natAbs ∧ m.good = 64 then
    ((d.setMotSt u .run).up (MTR_UEVT_RUN u))
  else d

/-- A period in BRAKE (R352): zero current above VPAUSE; at standstill a start from rest. -/
def Device.brakeStep (d : Device) (u vbus : Nat) (s : MotorSample) : Device :=
  let vp := d.get (MTR_BUS_VPAUSE u)
  let d := d.setMot u fun m =>
    { m with brkHold := if m.brkHold then decide (vp ≤ vbus + d.get (MTR_BUS2_VHYS u)) else decide (vp < vbus) }
  if s.nEst.natAbs < d.get (MTR_CS_CSMIN u) then d.startRest u else d

/-- A period in STOPPING (R355). -/
def Device.stopStep (d : Device) (u vbus : Nat) (s : MotorSample) : Device :=
  let d := d.rampStep u vbus 0
  if s.nEst.natAbs < d.get (MTR_CS_CSMIN u) then d.motStop u else d

/-- The phase currents are below 2% of IFS (R352, R355). -/
def Device.currentsGone (d : Device) (u : Nat) (s : MotorSample) : Bool :=
  let fs := d.get (MTR_ISC_IFS u)
  decide (50 * s.iu.natAbs < fs) && decide (50 * s.iv.natAbs < fs) && decide (50 * s.iw.natAbs < fs)

/-- One run of the speed controller (R347): KPS and KIS on the error of NREF, limited to ±IMAX. (DEDUCED, log 64.) -/
def Device.speedRun (d : Device) (u : Nat) (s : MotorSample) : Device :=
  d.setMot u fun m =>
    let lim : Int := d.get (MTR_LIM_IMAX u)
    let e := m.nref - s.nEst * nano
    let i := clampI (-(lim * 10000000000000000000)) (lim * 10000000000000000000)
      (m.loop.intS + d.get (MTR_GS_KIS u) * e * (8 * d.pwmNs u))
    { m with loop := { m.loop with intS := i
                                   iqRef := clampI (-lim) lim ((d.get (MTR_GS_KPS u) * e * nano + i) / 10000000000000000000) } }

/-- The d and q current references in 0.01 A (R347, R350, R352). -/
def Device.currentRefs (d : Device) (u : Nat) (s : MotorSample) : Int × Int :=
  let m := d.mot u
  let al : Int := d.get (MTR_STA_IAL u)
  match d.motSt u with
  | .align => (al, 0)
  | .ifRamp => (d.get (MTR_STB_IIF u), 0)
  | .brake => (0, if m.brkHold then 0 else if s.nEst < 0 then d.get (MTR_CS2_IBRK u) else -(d.get (MTR_CS2_IBRK u) : Int))
  | .hfi =>
    if m.loop.pol = 0 then (0, m.loop.iqRef) else if polarityNs / 2 < m.loop.pol then (al, 0) else (-al, 0)
  | _ => (0, m.loop.iqRef)

/-- The current controllers (R347): KPI and KII on the errors, decoupled by LD, LQ and the speed, the injection of R350 added;
integrators stay within the available voltage. (DEDUCED, log 64.) -/
def Device.currentRun (d : Device) (u : Nat) (nNano : Int) (ref i : Int × Int) (lim : Nat) : Device :=
  let pp := d.get (MTR_RL_PP u)
  let kp := d.get (MTR_GI_KPI u)
  let top : Int := (lim : Int) * 100000000
  let step := fun (x e : Int) => clampI (-top) top (x + d.get (MTR_GI_KII u) * e * d.pwmNs u)
  let inj := if d.motSt u = .hfi then
      d.get (MTR_HFI_VH u) * 100 * clampI (-32768) 32768 (Config.hfiWave (d.mot u).loop.hfi) / 32768
    else 0
  d.setMot u fun m =>
    let xd := step m.loop.intD (ref.1 - i.1)
    let xq := step m.loop.intQ (ref.2 - i.2)
    let v := (kp * (ref.1 - i.1) / 100 + xd / 100000000 - speedVoltage nNano pp (d.get (MTR_LDQ_LQ u)) i.2 + inj,
      kp * (ref.2 - i.2) / 100 + xq / 100000000 + speedVoltage nNano pp (d.get (MTR_LDQ_LD u)) i.1)
    { m with loop := { m.loop with id := i.1, iq := i.2, intD := xd, intQ := xq, vd := v.1, vq := v.2 } }

/-- The limit of the voltage vector at V_av, and LIMV for a vector that reaches it or is scaled for a sample (R347, R348,
R353). -/
def Device.voltageLimit (d : Device) (u lim : Nat) : Device :=
  let m := d.mot u
  let v := limitTo (m.loop.vd, m.loop.vq) lim
  (d.putB (MTR_ST_LIMV u) (m.force || decide (lim ≤ magnitude (m.loop.vd, m.loop.vq)))).setMot u fun m =>
    { m with loop := { m.loop with vd := v.1, vq := v.2 } }

/-- Dead-time compensation (R345): each phase gets what it loses, by the sign of its current; in units of half a count. -/
def compensate (dt : Nat) (i v : Int) : Int := if 0 < i then v + dt else if i < 0 then v - dt else v

/-- Scale a vector down until its second phase has a valid sample (R348): `lim` is the largest value that has one. -/
def forceValid (v : Int × Int × Int) (lim : Int) : Int × Int × Int :=
  let m := secondLowest v.1 v.2.1 v.2.2
  if m ≤ lim then v else onPhases (fun x => x * lim / m) v

/-- Compare values of the next period from the vector (R345, R347, R348). (DEDUCED, log 64.) -/
def Device.modulate (d : Device) (u vbus : Nat) (ang : Int) (i : Int × Int × Int) : Device :=
  let top := d.get (MTR_PWM_TOP u)
  let dt := d.get (MTR_PWM_DT u)
  let m := d.mot u
  let v := spaceVector (toPhases (m.loop.vd, m.loop.vq) ang) top vbus
  let c := fun j w => if d.on (MTR_PWM_DTC u) then clampI (-(top : Int)) top (compensate dt j w) else w
  let v := (c i.1 v.1, c i.2.1 v.2.1, c i.2.2 v.2.2)
  let v := if m.force then forceValid v ((top : Int) - 2 * (d.get (MTR_SMP_TSET u) + dt)) else v
  d.setMot u fun m => { m with loop := { m.loop with devU := v.1, devV := v.2.1, devW := v.2.2 } }

/-- LIMS and LIMI of R353. -/
def Device.limitBits (d : Device) (u : Nat) (ref : Int × Int) : Device :=
  let d := d.putB (MTR_ST_LIMS u) (decide ((d.get (MTR_LIM_SMAX u) : Int) * nano ≤ ((d.mot u).nref.natAbs : Int)))
  d.putB (MTR_ST_LIMI u) (decide (d.get (MTR_LIM_IMAX u) ≤ ref.2.natAbs))

/-- The control law of one period (R347): the speed controller every 8 periods, the current controllers, the vector and its
compare values, and the registers that a run of the speed controller updates. (DEDUCED, log 64 and 65.) -/
def Device.control (d : Device) (u vbus : Nat) (s : MotorSample) (i : Int × Int × Int) : Device :=
  let ph := (d.mot u).phase + 1
  let d := d.setMot u fun m => { m with phase := ph % 8 }
  let d := if ph < 8 then d else d.speedRun u s
  let f := d.frame u s
  let ref := d.currentRefs u s
  let lim := vAvailable (d.get (MTR_SMP_MMAX u)) vbus
  let d := (d.currentRun u f.2 ref (toFrame i f.1) lim).voltageLimit u lim
  let d := (d.modulate u vbus f.1 i).limitBits u ref
  if ph < 8 then d
  else
    let l := (d.mot u).loop
    let d := (d.puts (MTR_SPD_SPD u) s.nEst).puts (MTR_SPD_NREF u) ((d.mot u).nref.tdiv nano)
    let d := (d.puts (MTR_IDQ_ID u) l.id).puts (MTR_IDQ_IQ u) l.iq
    (d.put (MTR_VB_VBUS u) vbus).put (MTR_VB_MOD u) (min (modulation (l.vd, l.vq) vbus) (d.get (MTR_SMP_MMAX u)))

/-- One PWM period of unit u (R345 to R357); an under-voltage that meets a stopping unit leaves no run to resume.
(DEDUCED, log 64.) -/
def Device.loopPeriod (d : Device) (u : Nat) (s : MotorSample) : Device :=
  let st := d.motSt u
  let vbus := d.readBus u s
  if st.active && decide (d.get (MTR_BUS_VOVF u) < vbus) then d.motFault u 3
  else if st.driven && decide (vbus < d.get (MTR_BUS2_VUVF u)) then
    ((d.setMotSt u .coast).up (MTR_UEVT_UVBUS u)).setMot u fun m =>
      { m with uvWait := st != .stopping }
  else if st = .coast then
    if !(d.mot u).uvWait && d.currentsGone u s then d.motStop u else d
  else if st.driven then
    let r := d.skipStep u s
    let d := r.2.goodStep u s
    let d := match st with
      | .run => d.runStep u vbus s
      | .ifRamp => d.ifStep u s r.1
      | .hfi => d.hfiStep u vbus s
      | .brake => d.brakeStep u vbus s
      | .stopping => d.stopStep u vbus s
      | _ => d
    if (d.motSt u).driven then d.control u vbus s r.1 else d
  else d

/-! ### Meanings -/

/-- A command of pair B on MTR_CMD. -/
def onMcmd (s : State) (gen : Byte) (f : Device → Status × Device) : Host.Outcome State Fault Refusal :=
  onCtl s fun d => d.motorCmd gen.toNat f

/-- MOTOR_START (R351). -/
def execMotorStart (u : Fin 4) (gen : Byte) (s : State) : Host.Outcome State Fault Refusal :=
  onMcmd s gen fun d => d.motorStart u.val

/-- MOTOR_STOP (R355). -/
def execMotorStop (u : Fin 4) (gen : Byte) (s : State) : Host.Outcome State Fault Refusal :=
  onMcmd s gen fun d => (.ok, d.motorStop u.val)

/-- MOTOR_COAST (R355). -/
def execMotorCoast (u : Fin 4) (gen : Byte) (s : State) : Host.Outcome State Fault Refusal :=
  onMcmd s gen fun d => (.ok, d.motCoast u.val)

/-- MOTOR_CLEAR (R357). -/
def execMotorClear (u : Fin 4) (gen : Byte) (s : State) : Host.Outcome State Fault Refusal :=
  onMcmd s gen fun d => d.motorClear u.val

/-- SPEED_REFERENCE_WRITE (R355). -/
def execSpeedReferenceWrite (u : Fin 4) (sref : Half) (s : State) : Host.Outcome State Fault Refusal :=
  onCtl s fun d => d.srefWrite u.val sref.toNat

/-- MOTOR_DISABLE (R355). -/
def execMotorDisable (u : Fin 4) (s : State) : Host.Outcome State Fault Refusal :=
  onCtl s fun d =>
    if d.sys.appHeld then d
    else (d.motEnWrite (d.get MTR_CTL_EN &&& (15 - 2 ^ u.val))).st uMTR .ok

/-- MOTOR_FENCE (R358). -/
def execMotorFence (mask : BitVec 4) (s : State) : Host.Outcome State Fault Refusal :=
  onCtl s fun d => if d.sys.appHeld then d else (d.fenceMotors mask.toNat).st uMTR .ok

/-- CURRENT_LOOP_PERIOD (R345 to R357). (DEDUCED, log 64.) -/
def execCurrentLoopPeriod (u : Fin 4) (m : MotorSample) (s : State) : Host.Outcome State Fault Refusal :=
  onCtl s fun d => d.loopPeriod u.val m

/-- CATCH_DECAY_DONE (R352). -/
def execCatchDecayDone (u : Fin 4) (s : State) : Host.Outcome State Fault Refusal :=
  onCtl s fun d => if d.motSt u.val = .catch_ then d.setMot u.val fun m => { m with measuring := true } else d

/-- CATCH_MEASURE_DONE (R351, R352). -/
def execCatchMeasureDone (u : Fin 4) (rpm : Int) (s : State) : Host.Outcome State Fault Refusal :=
  onCtl s fun d => if d.motSt u.val = .catch_ ∧ (d.mot u.val).measuring then d.catchDone u.val rpm else d

/-- ALIGN_DONE (R352). -/
def execAlignDone (u : Fin 4) (s : State) : Host.Outcome State Fault Refusal :=
  onCtl s fun d =>
    if d.motSt u.val = .align then (d.setMot u.val fun m => { m with ifq := 0 }).setMotSt u.val .ifRamp else d

/-- NO_HANDOVER_TIMEOUT (R352): 1 s at HOV without a confident observer. -/
def execNoHandoverTimeout (u : Fin 4) (s : State) : Host.Outcome State Fault Refusal :=
  onCtl s fun d =>
    if d.motSt u.val = .ifRamp ∧ (d.mot u.val).ifq = d.hovAs u.val (d.sref u.val) ∧ (d.mot u.val).good < 64 then
      d.motFault u.val 4
    else d

/-- REVERSE_RETRY_TIMER (R351). -/
def execReverseRetryTimer (u : Fin 4) (s : State) : Host.Outcome State Fault Refusal :=
  onCtl s fun d => if d.motSt u.val = .waitRt then d.motCatch u.val false false else d

/-- OBSERVER_LOSS (R356): in RUN above HOV, LOSST without a good period; a loss before the observer was confident is a failed
resync. (DEDUCED, log 65.) -/
def execObserverLoss (u : Fin 4) (s : State) : Host.Outcome State Fault Refusal :=
  onCtl s fun d =>
    let m := d.mot u.val
    if d.motSt u.val = .run ∧ m.good = 0 ∧ d.get (MTR_HOV_HOV u.val) ≤ (d.gets (MTR_SPD_SPD u.val)).natAbs then
      let d := (d.count16 (MTR_LOSSC u.val)).up (MTR_UEVT_LOSS u.val)
      let again := m.pendSync || (m.synced && decide (m.okNs < 10000000000))
      let d := d.setMot u.val fun m => { m with synced := false }
      if again then d.resyncFailed u.val else d.motCatch u.val true false
    else d

/-- RESYNC_TIMEOUT (R356). -/
def execResyncTimeout (u : Fin 4) (s : State) : Host.Outcome State Fault Refusal :=
  onCtl s fun d => if d.motSt u.val = .run ∧ (d.mot u.val).pendSync then d.resyncFailed u.val else d

/-- PHASE_OVER_CURRENT (R343, R357). -/
def execPhaseOverCurrent (u : Fin 4) (s : State) : Host.Outcome State Fault Refusal := onCtl s fun d => d.motFault u.val 1

/-- STAGE_FAULT (R357). -/
def execStageFault (u : Fin 4) (s : State) : Host.Outcome State Fault Refusal := onCtl s fun d => d.motFault u.val 2

/-- CONVERTER_SELF_CHECK (R357). -/
def execConverterSelfCheck (u : Fin 4) (within1pc : Bool) (s : State) : Host.Outcome State Fault Refusal :=
  onCtl s fun d => if within1pc then d else d.motFault u.val 7

/-- BUS_UV_RECOVERY (R357). -/
def execBusUvRecovery (u : Fin 4) (s : State) : Host.Outcome State Fault Refusal :=
  onCtl s fun d => if d.motSt u.val = .coast ∧ (d.mot u.val).uvWait then d.motCatch u.val false true else d

/-- MOTOR_LANE_FAULT (R344). -/
def execMotorLaneFault (u : Fin 4) (s : State) : Host.Outcome State Fault Refusal := onCtl s fun d => d.motFault u.val 6

end Sys2Proof.Machine
end

