-- ==== Sys2Proof/Machine/Loads.lean ====
section
/-! DEFINITION. LSW: the sixteen protected load channels (R361 to R376). -/

namespace Sys2Proof.Machine

abbrev uLSW : Nat := 0x60160000

def LoadSt.code : LoadSt → Nat
  | .off => 0 | .inrush => 1 | .on_ => 2 | .pause => 3 | .latched => 4 | .locked => 5 | .supply => 6 | .fenced => 7

def LoadSt.ofCode (n : Nat) : LoadSt :=
  match n with
  | 1 => .inrush | 2 => .on_ | 3 => .pause | 4 => .latched | 5 => .locked | 6 => .supply | 7 => .fenced | _ => .off

def Device.loadSt (d : Device) (n : Nat) : LoadSt := LoadSt.ofCode (d.get (LSW_CST_STATE n))
def Device.load (d : Device) (n : Nat) : Load := (d.lsw[n]?).getD Load.reset
def Device.setLoad (d : Device) (n : Nat) (f : Load → Load) : Device :=
  { d with lsw := d.lsw.setIfInBounds n (f (d.load n)) }

/-- The bit of channel n in LSW_OUT (R364). -/
def loadOut (n : Nat) : Fld := ⟨LSW_OUT, n, 1⟩

/-- Enter a state; the off-state reads and a deferral start anew. (DEDUCED, log 67.) -/
def Device.setLoadSt (d : Device) (n : Nat) (st : LoadSt) : Device :=
  ((d.put (LSW_CST_STATE n) st.code).put (LSW_CST_DEF n) 0).setLoad n fun v =>
    { v with openRun := 0, stbRun := 0, lowRun := 0, pauseMs := 0 }

/-- Channels of segment j (R361). -/
def segChannels (j : Nat) : List Nat := [4 * j, 4 * j + 1, 4 * j + 2, 4 * j + 3]

/-- Condition of segment j in LSW_SUP (R372). -/
def segFld (j : Nat) : Fld := ⟨LSW_SUP, 2 * j, 2⟩

/-- Another channel of the segment is in INRUSH (R367). -/
def Device.neighbourInrush (d : Device) (n : Nat) : Bool :=
  (segChannels (n / 4)).any fun k => k != n && d.loadSt k == .inrush

/-- A retry of channel n: it turns on, or defers behind a neighbour's inrush window (R367). -/
def Device.retryLoad (d : Device) (n : Nat) : Device :=
  if d.neighbourInrush n then (d.setLoadSt n .pause).put (LSW_CST_DEF n) 1 else d.setLoadSt n .inrush

/-- The lowest deferred retry of segment j runs once no channel of it is in INRUSH (R367). -/
def Device.deferredRetry (d : Device) (j : Nat) : Device :=
  if (segChannels j).any fun k => d.loadSt k == .inrush then d
  else
    match (segChannels j).find? fun k => d.loadSt k == .pause && d.on (LSW_CST_DEF k) with
    | some n => d.setLoadSt n .inrush
    | none => d

/-- Fence channel n (R375). -/
def Device.fenceLoad (d : Device) (n : Nat) : Device :=
  ((((d.put LSW_FENCE_FEN (d.get LSW_FENCE_FEN ||| 2 ^ n)).put (loadOut n) 0).setLoadSt n .fenced).up (LSW_CEVT_FENCE n))

/-- Status of a turn-on command of channel n (R364). -/
def Device.turnOnStatus (d : Device) (n : Nat) : Status :=
  match d.loadSt n with
  | .fenced => .fenced
  | .latched => .reject
  | .locked => .reject
  | _ => if d.on LSW_CTL_EN then .ok else .reject

/-- Turn channel n on (R364). (DEDUCED, log 67.) -/
def Device.turnOn (d : Device) (n : Nat) : Device :=
  if d.turnOnStatus n ≠ .ok then d
  else
    let d := d.put (loadOut n) 1
    if d.loadSt n = .off then d.setLoadSt n .inrush else d

/-- A turn-off command (R364); CNT returns to 0 on every one, also in the states that only clear the bit (R366).
(DEDUCED, log 67.) -/
def Device.turnOff (d : Device) (n : Nat) : Device :=
  let d := (d.put (loadOut n) 0).put (LSW_CST_CNT n) 0
  match d.loadSt n with
  | .latched => d
  | .locked => d
  | .supply => d
  | .fenced => d
  | .off => d
  | _ => d.setLoadSt n .off

/-- Channels whose bits are set in a mask. -/
def loadsOf (mask : Nat) : List Nat := (List.range 16).filter mask.testBit

/-- A write of LSW_SET (R364, R365): the lowest refused channel gives the status. (DEDUCED, log 42 and 67.) -/
def Device.lswSet (d : Device) (mask : Nat) : Device :=
  if d.sys.appHeld then d
  else if d.fieldBusy then d.st uLSW .busy
  else
    let st := (((loadsOf mask).map d.turnOnStatus).find? fun st => st != .ok).getD .ok
    ((loadsOf mask).foldl (fun d n => d.turnOn n) d).st uLSW st

/-- A write of LSW_CLR (R364, R365). -/
def Device.lswClr (d : Device) (mask : Nat) : Device :=
  if d.sys.appHeld then d
  else if d.fieldBusy then d.st uLSW .busy
  else ((loadsOf mask).foldl (fun d n => d.turnOff n) d).st uLSW .ok

/-- A write of LSW_LCLR (R368, R365). -/
def Device.lswLclr (d : Device) (mask : Nat) : Device :=
  if d.sys.appHeld then d
  else if d.fieldBusy then d.st uLSW .busy
  else
    ((loadsOf mask).foldl (fun d n =>
      if d.loadSt n = .latched then (d.setLoadSt n .off).put (LSW_CST_CNT n) 0 else d) d).st uLSW .ok

/-- Every channel but a fenced one goes OFF with its command cleared (R364, R373, R321); a channel in SUPPLY stays there.
(DEDUCED, log 67.) -/
def Device.loadsOff (d : Device) : Device :=
  (List.range 16).foldl (fun d n =>
    let d := d.put (loadOut n) 0
    match d.loadSt n with
    | .fenced => d
    | .supply => (d.put (LSW_CST_CNT n) 0).setLoad n fun v => { v with before := .off }
    | _ => (d.setLoadSt n .off).put (LSW_CST_CNT n) 0) d

/-- A write of LSW_CTL.EN (R364). (DEDUCED, log 67.) -/
def Device.lswEnWrite (d : Device) (en : Bool) : Device :=
  let d := d.putB LSW_CTL_EN en
  if en then d else d.loadsOff

/-- A write of LSW_FENCE (R375). (DEDUCED, log 66.) -/
def Device.fenceLoads (d : Device) (mask : Nat) : Device :=
  (loadsOf mask).foldl (fun d n => if (d.get LSW_FENCE_FEN).testBit n then d else d.fenceLoad n) d

/-- The pause p_k in ms that follows the k-th consecutive over-current (R366). -/
def retryPause (k : Nat) : Nat := min 2560 (10 * 2 ^ (k - 1))

/-- An over-current of channel n (R366); one that meets a supply fault is counted only (R376). (DEDUCED, log 67.) -/
def Device.overCurrent (d : Device) (n : Nat) : Device :=
  let st := d.loadSt n
  let inSupply := st == .supply && ((d.load n).before == .inrush || (d.load n).before == .on_)
  if st = .inrush ∨ st = .on_ ∨ inSupply then
    let c := min 15 (d.get (LSW_CST_CNT n) + 1)
    let d := ((d.put (LSW_CST_CNT n) c).count16 (LSW_OCCNT n)).up (LSW_CEVT_OC n)
    if inSupply then d
    else if d.get (LSW_CCFG_RETRY n) ≤ c then
      ((d.setLoadSt n .latched).put (loadOut n) 0).up (LSW_CEVT_LATCH n)
    else (d.setLoadSt n .pause).setLoad n fun v => { v with pauseMs := retryPause c }
  else d

/-- The condition that holds a channel in SUPPLY (R372). -/
def Device.supplyBad (d : Device) (n : Nat) : Bool := d.on (segFld (n / 4)) || d.on LSW_SUP_GNDL

/-- A supply or ground fault meets channel n (R372). (DEDUCED, log 67.) -/
def Device.intoSupply (d : Device) (n : Nat) (evt : Fld) : Device :=
  match d.loadSt n with
  | .fenced => d.up evt
  | .supply => d.up evt
  | st => ((d.setLoadSt n .supply).setLoad n fun v => { v with before := st }).up evt

/-- Channel n after its segment and its ground are sound again (R372). (DEDUCED, log 67.) -/
def Device.outOfSupply (d : Device) (n : Nat) : Device :=
  if d.loadSt n ≠ .supply ∨ d.supplyBad n then d
  else if d.on (loadOut n) then d.retryLoad n
  else
    match (d.load n).before with
    | .latched => d.setLoadSt n .latched
    | .locked => d.setLoadSt n .locked
    | _ => d.setLoadSt n .off

/-- A clamp pulse of an energy in 0.1 mJ ends (R371). -/
def Device.clampEnd (d : Device) (n energy : Nat) : Device :=
  let d := d.put (LSW_CLE_E n) (min 0xFFFF energy)
  let d := d.when_ (decide (1000 < energy)) fun d => d.up (LSW_CEVT_CLHI n)
  if !d.on (LSW_CCFG_CLM n) then d
  else
    let sum := min 0xFFFFFFFF (d.get (LSW_CEACC_ACC n) + energy)
    let d := d.put (LSW_CEACC_ACC n) sum
    if sum < 10 * d.get (LSW_CEB_BUDGET n) then d
    else
      match d.loadSt n with
      | .fenced => d
      | .locked => d
      | .supply =>
        if (d.load n).before = .locked then d
        else ((d.put (loadOut n) 0).up (LSW_CEVT_LOCK n)).setLoad n fun v => { v with before := .locked }
      | _ => ((d.setLoadSt n .locked).put (loadOut n) 0).up (LSW_CEVT_LOCK n)

/-- A write of zero to LSW_CEACC (R371). -/
def Device.ceaccClear (d : Device) (n : Nat) : Device :=
  let d := d.put (LSW_CEACC_ACC n) 0
  match d.loadSt n with
  | .locked => d.setLoadSt n .off
  | .supply => if (d.load n).before = .locked then d.setLoad n fun v => { v with before := .off } else d
  | _ => d

/-- A read of the output of an OFF channel with OFFD = 1, in mV (R370). -/
def Device.offRead (d : Device) (n : Nat) (mv : Int) : Device :=
  if d.loadSt n = .off ∧ d.on (LSW_CCFG_OFFD n) then
    let band := decide (3000 ≤ mv) && decide (mv ≤ 6000)
    let high := decide (7000 < mv)
    let low := decide (mv < 3000)
    let d := d.setLoad n fun v =>
      { v with openRun := if band then min 3 (v.openRun + 1) else 0
               stbRun := if high then min 3 (v.stbRun + 1) else 0
               lowRun := if low then min 3 (v.lowRun + 1) else 0 }
    let v := d.load n
    let d := if v.openRun = 3 ∧ ¬ d.on (LSW_CST_OPENL n) then (d.put (LSW_CST_OPENL n) 1).up (LSW_CEVT_OPENL n) else d
    let d := if v.stbRun = 3 ∧ ¬ d.on (LSW_CST_STB n) then (d.put (LSW_CST_STB n) 1).up (LSW_CEVT_STB n) else d
    if v.lowRun = 3 then (d.put (LSW_CST_OPENL n) 0).put (LSW_CST_STB n) 0 else d
  else d

/-- The field die powers LSW: with its outputs off, no event of a channel has effect. -/
def onField (s : State) (f : Device → Device) : Host.Outcome State Fault Refusal :=
  onDev s fun d => if d.fd.outputsOff then d else f d

/-! ### Meanings -/

/-- LOAD_TURN_ON (R364). -/
def execLoadTurnOn (mask : BitVec 16) (s : State) : Host.Outcome State Fault Refusal := onCtl s fun d => d.lswSet mask.toNat

/-- LOAD_TURN_OFF (R364). -/
def execLoadTurnOff (mask : BitVec 16) (s : State) : Host.Outcome State Fault Refusal := onCtl s fun d => d.lswClr mask.toNat

/-- LATCH_CLEAR (R368). -/
def execLatchClear (mask : BitVec 16) (s : State) : Host.Outcome State Fault Refusal := onCtl s fun d => d.lswLclr mask.toNat

/-- INRUSH_END (R363, R366): a current above 6 A meets the 6 A limit, whose time runs from here. -/
def execInrushEnd (n : Fin 16) (_aboveLimit : Bool) (s : State) : Host.Outcome State Fault Refusal :=
  onField s fun d => if d.loadSt n.val = .inrush then d.setLoadSt n.val .on_ else d

/-- LOAD_OVER_CURRENT (R366). -/
def execLoadOverCurrent (n : Fin 16) (s : State) : Host.Outcome State Fault Refusal := onField s fun d => d.overCurrent n.val

/-- RETRY_DUE (R367). -/
def execRetryDue (n : Fin 16) (s : State) : Host.Outcome State Fault Refusal :=
  onField s fun d => if d.loadSt n.val = .pause ∧ ¬ d.on (LSW_CST_DEF n.val) then d.retryLoad n.val else d

/-- DEFERRED_RETRY (R367). -/
def execDeferredRetry (j : Fin 4) (s : State) : Host.Outcome State Fault Refusal := onField s fun d => d.deferredRetry j.val

/-- OVER_CURRENT_COUNT_RESET (R366). -/
def execOverCurrentCountReset (n : Fin 16) (s : State) : Host.Outcome State Fault Refusal :=
  onField s fun d => if d.loadSt n.val = .on_ then d.put (LSW_CST_CNT n.val) 0 else d

/-- OPEN_LOAD_DETECT (R369). -/
def execOpenLoadDetect (n : Fin 16) (below : Bool) (s : State) : Host.Outcome State Fault Refusal :=
  onField s fun d =>
    if d.loadSt n.val = .on_ ∧ d.on (LSW_CCFG_OLR n.val) then
      if below then
        if d.on (LSW_CST_OPENL n.val) then d else (d.put (LSW_CST_OPENL n.val) 1).up (LSW_CEVT_OPENL n.val)
      else d.put (LSW_CST_OPENL n.val) 0
    else d

/-- OFF_STATE_DIAG (R370). -/
def execOffStateDiag (n : Fin 16) (mv : Int) (s : State) : Host.Outcome State Fault Refusal := onField s fun d => d.offRead n.val mv

/-- CLAMP_PULSE_END (R371). -/
def execClampPulseEnd (n : Fin 16) (energy : Nat) (s : State) : Host.Outcome State Fault Refusal :=
  onDev s fun d => d.clampEnd n.val energy

/-- CLAMP_ENERGY_CLEAR (R371). -/
def execClampEnergyClear (n : Fin 16) (s : State) : Host.Outcome State Fault Refusal :=
  onCtl s fun d => if d.sys.appHeld then d else (d.ceaccClear n.val).st uLSW .ok

/-- SEGMENT_SUPPLY_FAULT (R372). -/
def execSegmentSupplyFault (j : Fin 4) (f : SegFault) (s : State) : Host.Outcome State Fault Refusal :=
  onDev s fun d =>
    let d := d.put (segFld j.val) (match f with | .underVoltage => 1 | .surge => 2 | .reverse => 3)
    (segChannels j.val).foldl (fun d n => d.intoSupply n (LSW_CEVT_SUP n)) d

/-- GROUND_LOSS (R372). -/
def execGroundLoss (s : State) : Host.Outcome State Fault Refusal :=
  onDev s fun d => (List.range 16).foldl (fun d n => d.intoSupply n (LSW_CEVT_GNDL n)) (d.put LSW_SUP_GNDL 1)

/-- SUPPLY_RESTORED (R372): the channels that nothing holds in SUPPLY any more leave it, the lowest first. -/
def execSupplyRestored (r : Restored) (s : State) : Host.Outcome State Fault Refusal :=
  onDev s fun d =>
    let d := match r with
      | .segment j => d.put (segFld j.val) 0
      | .ground => d.put LSW_SUP_GNDL 0
    (List.range 16).foldl (fun d n => d.outOfSupply n) d

/-- STUCK_ON (R374): a channel that conducts while commanded off; in reverse supply it is meant to conduct. -/
def execStuckOn (n : Fin 16) (s : State) : Host.Outcome State Fault Refusal :=
  onDev s fun d =>
    match d.loadSt n.val with
    | .off => (d.up (LSW_CEVT_STUCK n.val)).fenceLoad n.val
    | .pause => (d.up (LSW_CEVT_STUCK n.val)).fenceLoad n.val
    | .supply => if d.get (segFld (n.val / 4)) = 3 then d else (d.up (LSW_CEVT_STUCK n.val)).fenceLoad n.val
    | _ => d

/-- LOAD_FENCE (R375). -/
def execLoadFence (mask : BitVec 16) (s : State) : Host.Outcome State Fault Refusal :=
  onCtl s fun d => if d.sys.appHeld then d else (d.fenceLoads mask.toNat).st uLSW .ok

end Sys2Proof.Machine
end

