-- ==== Sys2Proof/Machine/Can.lean ====
section
/-! DEFINITION. CAN: the four CAN FD controllers (R377 to R390). -/

namespace Sys2Proof.Machine

/-- Unit base of controller c (R53). -/
abbrev uCAN (c : Nat) : Nat := 0x60180000 + 0x4000 * c

def Device.cn (d : Device) (c : Nat) : CanCtl := (d.can[c]?).getD ⟨none⟩
def Device.setCur (d : Device) (c : Nat) (m : Option (Fin 128)) : Device :=
  { d with can := d.can.setIfInBounds c ⟨m⟩ }

/-- CAN_BST.STATE codes. -/
abbrev canOffline : Nat := 0
abbrev canJoining : Nat := 1
abbrev canIdle : Nat := 2
abbrev canReceiving : Nat := 3
abbrev canSending : Nat := 4
abbrev canRecovering : Nat := 5

def Device.canSt (d : Device) (c : Nat) : Nat := d.get (CAN_BST_STATE c)
def Device.setCanSt (d : Device) (c v : Nat) : Device := d.put (CAN_BST_STATE c) v

/-- Bits of object m in CAN_TXREQ and CAN_TXABT. -/
def txReqFld (c m : Nat) : Fld := ⟨CAN_TXREQ c (m / 32), m % 32, 1⟩
def txAbtFld (c m : Nat) : Fld := ⟨CAN_TXABT c (m / 32), m % 32, 1⟩

/-- Transmission of object m is requested. -/
def Device.txPending (d : Device) (c m : Nat) : Bool := d.on (txReqFld c m)

/-- A request ends without success (R382). -/
def Device.txAborted (d : Device) (c m : Nat) : Device :=
  ((d.put (txReqFld c m) 0).put (txAbtFld c m) 0).put (CAN_OSTAT_ABTD c m) 1

/-- Abort every pending request but that of the frame on the bus, which ends with its frame (R387). -/
def Device.abortAll (d : Device) (c : Nat) : Device :=
  (List.range 128).foldl (fun d m => if d.txPending c m then d.txAborted c m else d) d

/-! ### Counters and confinement (R386) -/

/-- Set the error counters and the confinement state that follows; a transmit counter above 255 is bus-off. In restricted
operation the counters stand still. -/
def Device.setErr (d : Device) (c tx rx : Nat) : Device :=
  if d.on (CAN_CTL_ACKONLY c) then d
  else
    let rx := min 255 rx
    let off := decide (256 ≤ tx)
    let d := (d.put (CAN_ERRC_TXE c) (min 256 tx)).put (CAN_ERRC_RXE c) rx
    let d := d.putB (CAN_ERRC_RXPASS c) (decide (128 ≤ rx))
    let pas := decide (128 ≤ tx) || decide (128 ≤ rx)
    let warn := decide (96 ≤ tx) || decide (96 ≤ rx)
    let d := d.when_ (pas && !d.on (CAN_BST_PASSIVE c)) fun d => d.up (CAN_EVT_PASSIVE c)
    let d := d.when_ (warn && !d.on (CAN_BST_WARN c)) fun d => d.up (CAN_EVT_WARN c)
    let d := (d.putB (CAN_BST_PASSIVE c) pas).putB (CAN_BST_WARN c) warn
    if off && !d.on (CAN_BST_BUSOFF c) then
      (((d.put (CAN_BST_BUSOFF c) 1).up (CAN_EVT_BUSOFF c)).put (CAN_CTL_OFFL c) (if d.on (CAN_CTL_AUTORCV c) then 0 else 1))
    else d

/-- Record and count an error in its phase (R386). (PRESUMED, log 68.) -/
def Device.canFault (d : Device) (c code : Nat) (data : Bool) : Device :=
  (if data then d.put (CAN_BST_DERR c) code else d.put (CAN_BST_NERR c) code).count32 (CAN_ERRCNT c) 2

/-- The bus is free again after a frame or an error: the controller idles, goes offline, or recovers (R378, R386).
(PRESUMED, log 68.) -/
def Device.canRest (d : Device) (c : Nat) : Device :=
  let d := d.setCur c none
  if d.on (CAN_CTL_OFFL c) then d.setCanSt c canOffline
  else if d.on (CAN_BST_BUSOFF c) then d.setCanSt c canRecovering
  else d.setCanSt c canIdle

/-- The alone count and flag end (R387). -/
def Device.notAlone (d : Device) (c : Nat) : Device := (d.put (CAN_ALC_ACNT c) 0).put (CAN_BST_ALONE c) 0

/-! ### Transmission (R382, R387, R388) -/

/-- Order of pending objects: identifier as 29 bits, base before extended, object number. (PRESUMED, log 68.) -/
def Device.txKey (d : Device) (c m : Nat) : Nat :=
  let x := d.get (CAN_OID_XTD c m)
  let id := d.get (CAN_OID_ID c m)
  ((if x = 1 then id else (id % 2048) * 262144) * 2 + x) * 128 + m

/-- The object that enters arbitration (R382). -/
def Device.txChoice (d : Device) (c : Nat) : Option (Fin 128) :=
  ((List.finRange 128).filter fun m =>
      d.txPending c m.val && d.on (CAN_OCFG_EN c m.val) && d.on (CAN_OCFG_DIR c m.val)).foldl
    (fun best m => match best with
      | none => some m
      | some b => if d.txKey c m.val < d.txKey c b.val then some m else some b) none

/-- An attempt to send object m failed: single shot and a waiting abort end the request (R382).
(PRESUMED, log 68; DEDUCED, log 69.) -/
def Device.txFailed (d : Device) (c m : Nat) : Device :=
  if d.on (CAN_OCFG_SSHOT c m) || d.on (txAbtFld c m) then d.txAborted c m else d

/-- Secondary sample point of a frame sent with BRS, in LNK cycles (R380). -/
def Device.ssp (d : Device) (c : Nat) : Nat :=
  let ofs := d.get (CAN_SSP_SSPOFS c)
  let half := ((d.get (CAN_DTIM_DPRE c) + 1) * (3 + d.get (CAN_DTIM_DPH1 c) + d.get (CAN_DTIM_DPH2 c)) + 1) / 2
  d.get (CAN_SSP_LOOPDLY c) + (if ofs = 0 then half else ofs)

/-- The loop delay measured in a frame, and the limit of the secondary sample point (R380). -/
def Device.measureLoop (d : Device) (c m : Nat) (dly : Option (BitVec 7)) : Device :=
  if d.on (CAN_DTIM_SSPEN c) && d.on (CAN_CTL_FDEN c) && d.on (CAN_CTL_RSWEN c) && d.on (CAN_OCTL_FDF c m) &&
      d.on (CAN_OCTL_BRS c m) then
    let d := match dly with
      | some v => if d.get (CAN_SSP_MINEDGE c) ≤ v.toNat then d.put (CAN_SSP_LOOPDLY c) v.toNat else d
      | none => d
    if 127 < d.ssp c then d.up (CAN_EVT_SSPLIM c) else d
  else d

/-- The frame of object m ends (R382, R386 to R388). (PRESUMED, log 68.) -/
def Device.txEnd (d : Device) (c m : Nat) (e : CanTxEnd) : Device :=
  let tx := d.get (CAN_ERRC_TXE c)
  let rx := d.get (CAN_ERRC_RXE c)
  match e with
  | .ok dly =>
    let d := (d.measureLoop c m dly).setErr c (tx - 1) rx
    let d := (((d.put (txReqFld c m) 0).put (txAbtFld c m) 0).put (CAN_OSTAT_TXOK c m) 1).put (CAN_OSTAT_COLCNT c m) 0
    ((d.count32 (CAN_TXCNT c) 1).notAlone c).canRest c
  | .ackError =>
    let d := d.canFault c 1 false
    let d := if d.on (CAN_BST_PASSIVE c) then d else d.setErr c (tx + 8) rx
    let n := min 63 (d.get (CAN_ALC_ACNT c) + 1)
    let d := d.put (CAN_ALC_ACNT c) n
    let first := decide (32 ≤ n) && !d.on (CAN_BST_ALONE c)
    let d := d.when_ first fun d => (d.put (CAN_BST_ALONE c) 1).up (CAN_EVT_ALONE c)
    let d :=
      if d.on (CAN_BST_ALONE c) && d.on (CAN_CTL_ALABT c) then (if first then d.abortAll c else d.txAborted c m)
      else d.txFailed c m
    d.canRest c
  | .bitErrorRecessive data =>
    let d := (d.canFault c 3 data).setErr c (tx + 8) rx
    let col := min 15 (d.get (CAN_OSTAT_COLCNT c m) + 1)
    let d := ((d.put (CAN_OSTAT_COLCNT c m) col).count32 (CAN_IDCC c) 3).put (CAN_IDC_IDCOBJ c) m
    let hit := col == d.get (CAN_IDC_IDCTH c)
    let d := d.when_ hit fun d => d.up (CAN_EVT_IDCOL c)
    (if hit && d.on (CAN_CTL_IDCABT c) then d.txAborted c m else d.txFailed c m).canRest c
  | .otherError code data => (((d.canFault c code.toNat data).setErr c (tx + 8) rx).txFailed c m).canRest c
  | .lostArbitration => ((d.txFailed c m).setCur c none).setCanSt c canReceiving

/-- A write of CAN_TXREQ[j] (R382). -/
def Device.txRequest (d : Device) (c j mask : Nat) : Device :=
  let ms := ((List.range 32).filter mask.testBit).map (32 * j + ·)
  let ok := fun m => d.on (CAN_OCFG_EN c m) && d.on (CAN_OCFG_DIR c m)
  (ms.foldl (fun d m => if ok m then d.put (txReqFld c m) 1 else d) d).st (uCAN c) (if ms.all ok then .ok else .reject)

/-- A write of CAN_TXABT[j] (R382): an object on the bus ends with its frame. (DEDUCED, log 69.) -/
def Device.txAbort (d : Device) (c j mask : Nat) : Device :=
  let ms := ((List.range 32).filter mask.testBit).map (32 * j + ·)
  (ms.foldl (fun d m =>
    if !d.txPending c m then d
    else if ((d.cn c).cur.map (·.val)) = some m then d.put (txAbtFld c m) 1
    else d.txAborted c m) d).st (uCAN c) .ok

/-- OFFL is written (R378, R386); a frame on the bus ends first. -/
def Device.offlWrite (d : Device) (c : Nat) (offl : Bool) : Device :=
  let st := d.canSt c
  let d := d.putB (CAN_CTL_OFFL c) offl
  if offl then (if st = canSending ∨ st = canReceiving then d else d.setCanSt c canOffline)
  else if st = canOffline then d.setCanSt c (if d.on (CAN_BST_BUSOFF c) then canRecovering else canJoining)
  else d

/-! ### Reception (R383 to R385) -/

/-- Filter element e matches a frame (R384): TYPE 0b01 is mask and match, as its list says. (DEDUCED, log 69.) -/
def Device.filterHit (d : Device) (c e : Nat) (f : CanFrame) : Bool :=
  let cut := fun (v : Nat) => if f.xtd then v % 2 ^ 29 else v % 2048
  let id := cut f.id.toNat
  let id1 := cut (d.get (CAN_FLT0_ID1 c e))
  let id2 := cut (d.get (CAN_FLT1_ID2 c e))
  d.get (CAN_FLT2_ACT c e) < 2 && (d.on (CAN_FLT0_XTD c e) == f.xtd) &&
    match d.get (CAN_FLT0_TYPE c e) with
    | 1 => id &&& id2 == id1 &&& id2
    | 2 => decide (id1 ≤ id) && decide (id ≤ id2)
    | 3 => id == id1 || id == id2
    | _ => false

/-- Data bytes of a DLC (ISO 11898-1). -/
def dlcBytes (fdf : Bool) (dlc : Nat) : Nat :=
  if dlc ≤ 8 then dlc
  else if !fdf then 8
  else match dlc with | 9 => 12 | 10 => 16 | 11 => 20 | 12 => 24 | 13 => 32 | 14 => 48 | _ => 64

/-- Word k of the data of a stored frame; bytes beyond the length read zero (R381). -/
def frameWord (f : CanFrame) (k : Nat) : Nat :=
  let n := if f.rtr then 0 else dlcBytes f.fdf f.dlc.toNat
  (List.range 4).foldl (fun acc i =>
    let b := 4 * k + i
    acc + (if b < n then ((f.data[b]?).getD 0#8).toNat * 256 ^ i else 0)) 0

/-- A frame of object m is lost (R383). -/
def Device.canLost (d : Device) (c m : Nat) : Device :=
  ((d.put (CAN_OSTAT_LOST c m) 1).count32 (CAN_LOSTC c) 4).up (CAN_EVT_LOST c)

/-- A time stamp: nanoseconds below 10⁹ in bits 29:0, two bits of the seconds above (R381). -/
def canTs (v : BitVec 32) : BitVec 32 := BitVec.ofNat 32 (v.toNat / 2 ^ 30 * 2 ^ 30 + v.toNat % 2 ^ 30 % 1000000000)

/-- Store a frame in object m (R383). (DESIGN CHOICE, log 16.) -/
def Device.canStore (d : Device) (c m idx : Nat) (f : CanFrame) : Device :=
  if !d.on (CAN_OCFG_EN c m) || d.on (CAN_OCFG_DIR c m) then d.canLost c m
  else
    let full := d.on (CAN_OSTAT_NEW c m)
    let d := d.when_ full fun d => d.canLost c m
    if full && d.on (CAN_OCFG_OWP c m) then d
    else
      let id := (if f.xtd then f.id.toNat else f.id.toNat % 2048) + Bool.bit f.xtd * 2 ^ 29 + Bool.bit (f.rtr && !f.fdf) * 2 ^ 30
      let d := d.rset (CAN_OID c m) (BitVec.ofNat 32 id)
      let ctl := f.dlc.toNat + 16 * Bool.bit f.fdf + 32 * Bool.bit f.brs + 64 * Bool.bit f.esi
      let d := d.rset (CAN_OCTL c m) (BitVec.ofNat 32 ctl)
      let (k, d) := d.fresh
      let d := d.rset (CAN_OTS c m) (canTs (Config.canStamp k))
      let d := (List.range 16).foldl (fun d w => d.rset (CAN_ODATA c m w) (BitVec.ofNat 32 (frameWord f w))) d
      ((d.put (CAN_OSTAT_FIDX c m) idx).put (CAN_OSTAT_NEW c m) 1).count32 (CAN_RXCNT c) 0

/-- A valid frame has been received (R383 to R387, R390). (DESIGN CHOICE, log 16.) -/
def Device.canReceive (d : Device) (c : Nat) (f : CanFrame) : Device :=
  let tx := d.get (CAN_ERRC_TXE c)
  let rx := d.get (CAN_ERRC_RXE c)
  let (k, d) := d.fresh
  let d := d.setErr c tx (if 127 < rx then 119 + Config.canRecStep k % 9 else rx - 1)
  let d := d.notAlone c
  let d :=
    if f.ecc then d.up (CAN_EVT_INTG c)
    else
      match (List.range (d.get (CAN_FLC_NFE c))).find? fun e => d.filterHit c e f with
      | some e => if d.get (CAN_FLT2_ACT c e) = 0 then d.canStore c (d.get (CAN_FLT2_OBJ c e)) e f else d
      | none =>
        if d.on (CAN_FLC_CATCH c) then
          let (k, d) := d.fresh
          d.canStore c (d.get (CAN_FLC_CATCHOBJ c)) (Config.canCatchIndex k).toNat f
        else d
  d.canRest c

/-- The code of a protocol error (R377): with PXFORM = 1 a recessive res bit is a form error. -/
def Device.canCode (d : Device) (c : Nat) (e : CanErr) : BitVec 4 :=
  if e.code = 7#4 ∧ d.on (CAN_CTL_PXFORM c) then 5#4 else e.code

/-- A protocol error outside a transmission that CAN_TX_COMPLETE ends (R377, R386). (PRESUMED, log 68.) -/
def Device.canError (d : Device) (c : Nat) (e : CanErr) : Device :=
  let tx := d.get (CAN_ERRC_TXE c)
  let rx := d.get (CAN_ERRC_RXE c)
  let code := d.canCode c e
  if code = 7#4 then
    if d.on (CAN_CTL_OFFL c) then ((d.put (CAN_BST_NERR c) 7).up (CAN_EVT_PXCP c)).canRest c
    else (((d.put (CAN_BST_NERR c) 7).up (CAN_EVT_PXCP c)).setCur c none).setCanSt c canJoining
  else
    let d := d.canFault c code.toNat e.data
    let d := if e.tx then d.setErr c (tx + 8) rx else d.setErr c tx (rx + if e.heavy then 8 else 1)
    let d := match (d.cn c).cur with | some m => d.txFailed c m.val | none => d
    d.canRest c

/-- Controller c takes part in traffic. -/
def Device.onBus (d : Device) (c : Nat) : Bool :=
  d.canSt c == canIdle || d.canSt c == canReceiving || d.canSt c == canSending

/-! ### Meanings -/

/-- CAN_OFFLINE_WRITE (R378, R386). -/
def execCanOfflineWrite (c : Fin 4) (offl : Bool) (s : State) : Host.Outcome State Fault Refusal :=
  onCtl s fun d => if d.sys.appHeld then d else (d.offlWrite c.val offl).st (uCAN c.val) .ok

/-- CAN_INTEGRATED (R378). -/
def execCanIntegrated (c : Fin 4) (s : State) : Host.Outcome State Fault Refusal :=
  onCtl s fun d => if d.canSt c.val = canJoining then d.setCanSt c.val canIdle else d

/-- CAN_TX_REQUEST (R382). -/
def execCanTxRequest (c j : Fin 4) (mask : Word) (s : State) : Host.Outcome State Fault Refusal :=
  onCtl s fun d => if d.sys.appHeld then d else d.txRequest c.val j.val mask.toNat

/-- CAN_TX_ABORT (R382). -/
def execCanTxAbort (c j : Fin 4) (mask : Word) (s : State) : Host.Outcome State Fault Refusal :=
  onCtl s fun d => if d.sys.appHeld then d else d.txAbort c.val j.val mask.toNat

/-- CAN_ARBITRATION_START (R382, R390): bus monitoring and restricted operation send no frame; an error passive controller
sets ESI of an FD frame (R381). -/
def execCanArbitrationStart (c : Fin 4) (ecc : Bool) (s : State) : Host.Outcome State Fault Refusal :=
  onCtl s fun d =>
    if d.canSt c.val ≠ canIdle ∨ d.on (CAN_CTL_LISTEN c.val) ∨ d.on (CAN_CTL_ACKONLY c.val) then d
    else
      match d.txChoice c.val with
      | none => d
      | some m =>
        if ecc then ((d.txAborted c.val m.val).put (CAN_OSTAT_INTG c.val m.val) 1).up (CAN_EVT_INTG c.val)
        else
          let d := d.when_ (d.on (CAN_CTL_FDEN c.val) && d.on (CAN_OCTL_FDF c.val m.val) && d.on (CAN_BST_PASSIVE c.val)) fun d =>
            d.put (CAN_OCTL_ESI c.val m.val) 1
          (d.setCur c.val (some m)).setCanSt c.val canSending

/-- CAN_TX_COMPLETE (R382, R386 to R388). -/
def execCanTxComplete (c : Fin 4) (e : CanTxEnd) (s : State) : Host.Outcome State Fault Refusal :=
  onCtl s fun d => match (d.cn c.val).cur with | some m => d.txEnd c.val m.val e | none => d

/-- CAN_FRAME_RECEIVED (R383 to R385): a controller never stores a frame that it sent itself. (DEDUCED, log 69.) -/
def execCanFrameReceived (c : Fin 4) (f : CanFrame) (s : State) : Host.Outcome State Fault Refusal :=
  onCtl s fun d =>
    if d.canSt c.val = canIdle ∨ d.canSt c.val = canReceiving then
      if f.fdf && !d.on (CAN_CTL_FDEN c.val) then d else d.canReceive c.val f
    else d

/-- CAN_ERROR (R377, R386). -/
def execCanError (c : Fin 4) (e : CanErr) (s : State) : Host.Outcome State Fault Refusal :=
  onCtl s fun d => if d.onBus c.val then d.canError c.val e else d

/-- CAN_RECOVERY_DONE (R386). -/
def execCanRecoveryDone (c : Fin 4) (s : State) : Host.Outcome State Fault Refusal :=
  onCtl s fun d =>
    if d.canSt c.val = canRecovering then
      let d := ((d.put (CAN_ERRC_TXE c.val) 0).put (CAN_ERRC_RXE c.val) 0).put (CAN_ERRC_RXPASS c.val) 0
      let d := ((d.put (CAN_BST_PASSIVE c.val) 0).put (CAN_BST_WARN c.val) 0).put (CAN_BST_BUSOFF c.val) 0
      (d.up (CAN_EVT_RCVD c.val)).setCanSt c.val canIdle
    else d

/-- CAN_STATUS_READ (R386): the read clears both error codes. -/
def execCanStatusRead (c : Fin 4) (s : State) : Host.Outcome State Fault Refusal :=
  onCtl s fun d => (d.put (CAN_BST_NERR c.val) 0).put (CAN_BST_DERR c.val) 0

end Sys2Proof.Machine
end

