-- ==== Sys2Proof/Machine/Time.lean ====
section
/-! DEFINITION. The clocks of the model and the time block TIM (R55, R394 to R397, R401 to R403). -/

namespace Sys2Proof.Machine

abbrev uTIM : Nat := 0x601C0000

/-! ### The time base (R394) -/

/-- 2³² and 10⁹: fractions of a nanosecond, and nanoseconds of a second. -/
abbrev fracOne : Nat := 4294967296
abbrev secNs : Nat := 1000000000

/-- The time base wraps with its 48-bit seconds. (DEDUCED, log 72.) -/
abbrev baseWrap : Nat := 281474976710656 * 1000000000 * 4294967296

/-- Whole nanoseconds of the time base. (DEDUCED, log 72.) -/
def Device.tbNs (d : Device) : Nat := d.tim.base / fracOne

/-- What one FAB cycle adds to the time base (R394). (DEDUCED, log 72.) -/
def Device.rate (d : Device) : Nat := (4 * (fracOne : Int) + (d.rget TIM_RATE).toInt).toNat

/-- CORE divides the root by this at a budget state (R22, R330). (DEDUCED, log 22.) -/
def coreDiv (step : Nat) : Nat := match step with | 0 => 2 | 1 => 3 | 2 => 4 | _ => 8

/-- CYCLE of a running core after `n` CORE cycles (R281). (DEDUCED, log 22.) -/
def CorePair.count (c : CorePair) (n : Nat) : CorePair :=
  if c.up && !c.asleep then { c with cycle := c.cycle + BitVec.ofNat 64 n } else c

/-- `n` FAB cycles pass: the model's clock, BUD_STIME on the safety oscillator, and, while the control die runs, the time
base with its seconds event and the cores' cycle counters (R394, R55, R281). (DESIGN CHOICE, log 1; DEDUCED, log 72.) -/
def Device.elapse (d : Device) (n : Nat) : Device :=
  let now := d.now + 4 * n
  let ms := now / 1000000 - d.now / 1000000
  let old := d.get BUD_STIME_MS
  let div := coreDiv d.sys.step
  let cyc := 2 * now / div - 2 * d.now / div
  let d : Device := { d with now := now }
  let d := d.put BUD_STIME_MS (old + ms)
  let d := d.when_ (decide (4294967296 ≤ old + ms)) fun d => d.pulse 20
  if d.awake then
    let b := d.tim.base + n * d.rate
    let d := d.when_ (b / (fracOne * secNs) != d.tim.base / (fracOne * secNs)) fun d => d.up TIM_EVT_SEC
    { d with tim := { d.tim with base := b % baseWrap }, cpx := { d.cpx with core := d.cpx.core.map fun c => c.count cyc } }
  else d

/-- A frame that fails its CRC on a lane that is up is discarded and counted (R409). (DESIGN CHOICE, log 114.) -/
def Device.pairNoise (d : Device) : Device :=
  d.when_ (d.awake && d.get PRL_ST_LANES != 0 && Config.pairFrameFails d.now) fun d => d.count16 PRL_CRCC

/-- One FAB cycle on an empty queue: a bit error may strike a word of a memory with ECC (R30), and a frame of the pair link may
fail (R409). (DESIGN CHOICE, log 1 and 114.) -/
def Device.tick (d : Device) : Device :=
  let d := (d.elapse 1).pairNoise
  match Config.upset d.now with
  | some (w, dbl) =>
    let ecc := match regionOf (8 * w) with | .none => false | .periph => false | .rom => false | _ => true
    if ecc then { d with upsets := (w, dbl) :: d.upsets.filter fun e => e.1 != w } else d
  | none => d

/-- FAB cycles until the time base reaches its next second. (DESIGN CHOICE, log 1.) -/
def Device.cyclesToSecond (d : Device) : Nat :=
  let unit := fracOne * secNs
  let left := unit - d.tim.base % unit
  (left + d.rate - 1) / d.rate

/-- FAB cycles until BUD_STIME wraps. (DESIGN CHOICE, log 1.) -/
def Device.cyclesToMsWrap (d : Device) : Nat :=
  let ms := 4294967296 - d.get BUD_STIME_MS
  ((d.now / 1000000 + ms) * 1000000 - d.now + 3) / 4

/-! ### Discontinuities (R395 to R397) -/

/-- PLK changes (R403). -/
def Device.setPlk (d : Device) (b : Bool) : Device :=
  if d.on TIM_ST_PLK == b then d else (d.putB TIM_ST_PLK b).up TIM_EVT_PLKCH

/-- Phase lock starts again (R397, R403). -/
def Device.unlockPhase (d : Device) : Device :=
  { d.setPlk false with tim := { d.tim with lockRun := 0 } }

/-- MAC m. -/
def Device.mac (d : Device) (m : Nat) : EthMac := (d.eth[m]?).getD EthMac.reset
def Device.setMac (d : Device) (m : Nat) (f : EthMac → EthMac) : Device := { d with eth := d.eth.setIfInBounds m (f (d.mac m)) }

/-- The head registers of MAC m's stamp queue show its first entry (R400). -/
def Device.showTsq (d : Device) (m : Nat) : Device :=
  let q := (d.mac m).tsq
  let e := q.head?.getD ⟨0, 0, 0⟩
  let d := d.put (ETH_TSQ_ST_CNT m) q.length
  let d := ((d.put (ETH_TSQ_ID_SEQID m) e.seqId).put (ETH_TSQ_ID_MTYPE m) e.mtype).putB (ETH_TSQ_ID_VALID m) !q.isEmpty
  ((d.put (ETH_TSQ_NS_NS m) (e.ns % secNs)).put (ETH_TSQ_SECL_SECL m) (e.ns / secNs)).put (ETH_TSQ_SECH_SECH m)
    (e.ns / secNs / 4294967296)

/-- Count `n` events in a 16-bit counter. -/
def Device.count16n (d : Device) (a : Nat) : Nat → Device
  | 0 => d
  | n + 1 => (d.count16 a).count16n a n

/-- A discontinuity meets MAC m (R397). -/
def Device.flushTsq (d : Device) (m : Nat) : Device :=
  let n := (d.mac m).tsq.length
  (((d.count16n (ETH_TSDROP m) n).setMac m fun v => { v with tsq := [] }).showTsq m).up (ETH_EVT_TDISC m)

def Device.out (d : Device) (k : Nat) : TimOut := (d.tim.outs[k]?).getD ⟨0, false⟩
def Device.setOut (d : Device) (k : Nat) (o : TimOut) : Device :=
  { d with tim := { d.tim with outs := d.tim.outs.setIfInBounds k o } }

/-- Output k is disarmed and drives its idle level (R401). -/
def Device.disarmOut (d : Device) (k : Nat) : Device :=
  if d.on (TIM_TOCTL_ARM k) then ((d.put (TIM_TOCTL_ARM k) 0).up TIM_EVT_TTO).setOut k ⟨0, false⟩ else d

/-- A discontinuity meets output k and capture k (R397). -/
def Device.discUnit (d : Device) (k : Nat) : Device :=
  let d := d.when_ (d.on (TIM_TOCTL_ARM k)) fun d => (d.disarmOut k).put (TIM_TOCTL_DIS k) 1
  d.when_ (d.on (TIM_CCTL_NEW k)) fun d => d.put (TIM_CCTL_STALE k) 1

/-- A time discontinuity (R397). -/
def Device.discontinuity (d : Device) : Device :=
  let d := ((d.put TIM_ST_DCNT (d.get TIM_ST_DCNT + 1)).up TIM_EVT_DISC).unlockPhase
  (List.range 8).foldl (fun d k => d.discUnit k) ((d.flushTsq 0).flushTsq 1)

/-- The time base takes a number of nanoseconds, its fraction cleared (R395). -/
def Device.stepTo (d : Device) (ns : Int) : Device :=
  let d : Device := { d with tim := { d.tim with base := ((ns * (fracOne : Int)) % (baseWrap : Int)).toNat } }
  (d.put TIM_ST_INIT 1).discontinuity

/-- TIM_CMD.STEP (R395, R51). -/
def Device.timeStep (d : Device) (abs : Bool) (gen : Nat) : Device :=
  if d.sys.appHeld then d
  else if gen ≠ d.gen uTIM then d.st uTIM .reset
  else if d.on TIM_ST_INIT then d.st uTIM .reject
  else if abs then
    let n := d.get TIM_SETN_SETN
    if secNs ≤ n then d.st uTIM .range
    else (d.stepTo (((d.get TIM_SETSH_SETSH * 4294967296 + d.get TIM_SETSL_SETSL) * secNs + n : Nat) : Int)).st uTIM .ok
  else
    (d.stepTo ((d.tbNs : Int) + signed 64 (d.get TIM_OFSH_OFSH * 4294967296 + d.get TIM_OFSL_OFSL))).st uTIM .ok

/-- A write of TIM_REINIT (R396). (DEDUCED, log 50.) -/
def Device.reinitKey (d : Device) (key : Word) : Device :=
  let restart := fun (d : Device) (k : Option Nat) => ({ d with tim := { d.tim with key1At := k } } : Device)
  if d.sys.appHeld then d
  else
    let first : Bool := match d.tim.key1At with | some t => decide (d.now ≤ t + 10000000) | none => false
    if key = 0x2D#32 ∧ first then (((restart d none).put TIM_ST_INIT 0).discontinuity).st uTIM .ok
    else if key = 0xD2#32 then (restart d (some d.now)).st uTIM (if first then .reject else .ok)
    else (restart d none).st uTIM .reject

/-- A write of TIM_RATE (R394). -/
def Device.rateWrite (d : Device) (adj : Word) : Device :=
  if d.sys.appHeld then d
  else if adj.toInt < -8589934 ∨ 8589934 < adj.toInt then d.st uTIM .range
  else (d.rset TIM_RATE adj).st uTIM .ok

/-! ### Outputs and captures (R401, R402) -/

/-- Start of output k's next pulse when it is armed: the upper seconds are the time base's. -/
def Device.outStart (d : Device) (k : Nat) : Nat :=
  let hi := d.tbNs / secNs / 4294967296
  (hi * 4294967296 + d.get (TIM_TOSTS_S k)) * secNs + d.get (TIM_TOSTN_N k)

/-- Arm output k (R401); one that is armed already takes its polarity only. (DEDUCED, log 71.) -/
def Device.armOutput (d : Device) (k : Nat) (pol : Bool) : Device :=
  let per := d.get (TIM_TOPER_PER k)
  let wid := d.get (TIM_TOWID_WID k)
  let start := d.outStart k
  let soon := d.tbNs + 1000
  if d.sys.appHeld then d
  else if d.on (TIM_TOCTL_ARM k) then (d.putB (TIM_TOCTL_POL k) pol).st uTIM .ok
  else if wid < 8 ∨ (per ≠ 0 ∧ per < wid + 8) then d.st uTIM .range
  else if per = 0 ∧ start < soon then d.st uTIM .reject
  else
    let first := if soon ≤ start then start else start + (soon - start + per - 1) / per * per
    (((d.putB (TIM_TOCTL_POL k) pol).put (TIM_TOCTL_ARM k) 1).setOut k ⟨first, false⟩).st uTIM .ok

/-- Output k's next edge (R401). (DEDUCED, log 72.) -/
def Device.outEdge (d : Device) (k : Nat) : Device :=
  if !d.on (TIM_TOCTL_ARM k) then d
  else
    let o := d.out k
    if !o.level then d.setOut k { o with level := true }
    else
      let per := d.get (TIM_TOPER_PER k)
      if per = 0 then d.disarmOut k else d.setOut k ⟨o.start + per, false⟩

/-- An edge on capture input k (R402). (DESIGN CHOICE, log 17; DEDUCED, log 72.) -/
def Device.capture (d : Device) (k : Nat) (rising : Bool) : Device :=
  let sel := d.get (TIM_CCTL_EDGE k)
  if d.on (TIM_CCTL_EN k) && sel.testBit (if rising then 0 else 1) then
    let (i, d) := d.fresh
    let t := d.tbNs + Config.captureError i % 17 - 8
    let d := d.when_ (d.on (TIM_CCTL_NEW k)) fun d => d.put (TIM_CCTL_OVR k) 1
    let d := ((d.put (TIM_CCTL_NEW k) 1).put (TIM_CCTL_STALE k) 0).put (TIM_CNS_NS k) (t % secNs)
    let d : Device := { d with tim := { d.tim with capSec := d.tim.capSec.setIfInBounds k (BitVec.ofNat 32 (t / secNs)) } }
    d.up TIM_EVT_CAP
  else d

/-- What a read of a latching register latches (R55, R149, R394, R402). -/
def Device.latchRead (d : Device) (r : LatchRead) : Device :=
  match r with
  | .timNs =>
    let sec := d.tbNs / secNs
    (d.put TIM_SECL_SECL sec).put TIM_SECH_SECH (sec / 4294967296)
  | .capture k => d.rset (TIM_CSEC k.val) ((d.tim.capSec[k.val]?).getD 0#32)
  | .bmiSample i => d.rset (BMI_LTS i.val) ((d.bmi.stamp[i.val]?).getD 0#32)

/-- Phase error in (−P/2, P/2] of an epoch time at `t` ns of the time base (R403). -/
def phaseError (t phofs p : Nat) : Int :=
  let r : Int := ((t : Int) - phofs) % p
  if 2 * r ≤ p then r else r - p

/-! ### Meanings -/

/-- TIME_COUNTER_CARRY (R55): time runs to the instant at which the counter wraps. (DESIGN CHOICE, log 1.) -/
def execTimeCounterCarry (c : TimeCounter) (s : State) : Host.Outcome State Fault Refusal :=
  onDev s fun d =>
    match c with
    | .budStime => d.elapse d.cyclesToMsWrap
    | .timNs => if d.awake then d.elapse d.cyclesToSecond else d

/-- LATCHING_LOW_WORD_READ (R55). -/
def execLatchingLowWordRead (r : LatchRead) (s : State) : Host.Outcome State Fault Refusal := onCtl s fun d => d.latchRead r

/-- TIME_STEP_ABSOLUTE (R395). -/
def execTimeStepAbsolute (gen : Byte) (s : State) : Host.Outcome State Fault Refusal := onCtl s fun d => d.timeStep true gen.toNat

/-- TIME_STEP_RELATIVE (R395). -/
def execTimeStepRelative (gen : Byte) (s : State) : Host.Outcome State Fault Refusal := onCtl s fun d => d.timeStep false gen.toNat

/-- TIME_REINIT_KEY (R396). -/
def execTimeReinitKey (key : Word) (s : State) : Host.Outcome State Fault Refusal := onCtl s fun d => d.reinitKey key

/-- RATE_ADJUST (R394). -/
def execRateAdjust (adj : Word) (s : State) : Host.Outcome State Fault Refusal := onCtl s fun d => d.rateWrite adj

/-- OUTPUT_ARM (R401). -/
def execOutputArm (k : Fin 8) (pol : Bool) (s : State) : Host.Outcome State Fault Refusal := onCtl s fun d => d.armOutput k.val pol

/-- OUTPUT_EDGE (R401). -/
def execOutputEdge (k : Fin 8) (s : State) : Host.Outcome State Fault Refusal := onCtl s fun d => d.outEdge k.val

/-- CAPTURE_EDGE (R402). -/
def execCaptureEdge (k : Fin 8) (rising : Bool) (s : State) : Host.Outcome State Fault Refusal := onCtl s fun d => d.capture k.val rising

end Sys2Proof.Machine
end

