-- ==== Sys2Proof/Machine/Ethernet.lean ====
section
/-! DEFINITION. The two Ethernet MACs (R391 to R393, R398 to R400, R405). -/

namespace Sys2Proof.Machine

abbrev uETH (m : Nat) : Nat := 0x601A0000 + 0x10000 * m

/-! ### Memory access (R392, R300) -/

/-- First address of pair B's write region (R300). -/
def Device.split (d : Device) : Nat := 0x20000000 + 0x1000 * d.get CPX_SRAMP_SPLIT

/-- A word of system SRAM; the rings reach nothing else. (DEDUCED, log 70.) -/
def Device.ethRead (d : Device) (a : Nat) : Nat := if 0x20000000 ≤ a ∧ a + 4 ≤ 0x20200000 then d.mread a 4 else 0

/-- `n` bytes from `a` lie in pair B's write region. (DEDUCED, log 70.) -/
def Device.ethMay (d : Device) (a n : Nat) : Bool := decide (d.split ≤ a) && decide (a + n ≤ 0x20180000)

/-- Store a word within pair B's write region. -/
def Device.ethWrite (d : Device) (a v : Nat) : Device := if d.ethMay a 4 then d.mwrite a 4 v else d

/-- Store bytes within pair B's write region. (DEDUCED, log 70.) -/
def Device.ethStore (d : Device) (a : Nat) (bs : List Byte) : Device :=
  if d.ethMay a bs.length then
    ({ d with mem := (bs.foldl (fun (x : List Host.Cell × Nat) b => (memSet x.1 x.2 b, x.2 + 1)) (d.mem, a)).1 } :
      Device).rewrote a bs.length
  else d

/-! ### Link (R391) -/

/-- Link, speed and duplex of MAC m as they stand now. -/
def Device.setLink (d : Device) (m : Nat) (link : Bool) (spd : Nat) (fd : Bool) : Device :=
  let ch := d.on (ETH_ST_LINK m) != link
  let d := ((d.putB (ETH_ST_LINK m) link).put (ETH_ST_SPDS m) spd).putB (ETH_ST_FDS m) fd
  d.when_ ch fun d => d.up (ETH_EVT_LINKCH m)

/-- With RGMII the link follows TXEN, and speed and duplex are pair B's (R391). (DEDUCED, log 71.) -/
def Device.rgmiiLink (d : Device) (m : Nat) : Device :=
  if d.on (ETH_CTL_IF m) then d
  else d.setLink m (d.on (ETH_CTL_TXEN m)) (d.get (ETH_CTL_SPD m)) (d.on (ETH_CTL_FD m))

/-! ### Reception (R392, R393, R398) -/

/-- Fill of the receive buffer in bytes. -/
def Device.rxFill (d : Device) (m : Nat) : Nat := ((d.mac m).rxq.map fun f => f.bytes.length).sum

/-- ETH_ST.XOFFS shows a fill above XOFF. -/
def Device.showFill (d : Device) (m : Nat) : Device := d.putB (ETH_ST_XOFFS m) (decide (256 * d.get (ETH_FC_XOFF m) < d.rxFill m))

/-- Send a PAUSE frame, when PAUSE is on and full duplex is in force (R393). -/
def Device.sendPause (d : Device) (m : Nat) (quanta : Nat) : Device :=
  d.setMac m fun v => { v with pauseOut := some (BitVec.ofNat 16 quanta), xoff := quanta != 0 }

def Device.mayPause (d : Device) (m : Nat) : Bool := d.on (ETH_CTL_PTX m) && d.on (ETH_ST_FDS m)

/-- Deliver the oldest waiting frames while the ring gives owned descriptors (R392). -/
def Device.ethDrain (d : Device) (m : Nat) : Nat → Device
  | 0 => d
  | fuel + 1 =>
    match (d.mac m).rxq with
    | [] => d
    | f :: rest =>
      let len := d.get (ETH_RXRL_LEN m)
      let hd := d.get (ETH_RXHD_HEAD m)
      let a := d.get (ETH_RXRB_BASE m) + 16 * hd
      let w1 := d.ethRead (a + 4)
      if !d.on (ETH_CTL_RXEN m) || len = 0 || w1 < 2 ^ 31 then d
      else
        let room := min (w1 % 2 ^ 14) (d.get (ETH_MAXF_MAXF m) - 4)
        let bs := f.bytes.take room
        let d := d.ethStore (d.ethRead a) bs
        let st := bs.length + 2 ^ 16 * Bool.bit f.crcErr + 2 ^ 17 * Bool.bit (decide (room < f.bytes.length)) +
          2 ^ 18 * Bool.bit f.ecc
        let d := ((d.ethWrite (a + 8) (f.ns % secNs)).ethWrite (a + 12) (f.ns / secNs % 4294967296)).ethWrite (a + 4) st
        let d := (d.put (ETH_RXHD_HEAD m) ((hd + 1) % len)).setMac m fun v => { v with rxq := rest }
        let d := d.when_ f.ecc fun d => d.up (ETH_EVT_INTG m)
        (((d.up (ETH_EVT_RXF m)).count32 (ETH_RXCNT m) 0).showFill m).ethDrain m fuel

/-- Deliver everything that can be delivered. (DEDUCED, log 70 and 71.) -/
def Device.ethServe (d : Device) (m : Nat) : Device := d.ethDrain m (d.mac m).rxq.length

/-- The MAC accepts a destination: its own, a group address, or any with PROM = 1. (DEDUCED, log 70.) -/
def Device.ethAccepts (d : Device) (m : Nat) (bs : List Byte) : Bool :=
  let own := (List.range 4).map (fun k => bitsOf (d.rget (ETH_ADDRL m)) (8 * k) 8) ++
    (List.range 2).map (fun k => bitsOf (d.rget (ETH_ADDRH m)) (8 * k) 8)
  d.on (ETH_CTL_PROM m) || (bs.head?.getD 0#8).toNat % 2 == 1 || ((bs.take 6).map fun b => b.toNat) == own

/-- A frame arrives (R392, R393, R398). (DESIGN CHOICE, log 17; DEDUCED, log 70.) -/
def Device.ethReceive (d : Device) (m : Nat) (f : EthFrame) : Device :=
  if !d.on (ETH_CTL_RXEN m) || !d.ethAccepts m f.bytes then d
  else
    let d := d.when_ f.crcErr fun d => d.count32 (ETH_CRCERR m) 3
    let old := d.rxFill m
    if 65536 < old + f.bytes.length then (d.count32 (ETH_RXDROP m) 2).up (ETH_EVT_RXOVF m)
    else
      let (i, d) := d.fresh
      let ns := d.tbNs + 4 * (Config.ethStampError i % 5) - 8 - d.get (ETH_TSC_INGLAT m)
      let d := d.setMac m fun v => { v with rxq := v.rxq ++ [⟨f.bytes, f.crcErr, f.ecc, ns⟩] }
      let x := 256 * d.get (ETH_FC_XOFF m)
      let d := d.ethServe m
      let d := d.showFill m
      if old ≤ x ∧ x < d.rxFill m ∧ d.mayPause m then d.sendPause m (d.get (ETH_FC_PQ m)) else d

/-! ### Transmission (R392, R399, R400) -/

/-- Byte k of the frame at an address. -/
def Device.frameByte (d : Device) (a k : Nat) : Nat := if 0x20000000 ≤ a + k ∧ a + k < 0x20200000 then d.mread (a + k) 1 else 0
def Device.frameHalf (d : Device) (a k : Nat) : Nat := 256 * d.frameByte a k + d.frameByte a (k + 1)

/-- Offset of the PTP message of a frame, after at most one VLAN tag (R399). -/
def Device.ptpAt (d : Device) (a : Nat) : Option Nat :=
  let o := if d.frameHalf a 12 = 0x8100 then 16 else 12
  let et := d.frameHalf a o
  let ip := o + 2
  if et = 0x88F7 then some ip
  else if et = 0x0800 then
    let udp := ip + 4 * (d.frameByte a ip % 16)
    if d.frameByte a ip / 16 = 4 ∧ d.frameByte a (ip + 9) = 17 ∧ d.frameHalf a (udp + 2) = 319 then some (udp + 8) else none
  else if et = 0x86DD then
    if d.frameByte a (ip + 6) = 17 ∧ d.frameHalf a (ip + 42) = 319 then some (ip + 48) else none
  else none

/-- Key of a transmitted frame of `len` bytes: sequenceId and messageType of a PTP event message, else 0xFFFF and 0xF (R400). -/
def Device.stampKey (d : Device) (a len : Nat) : Nat × Nat :=
  match d.ptpAt a with
  | some p =>
    let mt := d.frameByte a p % 16
    if p + 32 ≤ len ∧ mt ≤ 3 ∧ d.frameByte a (p + 1) % 16 = 2 then (d.frameHalf a (p + 30), mt) else (0xFFFF, 0xF)
  | none => (0xFFFF, 0xF)

/-- Append a stamp; a full queue drops it (R400). (DESIGN CHOICE, log 17.) -/
def Device.queueStamp (d : Device) (m : Nat) (t : TxStamp) : Device :=
  if 16 ≤ (d.mac m).tsq.length then
    ((d.put (ETH_TSQ_ST_OVF m) 1).count16 (ETH_TSDROP m)).up (ETH_EVT_TSOVF m)
  else ((d.setMac m fun v => { v with tsq := v.tsq ++ [t] }).showTsq m).up (ETH_EVT_TSAV m)

/-- The frame of the head descriptor has been sent, or has ended in error (R392, R400). -/
def Device.ethTransmit (d : Device) (m : Nat) (ok : Bool) : Device :=
  let len := d.get (ETH_TXRL_LEN m)
  let hd := d.get (ETH_TXHD_HEAD m)
  let a := d.get (ETH_TXRB_BASE m) + 16 * hd
  let w1 := d.ethRead (a + 4)
  if !d.on (ETH_CTL_TXEN m) || d.on (ETH_ST_PAUSED m) || len = 0 || w1 < 2 ^ 31 then d
  else
    let buf := d.ethRead a
    let key := d.stampKey buf (w1 % 2 ^ 14)
    let d := (d.ethWrite (a + 4) (w1 % 2 ^ 31)).put (ETH_TXHD_HEAD m) ((hd + 1) % len)
    if !ok then d.up (ETH_EVT_TXERR m)
    else
      let d := (d.count32 (ETH_TXCNT m) 1).up (ETH_EVT_TXF m)
      if w1.testBit 30 then
        let (i, d) := d.fresh
        d.queueStamp m ⟨key.1, key.2, d.tbNs + 4 * (Config.ethStampError i % 5) - 8 + d.get (ETH_TSC_EGLAT m)⟩
      else d

/-- Remove the head entry (R400). -/
def Device.popStamp (d : Device) (m : Nat) : Device :=
  ((d.setMac m fun v => { v with tsq := v.tsq.drop 1 }).showTsq m).st (uETH m) .ok

/-- Move the oldest entry with a key to the head (R400). -/
def Device.seekStamp (d : Device) (m seqid mtype : Nat) : Device :=
  let q := (d.mac m).tsq
  match q.find? fun t => t.seqId == seqid && t.mtype == mtype with
  | none => d.st (uETH m) .range
  | some t => ((d.setMac m fun v => { v with tsq := t :: q.erase t }).showTsq m).st (uETH m) .ok

/-! ### MDIO (R391) -/

/-- An MDIO operation is started by ETH_MDIO.GO (R51). -/
def Device.mdioGo (d : Device) (m op reg phy : Nat) (c45 : Bool) (gen : Nat) : Device :=
  let answer := fun (st : Status) (g : Nat) => ((d.put (ETH_MDST_ST m) st.code).put (ETH_MDST_GEN m) g).st (uETH m) st
  if d.sys.appHeld then d
  else if gen ≠ d.gen (uETH m) then answer .reset (d.gen (uETH m))
  else if (d.mac m).mdio.isSome then d.st (uETH m) .busy
  else if op = 3 ∨ (op = 0 ∧ !c45) then answer .range gen
  else ((d.setMac m fun v => { v with mdio := some ⟨op, reg, phy, c45, gen, d.rgen 1⟩ }).put (ETH_MDST_BUSY m) 1).st (uETH m) .ok

/-- The running MDIO operation of pair B ends with a status (R391, R51, R52, R312). -/
def Device.mdioEnd (d : Device) (m : Nat) (st : Status) (rdata : Option Nat) : Device :=
  match (d.mac m).mdio with
  | none => d
  | some o =>
    let d := d.setMac m fun v => { v with mdio := none }
    let d := ((d.put (ETH_MDST_BUSY m) 0).put (ETH_MDST_ST m) (d.answer (uETH m) o.gen 1 o.rgen st).code).put (ETH_MDST_GEN m) o.gen
    match rdata with
    | some v => if o.op = 2 ∧ d.answer (uETH m) o.gen 1 o.rgen st = st then d.put (ETH_MDWD_RDATA m) v else d
    | none => d

/-! ### Meanings -/

/-- ETH_FRAME_RECEIVED (R392, R393, R398): the command stands at the instant that the stamp is taken. -/
def execEthFrameReceived (m : Fin 2) (f : EthFrame) (s : State) : Host.Outcome State Fault Refusal :=
  onCtl s fun d => d.ethReceive m.val f

/-- ETH_XON (R393). -/
def execEthXon (m : Fin 2) (s : State) : Host.Outcome State Fault Refusal :=
  onCtl s fun d =>
    if (d.mac m.val).xoff ∧ d.rxFill m.val < 256 * d.get (ETH_FC_XON m.val) ∧ d.mayPause m.val then d.sendPause m.val 0 else d

/-- PAUSE_REFRESH (R393). -/
def execPauseRefresh (m : Fin 2) (s : State) : Host.Outcome State Fault Refusal :=
  onCtl s fun d =>
    if (d.mac m.val).xoff ∧ 256 * d.get (ETH_FC_XON m.val) < d.rxFill m.val ∧ d.mayPause m.val then
      d.sendPause m.val (d.get (ETH_FC_PQ m.val))
    else d

/-- ETH_PAUSE_RECEIVED (R393). -/
def execEthPauseReceived (m : Fin 2) (quanta : Half) (s : State) : Host.Outcome State Fault Refusal :=
  onCtl s fun d =>
    if d.on (ETH_CTL_RXEN m.val) && d.on (ETH_CTL_PEN m.val) then d.putB (ETH_ST_PAUSED m.val) (quanta != 0#16) else d

/-- PAUSE_EXPIRY (R393). -/
def execPauseExpiry (m : Fin 2) (s : State) : Host.Outcome State Fault Refusal := onCtl s fun d => d.put (ETH_ST_PAUSED m.val) 0

/-- ETH_FRAME_TRANSMIT (R392, R400). -/
def execEthFrameTransmit (m : Fin 2) (e : EthTxEnd) (s : State) : Host.Outcome State Fault Refusal :=
  onCtl s fun d => d.ethTransmit m.val e.ok

/-- ETH_LINK_CHANGE (R391): the in-band link word of SGMII. -/
def execEthLinkChange (m : Fin 2) (link : Bool) (spd : BitVec 2) (fd : Bool) (s : State) : Host.Outcome State Fault Refusal :=
  onCtl s fun d => if d.on (ETH_CTL_IF m.val) then d.setLink m.val link spd.toNat fd else d

/-- MDIO_ADDRESS (R391). -/
def execMdioAddress (m : Fin 2) (reg phy : BitVec 5) (c45 : Bool) (gen : Byte) (s : State) :
    Host.Outcome State Fault Refusal := onCtl s fun d => d.mdioGo m.val 0 reg.toNat phy.toNat c45 gen.toNat

/-- MDIO_WRITE (R391). -/
def execMdioWrite (m : Fin 2) (reg phy : BitVec 5) (c45 : Bool) (gen : Byte) (s : State) :
    Host.Outcome State Fault Refusal := onCtl s fun d => d.mdioGo m.val 1 reg.toNat phy.toNat c45 gen.toNat

/-- MDIO_READ (R391). -/
def execMdioRead (m : Fin 2) (reg phy : BitVec 5) (c45 : Bool) (gen : Byte) (s : State) :
    Host.Outcome State Fault Refusal := onCtl s fun d => d.mdioGo m.val 2 reg.toNat phy.toNat c45 gen.toNat

/-- MDIO_DONE (R391). -/
def execMdioDone (m : Fin 2) (rdata : Half) (s : State) : Host.Outcome State Fault Refusal :=
  onCtl s fun d => d.mdioEnd m.val .ok (some rdata.toNat)

/-- TIMESTAMP_POP (R400). -/
def execTimestampPop (m : Fin 2) (s : State) : Host.Outcome State Fault Refusal :=
  onCtl s fun d => if d.sys.appHeld then d else d.popStamp m.val

/-- TIMESTAMP_KEY_SEEK (R400). -/
def execTimestampKeySeek (m : Fin 2) (seqid : Half) (mtype : BitVec 4) (s : State) : Host.Outcome State Fault Refusal :=
  onCtl s fun d => if d.sys.appHeld then d else d.seekStamp m.val seqid.toNat mtype.toNat

end Sys2Proof.Machine
end

