-- ==== Sys2Proof/Machine/Pair.lean ====
section
/-! DEFINITION. PRL: the pair link, mirrored protection, the shadow hold, join, takeover, withdrawal, yield and checkpoints
(R406 to R425). -/

namespace Sys2Proof.Machine

abbrev uPRL : Nat := 0x601D0000

/-- PRL's own state. -/
def Device.setPrl (d : Device) (f : Prl → Prl) : Device := { d with prl := f d.prl }

/-- The field die toggles PAIR_ALVO with this half period in ns (R408): not on a withdrawn device, nor while a referee
heartbeat is absent. A device that is in no pair toggles at no rate that the spec names. -/
def Device.aliveHalfPeriod (d : Device) : Option Nat :=
  if d.fd.hbCause then none
  else match d.get PRL_ST_ROLE with
    | 1 => some 10000
    | 2 => some 20000
    | _ => none

/-- PRL_ST.SHDOK: on the active every closed main+ and main− driver is shadowed (R418). (DEDUCED, log 75.) -/
def Device.shdOk (d : Device) : Bool :=
  d.isActive && (List.range 12).all fun k => k % 3 == 2 || d.drvSt k != .hold || d.prl.shadowed.getLsbD k

/-- The partner is a standby within reach: the active asks it to shadow every driver in hold (R418). -/
def Device.askShadows (d : Device) : Device := (List.range 12).foldl (fun d k => d.askShadow k) d

/-! ### Role changes -/

/-- Report the end of a join in PRL_CKST (R419, R51, R312). -/
def Device.joinEnd (d : Device) (st : Status) : Device :=
  (((d.put PRL_CKST_ST (d.answer uPRL d.prl.joinGen 0 d.prl.rgen st).code).put PRL_CKST_BUSY 0).put PRL_CKST_GEN d.prl.joinGen).setPrl
    fun p => { p with join := none }

/-- PRL sets ROLE, and CTD_CTL.ROLE whatever the CTD lock (R419, R421, R422). -/
def Device.setRole (d : Device) (role ctd : Nat) : Device := (d.put PRL_ST_ROLE role).put CTD_CTL_ROLE ctd

/-- Every listen end becomes a drive end from the next BELL (R412, R421). -/
def Device.listenToDrive (d : Device) : Device :=
  d.ports.foldl (fun d p => if d.isListen p then d.setPt p fun v => { v with driveNext := true } else d) d

/-- Become active without a partner that is active (R419). A join in progress has nothing left to join. -/
def Device.becomeActive (d : Device) : Device := (d.setRole 1 1).showRel

/-- A bank's connect that a change of authority ends: OPEN with outcome ABORT, reason PAIR (R421, R425); the device leaves
PRECHARGE for READY as at the end of any connect (R259). (DEDUCED, log 75.) -/
def Device.dropConnect (d : Device) (b : Nat) : Device :=
  if d.bankSt b = .precharging then
    let d := ((d.put (CTD_BST_OUTC b) 4).put (CTD_BST_REASON b) 3).up (CTD_BEVT_CONN b)
    let d := ((d.setBankSt b .opened).setPhase b .opening).setBk b fun v => { v with path := false, gapDue := false, orderly := false }
    d.when_ (d.mode == .precharge) fun d => d.enter .ready
  else d

/-- What the new active's sequencer finds on a CLOSED bank: both mains shadowed is closed; a running orderly open goes on from
the point it had reached (R421). (DEDUCED, log 75.) -/
def Device.adoptBank (d : Device) (b : Nat) : Device :=
  if d.bankSt b = .closed then
    let plus := d.drvSt (3 * b) == .hold
    let minus := d.drvSt (3 * b + 1) == .hold
    if plus && minus then (d.setPhase b .closed).setBk b fun _ => { Bank.reset with dT := (d.bk b).dT }
    else (d.setPhase b .opening).setBk b fun v => { v with gapDue := minus, orderly := true }
  else d

/-- Takeover (R421). (DEDUCED, log 75.) -/
def Device.takeover (d : Device) : Device :=
  let d := (List.range 12).foldl (fun d k => if d.drvSt k == .shadow then d.setDrvSt k .hold else d) d
  let d := (d.setRole 1 1).put CTD_SHD_MASK 0
  let d := (List.range 4).foldl (fun d b => (d.dropConnect b).adoptBank b) d
  let d := (d.listenToDrive.up PRL_EVT_TAKE).count16 PRL_TAKC
  (d.setPrl fun p => { p with shadowed := 0#12 }).showRel

/-- A trigger of R420: a joining device's join ends with RESET (R425); a standby with AUTO = 1 takes over. -/
def Device.takeTrigger (d : Device) : Device :=
  if d.prl.join.isSome then d.joinEnd .reset
  else if d.get PRL_ST_ROLE = 2 ∧ d.on PRL_CTL_AUTO then d.takeover
  else d

/-- Withdrawal (R422): the high sides go off without quench, drive ends become listen ends from the next BELL, the motors
decelerate. (DEDUCED, log 75.) -/
def Device.withdraw (d : Device) : Device :=
  let d := d.prlSend .withdraw
  let d := (List.range 4).foldl (fun d b => d.dropConnect b) d
  let d := (List.range 12).foldl (fun d k =>
    if (d.drvSt k).high then (d.setDrvSt k .off).setDk k fun v => { v with pulling := false, auxDue := none, waitRel := false }
    else d.setDk k fun v => { v with waitRel := false }) d
  let d := (List.range 4).foldl (fun d b => d.when_ ((d.phase b).driven) fun d => d.setPhase b .idle) d
  let d := d.ports.foldl (fun d p =>
    if d.isDrive p && d.isRing p then d.setPt p fun v => { v with listenNext := true, driveNext := false } else d) d
  let d := ((d.setRole 3 2).put CTD_SHD_MASK 0).setPrl fun p => { p with shadowed := 0#12 }
  d.motorsHoldExpired.up PRL_EVT_WDRN

/-! ### Mirrored protection -/

/-- A mirrored action (R414): carried out and recorded as though this referee had raised the class; an open all is also class
17, which acts from MUSTER onward (R238), and an action that names a bank restarts its quiet time (R234). It is sent no further.
(DEDUCED, log 36 and 73.) -/
def Device.mirrorAction (d : Device) (m : ActionMsg) : Device :=
  let act := match m.act with | .none => 0 | .pen => 1 | .openBank => 2 | .openAll => 3
  let n : Named := ⟨none, m.str.map (·.val), m.bank.map (·.val)⟩
  let d := d.markClass m.cls.val
  let d := d.when_ (act == 3) fun d => d.markClass 17
  if act = 3 ∧ ¬ d.mode.live then d
  else
    let d := d.actsOn (if act = 0 then none else d.namedBank .a n)
    let d := d.when_ (decide (m.cls.val < 15)) fun d => d.count16 (REF_ACTCNT m.cls.val)
    let d := (d.put REF_LAST_CLASS m.cls.val).put REF_LAST_ACT act
    let d := (d.put REF_LAST_STR (n.str.getD 0)).put REF_LAST_BANK (n.bank.getD 0)
    let d := ((d.put REF_LAST_NODE 0).put REF_LASTC_CH 0).put REF_LASTC_VAL 0
    (d.put REF_LASTEP_EPOCH d.epoch).carryOut .a n act

/-- What this device tells its partner at an acquisition close (R416). (DEDUCED, log 74.) -/
def Device.summaryNow (d : Device) : EpochSummary :=
  { epoch := d.rget FLK_EPNUM, mode := Fin.ofNat 8 d.mode.code, bankst := BitVec.ofNat 8 (d.get SYS_MODE_BANKST)
    pens := BitVec.ofNat 512 ((List.range 16).foldl (fun acc j => acc + d.get (REF_PEN_HOLD j) * 2 ^ (32 * j)) 0)
    bouts := BitVec.ofNat 4 (d.get REF_ST_BOUT) }

/-- Take the holds of the partner's summary, without an action or a whistle (R416). -/
def Device.takeHolds (d : Device) (s : EpochSummary) : Device :=
  let pens := (List.range 512).filter fun t => s.pens.getLsbD t && !d.penHeld t
  let bouts := (List.range 4).filter fun b => s.bouts.getLsbD b && !d.bankHold b
  let d := pens.foldl (fun d t => d.put (penFld t) 1) d
  let d := bouts.foldl (fun d b => (d.put (bankHoldFld b) 1).endSequence b) d
  if pens.isEmpty && bouts.isEmpty then d else d.up PRL_EVT_HOLDMIS

/-- A summary arrives (R416); a device that follows the active takes its mode and bank states from it (R417),
and its inputs are judged at the change (R227). (DEDUCED, log 74.) -/
def Device.summaryIn (d : Device) (s : EpochSummary) : Device :=
  let d := (d.takeHolds s).setPrl fun p => { p with partner := some s }
  if d.follower then
    let d := d.put SYS_MODE_BANKST s.bankst.toNat
    let d := (List.range 4).foldl (fun d b => d.when_ (d.bankHold b) fun d => d.setBankSt b .out) d
    (d.enter (Mode.ofCode s.mode.val)).judgeInputs
  else d

/-- A shared-state change of the active arrives (R417). -/
def Device.mirrorIn (d : Device) (m : MirrorItem) : Device :=
  if d.follower then
    match m with
    | .tableWrite idx val => if idx.toNat ≤ 0x811 ∧ tableWordOk idx.toNat val then d.tableStore idx.toNat val else d
    | .penRelease s => (d.releasePen s false).2
    | .bankRelease b => (d.releaseBank b.val).2
  else d

/-! ### Join (R419) -/

/-- Steps 4 to 6: REJECT where the referee can no longer be armed; once it is armed the digests are compared and the device
becomes standby. (DEDUCED, log 76.) -/
def Device.joinFinish (d : Device) : Device :=
  if d.prl.join = some .calibrate then
    if d.on REF_ST_ARMED then
      let r := d.fresh
      if Config.partnerDigest r.1 then ((r.2.setRole 2 2).up PRL_EVT_JOINED).joinEnd .ok else r.2.joinEnd .reject
    else if d.mode ≠ .ready then d.joinEnd .reject
    else d
  else d

/-- Step 4: the ends that the device is wired to, those of rings in pair mode, become listen ends (R406). (DEDUCED, log 76.) -/
def Device.joinListen (d : Device) : Device :=
  d.ports.foldl (fun d p =>
    if d.isRing p && d.on (FLK_PCTL_PAIRM p) && !d.on (FLK_PFEN_FEN p) && d.get (FLK_PCTL_ROLE p) == 0 then
      d.put (FLK_PCTL_ROLE p) 2 else d) d

/-- What the last summary of the active says of R419 step 1: BUSY while a bank is PRECHARGING, REJECT in PRECHARGE without
one. (DEDUCED, log 76.) -/
def Device.partnerBusy (d : Device) : Option Status × Device :=
  match d.prl.partner with
  | some s =>
    (if (List.range 4).any fun b => bitsOf (s.bankst.zeroExtend 32) (2 * b) 2 == 1 then some .busy
     else if s.mode.val = 4 then some .reject else none, d)
  | none => let r := d.fresh; (if Config.partnerPrecharges r.1 then some .busy else none, r.2)

/-- A write of PRL_CTL with JOIN = 1 (R419, R425, R51). (DEDUCED, log 76.) -/
def Device.join (d : Device) (gen : Nat) : Device :=
  if gen ≠ d.gen uPRL then d.st uPRL .reset
  else match d.prl.join with
    | some .load => ((d.joinListen.setPrl fun p => { p with join := some .calibrate, joinGen := gen, rgen := d.rgen 0 }).joinFinish).st uPRL .ok
    | some _ => d.st uPRL .busy
    | none =>
      if d.isActive then d.st uPRL .reject
      else if d.on PRL_CKST_BUSY then d.st uPRL .busy
      else if d.get PRL_ST_ROLE == 2 || !d.on PRL_CTL_EN || d.mode != .ready || d.on REF_ST_ARMED || !d.on PRL_ST_UP then
        d.st uPRL .reject
      else
        let b := d.partnerBusy
        let r := b.2.fresh
        match b.1 with
        | some st => r.2.st uPRL st
        | none =>
          if !Config.partnerRings r.1 then r.2.st uPRL .reject
          else
            let step : JoinStep := if d.on PRL_ST_SYNC then .image else .sync
            (((r.2.put PRL_CKST_BUSY 1).put PRL_CKST_GEN gen).setPrl fun p =>
              { p with join := some step, joinGen := gen, rgen := d.rgen 0 }).st uPRL .ok

/-- The device's sequencer is aligned with the active's: SYNC, and step 2 of a join ends (R411, R419). -/
def Device.synced (d : Device) : Device :=
  if d.follower || d.prl.join.isSome then
    (d.put PRL_ST_SYNC 1).when_ (d.prl.join == some .sync) fun d => d.setPrl fun p => { p with join := some .image }
  else d

/-! ### Checkpoints (R424) -/

/-- A write of PRL_CKGO with GO = 1. A source that leaves the memory regions of R27 ends in a bus error: nothing is sent, and
the checkpoint ends with INTEGRITY. (DEDUCED, log 77.) -/
def Device.checkpointGo (d : Device) (gen : Nat) : Device :=
  let len := d.get PRL_CKLEN_LEN
  let src := d.get PRL_CKSRC_ADDR
  if gen ≠ d.gen uPRL then d.st uPRL .reset
  else if !d.isActive || !d.on PRL_ST_UP then d.st uPRL .reject
  else if d.on PRL_CKST_BUSY then d.st uPRL .busy
  else if len < 8 ∨ 262144 < len ∨ len % 8 ≠ 0 ∨ src % 8 ≠ 0 then d.st uPRL .range
  else if regionOf src = .none ∨ regionOf src = .periph ∨ regionOf (src + len - 8) ≠ regionOf src then
    ((d.put PRL_CKST_ST Status.integrity.code).put PRL_CKST_GEN gen).st uPRL .ok
  else
    let bytes := (List.range len).map fun k => memGet d.mem (src + k)
    let d := d.prlSend (.checkpoint bytes (d.rget FLK_EPNUM))
    (((d.put PRL_CKST_BUSY 1).put PRL_CKST_GEN gen).setPrl fun p => { p with ckpt := some gen, rgen := d.rgen 0 }).st uPRL .ok

/-- A checkpoint of the active ends with a status (R51, R312). (DEDUCED, log 77.) -/
def Device.checkpointEnd (d : Device) (st : Status) : Device :=
  match d.prl.ckpt with
  | some g =>
    ((((d.put PRL_CKST_ST (d.answer uPRL g 0 d.prl.rgen st).code).put PRL_CKST_BUSY 0).put PRL_CKST_GEN g).setPrl fun p => { p with ckpt := none }).when_
      (st == .ok) fun d => d.up PRL_EVT_CKTX
  | none => d

/-- A checkpoint lands at PRL_CKRB, inside pair A's write region (R300). (DEDUCED, log 77.) -/
def Device.checkpointIn (d : Device) (bytes : List Byte) (epoch : Word) : Device :=
  let base := d.get PRL_CKRB_BASE
  if d.on PRL_CTL_EN && decide (0x20000000 ≤ base) && decide (base + bytes.length ≤ d.split) then
    let m := bytes.zipIdx.foldl (fun m x => memSet m (base + x.2) x.1) d.mem
    (((({ d with mem := m } : Device).rewrote base bytes.length).put PRL_CKRI_LEN bytes.length).put PRL_CKREP_EPOCH epoch.toNat).up PRL_EVT_CKRX
  else d

/-! ### Lanes (R410) -/

/-- Lane l completes training. -/
def Device.laneUp (d : Device) (l : Nat) (dly : Nat) : Device :=
  if !d.on PRL_CTL_EN || d.prl.laneOff.getLsbD l then d
  else
    let was := d.on PRL_ST_UP
    let d := ((d.put PRL_ST_LANES (d.get PRL_ST_LANES ||| 2 ^ l)).put PRL_LDLY_DLY dly).put PRL_ST_UP 1
    (d.when_ (!was) fun d => d.up PRL_EVT_LUP).askShadows

/-- Lane l goes down. The third loss within 10 s leaves it down; with no lane left the link is down, and SYNC falls when no
MARKER keeps it. -/
def Device.laneLoss (d : Device) (l : Nat) : Device :=
  if (d.get PRL_ST_LANES).testBit l then
    let recent := ((d.prl.losses[l]?).getD []).filter fun t => decide (d.now ≤ t + 10000000000)
    let out := decide (2 ≤ recent.length)
    let d := d.setPrl fun p => { p with losses := p.losses.setIfInBounds l (d.now :: recent.take 2) }
    let d := d.when_ out fun d => (d.up PRL_EVT_LANEF).setPrl fun p => { p with laneOff := p.laneOff ||| (1#2 <<< l) }
    let lanes := d.get PRL_ST_LANES - 2 ^ l
    let d := d.put PRL_ST_LANES lanes
    if lanes = 0 then
      let d := ((d.put PRL_ST_UP 0).up PRL_EVT_LDOWN).count16 PRL_LDNC
      d.when_ (d.prl.marks.isEmpty && d.prl.markLow.isNone) fun d => d.put PRL_ST_SYNC 0
    else d
  else d

/-! ### The follower's epoch (R411, R412) -/

/-- The number of the epoch that begins at a follower's next epoch time: the one whose low byte the MARKER gave, the one that
the epoch message names or the one after it, or the next. (DEDUCED, log 74.) -/
def Device.followNumber (d : Device) : Nat :=
  let next := d.epoch + 1
  match d.prl.markLow, d.prl.epochMsg with
  | some lo, _ =>
    let up := (lo + 256 - next % 256) % 256
    if up < 128 then next + up else next + up - 256
  | none, some m => if m.1 = d.epoch then m.1 + 1 else m.1
  | none, none => next



/-- What a follower's epoch time does to PRL: SYNC, the bell count where no BELL arrived, a fresh epoch's sources; and on any
device the messages sent start anew and a join moves on. (DEDUCED, log 29, 30, 74.) -/
def Device.prlEpoch (d : Device) : Device :=
  let follows := d.follower || d.prl.join.isSome
  let src := d.prl.markLow.isSome || d.prl.epochMsg.isSome
  let d := d.when_ follows fun d => d.putB PRL_ST_SYNC src
  let d := d.when_ (d.follower && !d.prl.bellIn) fun d => d.put REF_ST_BELL (d.get REF_ST_BELL + 1)
  (d.setPrl fun p => { p with sent := [], marks := [], markLow := none, epochMsg := none, bellIn := false }).joinFinish

/-! ### Meanings -/

/-- PARTNER_ALIVE_CHANGE (R408, R418, R420). -/
def execPartnerAliveChange (a : Alive) (s : State) : Host.Outcome State Fault Refusal :=
  onCtl s fun d =>
    let was := d.get PRL_ST_PALV
    match a with
    | .absent =>
      let d := (d.put PRL_ST_PALV 0).when_ (was != 0) fun d => d.up PRL_EVT_PWDR
      let d := d.when_ (d.isActive && d.on PRL_CTL_EN) Device.relAll
      d.takeTrigger
    | .standbyRate => (d.put PRL_ST_PALV 1).askShadows
    | .activeRate => d.put PRL_ST_PALV 2

/-- PARTNER_STANDBY_RATE_TIMEOUT (R420): the active has shown the standby rate for 200 µs. -/
def execPartnerStandbyRateTimeout (s : State) : Host.Outcome State Fault Refusal :=
  onCtl s fun d => if d.get PRL_ST_PALV = 1 then d.takeTrigger else d

/-- YIELD_TIMEOUT (R423). -/
def execYieldTimeout (s : State) : Host.Outcome State Fault Refusal :=
  onCtl s fun d => if d.isActive && d.get PRL_ST_PALV == 2 then (d.withdraw).up PRL_EVT_YIELD else d

/-- SECONDARY_ACTIVE_TIMEOUT (R419): 1 s after muster with the partner absent and the link down. -/
def execSecondaryActiveTimeout (s : State) : Host.Outcome State Fault Refusal :=
  onCtl s fun d =>
    if d.on PRL_CTL_EN && !Config.pairSel && d.get PRL_ST_ROLE == 0 && d.get PRL_ST_PALV == 0 && !d.on PRL_ST_UP &&
        d.mode != .muster && d.mode.live then
      d.becomeActive.listenToDrive
    else d

/-- LANE_TRAINED (R410). -/
def execLaneTrained (l : Fin 2) (dly : BitVec 12) (s : State) : Host.Outcome State Fault Refusal :=
  onCtl s fun d => d.laneUp l.val dly.toNat

/-- LANE_DOWN (R410). -/
def execLaneDown (l : Fin 2) (s : State) : Host.Outcome State Fault Refusal := onCtl s fun d => d.laneLoss l.val

/-- ACTION_MESSAGE (R414). -/
def execActionMessage (m : ActionMsg) (s : State) : Host.Outcome State Fault Refusal :=
  onCtl s fun d => if d.on PRL_ST_UP then d.mirrorAction m else d

/-- EPOCH_SUMMARY_RECEIVED (R416, R417). -/
def execEpochSummaryReceived (m : EpochSummary) (s : State) : Host.Outcome State Fault Refusal :=
  onCtl s fun d => if d.on PRL_ST_UP then d.summaryIn m else d

/-- A follower takes its period from the active (R411); source 114 tells of a change (R94). (DEDUCED, log 74.) -/
def Device.followPeriod (d : Device) (per : Nat) : Device :=
  if d.follower && per != d.flk.per then
    let d := (d.put FLK_EPER_PER per).unlockPhase
    { d with flk := { d.flk with per := per, perWanted := none, perNext := none, src := d.flk.src ||| 0x4#4, diagSent := none } }
  else d

/-- EPOCH_MESSAGE (R411): the active sends it as the epoch begins, and it arrives PRL_LDLY later. (DEDUCED, log 74.) -/
def execEpochMessage (epoch : EpochMsg) (s : State) : Host.Outcome State Fault Refusal :=
  onCtl s fun d =>
    if d.on PRL_ST_UP then
      ((d.setPrl fun p => { p with epochMsg := some (epoch.epoch.toNat, d.now - d.get PRL_LDLY_DLY / 4) }).followPeriod
        epoch.per.toNat).synced
    else d

/-- WITHDRAW_MESSAGE (R420). -/
def execWithdrawMessage (s : State) : Host.Outcome State Fault Refusal :=
  onCtl s fun d =>
    if d.on PRL_ST_UP then
      let d := d.up PRL_EVT_PWDR
      let d := d.when_ (d.isActive && d.on PRL_CTL_EN) Device.relAll
      d.takeTrigger
    else d

/-- SHARED_STATE_MIRROR (R417). -/
def execSharedStateMirror (m : MirrorItem) (s : State) : Host.Outcome State Fault Refusal :=
  onCtl s fun d => if d.on PRL_ST_UP then d.mirrorIn m else d

/-- SHADOW_SET (R418). -/
def execShadowSet (k : Fin 12) (s : State) : Host.Outcome State Fault Refusal :=
  onCtl s fun d =>
    if d.on PRL_CTL_EN && d.get PRL_ST_ROLE == 2 && k.val % 3 != 2 then
      (d.put CTD_SHD_MASK (d.get CTD_SHD_MASK ||| 2 ^ k.val)).startShadow k.val
    else d

/-- SHADOW_RELEASE_RECEIVED (R418): the high sides of the drivers go off and their CTD_SHD bits clear. -/
def execShadowReleaseReceived (mask : BitVec 12) (s : State) : Host.Outcome State Fault Refusal :=
  onCtl s fun d =>
    if d.on PRL_CTL_EN && d.get PRL_ST_ROLE == 2 then
      let d := (List.range 12).foldl (fun d k =>
        if mask.getLsbD k && d.drvSt k == .shadow then d.openDriver k else d) d
      d.put CTD_SHD_MASK (d.get CTD_SHD_MASK &&& (~~~mask).toNat)
    else d

/-- STANDBY_SLOT_START (R413): the ends of a standby may send until the slot ends; each end PINGs the next node of
its refresh (R87). -/
def execStandbySlotStart (s : State) : Host.Outcome State Fault Refusal :=
  onCtl s fun d =>
    if (d.follower || d.prl.join == some .calibrate) && d.mode.live then
      let d : Device := { d with flk := { d.flk with cmdOpen := true } }
      d.acqFrames.refreshPings
    else d

/-- MARKER_AT_LISTEN_END (R411, R412, R90, R69): CONT is set once BELL and MARKER are in; a follower takes the bell count and
places its epoch time. -/
def execMarkerAtListenEnd (p : Fin 128) (m : LineMark) (s : State) : Host.Outcome State Fault Refusal :=
  onCtl s fun d =>
    if d.isListen p.val && !d.contends p.val then
      let d := d.linkUp p.val
      match m with
      | .bell c =>
        let d := d.setPt p.val fun v => { v with bellIn := true }
        d.when_ d.follower fun d => (d.put REF_ST_BELL c.toNat).setPrl fun x => { x with bellIn := true }
      | .marker a =>
        let d := d.when_ (d.pt p.val).bellIn fun d => d.put (FLK_PSTAT_CONT p.val) 1
        let d := d.setPt p.val fun v => { v with markIn := true }
        if d.follower || d.prl.join.isSome then
          (d.setPrl fun x =>
            { x with markLow := some a.toNat
                     marks := mapSet (p.val / 2) (d.now - d.get (FLK_PRING_DRING p.val) / 4) x.marks }).synced
        else d
    else d

/-- PAIR_JOIN (R419): a write of PRL_CTL with JOIN = 1. -/
def execPairJoin (gen : Byte) (s : State) : Host.Outcome State Fault Refusal :=
  onCtl s fun d => if d.sys.appHeld then d else d.join gen.toNat

/-- CONFIG_IMAGE_RECEIVED (R419 step 3). -/
def execConfigImageReceived (s : State) : Host.Outcome State Fault Refusal :=
  onCtl s fun d => if d.prl.join = some .image then d.setPrl fun p => { p with join := some .load } else d

/-- A write of PRL_CTL with HAND = 1 (R422, R425, R51). -/
def Device.hand (d : Device) (gen : Nat) : Device :=
  if gen ≠ d.gen uPRL then d.st uPRL .reset
  else if !d.isActive then d.st uPRL .reject
  else if d.anyPrecharging then d.st uPRL .busy
  else
    let r := d.fresh
    if d.on PRL_ST_UP && d.get PRL_ST_PALV == 1 && Config.partnerSync r.1 then (r.2.withdraw).st uPRL .ok
    else r.2.st uPRL .reject

/-- PAIR_HAND (R422). -/
def execPairHand (gen : Byte) (s : State) : Host.Outcome State Fault Refusal :=
  onCtl s fun d => if d.sys.appHeld then d else d.hand gen.toNat

/-- CHECKPOINT_SEND (R424). -/
def execCheckpointSend (gen : Byte) (s : State) : Host.Outcome State Fault Refusal :=
  onCtl s fun d => if d.sys.appHeld then d else d.checkpointGo gen.toNat

/-- CHECKPOINT_RECEIVED (R424): on the device that sent it, CKTX; on the one that receives it, CKRX. (DEDUCED, log 77.) -/
def execCheckpointReceived (bytes : List Byte) (epoch : Word) (s : State) : Host.Outcome State Fault Refusal :=
  onCtl s fun d => if d.prl.ckpt.isSome then d.checkpointEnd .ok else d.checkpointIn bytes epoch

end Sys2Proof.Machine
end

