-- ==== Sys2Proof/Machine/Reset.lean ====
section
/-! DEFINITION. Reset classes P, W and G and the control die's P-class start, block by block; generations; the hold window's
opening (R42 to R49, R51, R52). -/

namespace Sys2Proof.Machine

/-! ### What a reset keeps -/

/-- A header register (R53). -/
def isHeader (a : Nat) : Bool := decide (a - unitOf a < 12) && (blockOf a).isSome

/-- Fields of NVM type, which the configuration region holds (R436). -/
def isNvmReg (a : Nat) : Bool := [SEC_BOOTSEL, SEC_RBC, SEC_LC, SEC_KST].contains a

/-- The bits of a register that a W reset keeps although the register takes reset values (R44, R422). (DEDUCED, log 78.) -/
def wKeep (v a : Nat) : Nat :=
  if a = PRL_ST then 3 else if a = PRL_EVT then 0x407
  else if (a = CPX_PST 0 ∨ a = CPX_PST 1) ∧ v % 4 = 3 then 3 else 0

/-- The bits that a G reset keeps: fences (R254). (DEDUCED, log 78.) -/
def gKeep (a : Nat) : Nat := if blockOf a = some .ctd ∧ (List.range 12).any (fun k => a == CTD_DST k) then 2 ^ (CTD_DST_FEN 0).lo else 0

/-- One entry of the register map under a reset: kept whole, kept in part, or back at its reset value. -/
def keepEntry (whole : Nat → Bool) (mask : Nat → Nat → Nat) (e : Nat × Word) : Option (Nat × Word) :=
  if whole e.1 then some e
  else
    let m := mask e.2.toNat e.1
    if m = 0 then none else some (e.1, e.2 &&& BitVec.ofNat 32 m)

/-- The register map with the entries that a reset keeps. -/
def Device.resetRegs (d : Device) (whole : Nat → Bool) (mask : Nat → Nat → Nat) : Device :=
  { d with regs := d.regs.filterMap (keepEntry whole mask) }

/-- A generation of unit u has incremented less than 10 ms ago (R52). (DEDUCED, log 111.) -/
def Device.genFresh (d : Device) (u : Nat) : Bool :=
  match mapGet u d.sys.genAt with | some t => decide (d.now < t + 10000000) | none => false

/-- A reset of a unit: the generation increments, unless it did so within 10 ms (R52), LRC names the class, LASTST and SATF are
cleared (R51, R53). (DEDUCED, log 111.) -/
def Device.bumpGen (d : Device) (u cls : Nat) : Device :=
  let near := d.genFresh u
  let d := (d.put (genFld u) (d.gen u + if near then 0 else 1)).put (lrcFld u) cls
  let d := (d.put (lastFld u) 0).rset (u + 8) 0#32
  if near then d else { d with sys := { d.sys with genAt := mapSet u d.now d.sys.genAt } }

/-- Base addresses of the units that a W reset resets (R44). -/
def wUnits : List Nat :=
  [0x60020000, 0x60030000, 0x60040000, 0x60050000, 0x60060000, 0x60100000, 0x60120000, 0x60130000, 0x60180000, 0x60184000,
   0x60188000, 0x6018C000, 0x601A0000, 0x601B0000, 0x601D0000]

/-- Base addresses of every block and unit that keeps a generation (R51, R53). -/
def allUnits : List Nat :=
  [0x60000000, 0x60010000, 0x60020000, 0x60030000, 0x60040000, 0x60050000, 0x60060000, 0x60080000, 0x60100000, 0x60110000,
   0x60120000, 0x60130000, 0x60140000, 0x60150000, 0x60160000, 0x60170000, 0x60180000, 0x60184000, 0x60188000, 0x6018C000,
   0x601A0000, 0x601B0000, 0x601C0000, 0x601D0000, 0x601E0000]

/-! ### Internal state of the blocks under a reset -/

/-! ### Replies that a reset cuts off: their requesters receive RESET (R51) (DEDUCED, log 111) -/

/-- Operations of SCR: a kernel load and a job. (DEDUCED, log 111.) -/
def Device.scrReplies (d old : Device) : Device :=
  let d := match old.scr.load with
    | some l => if l.rom then d else (d.put SCR_KLST_ST Status.reset.code).put SCR_KLST_GEN l.gen
    | none => d
  match old.scr.job with
  | some j => if j.entry.isNone then d.put SCR_JST_ST Status.reset.code else d
  | none => d

/-- Requests in NVC's queue, SEC's among them. (DEDUCED, log 111.) -/
def Device.nvcReplies (d old : Device) : Device :=
  old.nvc.queue.foldl (fun d q =>
    let d := (d.put NVC_ST_ST Status.reset.code).put NVC_ST_GEN q.gen
    match q.kind with
    | .sec _ => ((d.put SEC_OPST_ST Status.reset.code).put SEC_OPST_BUSY 0).put SEC_OPST_GEN q.gen
    | _ => d) d

/-- The MDIO operation of MAC m. (DEDUCED, log 111.) -/
def Device.ethReplies (d old : Device) (m : Nat) : Device :=
  match (old.mac m).mdio with
  | some o => (d.put (ETH_MDST_ST m) Status.reset.code).put (ETH_MDST_GEN m) o.gen
  | none => d

/-- A join or a checkpoint of PRL. (DEDUCED, log 111.) -/
def Device.prlReplies (d old : Device) : Device :=
  match old.prl.join, old.prl.ckpt with
  | some _, _ => (d.put PRL_CKST_ST Status.reset.code).put PRL_CKST_GEN old.prl.joinGen
  | none, some g => (d.put PRL_CKST_ST Status.reset.code).put PRL_CKST_GEN g
  | none, none => d

/-- Pair A's frame at each port end, acquisition's, and the operation of FLK_OPS. (DEDUCED, log 111.) -/
def Device.flkReplies (d old : Device) : Device :=
  let d := d.when_ old.flk.op.isSome fun d => d.put FLK_OPST_ST Status.reset.code
  d.ports.foldl (fun d p =>
    let v := old.pt p
    let cs := v.queued.toList ++ v.out.toList
    cs.foldl (fun (d : Device) c => match c.src with
      | .firmware => d.prsp p Status.reset.code c.gen
      | .acq => d.acqReply ⟨old.nodeIndex (old.aEnd p) c.addr.toNat, c.opc.toNat, none⟩
      | .flk => d) d) d

/-- SCR after a W or G reset: tables and LUTC are held, rows keep their values, and the reference kernel is copied anew, until
when K0 holds no valid kernel (R44, R170). (DEDUCED, log 113.) -/
def Device.resetScr (d : Device) : Device :=
  ({ d with scr := { Scr.reset with luts := d.scr.luts } } : Device).scrReplies d

/-- A job that BUD dispatched ends with RESET in the entry of a scorer that a G reset cut off (R51, R335). (DEDUCED, log 111.)
-/
def Device.budReplies (d old : Device) : Device :=
  match old.scr.job with
  | some j => match j.entry with
    | some q => (d.put (BUD_QVAL_LAST q) Status.reset.code).put BUD_JST_BUSY 0
    | none => d
  | none => d

/-- BUD after a W or G reset: a job that it dispatched has lost its entry. -/
def Device.resetBud (d : Device) : Device :=
  { d with bud := Bud.reset, scr := { d.scr with job := d.scr.job.map fun j => { j with entry := none } } }

/-- ACQ after a W or G reset; its request for the low-current epoch ends with LCE_EN. -/
def Device.resetAcq (d : Device) : Device := { d.lceExit with acq := Acq.reset }

/-- NVC's state after a W or G reset, with no row in progress: the queue is lost (R44). -/
def Device.resetNvc (d : Device) : Device :=
  ({ d with nvc := { Nvc.reset with seq := d.nvc.seq, torn := d.nvc.torn } } : Device).nvcReplies d

/-- MAC m after a W or G reset; stamps that it throws away count (R397). -/
def Device.resetEth (d : Device) (m : Nat) : Device :=
  let n := (d.mac m).tsq.length
  ((d.setMac m fun _ => EthMac.reset).count16n (ETH_TSDROP m) n).ethReplies d m

/-- PRL after a W or G reset: the field die keeps the role and what the partner shadows (R410, R422). (DEDUCED, log 78.) -/
def Device.resetPrl (d : Device) : Device :=
  ({ d with prl := { Prl.reset with shadowed := d.prl.shadowed } } : Device).prlReplies d

/-- Both core pairs are held in reset; the restart records stay (R44). -/
def Device.resetCores (d : Device) : Device :=
  { d with cpx := { d.cpx with core := Vector.replicate 2 CorePair.reset, restart := Vector.replicate 2 false } }

/-- Core pair h. -/
def Device.corePair (d : Device) (h : Nat) : CorePair := (d.cpx.core[h]?).getD CorePair.reset
def Device.setCore (d : Device) (h : Nat) (f : CorePair → CorePair) : Device :=
  { d with cpx := { d.cpx with core := d.cpx.core.setIfInBounds h (f (d.corePair h)) } }

/-! ### The hold window opens (R47, R48) -/

/-- Muster starts at step 1 (R40, R49): the nodes are woken and released (R128), and no row has its MODID (R143).
(DEDUCED, log 103.) -/
def Device.startMuster (d : Device) : Device :=
  let d := (d.put SYS_MST 0).releaseFlocks
  let modid := fun (a : Nat) => decide (0x40000000 ≤ a) && decide (a < 0x40C00000) && a % 64 / 4 == 13
  { d with
    mem := d.mem.filter fun e => !modid e.1
    sys := { d.sys with mustSeen := false, musterRuns := true } }
where
  /-- The whole of SYS_MST. -/
  SYS_MST : Fld := ⟨0x60000038, 0, 32⟩

/-- Open the hold window unless one runs: a connect in progress ends with reason HOLD (R48, R263), STOPBAL is due. A device in
MUSTER restarts it. (DEDUCED, log 80.) -/
def Device.openHold (d : Device) : Device :=
  if d.holding then d
  else
    let d := (d.put SYS_MODE_HOLD 1).up SYS_EVT_HOLDO
    let d : Device := { d with sys := { d.sys with holdAt := some d.now, stopbalDue := true } }
    (List.range 4).foldl (fun d b => if d.bankSt b = .precharging then d.endConnect b 4 1 else d) d

/-! ### W reset (R44 to R46) -/

/-- The blocks of the application domain under a W reset (R44): NVC waits for a row in progress. The last discharge epochs and
the candidates of the limits go with PUB's counters and gate. (DEDUCED, log 112.) -/
def Device.wBlocks (d : Device) : Device :=
  let row := d.nvc.row.isSome
  let old := d
  let d := d.resetRegs (fun a =>
    isHeader a || !((regDef? a).map (·.byW)).getD false || (row && blockOf a == some .nvc)) wKeep
  let d := (wUnits.filter fun u => !(row && u == 0x60030000)).foldl (fun d u => d.bumpGen u 1) d
  let d : Device := { d.resetAcq.resetBud with can := Vector.replicate 4 ⟨none⟩ }
  let d := if row then ({ d with nvc := { d.nvc with resetDue := some 1 } } : Device).nvcReplies old else d.resetNvc
  let d := (((d.resetScr.resetEth 0).resetEth 1).resetPrl).resetCores
  { d with pub := { d.pub with commit := none, cand := [], lde := [] }, sec := { d.sec with key1At := none, recovery := false } }

/-- A W reset with its cause bit of SYS_RSTCAUSE; the loosen window closes (R240); the domain is held until
APP_DOMAIN_RELEASE, and a W asserted meanwhile adds nothing but its cause. (DEDUCED, log 79.) -/
def Device.wReset (d : Device) (cause : Fld) : Device :=
  let d := d.up cause
  if d.sys.appHeld then d
  else
    let d := (d.wBlocks.openHold).put REF_ST_LOOSE 0
    let d : Device := { d with sys := { d.sys with appHeld := true, reassertDue := false } }
    d.when_ (d.mode == .muster) fun d => { d with sys := { d.sys with musterRuns := false, mustSeen := false } }

/-! ### P-class start of the control die (R42, R43) and P reset -/

/-- What survives a power-down of the control die: field-die registers and the NVM fields of SEC. -/
def pKeepWhole (a : Nat) : Bool :=
  isNvmReg a || (isHeader a && (blockOf a == some .ctd || blockOf a == some .lsw)) || ((regDef? a).map (·.keep)).getD false

/-- The bits of PRL, and of TRIP_N's driver, that the field die keeps (R42). (DEDUCED, log 78.) -/
def pKeepMask (_ a : Nat) : Nat := if a = PRL_ST then 3 else if a = PRL_EVT then 0x407 else if a = REF_ST then 8 else 0

/-- Memory that holds through a power-down of the control die. -/
def nvmOnly (m : List Host.Cell) : List Host.Cell := m.filter fun e => decide (0x08000000 ≤ e.1) && decide (e.1 < 0x09800000)

/-- Bit errors in that memory. -/
def nvmUpsets (u : List (Nat × Bool)) : List (Nat × Bool) := u.filter fun e => regionOf (8 * e.1) == .nvm

/-- Every control-die block takes its P-class values (R42); with `s3` the SRAM and what R43 names beside it are retained. The
control die is held in reset until its supplies are in range and the PLL locks. (DEDUCED, log 78.) -/
def Device.pClass (d : Device) (s3 : Bool) : Device :=
  let d := d.resetRegs pKeepWhole pKeepMask
  { d with
    mem := if s3 then d.mem else nvmOnly d.mem
    upsets := if s3 then d.upsets else nvmUpsets d.upsets
    sys := { Sys.reset with sramUndef := !s3, ackLowAt := d.sys.ackLowAt }
    ref := Referee.reset, flk := Flk.reset, acq := Acq.reset, bmi := Bmi.reset
    scr := { Scr.reset with luts := if s3 then d.scr.luts else [] }
    pub := if s3 then { Pub.reset with initd := d.pub.initd, init := d.pub.init, glide := d.pub.glide } else Pub.reset
    pulses := [], thm := Thm.reset, bud := Bud.reset, mtr := Vector.replicate 4 Motor.reset
    can := Vector.replicate 4 ⟨none⟩, eth := Vector.replicate 2 EthMac.reset, tim := Tim.reset
    prl := { Prl.reset with shadowed := d.prl.shadowed }
    cpx := { Cpx.reset with retention := s3 }
    nvc := { Nvc.reset with torn := d.nvc.torn }
    sec := { Sec.reset with keys := d.sec.keys, cfgVer := d.sec.cfgVer, bootRec := d.sec.bootRec, cold := if s3 then 0#2 else 3#2
                            fwSvn := if s3 then d.sec.fwSvn else 0, fwSlot := if s3 then d.sec.fwSlot else none } }

/-- A P reset of both dies (R44, R445): the non-volatile memory, the fuses and the nodes on the links are all that stays.
(DEDUCED, log 78.) -/
def Device.pReset (d : Device) : Device :=
  { Device.reset with
    part := d.part, now := d.now, free := d.free, nodes := d.nodes
    regs := d.regs.filter fun e => isNvmReg e.1
    mem := nvmOnly d.mem
    upsets := nvmUpsets d.upsets
    nvc := { Nvc.reset with torn := d.nvc.torn }
    sec := { Sec.reset with keys := d.sec.keys, cfgVer := d.sec.cfgVer } }

/-- The row that a loss of supply cuts off holds no stated bytes and counts as not committed (R461). (DEDUCED, log 84.) -/
def Device.tearRow (d : Device) : Device :=
  match d.nvc.row with
  | none => d
  | some (r, _) =>
    let x := d.fresh
    let m := (List.range 256).foldl (fun m k => memSet m (0x08000000 + 256 * r + k) (Config.tornByte x.1 k)) x.2.mem
    { x.2 with mem := m, upsets := clearUpsets x.2.upsets (0x08000000 + 256 * r) 256, nvc := { x.2.nvc with row := none, torn := r :: x.2.nvc.torn.filter (· != r) } }

/-! ### Outputs off (R321, R333, R443, R444) -/

/-- The field die brings its outputs to the state of a hardware shutdown: coils fast-quenched, load channels and motor gates
off, TRIP_N low, trip latch set. -/
def Device.outputsOff (d : Device) : Device :=
  let d := (List.range 4).foldl (fun d u => match d.motSt u with
    | .fenced => d | .stopped => d | .fault => d | _ => d.motCoast u) d
  let d := (d.loadsOff.put REF_ST_TRIPO 1).setLatch
  { d with fd := { d.fd with outputsOff := true } }

/-! ### G reset (R44) -/

/-- The registers of one unit under a G reset (2), or under the W reset (1) that waited for it. (DEDUCED, log 78.) -/
def Device.unitRegs (d : Device) (u cls : Nat) : Device :=
  let mine := fun (a : Nat) => unitOf a == u && !isHeader a && ((regDef? a).map fun r => if cls = 1 then r.byW else r.byG).getD false
  (d.resetRegs (fun a => !mine a) (fun _ a => gKeep a)).bumpGen u cls

def Device.gRegs (d : Device) (u : Nat) : Device := d.unitRegs u 2

/-- The reset of NVC that waited for a row takes place (R44). (DEDUCED, log 78.) -/
def Device.dueNvc (d : Device) : Device :=
  match d.nvc.resetDue with
  | some cls => (d.unitRegs 0x60030000 cls).resetNvc
  | none => d

/-- Every bank is OPEN or OUT. -/
def Device.banksOpen (d : Device) : Bool := (List.range 4).all fun b => d.bankSt b == .opened || d.bankSt b == .out

/-- Modes in which FLK and BMI take a G reset. -/
def Mode.linksIdle : Mode → Bool
  | .muster => true | .ready => true | .tripped => true | _ => false

/-- CTD under G: drivers and banks at rest, resistor models and fences kept (R44, R254, R260). (DEDUCED, log 78.) -/
def Device.resetCtd (d : Device) : Device :=
  { d with drv := Vector.replicate 12 Driver.reset, bank := d.bank.map fun v => { Bank.reset with dT := v.dT } }

/-- LSW under G: every channel turns off; fenced ones stay fenced (R44, R375). (DEDUCED, log 66.) -/
def Device.resetLsw (d : Device) : Device :=
  let d : Device := { d with lsw := Vector.replicate 16 Load.reset }
  (List.range 16).foldl (fun d n => if (d.get LSW_FENCE_FEN).testBit n then d.put (LSW_CST_STATE n) LoadSt.fenced.code else d) d

/-- MTR under G: fenced units stay fenced (R358). (DEDUCED, log 66.) -/
def Device.resetMtr (d : Device) : Device :=
  let d : Device := { d with mtr := Vector.replicate 4 Motor.reset }
  (List.range 4).foldl (fun d u => if d.motFenced u then d.put (MTR_ST_STATE u) MotorSt.fenced.code else d) d

/-- FLK under G: links and operations at rest, their requesters receive RESET; the epoch schedule runs on, and a period that the
reset changed is announced (R44, R51, R94, R464). (DEDUCED, log 78.) -/
def Device.resetFlk (d : Device) : Device :=
  let per := d.get FLK_EPER_PER
  ({ d with flk := { Flk.reset with
      per := d.flk.per, perWanted := if per = d.flk.per then none else some per, lastT := d.flk.lastT, prevLen := d.flk.prevLen
      totalMs := d.flk.totalMs, marker := d.flk.marker } } : Device).flkReplies d

/-- The unit that SYS_GRST names: its base address (R53); `none` for a code that is not listed. -/
def gUnit (blk unit : Nat) : Option Nat :=
  match blk with
  | 0x10 => if unit < 4 then some (0x60180000 + 0x4000 * unit) else none
  | 0x11 => if unit < 2 then some (0x601A0000 + 0x10000 * unit) else none
  | _ => if blk < 0x15 then ([Block.sys, .thm, .bud, .nvc, .sec, .cpx, .int, .flk, .acq, .bmi, .scr, .pub, .ref, .ctd, .lsw,
      .mtr, .can, .eth, .tim, .prl, .dbg][blk]?).map Block.base else none

/-- R44's column G: the block takes a G reset now. -/
def Device.gAllowed (d : Device) (blk : Nat) : Bool :=
  match blk with
  | 0x02 => true | 0x03 => true | 0x08 => true | 0x0A => true | 0x0E => true | 0x10 => true | 0x11 => true
  | 0x07 => d.mode.linksIdle
  | 0x09 => d.mode.linksIdle
  | 0x0B => d.mode == .ready
  | 0x0D => d.banksOpen
  | 0x0F => (List.range 4).all fun u => d.motSt u == .stopped
  | 0x13 => d.get PRL_ST_ROLE == 0
  | _ => false

/-- The internal state of a block under a G reset. (DEDUCED, log 78.) -/
def Device.gInternal (d : Device) (blk unit : Nat) : Device :=
  match blk with
  | 0x02 => d.resetBud
  | 0x03 => d.resetNvc
  | 0x07 => d.resetFlk
  | 0x08 => d.resetAcq
  | 0x09 => { d with bmi := Bmi.reset }
  | 0x0A => d.resetScr.budReplies d
  | 0x0B => { d with pub := { Pub.reset with initd := d.pub.initd } }
  | 0x0D => d.resetCtd
  | 0x0E => d.resetLsw
  | 0x0F => d.resetMtr
  | 0x10 => d.setCur unit none
  | 0x11 => d.resetEth unit
  | 0x13 => d.resetPrl
  | _ => d

/-- A write of SYS_GRST (R44, R52): NVC waits for a row in progress. (DEDUCED, log 111.) -/
def Device.gReset (d : Device) (blk unit : Nat) : Device :=
  match gUnit blk unit with
  | none => d.st uSYS .range
  | some u =>
    if !d.gAllowed blk then d.st uSYS .reject
    else if d.genFresh u then d.st uSYS .busy
    else if blk = 0x03 ∧ d.nvc.row.isSome then ({ d with nvc := { d.nvc with resetDue := some 2 } } : Device).st uSYS .ok
    else ((d.gRegs u).gInternal blk unit).st uSYS .ok

end Sys2Proof.Machine
end

