-- ==== Sys2Proof/Machine/Control.lean ====
section
/-! DEFINITION. INT and CPX: the interrupt sources and what each core pair's half selects, lockstep, scrubber, test slots,
pair restart, escalation, fencing and watchdogs (R41, R58, R59, R298 to R316). -/

namespace Sys2Proof.Machine

abbrev uCPX : Nat := 0x60050000
abbrev uINT : Nat := 0x60060000

/-! ### Interrupt sources (R58) -/

/-- Bit `k` of the word at `a`. -/
def Device.bitAt (d : Device) (a k : Nat) : Bool := (d.rget a).toNat.testBit k

/-- Some bit from `lo` of the word at `a`, `n` bits wide, is set. -/
def Device.anyAt (d : Device) (a lo n : Nat) : Bool := bitsOf (d.rget a) lo n != 0

/-- Objects of controller c that raise its receive source, and its transmit source. -/
def Device.canRxSource (d : Device) (c : Nat) : Bool :=
  (List.range 128).any fun j => d.on (CAN_OCFG_IE c j) && !d.on (CAN_OCFG_DIR c j) && d.on (CAN_OSTAT_NEW c j)
def Device.canTxSource (d : Device) (c : Nat) : Bool :=
  (List.range 128).any fun j =>
    d.on (CAN_OCFG_IE c j) && d.on (CAN_OCFG_DIR c j) && (d.on (CAN_OSTAT_TXOK c j) || d.on (CAN_OSTAT_ABTD c j))

/-- Source n of SYS to FLK, each raised as its block chapter says. (DEDUCED, log 23.) -/
def Device.sourceLow (d : Device) (n : Nat) : Bool :=
  if n < 8 then decide (n < 7) && d.bitAt SYS_EVT n
  else if n < 16 then decide (n < 13) && d.bitAt THM_EVT (n - 8)
  else if n < 24 then if n = 20 then d.pulses.contains 20 else decide (n < 20) && d.bitAt BUD_EVT (n - 16)
  else if n < 32 then decide (n < 29) && d.bitAt NVC_EVT (n - 24)
  else if n < 40 then false
  else if n < 48 then decide (n < 46) && d.bitAt CPX_EVT (n - 40)
  else if n < 112 then d.anyAt (FLK_PEVT (2 * (n - 48))) 0 32 || d.anyAt (FLK_PEVT (2 * (n - 48) + 1)) 0 32
  else decide (n < 116) && d.flk.src.toNat.testBit (n - 112)

/-- Source n of ACQ to MTR. (DEDUCED, log 23.) -/
def Device.sourceMid (d : Device) (n : Nat) : Bool :=
  if n < 136 then decide (n < 134) && d.bitAt ACQ_EVT (n - 120)
  else if n < 152 then d.anyAt (BMI_IST (n - 136)) 0 32
  else if n < 160 then d.bitAt SCR_EVT (n - 152)
  else if n < 168 then if n < 162 then d.pulses.contains n else decide (n < 167) && d.bitAt PUB_EVT (n - 162)
  else if n < 184 then if n = 183 then d.anyAt REF_CSTAT 15 5 else d.bitAt REF_CSTAT (n - 168)
  else if n < 196 then
    d.anyAt (CTD_DEVT (n - 184)) 0 32 || ((n - 184) % 3 == 0 && d.anyAt (CTD_BEVT ((n - 184) / 3)) 0 32)
  else if n < 212 then d.anyAt (LSW_CEVT (n - 196)) 0 32
  else d.anyAt (MTR_UEVT (n - 212)) 0 32

/-- Source n of CAN to the software sources. (DEDUCED, log 23.) -/
def Device.sourceHigh (d : Device) (n : Nat) : Bool :=
  if n < 232 then
    let c := (n - 216) / 4
    match (n - 216) % 4 with
    | 0 => d.canRxSource c
    | 1 => d.canTxSource c
    | 2 => d.anyAt (CAN_EVT c) 0 6
    | _ => d.anyAt (CAN_EVT c) 6 4
  else if n < 240 then
    let m := (n - 232) / 4
    match (n - 232) % 4 with
    | 0 => d.on (ETH_EVT_RXF m)
    | 1 => d.on (ETH_EVT_TXF m)
    | 2 => d.on (ETH_EVT_TSAV m)
    | _ => d.anyAt (ETH_EVT m) 3 6
  else if n < 250 then decide (n < 245) && d.bitAt TIM_EVT (n - 240)
  else if n = 250 then d.anyAt PRL_EVT 0 3 || d.anyAt PRL_EVT 10 2
  else if n = 251 then d.anyAt PRL_EVT 8 2
  else if n = 252 then d.anyAt PRL_EVT 3 5
  else if n < 254 then false
  else d.on (INT_SWI_SET (n - 254))

/-- Source n is asserted (R58, INT_RAW). (DEDUCED, log 23 and 85.) -/
def Device.source (d : Device) (n : Nat) : Bool :=
  if n < 120 then d.sourceLow n else if n < 216 then d.sourceMid n else decide (n < 256) && d.sourceHigh n

/-- Level of source n for core pair h (INT_PRI). -/
def Device.srcLevel (d : Device) (h n : Nat) : Nat := bitsOf (d.rget (INT_PRI h (n / 8))) (4 * (n % 8)) 3

/-- Source n is above threshold for core pair h (R316). -/
def Device.aboveThr (d : Device) (h n : Nat) : Bool :=
  d.bitAt (INT_EN h (n / 32)) (n % 32) && decide (d.get (INT_THR_THR h) ≤ d.srcLevel h n) && d.source n

/-- The source that interrupts core pair h, with its level: the highest level, the lowest number among equals (R59, R316). -/
def Device.actSource (d : Device) (h : Nat) : Option (Nat × Nat) :=
  (List.range 256).foldl (fun best n =>
    if d.aboveThr h n then
      match best with
      | some (_, lv) => if lv < d.srcLevel h n then some (n, d.srcLevel h n) else best
      | none => some (n, d.srcLevel h n)
    else best) none

/-- A word of INT_RAW. -/
def Device.rawWord (d : Device) (j : Nat) : Nat :=
  (List.range 32).foldl (fun w b => if d.source (32 * j + b) then w + 2 ^ b else w) 0

/-- INT_ACT of pair h. -/
def Device.actWord (d : Device) (h : Nat) : Nat :=
  match d.actSource h with
  | some (n, lv) => n + 256 * lv + 65536
  | none => 0

/-! ### Pair restart (R41, R310 to R314) -/

/-- The core pair's number. -/
def pairIx : Pair → Nat
  | .a => 0
  | .b => 1

/-- The cores of pair h run: started, out of reset, not fenced. -/
def Device.pairUp (d : Device) (h : Nat) : Bool := d.awake && !d.sys.appHeld && (d.corePair h).up

/-- INT half h takes its reset values (R44, R311). -/
def Device.resetIntHalf (d : Device) (h : Nat) : Device :=
  d.resetRegs (fun a => !(decide (0x60060400 + 0x400 * h ≤ a) && decide (a < 0x60060800 + 0x400 * h))) fun _ _ => 0

/-- Fence pair h until the next P reset (R314). In MUSTER the failure of pair A ends in TRIPPED (R36). (DEDUCED, log 83.) -/
def Device.fencePair (d : Device) (h : Nat) : Device :=
  let d := ((d.put (CPX_PST_STATE h) 3).up (if h = 0 then CPX_EVT_AFEN else CPX_EVT_BFEN)).setCore h fun _ => CorePair.reset
  d.when_ (h == 0 && d.mode == .muster) fun d => d.enter .tripped

/-- A restart of pair h escalates to a W reset; the third within 60 s fences the pair (R41, R309, R314). -/
def Device.escalate (d : Device) (h : Nat) : Device :=
  let recent := ((d.cpx.escAt[h]?).getD []).filter fun t => decide (d.now ≤ t + 60000000000)
  let d := (d.up (CPX_RCAUSE_ESC h)).wReset SYS_RSTCAUSE_PESC
  let d : Device := { d with cpx := { d.cpx with escAt := d.cpx.escAt.setIfInBounds h (d.now :: recent.take 2) } }
  if 2 ≤ recent.length then d.fencePair h else d

/-- Record a restart of pair h (R311 steps 1 to 3): its cause, the comparator group where it has one, its counter and its
requester generation; its INT half and its cores are reset. (DEDUCED, log 86.) -/
def Device.recordRestart (d : Device) (h : Nat) (cause : Fld) (grp : Option Nat) : Device :=
  let d := d.up cause
  let d := match grp with | some g => d.put (CPX_RCAUSE_GRP h) g | none => d
  let d := ((d.count16 (CPX_RCNT h)).put (CPX_RGEN_GEN h) (d.get (CPX_RGEN_GEN h) + 1)).resetIntHalf h
  let d := (d.up (if h = 0 then CPX_EVT_ARST else CPX_EVT_BRST)).up (if h = 0 then SYS_RSTCAUSE_PRA else SYS_RSTCAUSE_PRB)
  let d := (d.put (CPX_PST_STATE h) 1).setCore h fun _ => CorePair.reset
  { d with cpx := { d.cpx with restart := d.cpx.restart.setIfInBounds h true, lastAt := d.cpx.lastAt.setIfInBounds h (some d.now) } }

/-- A restart of pair A opens the hold window and closes the loosen window (R240), and a device in MUSTER restarts muster
(R46, R49). -/
def Device.restartHold (d : Device) : Device :=
  let d := d.openHold.put REF_ST_LOOSE 0
  let d : Device := { d with sys := { d.sys with reassertDue := true } }
  d.when_ (d.mode == .muster) Device.startMuster

/-- Pair h restarts (R310, R311); the second restart within 1 s of the one before escalates to a W reset (R41).
(DEDUCED, log 80 and 86.) -/
def Device.restartPair (d : Device) (h : Nat) (cause : Fld) (grp : Option Nat) : Device :=
  if !d.pairUp h then d
  else
    let again := match (d.cpx.lastAt[h]?).getD none with | some t => decide (d.now ≤ t + 1000000000) | none => false
    let d := d.recordRestart h cause grp
    let d := d.when_ (h == 0) Device.restartHold
    if again then d.escalate h else d

/-! ### Scrubber and test slots (R305, R307) -/

/-- The scrubber of pair h has compared one line. -/
def Device.scrub (d : Device) (h : Nat) (r : ScrubResult) : Device :=
  if !d.pairUp h then d
  else
    let line := d.get (CPX_SCRB_LINE h)
    let d := (d.put (CPX_SCRB_LINE h) (line + 1)).when_ (line == 1023) fun d =>
      d.put (CPX_SCRB_PASS h) (d.get (CPX_SCRB_PASS h) + 1)
    match r with
    | .agree => d
    | .corrected => (d.count16 (CPX_SCOR h)).up CPX_EVT_SCOR
    | .differ => d.restartPair h (CPX_RCAUSE_LATC h) none

/-- A test slot of pair h ends; one that falls due while the pair is not up is skipped (R313). -/
def Device.testSlotEnd (d : Device) (h : Nat) (r : TestSlotResult) : Device :=
  if !d.pairUp h then d
  else
    match r with
    | .pass => d.put (CPX_PST_TSOK h) 1
    | .stateDiffers => (d.put (CPX_PST_TSOK h) 0).restartPair h (CPX_RCAUSE_LATR h) none
    | .injectionFailed g => (d.put (CPX_PST_TSOK h) 0).restartPair h (CPX_RCAUSE_INJF h) (some g.val)

/-! ### Watchdogs (R310, R313) -/

/-- The watchdog of pair h counts its full period from now. -/
def Device.watchdogStart (d : Device) (h : Nat) : Device :=
  { d with cpx := { d.cpx with wdAt := d.cpx.wdAt.setIfInBounds h d.now } }

/-- The watchdog of pair h has expired: it runs, and its period has passed since its last start. (DEDUCED, log 86.) -/
def Device.watchdogDue (d : Device) (h : Nat) : Bool :=
  d.pairUp h && d.on (CPX_WDT_EN h) && decide ((d.cpx.wdAt[h]?).getD 0 + d.get (CPX_WDT_PER h) * 1000000 ≤ d.now)

/-- Watchdog expiry: of pair A a W reset, of pair B a pair restart (R310). -/
def Device.watchdogFires (d : Device) (h : Nat) : Device :=
  if !d.watchdogDue h then d
  else if h = 0 then d.wReset SYS_RSTCAUSE_WDOG
  else d.restartPair h (CPX_RCAUSE_WDOG h) none

/-- A write of INT_WDK[h]. -/
def Device.writeWdk (d : Device) (h : Nat) (key : Word) : Device :=
  if key = 0x5C#32 then (d.watchdogStart h).st uINT .ok else d.st uINT .reject

/-- A write of INT_SWI[h]: SET asserts source 254 + h, CLR releases it; with both, it is released. (DEDUCED, log 85.) -/
def Device.writeSwi (d : Device) (h : Nat) (w : Word) : Device :=
  let d := if w.getLsbD 0 then d.put (INT_SWI_SET h) 1 else d
  (if w.getLsbD 1 then d.put (INT_SWI_SET h) 0 else d).st uINT .ok

/-! ### Meanings -/

/-- LOCKSTEP_MISMATCH (R303, R310, R311). (DEDUCED, log 97.) -/
def execLockstepMismatch (p : Pair) (grp : Fin 16) (s : State) : Host.Outcome State Fault Refusal :=
  onCtl s fun d => d.restartPair (pairIx p) (CPX_RCAUSE_MISM (pairIx p)) (some grp.val)

/-- COMPARATOR_FAULT (R303, R310). (DEDUCED, log 97.) -/
def execComparatorFault (p : Pair) (grp : Fin 16) (s : State) : Host.Outcome State Fault Refusal :=
  onCtl s fun d => d.restartPair (pairIx p) (CPX_RCAUSE_CMPF (pairIx p)) (some grp.val)

/-- SCRUB_LINE (R305). (DEDUCED, log 97.) (DESIGN CHOICE, log 114.) -/
def execScrubLine (p : Pair) (r : ScrubResult) (s : State) : Host.Outcome State Fault Refusal :=
  onCtl s fun d => d.scrub (pairIx p) r

/-- TEST_SLOT (R307, R313). (DEDUCED, log 97.) -/
def execTestSlot (p : Pair) (r : TestSlotResult) (s : State) : Host.Outcome State Fault Refusal :=
  onCtl s fun d => d.testSlotEnd (pairIx p) r

/-- WATCHDOG_EXPIRY (R310, R313). -/
def execWatchdogExpiry (p : Pair) (s : State) : Host.Outcome State Fault Refusal :=
  onCtl s fun d => d.watchdogFires (pairIx p)

/-- WATCHDOG_KICK: pair p writes INT_WDK of its half; a pair that does not run writes nothing (R315). -/
def execWatchdogKick (p : Pair) (key : Word) (s : State) : Host.Outcome State Fault Refusal :=
  onCtl s fun d => if d.pairUp (pairIx p) then d.writeWdk (pairIx p) key else d

/-- SOFTWARE_INTERRUPT_SET: pair p sets its own software source. -/
def execSoftwareInterruptSet (p : Pair) (s : State) : Host.Outcome State Fault Refusal :=
  onCtl s fun d => if d.pairUp (pairIx p) then d.writeSwi (pairIx p) 1#32 else d

/-- SOFTWARE_INTERRUPT_CLEAR: pair p releases its own software source. -/
def execSoftwareInterruptClear (p : Pair) (s : State) : Host.Outcome State Fault Refusal :=
  onCtl s fun d => if d.pairUp (pairIx p) then d.writeSwi (pairIx p) 2#32 else d

end Sys2Proof.Machine
end

