-- ==== Sys2Proof/Machine/Power.lean ====
section
/-! DEFINITION. The field die and SYS: supplies, start-up, hardware shutdown, mode requests, wakes, sleep, muster, the trip
reset, resets by pin and key, the hold window (R25, R26, R36 to R50, R333, R337, R338, R443 to R445, R461). -/

namespace Sys2Proof.Machine

def Device.setFd (d : Device) (f : FieldDie → FieldDie) : Device := { d with fd := f d.fd }
def Device.setSys (d : Device) (f : Sys → Sys) : Device := { d with sys := f d.sys }

/-- A trip by SYS or the field die: TRIP_N low, the latch set, TRIPPED from a mode that a trip leaves (R36, R38).
(DEDUCED, log 82.) -/
def Device.fieldTrip (d : Device) : Device :=
  let d := (d.put REF_ST_TRIPO 1).setLatch
  if d.mode.live then d.enter .tripped else d

/-! ### NVM rows (R433, R435) -/

/-- Store a row of 256 bytes; a row written in full is no longer torn. -/
def Device.storeRow (d : Device) (r : Nat) (bs : List Byte) : Device :=
  let m := bs.zipIdx.foldl (fun m x => memSet m (0x08000000 + 256 * r + x.2) x.1) d.mem
  ({ d with mem := m, nvc := { d.nvc with torn := d.nvc.torn.filter (· != r) } } : Device).rewrote (0x08000000 + 256 * r) 256

/-- The row in progress is complete. -/
def Device.finishRow (d : Device) : Device :=
  match d.nvc.row with
  | some (r, bs) => let d := d.storeRow r bs; { d with nvc := { d.nvc with row := none } }
  | none => d

/-! ### Power of the control die (R42, R43, R443) -/

/-- The field die drives CPWR_EN low; a row in progress is cut off (R461). (DEDUCED, log 84.) -/
def Device.powerOff (d : Device) (c : DownCause) : Device :=
  d.tearRow.setFd fun f => { f with ctl := .off, down := c, sleep := .awake, grace := false }

/-- The control die powers up with P-class values and waits for its supplies. -/
def Device.powerUp (d : Device) : Device := (d.pClass false).setFd fun f => { f with ctl := .ramping, sleep := .awake }

/-- Every running motor unit coasts: the motor lane is silent (R344). -/
def Device.motorsCoast (d : Device) : Device :=
  (List.range 4).foldl (fun d u => match d.motSt u with
    | .fenced => d | .stopped => d | .fault => d | _ => d.motCoast u) d

/-- Queued NVM requests end with TEMP and the queue is lost; a row in progress goes on (R340). -/
def Device.dropNvmQueue (d : Device) : Device :=
  let d := d.when_ (!d.nvc.queue.isEmpty) fun d => (d.put NVC_ST_ST Status.temp.code).up NVC_EVT_TEMP
  let d := d.nvc.queue.foldl (fun d q => match q.kind with
    | .sec _ => ((d.put SEC_OPST_ST Status.temp.code).put SEC_OPST_BUSY 0).put SEC_OPST_GEN q.gen
    | _ => d) (d.put NVC_ST_QD 0)
  { d with nvc := { d.nvc with queue := [], orphan := d.nvc.row.isSome } }

/-- Hardware shutdown begins (R333, R321): outputs off, the control die in reset, the grace time runs. (DEDUCED, log 82.) -/
def Device.hardwareShutdown (d : Device) : Device :=
  if d.fd.thermal then d
  else
    let d := d.outputsOff
    let d := d.when_ d.mode.live fun d => d.enter .tripped
    if d.fd.ctl = .off then d.setFd fun f => { f with thermal := true, down := .thermal }
    else d.dropNvmQueue.setFd fun f => { f with thermal := true, grace := true, ctl := .ramping, sleep := .awake }

/-- Whether a cause starts hardware shutdown: the comparator of a failed sensor is ignored (R333). -/
def Device.shutdownTrips (d : Device) : ShutdownCause → Bool
  | .comparator n => d.healthy n.val
  | .thmReport => decide (170 * 64 ≤ d.tj)

/-- The control die is released at PLL lock (R26): it runs, muster starts in MUSTER, the epoch sequencer's first interval
begins (R464), and a recorded wake takes effect (R338, R461). -/
def Device.release (d : Device) : Device :=
  let d := d.setFd fun f => { f with ctl := .running, outputsOff := false }
  let d : Device := { d with flk := { d.flk with lastT := d.now } }
  let d := d.setSys fun y => { y with appHeld := false, released := true }
  let d := d.when_ d.fd.wakePending.isSome fun d => d.up SYS_EVT_WAKE
  let d := d.when_ d.fd.wakeIdx.isSome fun d => d.up BUD_EVT_WAKE
  let d := d.when_ (d.fd.wakePending.isSome && d.mode == .watch) fun d => d.enter .muster
  let d := d.setFd fun f => { f with wakePending := none, wakeIdx := none }
  d.when_ (d.mode == .muster) Device.startMuster

/-! ### Sleep in WATCH (R337, R338) -/

/-- Entry cost and wake latency of S1 to S4 in µs (R337). -/
def sleepCost (n : Nat) : Nat := match n with | 1 => 22 | 2 => 220 | 3 => 6000 | _ => 55000

/-- Distance of deadline k from now, modulo 2³² ms. -/
def Device.deadline (d : Device) (k : Nat) : Nat := (d.get (BUD_WKT_TIME k) + 4294967296 - d.get BUD_STIME_MS) % 4294967296

/-- Valid deadlines. -/
def Device.deadlines (d : Device) : List Nat := (List.range 4).filter fun k => (d.get BUD_WKV_V).testBit k

/-- The earliest valid deadline, the lower index among equals. -/
def Device.earliest (d : Device) : Option Nat :=
  d.deadlines.foldl (fun best k => match best with
    | none => some k
    | some b => if d.deadline k < d.deadline b then some k else best) none

/-- Sleep state n is allowed. -/
def Device.sleepAllowed (d : Device) (n : Nat) : Bool := (d.get BUD_SLCTL_MASK).testBit (n - 1)

/-- The deepest state that fits before the earliest deadline; a deadline has passed when it lies 2³¹ ms ahead or more (R338,
R341). (DEDUCED, log 62.) -/
def Device.sleepChoice (d : Device) : Option Nat :=
  match d.earliest with
  | none => if d.sleepAllowed 4 then some 4 else none
  | some k =>
    if d.deadlines.any (fun j => decide (2147483648 ≤ d.deadline j)) then none
    else [4, 3, 2, 1].find? fun n =>
      d.sleepAllowed n && decide (sleepCost n + 10 * d.get BUD_SLCTL_MARG ≤ 1000 * d.deadline k)

/-- Both core pairs halt, or go on after their halt. -/
def Device.haltPairs (d : Device) (b : Bool) : Device :=
  (d.setCore 0 fun c => { c with asleep := b }).setCore 1 fun c => { c with asleep := b }

/-- A write of BUD_SLCTL.GO (R338). (DEDUCED, log 62.) -/
def Device.sleepGo (d : Device) : Device :=
  if d.mode ≠ .watch ∨ ¬ d.on BUD_SLCTL_EN then d.st 0x60020000 .reject
  else match d.sleepChoice with
    | none => ((d.put BUD_SLST_STATE 0).up BUD_EVT_NOFIT).st 0x60020000 .ok
    | some n =>
      let d := ((d.put BUD_SLST_STATE n).put BUD_WKR_IDX 7).haltPairs true
      (d.setFd fun f => { f with sleep := .entering (Fin.ofNat 5 n), wakeIdx := none }).st 0x60020000 .ok

/-- Registers whose values SYS copies on entry into S3 (R43), with the bits that it copies. -/
def retainedRegs : List (Nat × Nat) :=
  [(SYS_MODE, 0xFFFFFFFF), (SYS_HOLD, 0xFFFFFFFF), (FLK_TONE, 0xFFFFFFFF), (FLK_NTIM, 0xFFFFFFFF), (SCR_FENCE, 0xFF),
    (MTR_FENCE, 0xF)] ++ (List.range 128).map fun p => (FLK_PFEN p, 1)

/-- What SYS copies into the field die on entry into S3. -/
def Device.retain (d : Device) : List (Nat × Word) :=
  (retainedRegs.map fun x => (x.1, d.rget x.1 &&& BitVec.ofNat 32 x.2)).filter (fun e => e.2 != 0#32) ++
    ((List.range 2).filter fun h => d.get (CPX_PST_STATE h) == 3).map (fun h => (CPX_PST h, 3#32)) ++
    allUnits.map fun u => (u + 4, BitVec.ofNat 32 (d.gen u))

/-- The wake from S3 restores what was copied; each generation comes back incremented, with LRC 0b011, and counts as an
increment for R52 (R43). (DEDUCED, log 111.) -/
def Device.restore (d : Device) : Device :=
  let d := d.fd.retained.foldl (fun d e =>
    let u := e.1 - 4
    if e.1 % 0x1000 = 4 then
      let d := (d.put (genFld u) (e.2.toNat + 1)).put (lrcFld u) 3
      { d with sys := { d.sys with genAt := mapSet u d.now d.sys.genAt } }
    else d.rset e.1 e.2) d
  let d := (List.range 4).foldl (fun d u => if d.motFenced u then d.put (MTR_ST_STATE u) MotorSt.fenced.code else d) d
  d.setFd fun f => { f with retained := [] }

/-- The control die takes its P-class values on a wake from S3, what was copied comes back, and every reply outstanding across
the sleep ends with RESET (R43, R51). (DEDUCED, log 111.) -/
def Device.wakeS3 (d : Device) : Device :=
  let n := (d.pClass true).restore
  (((((n.scrReplies d).nvcReplies d).ethReplies d 0).ethReplies d 1).prlReplies d).flkReplies d

/-- The control die wakes from S1 or S2: both pairs go on after their halt; an external wake takes the device to MUSTER. -/
def Device.resume (d : Device) : Device :=
  let ext := d.fd.wakePending.isSome
  let d := (d.setFd fun f => { f with ctl := .running, sleep := .awake, wakePending := none, wakeIdx := none }).haltPairs false
  if ext then (d.enter .muster).startMuster else d

/-- Entry into the chosen sleep state is complete (R337, R338, R344, R373); a wake recorded meanwhile now takes effect. -/
def Device.sleepEntered (d : Device) : Device :=
  match d.fd.sleep with
  | .entering n =>
    let d := d.setFd fun f => { f with sleep := .asleep n }
    match n.val with
    | 3 =>
      let r := d.retain
      d.tearRow.motorsCoast.setFd fun f => { f with ctl := .gated, down := .s3, retained := r }
    | 4 => d.motorsCoast.loadsOff.powerOff .s4
    | _ =>
      let d := d.setFd fun f => { f with ctl := .gated }
      if d.fd.wakePending.isSome then d.resume else d
  | _ => d

/-- BUD begins the wake for the earliest deadline (R338). (DEDUCED, log 62.) -/
def Device.deadlineWake (d : Device) : Device :=
  match d.earliest with
  | none => d
  | some k =>
    let idx : Fin 4 := Fin.ofNat 4 k
    match d.fd.sleep, d.fd.ctl with
    | .asleep n, .gated =>
      let d := (d.put BUD_WKR_IDX k).setFd fun f => { f with wakeIdx := some idx }
      if n.val = 3 then d else (d.up BUD_EVT_WAKE).resume
    | _, .off =>
      if d.fd.down = .s4 ∧ d.fd.wakeIdx.isNone then (d.put BUD_WKR_IDX k).setFd fun f => { f with wakeIdx := some idx } else d
    | _, _ => d

/-! ### Wakes (R36, R37) -/

/-- A wake is recorded in SYS_RSTCAUSE. (DEDUCED, log 62.) -/
def Device.recordWake (d : Device) (src : Fin 4) : Device :=
  ((d.up SYS_RSTCAUSE_WAKE).put SYS_RSTCAUSE_WSRC (2 ^ src.val)).up SYS_EVT_WAKE

/-- A wake condition of R36, by its bit of WSRC. -/
def Device.wake (d : Device) (src : Fin 4) : Device :=
  match d.fd.ctl with
  | .off =>
    if d.fd.down = .thermal ∨ d.fd.down = .vfield then d
    else
      let d := d.when_ (d.fd.down == .s4) fun d => d.put BUD_WKR_IDX 4
      (d.recordWake src).setFd fun f => { f with wakePending := f.wakePending.orElse fun _ => some src }
  | .gated =>
    let d := ((d.recordWake src).put BUD_WKR_IDX 4).setFd fun f => { f with wakePending := some src }
    if d.fd.sleep = .asleep 3 then d else d.resume
  | .running =>
    if d.mode = .watch then
      if d.fd.sleep = .awake then ((d.recordWake src).enter .muster).startMuster
      else ((d.recordWake src).put BUD_WKR_IDX 4).setFd fun f => { f with wakePending := some src }
    else d
  | _ => if d.fd.down = .dormant ∨ d.fd.down = .s3 ∨ d.fd.down = .s4 then d.recordWake src else d

/-! ### Mode requests (R36, R37, R49) -/

/-- A SYS_MREQ write: nothing while the application domain is held, BUSY until the reassertion, REJECT on a device that follows
its partner (R46, R49, R417). -/
def Device.request (d : Device) (f : Device → Device) : Device :=
  if d.sys.appHeld then d
  else if d.sys.reassertDue || d.on SYS_MODE_BUSY then d.st uSYS .busy
  else if d.follower then d.st uSYS .reject
  else f d

/-- The request for WATCH. -/
def Device.requestWatch (d : Device) : Device :=
  d.request fun d => if d.mode = .ready ∧ d.banksOpen then (d.enter .watch).st uSYS .ok else d.st uSYS .reject

/-- The request for DORMANT: load channels go OFF, running motors coast, and the control die is powered down (R373, R344). -/
def Device.requestDormant (d : Device) : Device :=
  d.request fun d =>
    if d.mode = .watch ∨ d.mode = .ready ∧ d.banksOpen then
      (((d.enter .dormant).st uSYS .ok).motorsCoast.loadsOff).powerOff .dormant
    else d.st uSYS .reject

/-- The request for MUSTER. -/
def Device.requestMuster (d : Device) : Device :=
  d.request fun d => if d.mode = .watch then ((d.enter .muster).startMuster).st uSYS .ok else d.st uSYS .reject

/-- The request for READY (R36, R40); at the end of muster the primary device of a pair becomes active (R419).
(DEDUCED, log 39.) -/
def Device.requestReady (d : Device) : Device :=
  d.request fun d =>
    match d.mode with
    | .muster =>
      if !d.sys.mustSeen then d.st uSYS .busy
      else
        let d := (d.enter .ready).st uSYS .ok
        if d.on PRL_CTL_EN && Config.pairSel && d.get PRL_ST_ROLE == 0 && d.get PRL_ST_PALV != 2 then d.becomeActive else d
    | .online | .degraded =>
      if d.anyClosed || d.anyPrecharging then d.st uSYS .reject else (d.enter .ready).st uSYS .ok
    | _ => d.st uSYS .reject

/-- The request for PRECHARGE naming bank b (R256). -/
def Device.requestPrecharge (d : Device) (b : Nat) : Device :=
  d.request fun d =>
    match d.connectRefusal b true with
    | some (st, r) => (d.put (CTD_BST_REJR b) r).st uSYS st
    | none => (((d.startConnect b).enter .precharge).judgeInputs).st uSYS .ok

/-- The request for TRIPPED: class 19 and open all, in every mode but DORMANT and WATCH (R228, R36); BUSY during a transition
(R37). The hold window does not hold it back (R49). -/
def Device.requestTripped (d : Device) : Device :=
  if d.sys.appHeld then d
  else if d.on SYS_MODE_BUSY then d.st uSYS .busy
  else if d.mode.live then (d.raiseAll 19).st uSYS .ok
  else d.st uSYS .reject

/-- A write of SYS_MREQ. -/
def Device.writeMreq (d : Device) (w : Word) : Device :=
  match bitsOf w 0 3 with
  | 0 => d.requestDormant
  | 1 => d.requestWatch
  | 2 => d.requestMuster
  | 3 => d.requestReady
  | 4 => d.requestPrecharge (bitsOf w 4 2)
  | 7 => d.requestTripped
  | _ => d.request fun d => d.st uSYS .reject

/-! ### The qualified trip reset (R39) -/

/-- An instant lies within `span` ns before now. -/
def Device.within (d : Device) (t : Option Nat) (span : Nat) : Bool :=
  match t with
  | some t => decide (d.now ≤ t + span)
  | none => false

/-- The sequence starts again from step 2. (DEDUCED, log 81.) -/
def Device.restartAck (d : Device) : Device := d.setSys fun y => { y with ackLowAt := none, ackRelAt := none, key1At := none }

/-- The conditions that caused the trip are gone (R39 step 1). (DEDUCED, log 81.) -/
def Device.tripGone (d : Device) : Bool :=
  !d.fd.clockBadPrev && decide (d.tj < 140 * 64) && !d.tripSensed && decide (100 ≤ d.ref.quiet)

/-- The trip latch clears, TRIP_N is released, every bank hold clears and its bank returns to OPEN (R234), the series switches
are enabled, the device enters READY. (DEDUCED, log 81 and 82.) -/
def Device.clearTrip (d : Device) : Device :=
  let d := (List.range 4).foldl (fun d b => if d.bankHold b then (d.put (bankHoldFld b) 0).setBankSt b .opened else d) d
  let d := (d.setFd fun f => { f with tripLatch := false, clockCause := false, hbCause := false, outputsOff := false })
  let d : Device := { d with ref := { d.ref with failed := 0#2 } }
  (((d.put REF_ST_TRIPO 0).put REF_ST_TRIPI 0).restartAck).enter .ready

/-- A write of SYS_TRIPCLR: step 3 of R39, while the conditions of step 1 hold. (DEDUCED, log 50 and 81.) -/
def Device.tripKey (d : Device) (key : Word) : Device :=
  if d.sys.appHeld then d
  else if d.mode = .tripped ∧ key = 0xA5#32 ∧ d.tripGone ∧ d.sys.key1At.isNone ∧
      d.within d.sys.ackRelAt 5000000000 then
    (d.setSys fun y => { y with key1At := some d.now }).st uSYS .ok
  else if d.mode = .tripped ∧ key = 0x5A#32 ∧ d.tripGone ∧ d.within d.sys.ackRelAt 5000000000 ∧
      d.within d.sys.key1At 10000000 then
    d.clearTrip.st uSYS .ok
  else d.restartAck.st uSYS .reject

/-! ### Muster (R40) -/

/-- Fences of lane groups, port ends, drivers, load channels and motor units that their muster test passes are cleared (R322).
-/
def Device.unfence (d : Device) (r : MusterResult) : Device :=
  let d := d.put SCR_FENCE_FENCE (d.get SCR_FENCE_FENCE &&& (~~~r.lanes).toNat)
  let d := d.when_ (!d.lanesInService.isEmpty && d.on SCR_ST_FENCED) fun d => (d.put SCR_ST_FENCED 0).scrState
  let d := (List.range 128).foldl (fun d p =>
    if r.ports.getLsbD p && d.on (FLK_PFEN_FEN p) then (d.put (FLK_PFEN_FEN p) 0).put (FLK_PFEN_CAUSE p) 0 else d) d
  let d := (List.range 12).foldl (fun d k => if r.drivers[k]? = some .pass then d.put (CTD_DST_FEN k) 0 else d) d
  let d := (List.range 16).foldl (fun d n =>
    if r.loads.getLsbD n && d.loadSt n == .fenced then d.setLoadSt n .off else d) d
  let d := d.put LSW_FENCE_FEN (d.get LSW_FENCE_FEN &&& (~~~r.loads).toNat)
  let d := (List.range 4).foldl (fun d u =>
    if r.motors.getLsbD u && d.motFenced u then d.put (MTR_ST_STATE u) MotorSt.stopped.code else d) d
  d.put MTR_FENCE_FEN (d.get MTR_FENCE_FEN &&& (~~~r.motors).toNat)

/-- One driver's muster test (R253, R254). -/
def Device.driverTest (d : Device) (k : Nat) : DriverTest → Device
  | .pass => d
  | .ssf => (d.up (CTD_DEVT_SSF k)).put (CTD_DST_FEN k) 1
  | .openc => (d.up (CTD_DEVT_OPENC k)).put (CTD_DST_FEN k) 1

/-- Units that fail their self-test are fenced under their own rules (R40 step 4); a failed sensor's substitute acts at once
(R329 to R332). (DEDUCED, log 63.) -/
def Device.fenceFailed (d : Device) (r : MusterResult) : Device :=
  let d := d.fenceLanes (~~~r.lanes).toNat
  let bad := (List.range 18).filter fun n => !r.sensors.getLsbD n && d.healthy n
  let d := d.when_ (!bad.isEmpty) fun d => (bad.foldl (fun d n => d.failSensor n) d).thmEvaluate d.overTemp
  let d := d.ports.foldl (fun d p => if r.ports.getLsbD p then d else d.fencePort p 1) d
  let d := (List.range 12).foldl (fun d k => d.driverTest k ((r.drivers[k]?).getD .pass)) d
  (d.fenceLoads (~~~r.loads).toNat).fenceMotors (~~~r.motors).toNat

/-- Step 2 ran and found no failing word, or was skipped. (DEDUCED, log 83.) -/
def Device.memPassed (d : Device) (r : MusterResult) : Bool := !d.sys.sramUndef || r.mem

/-- Every driver passed. -/
def driversOk (r : MusterResult) : Bool := r.drivers.toList.all fun x => x == .pass

/-- Port ends that the part has passed (R1). -/
def Device.portsOk (d : Device) (r : MusterResult) : Bool := d.ports.all fun p => r.ports.getLsbD p

/-- SYS_MST at the end of step 4. -/
def Device.musterWord (d : Device) (r : MusterResult) : Nat :=
  Bool.bit r.cpxA + 2 * Bool.bit r.cpxB + 4 * Bool.bit (d.memPassed r) + 8 * Bool.bit r.ref +
    16 * Bool.bit (r.lanes == BitVec.allOnes 8) + 32 * Bool.bit (r.sensors == BitVec.allOnes 18) +
    64 * Bool.bit (d.portsOk r) + 128 * Bool.bit (driversOk r) + 256 * Bool.bit (r.loads == BitVec.allOnes 16) +
    512 * Bool.bit (r.motors == BitVec.allOnes 4) + 65536

/-- Steps 1 to 4 of muster end (R40, R36, R38, R314); step 2 leaves no bit error in the SRAM. (DEDUCED, log 83.) -/
def Device.musterDone (d : Device) (r : MusterResult) : Device :=
  if d.mode ≠ .muster ∨ d.sys.musterRuns = false then d
  else
    let w := d.musterWord r
    let mem := d.memPassed r
    let was := d.sys.sramUndef
    let d := (d.rset SYS_MST (BitVec.ofNat 32 w)).up SYS_EVT_MUST
    let d := d.when_ (decide (w ≠ 0x103FF)) fun d => d.up SYS_EVT_MFAIL
    let d := d.setSys fun y => { y with musterRuns := false, mustSeen := true, sramUndef := y.sramUndef && !mem }
    let d : Device := if was && mem then { d with upsets := d.upsets.filter fun e => regionOf (8 * e.1) == .nvm } else d
    let d := (d.unfence r).fenceFailed r
    let d := d.when_ (!r.cpxB && d.get (CPX_PST_STATE 1) != 3) fun d => d.fencePair 1
    let d := d.when_ (!r.cpxA && d.get (CPX_PST_STATE 0) != 3) fun d => d.fencePair 0
    if !r.cpxA || !mem || !r.ref || d.fd.tripLatch then d.enter .tripped else d

/-! ### The hold window (R49, R50) -/

/-- The window no longer runs. (DEDUCED, log 80.) -/
def Device.closeHold (d : Device) : Device :=
  (d.put SYS_MODE_HOLD 0).setSys fun y => { y with holdAt := none, reassertDue := false, stopbalDue := false }

/-- A write of SYS_HOLDACK. (DEDUCED, log 80.) -/
def Device.holdAck (d : Device) (key : Word) : Device :=
  if d.sys.appHeld then d
  else if key = 0xC3#32 ∧ d.holding then (d.closeHold.up SYS_EVT_HOLDE).st uSYS .ok
  else d.st uSYS .reject

/-- The window expires (R50, R422, R425): a transition to TRIPPED is in progress from a mode that a trip leaves (R37). A
connect ends with reason HOLD (R263). (DEDUCED, log 60 and 80.) -/
def Device.holdExpires (d : Device) : Device :=
  if d.holding then
    let d := d.closeHold.up SYS_RSTCAUSE_HEXP
    if d.isActive && d.shdOk || d.get PRL_ST_ROLE == 2 then d.withdraw
    else
      let d := ((d.openFirstStage 1).motorsHoldExpired).setSys fun y => { y with holdStage2 := true }
      d.when_ (d.mode.live && d.mode != .tripped) fun d => d.put SYS_MODE_BUSY 1
  else d

/-- Steps 3 and 4 of R50. (DEDUCED, log 80.) -/
def Device.holdSecond (d : Device) : Device :=
  if d.sys.holdStage2 then (d.setSys fun y => { y with holdStage2 := false }).openSecondStage.raiseAll 18 else d

/-! ### Meanings: clocks, supplies, shutdown -/

/-- CLOCK_MONITOR_WINDOW (R25): 64 cycles of the safety oscillator counted `rootCycles` root cycles; ±3% of 2.000 GHz. -/
def execClockMonitorWindow (rootCycles : Nat) (s : State) : Host.Outcome State Fault Refusal :=
  onCtl s fun d =>
    let bad := decide (rootCycles < 3880) || decide (4120 < rootCycles)
    let was := d.fd.clockBadPrev
    let d := d.setFd fun f => { f with clockBadPrev := bad }
    if bad && was then (d.setFd fun f => { f with clockCause := true }).fieldTrip else d

/-- PLL_LOCK (R26). (DESIGN CHOICE, log 2; DEDUCED, log 82.) -/
def execPllLock (s : State) : Host.Outcome State Fault Refusal :=
  onDev s fun d => if d.fd.ctl = .locking then d.release else d

/-- CONTROL_DIE_POWER_UP (R42): a wake, a deadline or the retry of R443 powers the control die up. -/
def execControlDiePowerUp (s : State) : Host.Outcome State Fault Refusal :=
  onDev s fun d =>
    if d.fd.ctl = .off ∧ d.fd.thermal = false ∧ d.fd.down ≠ .vfield ∧
        (d.fd.wakePending.isSome ∨ d.fd.wakeIdx.isSome ∨ d.fd.down = .supply) then d.powerUp else d

/-- WAKE_FROM_S3 (R43). -/
def execWakeFromS3 (s : State) : Host.Outcome State Fault Refusal :=
  onDev s fun d =>
    if d.fd.sleep = .asleep 3 ∧ d.fd.ctl = .gated ∧ (d.fd.wakePending.isSome ∨ d.fd.wakeIdx.isSome) then
      d.wakeS3.setFd fun f => { f with ctl := .locking, sleep := .awake }
    else d

/-- SHUTDOWN_COMPARATOR (R333). -/
def execShutdownComparator (c : ShutdownCause) (s : State) : Host.Outcome State Fault Refusal :=
  onDev s fun d => if d.shutdownTrips c then d.hardwareShutdown else d

/-- SHUTDOWN_GRACE_EXPIRY (R333, R340): a row in progress has completed within the grace time. -/
def execShutdownGraceExpiry (s : State) : Host.Outcome State Fault Refusal :=
  onDev s fun d => if d.fd.grace then (d.finishRow.up SYS_RSTCAUSE_THSD).powerOff .thermal else d

/-- THERMAL_RECOVERY_POWER_UP (R333). -/
def execThermalRecoveryPowerUp (s : State) : Host.Outcome State Fault Refusal :=
  onDev s fun d =>
    if d.fd.thermal ∧ d.fd.ctl = .off ∧ d.fd.down ≠ .vfield then
      (d.setFd fun f => { f with thermal := false }).powerUp
    else d

/-- SUPPLY_FAULT (R443, R461): outputs off, the trip latch set, the control die held in reset with P-class values to come. -/
def execSupplyFault (_r : Rail) (s : State) : Host.Outcome State Fault Refusal :=
  onDev s fun d =>
    match d.fd.ctl with
    | .off => d
    | .ramping => if d.fd.grace then d.tearRow else d
    | _ => (d.outputsOff.tearRow).powerUp

/-- SUPPLY_QUALIFIED (R443): every supply in range for 1 ms; the PLL starts. (DESIGN CHOICE, log 2.) -/
def execSupplyQualified (s : State) : Host.Outcome State Fault Refusal :=
  onDev s fun d =>
    if d.fd.ctl = .ramping ∧ d.fd.thermal = false then d.setFd fun f => { f with ctl := .locking } else d

/-- CPWR_RETRY (R443): CPWR_EN goes low for 1 s; CONTROL_DIE_POWER_UP tries again. -/
def execCpwrRetry (s : State) : Host.Outcome State Fault Refusal :=
  onDev s fun d => if d.fd.ctl = .ramping ∧ d.fd.grace = false then d.powerOff .supply else d

/-- VFIELD below 6.0 V (R444, R461). (DEDUCED, log 82.) -/
def Device.vfieldLow (d : Device) : Device :=
  let d := d.outputsOff
  let d := d.when_ d.mode.live fun d => d.enter .tripped
  (d.powerOff .vfield).setFd fun f => { f with wakePending := none, wakeIdx := none }

/-- VFIELD_LOW (R444). -/
def execVfieldLow (s : State) : Host.Outcome State Fault Refusal := onDev s Device.vfieldLow

/-- VFIELD_LOSS (R444): below 4.0 V the keep-alive state is lost. -/
def execVfieldLoss (s : State) : Host.Outcome State Fault Refusal :=
  onDev s fun d => (if d.fd.down = .vfield then d else d.vfieldLow).setFd fun f => { f with lost := true }

/-- VFIELD_RISE (R444, R445): through 6.5 V, a P reset after a loss of the keep-alive state, else P-class values. -/
def execVfieldRise (s : State) : Host.Outcome State Fault Refusal :=
  onDev s fun d =>
    if d.fd.lost then d.pReset
    else if d.fd.ctl = .off ∧ d.fd.down = .vfield then
      (if d.fd.thermal then d.setFd fun f => { f with down := .thermal } else d.powerUp)
    else d

/-! ### Meanings: resets -/

/-- P_RESET_PIN (R44). -/
def execPResetPin (s : State) : Host.Outcome State Fault Refusal := onDev s Device.pReset

/-- W_RESET_PIN (R44, R46). -/
def execWResetPin (s : State) : Host.Outcome State Fault Refusal := onCtl s fun d => d.wReset SYS_RSTCAUSE_WPIN

/-- A write of SYS_WRST. -/
def Device.writeWrst (d : Device) (key : Word) : Device :=
  if d.sys.appHeld then d
  else if key = 0x57#32 then (d.wReset SYS_RSTCAUSE_WSW).st uSYS .ok else d.st uSYS .reject

/-- W_RESET_SOFTWARE (R44). -/
def execWResetSoftware (key : Word) (s : State) : Host.Outcome State Fault Refusal := onCtl s fun d => d.writeWrst key

/-- G_RESET (R44, R52). -/
def execGReset (blk unit : Byte) (s : State) : Host.Outcome State Fault Refusal :=
  onCtl s fun d => if d.sys.appHeld then d else d.gReset blk.toNat unit.toNat

/-- APP_DOMAIN_RELEASE (R46, R49): commands stay refused until the reassertion while the window runs; MUSTER starts anew. -/
def execAppDomainRelease (s : State) : Host.Outcome State Fault Refusal :=
  onCtl s fun d =>
    if d.sys.appHeld then
      let d := d.setSys fun y => { y with appHeld := false, released := true, reassertDue := d.holding }
      d.when_ (d.mode == .muster) Device.startMuster
    else d

/-- HOLD_REASSERT (R49). -/
def execHoldReassert (key : Word) (s : State) : Host.Outcome State Fault Refusal := onCtl s fun d => d.holdAck key

/-- HOLD_WINDOW_EXPIRY (R50). -/
def execHoldWindowExpiry (s : State) : Host.Outcome State Fault Refusal := onCtl s Device.holdExpires

/-- HOLD_EXPIRY_SECOND_STAGE (R50). -/
def execHoldExpirySecondStage (s : State) : Host.Outcome State Fault Refusal := onCtl s Device.holdSecond

/-! ### Meanings: modes and wakes -/

/-- MODE_REQUEST_WATCH (R36). -/
def execModeRequestWatch (s : State) : Host.Outcome State Fault Refusal := onCtl s Device.requestWatch

/-- MODE_REQUEST_DORMANT (R36). -/
def execModeRequestDormant (s : State) : Host.Outcome State Fault Refusal := onCtl s Device.requestDormant

/-- MODE_REQUEST_MUSTER (R36). -/
def execModeRequestMuster (s : State) : Host.Outcome State Fault Refusal := onCtl s Device.requestMuster

/-- MODE_REQUEST_READY (R36, R40). -/
def execModeRequestReady (s : State) : Host.Outcome State Fault Refusal := onCtl s Device.requestReady

/-- MODE_REQUEST_PRECHARGE (R36, R256). -/
def execModeRequestPrecharge (b : Fin 4) (s : State) : Host.Outcome State Fault Refusal :=
  onCtl s fun d => d.requestPrecharge b.val

/-- MODE_REQUEST_TRIPPED (R36, R49). -/
def execModeRequestTripped (s : State) : Host.Outcome State Fault Refusal := onCtl s Device.requestTripped

/-- WAKE_PIN (R36). -/
def execWakePin (s : State) : Host.Outcome State Fault Refusal := onDev s fun d => d.wake 0

/-- CAN_WAKE (R36, R389): watched while CAN_WKCFG.WKEN = 1. -/
def execCanWake (s : State) : Host.Outcome State Fault Refusal :=
  onDev s fun d => if d.on (CAN_WKCFG_WKEN 0) then d.wake 1 else d

/-- TONE_ABSENT (R36, R95): the detector of a drive end. -/
def execToneAbsent (p : Fin 128) (s : State) : Host.Outcome State Fault Refusal :=
  onDev s fun d => if d.isDrive p.val then d.wake 2 else d

/-- RTC_ALARM (R36). -/
def execRtcAlarm (s : State) : Host.Outcome State Fault Refusal := onDev s fun d => d.wake 3

/-- TRIP_ACK_ASSERT (R39 step 2): it counts while the conditions of step 1 hold. (DEDUCED, log 81.) -/
def execTripAckAssert (s : State) : Host.Outcome State Fault Refusal :=
  onDev s fun d =>
    let at_ := if d.tripGone then some d.now else none
    d.setSys fun y => { y with ackLowAt := at_, ackRelAt := none, key1At := none }

/-- TRIP_ACK_RELEASE (R39 step 2): after at least 100 ms the key window opens; sooner, the sequence starts again.
(DEDUCED, log 81.) -/
def execTripAckRelease (s : State) : Host.Outcome State Fault Refusal :=
  onDev s fun d =>
    match d.sys.ackLowAt with
    | some t =>
      if t + 100000000 ≤ d.now then d.setSys fun y => { y with ackLowAt := none, ackRelAt := some d.now } else d.restartAck
    | none => d

/-- TRIP_CLEAR_KEY (R39 step 3). -/
def execTripClearKey (key : Word) (s : State) : Host.Outcome State Fault Refusal := onCtl s fun d => d.tripKey key

/-- TRIP_CLEAR_WINDOW_EXPIRY (R39). -/
def execTripClearWindowExpiry (s : State) : Host.Outcome State Fault Refusal := onCtl s Device.restartAck

/-- MUSTER_SELFTESTS_DONE (R40). -/
def execMusterSelftestsDone (r : MusterResult) (s : State) : Host.Outcome State Fault Refusal := onCtl s fun d => d.musterDone r

/-! ### Meanings: sleep -/

/-- SLEEP_REQUEST (R338). (DEDUCED, log 62.) -/
def execSleepRequest (s : State) : Host.Outcome State Fault Refusal :=
  onCtl s fun d => if d.sys.appHeld then d else d.sleepGo

/-- SLEEP_ENTRY_COMPLETE (R338). -/
def execSleepEntryComplete (s : State) : Host.Outcome State Fault Refusal := onDev s Device.sleepEntered

/-- SLEEP_DEADLINE_WAKE (R338). -/
def execSleepDeadlineWake (s : State) : Host.Outcome State Fault Refusal := onDev s Device.deadlineWake

end Sys2Proof.Machine
end

