-- ==== Sys2Proof/Machine/Crypto.lean ====
section
/-! DEFINITION. SHA-384 (FIPS 180-4) and ECDSA over P-384 (FIPS 186-5), which R426, R427 and R438 name. -/

namespace Sys2Proof.Machine

/-! ### SHA-384 -/

/-- Round constants of FIPS 180-4, section 4.2.3. -/
def shaK : List DWord :=
  [0x428A2F98D728AE22#64, 0x7137449123EF65CD#64, 0xB5C0FBCFEC4D3B2F#64, 0xE9B5DBA58189DBBC#64,
   0x3956C25BF348B538#64, 0x59F111F1B605D019#64, 0x923F82A4AF194F9B#64, 0xAB1C5ED5DA6D8118#64,
   0xD807AA98A3030242#64, 0x12835B0145706FBE#64, 0x243185BE4EE4B28C#64, 0x550C7DC3D5FFB4E2#64,
   0x72BE5D74F27B896F#64, 0x80DEB1FE3B1696B1#64, 0x9BDC06A725C71235#64, 0xC19BF174CF692694#64] ++
  [0xE49B69C19EF14AD2#64, 0xEFBE4786384F25E3#64, 0x0FC19DC68B8CD5B5#64, 0x240CA1CC77AC9C65#64,
   0x2DE92C6F592B0275#64, 0x4A7484AA6EA6E483#64, 0x5CB0A9DCBD41FBD4#64, 0x76F988DA831153B5#64,
   0x983E5152EE66DFAB#64, 0xA831C66D2DB43210#64, 0xB00327C898FB213F#64, 0xBF597FC7BEEF0EE4#64,
   0xC6E00BF33DA88FC2#64, 0xD5A79147930AA725#64, 0x06CA6351E003826F#64, 0x142929670A0E6E70#64] ++
  [0x27B70A8546D22FFC#64, 0x2E1B21385C26C926#64, 0x4D2C6DFC5AC42AED#64, 0x53380D139D95B3DF#64,
   0x650A73548BAF63DE#64, 0x766A0ABB3C77B2A8#64, 0x81C2C92E47EDAEE6#64, 0x92722C851482353B#64,
   0xA2BFE8A14CF10364#64, 0xA81A664BBC423001#64, 0xC24B8B70D0F89791#64, 0xC76C51A30654BE30#64,
   0xD192E819D6EF5218#64, 0xD69906245565A910#64, 0xF40E35855771202A#64, 0x106AA07032BBD1B8#64] ++
  [0x19A4C116B8D2D0C8#64, 0x1E376C085141AB53#64, 0x2748774CDF8EEB99#64, 0x34B0BCB5E19B48A8#64,
   0x391C0CB3C5C95A63#64, 0x4ED8AA4AE3418ACB#64, 0x5B9CCA4F7763E373#64, 0x682E6FF3D6B2B8A3#64,
   0x748F82EE5DEFB2FC#64, 0x78A5636F43172F60#64, 0x84C87814A1F0AB72#64, 0x8CC702081A6439EC#64,
   0x90BEFFFA23631E28#64, 0xA4506CEBDE82BDE9#64, 0xBEF9A3F7B2C67915#64, 0xC67178F2E372532B#64] ++
  [0xCA273ECEEA26619C#64, 0xD186B8C721C0C207#64, 0xEADA7DD6CDE0EB1E#64, 0xF57D4F7FEE6ED178#64,
   0x06F067AA72176FBA#64, 0x0A637DC5A2C898A6#64, 0x113F9804BEF90DAE#64, 0x1B710B35131C471B#64,
   0x28DB77F523047D84#64, 0x32CAAB7B40C72493#64, 0x3C9EBE0A15C9BEBC#64, 0x431D67C49C100D4C#64,
   0x4CC5D4BECB3E42B6#64, 0x597F299CFC657E2A#64, 0x5FCB6FAB3AD6FAEC#64, 0x6C44198C4A475817#64]

/-- The eight working variables. -/
structure Sha where
  a : DWord
  b : DWord
  c : DWord
  d : DWord
  e : DWord
  f : DWord
  g : DWord
  h : DWord
  deriving DecidableEq, Repr

/-- Initial hash value of SHA-384, section 5.3.4. -/
def shaInit : Sha := ⟨0xCBBB9D5DC1059ED8#64, 0x629A292A367CD507#64, 0x9159015A3070DD17#64, 0x152FECD8F70E5939#64, 0x67332667FFC00B31#64, 0x8EB44A8768581511#64, 0xDB0C2E0D64F98FA7#64, 0x47B5481DBEFA4FA4#64⟩

def shaChoice (x y z : DWord) : DWord := (x &&& y) ^^^ (~~~x &&& z)
def shaMaj (x y z : DWord) : DWord := (x &&& y) ^^^ (x &&& z) ^^^ (y &&& z)
def shaSum0 (x : DWord) : DWord := x.rotateRight 28 ^^^ x.rotateRight 34 ^^^ x.rotateRight 39
def shaSum1 (x : DWord) : DWord := x.rotateRight 14 ^^^ x.rotateRight 18 ^^^ x.rotateRight 41
def shaSig0 (x : DWord) : DWord := x.rotateRight 1 ^^^ x.rotateRight 8 ^^^ (x >>> 7)
def shaSig1 (x : DWord) : DWord := x.rotateRight 19 ^^^ x.rotateRight 61 ^^^ (x >>> 6)

/-- One round: the window of sixteen schedule words moves on by one. -/
def shaRound (x : List DWord × Sha) (k : DWord) : List DWord × Sha :=
  let w := fun (i : Nat) => (x.1[i]?).getD 0#64
  let v := x.2
  let t1 := v.h + shaSum1 v.e + shaChoice v.e v.f v.g + k + w 0
  let t2 := shaSum0 v.a + shaMaj v.a v.b v.c
  (x.1.drop 1 ++ [shaSig1 (w 14) + w 9 + shaSig0 (w 1) + w 0], ⟨t1 + t2, v.a, v.b, v.c, v.d + t1, v.e, v.f, v.g⟩)

/-- Big-endian value of a list of bytes. -/
def beNat (bs : List Byte) : Nat := bs.foldl (fun n b => 256 * n + b.toNat) 0

/-- The sixteen words of a block. -/
def shaWords (blk : List Byte) : List DWord := (List.range 16).map fun i => BitVec.ofNat 64 (beNat ((blk.drop (8 * i)).take 8))

/-- One block of 128 bytes. -/
def shaBlock (v : Sha) (blk : List Byte) : Sha :=
  let r := (shaK.foldl shaRound (shaWords blk, v)).2
  ⟨v.a + r.a, v.b + r.b, v.c + r.c, v.d + r.d, v.e + r.e, v.f + r.f, v.g + r.g, v.h + r.h⟩

/-- `n` blocks of a padded message. -/
def shaBlocks : Nat → Sha → List Byte → Sha
  | 0, v, _ => v
  | n + 1, v, bs => shaBlocks n (shaBlock v (bs.take 128)) (bs.drop 128)

/-- The low `n` bytes of a number, most significant first. -/
def beBytes (v : Nat) (n : Nat) : List Byte := (List.range n).map fun i => BitVec.ofNat 8 (v / 256 ^ (n - 1 - i))

/-- Padding of section 5.1.2. -/
def shaPad (bs : List Byte) : List Byte :=
  let n := bs.length
  bs ++ [0x80#8] ++ List.replicate ((239 - n % 128) % 128) 0#8 ++ beBytes (8 * n) 16

/-- SHA-384 of a message, as a number of 384 bits. (PRESUMED, log 89.) -/
def sha384 (bs : List Byte) : Nat :=
  let p := shaPad bs
  let v := shaBlocks (p.length / 128) shaInit p
  [v.a, v.b, v.c, v.d, v.e, v.f].foldl (fun n w => 2 ^ 64 * n + w.toNat) 0

/-! ### P-384 -/

abbrev p384 : Nat := 2 ^ 384 - 2 ^ 128 - 2 ^ 96 + 2 ^ 32 - 1
abbrev n384 : Nat := 0xFFFFFFFFFFFFFFFFFFFFFFFFFFFFFFFFFFFFFFFFFFFFFFFFC7634D81F4372DDF581A0DB248B0A77AECEC196ACCC52973
abbrev b384 : Nat := 0xB3312FA7E23EE7E4988E056BE3F82D19181D9C6EFE8141120314088F5013875AC656398D8A2ED19D2A85C8EDD3EC2AEF
abbrev gx384 : Nat := 0xAA87CA22BE8B05378EB1C71EF320AD746E1D3B628BA79B9859F741E082542A385502F25DBF55296C3A545E3872760AB7
abbrev gy384 : Nat := 0x3617DE4A96262C6F5D9E98BF9292DC29F8F41DBD289A147CE9DA3113B5F0B8C00A60B1CE1D7E819D7A431D7C90EA0E5F

/-- `b ^ e` modulo `m`, over the `k` low bits of `e`. -/
def powMod (m b : Nat) : Nat → Nat → Nat
  | 0, _ => 1 % m
  | k + 1, e =>
    let h := powMod m b k (e / 2)
    let q := h * h % m
    if e % 2 = 1 then q * b % m else q

/-- Inverse modulo a prime of 384 bits. -/
def invMod (m a : Nat) : Nat := powMod m (a % m) 384 (m - 2)

def subMod (m a b : Nat) : Nat := (a + m - b % m) % m

/-- A point of the curve; `none` is the point at infinity. -/
abbrev Pt := Option (Nat × Nat)

/-- Addition of points. -/
def ptAdd (p q : Pt) : Pt :=
  match p, q with
  | none, _ => q
  | _, none => p
  | some (x1, y1), some (x2, y2) =>
    if x1 = x2 ∧ (y1 + y2) % p384 = 0 then none
    else
      let l := if x1 = x2 then subMod p384 (3 * x1 * x1) 3 * invMod p384 (2 * y1) % p384
        else subMod p384 y2 y1 * invMod p384 (subMod p384 x2 x1) % p384
      let x := subMod p384 (l * l) (x1 + x2)
      some (x, subMod p384 (l * subMod p384 x1 x) y1)

/-- `k` times a point, over the `n` low bits of `k`. -/
def ptMul (p : Pt) : Nat → Nat → Pt
  | 0, _ => none
  | n + 1, k =>
    let h := ptMul p n (k / 2)
    let q := ptAdd h h
    if k % 2 = 1 then ptAdd q p else q

def onCurve (x y : Nat) : Bool :=
  decide (x < p384) && decide (y < p384) && y * y % p384 == subMod p384 (x * x * x + b384) (3 * x)

/-- ECDSA verification of (r, s) over a digest under the public key (x, y). (PRESUMED, log 89.) -/
def ecdsaOk (x y digest r s : Nat) : Bool :=
  if onCurve x y && decide (0 < r) && decide (r < n384) && decide (0 < s) && decide (s < n384) then
    let w := invMod n384 s
    match ptAdd (ptMul (some (gx384, gy384)) 384 (digest * w % n384)) (ptMul (some (x, y)) 384 (r * w % n384)) with
    | some (px, _) => px % n384 == r
    | none => false
  else false

/-- The uncompressed encoding of a public key: 0x04, x, y. -/
def keyBytes (x y : Nat) : List Byte := [0x04#8] ++ beBytes x 48 ++ beBytes y 48

/-- Public keys under which (r, s) can verify: those of the two points with abscissa `px`. (PRESUMED, log 89.) -/
def keysFrom (px digest r s : Nat) : List (Nat × Nat) :=
  let y := powMod p384 (subMod p384 (px * px * px + b384) (3 * px)) 384 ((p384 + 1) / 4)
  if onCurve px y then
    let ri := invMod n384 r
    [y, p384 - y].filterMap fun yy =>
      ptAdd (ptMul (some (px, yy)) 384 (s * ri % n384)) (ptMul (some (gx384, gy384)) 384 (subMod n384 0 (digest * ri)))
  else []

/-- Some public key whose SHA-384 is `hash` verifies (r, s) over a digest. (PRESUMED, log 89.) -/
def signedByHash (hash digest r s : Nat) : Bool :=
  (keysFrom r digest r s ++ (if r + n384 < p384 then keysFrom (r + n384) digest r s else [])).any fun q =>
    sha384 (keyBytes q.1 q.2) == hash && ecdsaOk q.1 q.2 digest r s

end Sys2Proof.Machine
end

