-- ==== Sys2Proof/Machine/Security.lean ====
section
/-! DEFINITION. Images, boot, NVM, keys, lifecycle, debug unlock, kernel loading, operation timeouts (R52, R170, R308, R309,
R339, R426 to R439). -/

namespace Sys2Proof.Machine

abbrev uNVC : Nat := 0x60030000
abbrev uSEC : Nat := 0x60040000
abbrev uDBG : Nat := 0x601E0000

def Device.setSec (d : Device) (f : Sec → Sec) : Device := { d with sec := f d.sec }
def Device.setNvc (d : Device) (f : Nvc → Nvc) : Device := { d with nvc := f d.nvc }

/-! ### Images (R426, R427) -/

/-- A little-endian number of `n` bytes of an image. -/
def imgNat (rd : Nat → Byte) (off : Nat) : Nat → Nat
  | 0 => 0
  | n + 1 => (rd off).toNat + 256 * imgNat rd (off + 1) n

def imgBytes (rd : Nat → Byte) (off n : Nat) : List Byte := (List.range n).map fun i => rd (off + i)
def imgZero (rd : Nat → Byte) (off n : Nat) : Bool := (List.range n).all fun i => rd (off + i) == 0#8

/-- A section of `n` bytes at `off` lies in the payload and holds at most 256 KiB. -/
def sectionOk (len off n : Nat) : Bool := decide (off + n ≤ len) && decide (n ≤ 262144)

/-- The form of an image of a type, 1 firmware or 2 kernel: the first check of R427. (DEDUCED, log 83.) -/
def imgForm (rd : Nat → Byte) (typ : Nat) : Bool :=
  let u := fun (off n : Nat) => imgNat rd off n
  let len := u 0x00C 4
  let entry := fun (off n : Nat) => decide (u off 4 < n)
  u 0 4 == 0x4D504C49 && u 4 1 == typ && u 6 2 == 1 &&
    imgZero rd 0x03A 6 && imgZero rd 0x0A1 7 && imgZero rd 0x108 248 &&
    len % 8 == 0 && decide (len ≤ 8388096) &&
    sectionOk len (u 0x010 4) (u 0x014 4) && sectionOk len (u 0x018 4) (u 0x01C 4) &&
    (if typ = 1 then
      u 0x038 2 == 0 && entry 0x020 (u 0x014 4) && entry 0x024 (u 0x014 4) && entry 0x028 (u 0x014 4) &&
        entry 0x02C (u 0x01C 4) && entry 0x030 (u 0x01C 4) && entry 0x034 (u 0x01C 4)
    else u 0x018 4 == 0 && u 0x01C 4 == 0)

/-- Key slot j. -/
def Device.keySlot (d : Device) (j : Nat) : KeySlot := (d.sec.keys[j]?).getD ⟨0, 0, false, false⟩

/-- The slot of an image holds its key, for its type (R427). -/
def Device.imgKeyOk (d : Device) (rd : Nat → Byte) (typ : Nat) : Bool :=
  let k := d.keySlot (imgNat rd 5 1)
  k.valid && !k.revoked && k.use == typ - 1 && k.hash == sha384 (imgBytes rd 0x040 97)

/-- The signature of an image verifies (R427). -/
def imgSigned (rd : Nat → Byte) : Bool :=
  let len := imgNat rd 0x00C 4
  rd 0x040 == 0x04#8 &&
    ecdsaOk (beNat (imgBytes rd 0x041 48)) (beNat (imgBytes rd 0x071 48))
      (sha384 (imgBytes rd 0 0x0A8 ++ imgBytes rd 0x200 len)) (beNat (imgBytes rd 0x0A8 48)) (beNat (imgBytes rd 0x0D8 48))

/-- SEC judges an image (R427): the status of the first check that fails. (DEDUCED, log 83.) -/
def Device.judgeImage (d : Device) (rd : Nat → Byte) (typ : Nat) : Status :=
  if !imgForm rd typ then .range
  else if !d.imgKeyOk rd typ then .integrity
  else if !imgSigned rd then .integrity
  else if imgNat rd 8 4 < (if typ = 1 then d.get SEC_RBC_FW else d.get SEC_RBC_KRN) then .reject
  else .ok

/-- Base of a code bank; `true` is bank B (R433). -/
def bankBase (b : Bool) : Nat := if b then 0x08800000 else 0x08000000

/-- Bytes of the image in a bank. -/
def Device.bankImg (d : Device) (b : Bool) : Nat → Byte := fun i => memGet d.mem (bankBase b + i)

/-! ### Kernel loads (R170) -/

abbrev uSCRl : Nat := 0x60120000

/-- An address that an image may be read from: system SRAM or the NVM read window. -/
def imageSource (a : Nat) : Bool := a % 8 == 0 && (match regionOf a with | .sram => true | .nvm => true | _ => false)

/-- A write of SCR_KLD with GO = 1. -/
def Device.kernelLoad (d : Device) (slot gen : Nat) : Device :=
  let src := d.get SCR_KSRC_ADDR
  if gen ≠ d.gen uSCRl then d.st uSCRl .reset
  else if d.scr.load.isSome then d.st uSCRl .busy
  else if slot = d.get SCR_KSEL_SLOT ∨ (d.scr.sweep.isSome ∧ slot = d.get SCR_ST_KACT) ∨ d.scr.job.map (·.slot) = some slot then
    d.st uSCRl .reject
  else if !imageSource src then d.st uSCRl .range
  else
    let d : Device := { d with scr := { d.scr with load := some ⟨slot, src, gen, d.rgen 0, false⟩ } }
    (d.put SCR_KLST_BUSY 1).st uSCRl .ok

/-- A load ends with a status, which its requester receives as RESET when either generation has moved on (R51, R312).
(DEDUCED, log 88.) -/
def Device.kernelLoadEnd (d : Device) (l : KLoad) (st : Status) : Device :=
  let st := if l.rom then st else d.answer uSCRl l.gen 0 l.rgen st
  let d : Device := { d with scr := { d.scr with load := none } }
  (((d.put SCR_KLST_ST st.code).put SCR_KLST_BUSY 0).put SCR_KLST_GEN l.gen).up SCR_EVT_KLD

/-- Slot k holds no valid kernel. -/
def Device.invalidate (d : Device) (k : Nat) : Device :=
  let d := d.rset (SCR_KINFO k) 0#32
  { d with sec := { d.sec with krnSvn := d.sec.krnSvn.setIfInBounds k 0 } }

/-- Length and bound of a kernel image: 1 to 512 instructions, a bound of 1 to 512 and no smaller than the length (R170). -/
def kernelOk (rd : Nat → Byte) : Bool :=
  let n := imgNat rd 0x014 4
  let b := imgNat rd 0x038 2
  n % 4 == 0 && decide (4 ≤ n) && decide (n ≤ 2048) && decide (n / 4 ≤ b) && decide (b ≤ 512)

/-- Put a kernel into slot k. -/
def Device.installKernel (d : Device) (k : Nat) (rd : Nat → Byte) : Device :=
  let n := imgNat rd 0x014 4 / 4
  let at_ := 0x200 + imgNat rd 0x010 4
  let km := (List.range n).foldl (fun m i => mapSet (512 * k + i) (BitVec.ofNat 32 (imgNat rd (at_ + 4 * i) 4)) m)
    (d.scr.kmem.filter fun e => !(decide (512 * k ≤ e.1) && decide (e.1 < 512 * k + 512)))
  let d : Device := { d with
    scr := { d.scr with kmem := km }
    sec := { d.sec with krnSvn := d.sec.krnSvn.setIfInBounds k (imgNat rd 8 4) } }
  (((d.rset (SCR_KINFO k) 0#32).put (SCR_KINFO_BOUND k) (imgNat rd 0x038 2)).put (SCR_KINFO_LEN k) n).put (SCR_KINFO_VALID k) 1

/-- A kernel load completes; the copy of the reference kernel into K0 is always valid (R170, R427). (DEDUCED, log 113.) -/
def Device.kernelLoadDone (d : Device) : Device :=
  match d.scr.load with
  | none => d
  | some l =>
    if l.rom then ((d.rset (SCR_KINFO 0) 0xC1060118#32).put SCR_KSEL_SLOT 0).kernelLoadEnd l .ok
    else
      let rd : Nat → Byte := fun i => memGet d.mem (l.src + i)
      match d.judgeImage rd 2 with
      | .ok =>
        if kernelOk rd then (d.installKernel l.slot rd).kernelLoadEnd l .ok else (d.invalidate l.slot).kernelLoadEnd l .range
      | st => (d.invalidate l.slot).kernelLoadEnd l st

/-! ### NVM requests (R434, R435, R339) -/

/-- The bank a row lies in; `none` outside the code banks. -/
def rowBank (r : Nat) : Option Bool := if r < 32768 then some false else if r < 65536 then some true else none

/-- Row r belongs to a code bank that did not boot. (DEDUCED, log 87.) -/
def Device.rowWritable (d : Device) (r : Nat) : Bool :=
  match rowBank r with
  | some b => !(d.on SEC_BST_VOK && b == d.on SEC_BST_BANK)
  | none => false

/-- Queue a request. (DEDUCED, log 87.) -/
def Device.queueNvm (d : Device) (q : NvmReq) : Device :=
  (d.setNvc fun n => { n with queue := n.queue ++ [q] }).put NVC_ST_QD (d.nvc.queue.length + 1)

/-- A write of NVC_CMD: `app` for an append. (DEDUCED, log 87.) -/
def Device.nvmGo (d : Device) (app : Bool) (gen : Nat) : Device :=
  let src := d.get NVC_SRC_ADDR
  let cnt := d.get NVC_CNT_CNT
  let dst := d.get NVC_DST_ROW
  if gen ≠ d.gen uNVC then d.st uNVC .reset
  else if 16 ≤ d.nvc.queue.length ∨ (app ∧ ¬ d.on NVC_ST_JRDY) then d.st uNVC .busy
  else if cnt = 0 ∨ 64 < cnt ∨ src % 8 ≠ 0 ∨ src < 0x20000000 ∨ 0x20200000 < src + 256 * cnt then d.st uNVC .range
  else if !app && !((List.range cnt).all fun k => d.rowWritable (dst + k)) then d.st uNVC .reject
  else (d.queueNvm ⟨if app then .append else .write dst, src, cnt, gen, d.rgen 0, false⟩).st uNVC .ok

/-- The lowest reading of the healthy sensors of the control die. -/
def Device.coldest (d : Device) : Option Int := (((List.range 12).filter d.healthy).map fun n => d.gets (snsVal n)).min?

/-- The temperature interlock lets a row start; `again` after a refusal (R339). (DEDUCED, log 63.) -/
def Device.nvmTempOk (d : Device) (again : Bool) : Bool :=
  match d.coldest with
  | some c => if again then decide (d.tj ≤ 120 * 64) && decide (-35 * 64 ≤ c) else decide (d.tj ≤ 125 * 64) && decide (-40 * 64 ≤ c)
  | none => false

/-- The next journal row after r. -/
def journalNext (r : Nat) : Nat := if r < 90111 then r + 1 else 65536

/-- A journal row: SEQ and CRC over what the requester wrote (R435). -/
def journalRow (seq : Nat) (bs : List Byte) : List Byte :=
  let body := leBytes seq 4 ++ (bs.take 252).drop 4
  body ++ leBytes (crc32c body) 4

/-- Row number and bytes that a request writes next. -/
def Device.nvmRow (d : Device) (q : NvmReq) : Nat × List Byte :=
  let bs := (List.range 256).map fun k => memGet d.mem (q.src + k)
  match q.kind with
  | .write r => (r, bs)
  | .append => (d.get NVC_JHEAD_ROW, journalRow d.nvc.seq bs)
  | .sec _ => (90112, [])

/-- NVC starts the row of the front request, or reports TEMP for it and keeps it queued (R339). -/
def Device.nvmStart (d : Device) : Device :=
  match d.nvc.row, d.nvc.queue with
  | none, q :: rest =>
    if d.nvmTempOk q.temp then (d.setNvc fun n => { n with row := some (d.nvmRow q) }).put NVC_ST_BUSY 1
    else
      let d := d.setNvc fun n => { n with queue := { q with temp := true } :: rest }
      let d := ((d.put NVC_ST_ST Status.temp.code).put NVC_ST_GEN q.gen).up NVC_EVT_TEMP
      match q.kind with
      | .sec _ => d.put SEC_OPST_ST Status.temp.code
      | _ => d
  | _, _ => d

/-- An operation of SEC waits in NVC's queue. -/
def Device.secQueued (d : Device) : Bool := d.nvc.queue.any fun q => match q.kind with | .sec _ => true | _ => false

/-- SEC's operation ends with a status (R436); BUSY stays while another waits. -/
def Device.opst (d : Device) (st : Status) (gen : Nat) : Device :=
  ((d.put SEC_OPST_ST st.code).putB SEC_OPST_BUSY d.secQueued).put SEC_OPST_GEN gen

/-- What an operation of SEC writes into the configuration region. -/
def Device.secCommit (d : Device) (op : SecOp) : Device :=
  let d := d.setSec fun x => { x with cfgVer := x.cfgVer + 1 }
  match op with
  | .confirm b => d.putB SEC_BOOTSEL_PREF b
  | .advance fw krn => (d.put SEC_RBC_FW (max fw (d.get SEC_RBC_FW))).put SEC_RBC_KRN (max krn (d.get SEC_RBC_KRN))
  | .lock => d.put SEC_LC_STATE 1
  | .program slot use hash => d.setSec fun x => { x with keys := x.keys.setIfInBounds slot ⟨hash, use, true, false⟩ }
  | .revoke slot => d.setSec fun x => { x with keys := x.keys.setIfInBounds slot { d.keySlot slot with revoked := true } }

/-- The front request leaves the queue with a status, which its requester receives as RESET when either generation has moved on
(R51, R312). -/
def Device.nvmReply (d : Device) (q : NvmReq) (rest : List NvmReq) (st : Status) : Device :=
  let unit := match q.kind with | .sec _ => uSEC | _ => uNVC
  let told := d.answer unit q.gen 0 q.rgen st
  let d := (d.setNvc fun n => { n with queue := rest }).put NVC_ST_QD rest.length
  let d := (d.put NVC_ST_ST told.code).put NVC_ST_GEN q.gen
  let d := d.when_ (st == .ok) fun d => (d.up NVC_EVT_DONE).when_ q.temp fun d => d.up NVC_EVT_DEFD
  match q.kind with
  | .sec op => (d.when_ (st == .ok) fun d => d.secCommit op).opst told q.gen
  | _ => d

/-- The front request after one of its rows is written. -/
def Device.nvmAdvance (d : Device) (q : NvmReq) (rest : List NvmReq) : Device :=
  let d := match q.kind with
    | .append => (d.put NVC_JHEAD_ROW (journalNext (d.get NVC_JHEAD_ROW))).setNvc fun n => { n with seq := (n.seq + 1) % 4294967296 }
    | _ => d
  if q.left ≤ 1 then d.nvmReply q rest .ok
  else
    let kind : NvmKind := match q.kind with | .write r => .write (r + 1) | k => k
    d.setNvc fun n => { n with queue := { q with kind := kind, src := q.src + 256, left := q.left - 1 } :: rest }

/-- A row write completes (R434); a reset of NVC that waited for it now takes place (R44). -/
def Device.nvmRowDone (d : Device) : Device :=
  if d.nvc.row.isNone then d
  else
    let d := d.finishRow.put NVC_ST_BUSY 0
    if d.nvc.resetDue.isSome then d.dueNvc
    else if d.nvc.orphan then d.setNvc fun n => { n with orphan := false }
    else match d.nvc.queue with
      | q :: rest => d.nvmAdvance q rest
      | [] => d

/-- Journal rows with a listed byte that are not torn, and commit by their CRC (R435, R461): (row, SEQ). -/
def Device.journal (d : Device) : List (Nat × Nat) :=
  let rows := ((d.mem.filter fun e => decide (0x09000000 ≤ e.1) && decide (e.1 < 0x09600000)).map fun e => (e.1 - 0x08000000) / 256).eraseDups
  (rows.filter fun r =>
    !d.nvc.torn.contains r &&
      crc32c ((List.range 252).map fun k => memGet d.mem (0x08000000 + 256 * r + k)) == d.mread (0x08000000 + 256 * r + 252) 4).map
    fun r => (r, d.mread (0x08000000 + 256 * r) 4)

/-- SEQ s2 follows s1 (R435). -/
def seqFollows (s1 s2 : Nat) : Bool :=
  let x := (s2 + 4294967296 - s1) % 4294967296
  decide (0 < x) && decide (x < 2147483648)

/-- NVC places JHEAD after the committed row that no other committed row follows (R435). (DEDUCED, log 84.) -/
def Device.journalScan (d : Device) : Device :=
  if d.on NVC_ST_JRDY then d
  else
    let j := d.journal
    let d := match j.find? (fun x => j.all fun y => !seqFollows x.2 y.2) with
      | some (r, s) => (d.put NVC_JHEAD_ROW (journalNext r)).setNvc fun n => { n with seq := (s + 1) % 4294967296 }
      | none => (d.put NVC_JHEAD_ROW 65536).setNvc fun n => { n with seq := 0 }
    d.put NVC_ST_JRDY 1

/-! ### Operations of SEC (R429, R432, R436, R437) -/

/-- An operation that writes the configuration region: RESET on another generation, before its own checks, among them RANGE for
an unlisted code (DEDUCED, log 91); BUSY while the queue is full, else its own check and then the queue, behind an operation
that still runs (R439). (DEDUCED, log 87.) -/
def Device.secOp (d : Device) (gen : Nat) (f : Device → Sum Status (SecOp × Device)) : Device :=
  if gen ≠ d.gen uSEC then (d.opst .reset (d.gen uSEC)).st uSEC .reset
  else if 16 ≤ d.nvc.queue.length then d.st uSEC .busy
  else match f d with
    | .inl st => (d.opst st gen).st uSEC st
    | .inr (op, d) =>
      (((d.put SEC_OPST_BUSY 1).put SEC_OPST_GEN gen).queueNvm ⟨.sec op, 0, 1, gen, d.rgen 0, false⟩).st uSEC .ok

/-- A write of SEC_BOOTCONF (R429). (DEDUCED, log 88.) -/
def Device.bootConf (d : Device) (key gen : Nat) : Device :=
  d.secOp gen fun d =>
    if key = 0xE1 ∧ d.on SEC_BST_TRIAL then .inr (.confirm (d.on SEC_BST_BANK), d.put SEC_BST_TRIAL 0) else .inl .reject

/-- The highest security version of a valid kernel slot. (DEDUCED, log 87.) -/
def Device.topKrnSvn (d : Device) : Nat :=
  (List.range 8).foldl (fun m k => if d.on (SCR_KINFO_VALID k) then max m ((d.sec.krnSvn[k]?).getD 0) else m) 0

/-- A write of SEC_RBADV (R432). -/
def Device.rbAdvance (d : Device) (fw krn gen : Nat) : Device :=
  d.secOp gen fun d =>
    if d.on SEC_BST_TRIAL then .inl .reject
    else if (d.get SEC_RBC_FW < fw ∧ d.sec.fwSvn < fw) ∨ (d.get SEC_RBC_KRN < krn ∧ d.topKrnSvn < krn) then .inl .range
    else .inr (.advance fw krn, d)

/-- A write of SEC_LC (R437). (DEDUCED, log 50.) -/
def Device.lcKey (d : Device) (key gen : Nat) : Device :=
  let clr := d.setSec fun x => { x with key1At := none }
  if d.on SEC_LC_STATE then clr.st uSEC .reject
  else if key = 0xF0 then (d.setSec fun x => { x with key1At := some d.now }).st uSEC .ok
  else if key = 0x0F ∧ d.within d.sec.key1At 10000000 then clr.secOp gen fun d => .inr (.lock, d)
  else clr.st uSEC .reject

/-- A write of SEC_KPROG with GO = 1 (R436). -/
def Device.keyProg (d : Device) (slot use gen : Nat) : Device :=
  d.secOp gen fun d =>
    let a := d.get SEC_KSRC_ADDR
    if use = 3 ∨ a % 8 ≠ 0 ∨ regionOf a = .none ∨ regionOf a = .periph then .inl .range
    else if (d.keySlot slot).valid then .inl .reject
    else .inr (.program slot use (beNat ((List.range 48).map fun i => memGet d.mem (a + i))), d)

/-- A write of SEC_KREV with GO = 1 (R436). -/
def Device.keyRev (d : Device) (slot gen : Nat) : Device :=
  d.secOp gen fun d => if d.sec.fwSlot = some slot then .inl .reject else .inr (.revoke slot, d)

/-- SEC_KST: valid, revoked, and in use by the running firmware, for each slot. -/
def Device.kstWord (d : Device) : Nat :=
  (List.range 8).foldl (fun w j =>
    let k := d.keySlot j
    w + (Bool.bit k.valid + 2 * Bool.bit k.revoked + 4 * Bool.bit (d.sec.fwSlot == some j)) * 8 ^ j) 0

/-! ### Boot (R428 to R431) -/

/-- TCM base and size of pair h (R298). -/
def tcmBase (h : Nat) : Nat := if h = 0 then 0x10000000 else 0x10100000

/-- Bytes of pair h's TCM section as an image places it: its payload offset, its length, its entries boot, restart, retention.
-/
def imgSection (rd : Nat → Byte) (h : Nat) : Nat × Nat × Nat × Nat × Nat :=
  if h = 0 then (imgNat rd 0x010 4, imgNat rd 0x014 4, imgNat rd 0x020 4, imgNat rd 0x024 4, imgNat rd 0x028 4)
  else (imgNat rd 0x018 4, imgNat rd 0x01C 4, imgNat rd 0x02C 4, imgNat rd 0x030 4, imgNat rd 0x034 4)

/-- Copy pair h's section of the booted image into its TCM. -/
def Device.copyTcm (d : Device) (h : Nat) : Device :=
  let rd := d.bankImg (d.on SEC_BST_BANK)
  let x := imgSection rd h
  ({ d with mem := (List.range x.2.1).foldl (fun m i => memSet m (tcmBase h + i) (rd (0x200 + x.1 + i))) d.mem } :
    Device).rewrote (tcmBase h) x.2.1

/-- SHA-384 of pair h's section in its TCM, and in the booted bank. -/
def Device.tcmHash (d : Device) (h : Nat) : Nat :=
  sha384 (imgBytes (memGet d.mem) (tcmBase h) (imgSection (d.bankImg (d.on SEC_BST_BANK)) h).2.1)
/-- (DEDUCED, log 88.) -/
def Device.sectionHash (d : Device) (h : Nat) : Nat :=
  let rd := d.bankImg (d.on SEC_BST_BANK)
  let x := imgSection rd h
  sha384 (imgBytes rd (0x200 + x.1) x.2.1)

/-- The boot record's digest for pair h (R428). -/
def Device.bootDigest (d : Device) (h : Nat) : Option Nat := d.sec.bootRec.map fun r => if h = 0 then r.1 else r.2

/-- Pair h starts at an address, in M with IE = 0. -/
def Device.startAt (d : Device) (h pc : Nat) : Device :=
  d.setCore h fun c => { c with up := true, pc := BitVec.ofNat 64 pc }

/-- Pair h has not entered its boot entry since the control die started with P-class values. -/
def Device.coldPair (d : Device) (h : Nat) : Bool := d.sec.cold.getLsbD h

/-- Pair h jumps to its boot entry (R428 step 4). (DEDUCED, log 79.) -/
def Device.bootEntry (d : Device) (h : Nat) : Device :=
  let x := imgSection (d.bankImg (d.on SEC_BST_BANK)) h
  (d.startAt h (tcmBase h + x.2.2.1)).setSec fun s => { s with cold := s.cold &&& ~~~(1#2 <<< h) }

/-- The boot ROM of pair A chooses the banks to try (R429). -/
def Device.chooseBanks (d : Device) : Device :=
  let pref := d.on SEC_BOOTSEL_PREF
  let d := ((d.put SEC_BST_FAILA 0).put SEC_BST_FAILB 0).put SEC_BST_VOK 0
  if d.on SEC_BOOTSEL_TRY then
    let d := (d.put SEC_BOOTSEL_TRY 0).put SEC_BST_TRIAL 1
    d.setSec fun s => { s with trying := [d.on SEC_BOOTSEL_PEND, pref], cfgVer := s.cfgVer + 1 }
  else (d.put SEC_BST_TRIAL 0).setSec fun s => { s with trying := [pref, !pref] }

/-- A W reset before a trial bank was confirmed boots PREF again (R429). (DEDUCED, log 79.) -/
def Device.dropTrial (d : Device) (h : Nat) : Device :=
  if d.on SEC_BST_TRIAL && d.on SEC_BST_VOK && !(d.cpx.restart[h]?).getD false && !d.coldPair h then
    ((d.put SEC_BST_TRIAL 0).put SEC_BST_VOK 0).setSec fun s => { s with cold := 3#2, bootRec := none }
  else d

/-- Pair h, its release test passed, begins (R428, R431): at 0 in a boot with P-class values, where pair A chooses the bank;
else at its restart entry, or its retention entry after S3, with its TCM section checked and copied again when it differs.
(DESIGN CHOICE, log 2; DEDUCED, log 79.) -/
def Device.startPair (d : Device) (h : Nat) : Device :=
  let d := d.dropTrial h
  if d.coldPair h || d.sec.bootRec.isNone then
    if d.on SEC_BST_VOK then d.bootEntry h
    else (d.startAt h 0).when_ (h == 0) Device.chooseBanks
  else
    let d := d.when_ (some (d.tcmHash h) != d.bootDigest h) fun d => d.copyTcm h
    let x := imgSection (d.bankImg (d.on SEC_BST_BANK)) h
    d.startAt h (tcmBase h + if d.cpx.retention then x.2.2.2.2 else x.2.2.2.1)

/-- The release test of pair h ends (R308, R309, R313). -/
def Device.releaseTest (d : Device) (h : Nat) (pass : Bool) : Device :=
  if d.sys.appHeld || (d.corePair h).up || d.get (CPX_PST_STATE h) == 3 then d
  else
    let again := (d.cpx.restart[h]?).getD false
    if pass then
      let d := ((d.put (CPX_PST_STATE h) 0).put (CPX_PST_RTOK h) 1).watchdogStart h
      let d := d.startPair h
      { d with cpx := { d.cpx with restart := d.cpx.restart.setIfInBounds h false } }
    else
      let d := d.put (CPX_PST_RTOK h) 0
      if again then d.escalate h else d.fencePair h

/-- SEC has judged the bank being tried (R427 to R430). -/
def Device.verifyDone (d : Device) (b : Bool) : Device :=
  match d.sec.trying with
  | x :: rest =>
    if x ≠ b then d
    else if d.judgeImage (d.bankImg b) 1 = .ok then
      let rd := d.bankImg b
      let d := (d.putB SEC_BST_BANK b).put SEC_BST_VOK 1
      let d := d.setSec fun s => { s with trying := [], fwSvn := imgNat rd 8 4, fwSlot := some (imgNat rd 5 1) }
      let d := d.setSec fun s => { s with bootRec := some (d.sectionHash 0, d.sectionHash 1) }
      let d := (d.copyTcm 0).copyTcm 1
      let d := d.when_ ((d.corePair 0).up && d.coldPair 0) fun d => d.bootEntry 0
      d.when_ ((d.corePair 1).up && d.coldPair 1) fun d => d.bootEntry 1
    else
      let d := ((d.put (if b then SEC_BST_FAILB else SEC_BST_FAILA) 1).put SEC_BST_TRIAL 0).setSec fun s => { s with trying := rest }
      d.when_ rest.isEmpty fun d => (d.enter .tripped).setSec fun s => { s with recovery := true }
  | [] => d

/-- The recovery loader receives an image (R430, R339): a valid one is written to bank A and a W reset follows.
(DEDUCED, log 88.) -/
def Device.recover (d : Device) (bytes : List Byte) : Device :=
  let rd : Nat → Byte := fun i => (bytes[i]?).getD 0#8
  if d.sec.recovery && (d.corePair 0).up && d.judgeImage rd 1 == .ok && d.nvmTempOk false then
    let rows := (0x200 + imgNat rd 0x00C 4 + 255) / 256
    let d := (List.range rows).foldl (fun d r => d.storeRow r (imgBytes rd (256 * r) 256)) d
    d.wReset SYS_RSTCAUSE_WSW
  else d

/-! ### Debug (R438) -/

/-- Report a debug step. -/
def Device.dbgSt (d : Device) (st : Status) : Device := (d.put DBG_UST_ST st.code).st uDBG st

/-- The access level that a debugger has: every one in OPEN. (DEDUCED, log 90.) -/
def Device.dbgLevel (d : Device) : Nat := if d.on SEC_LC_STATE then d.get DBG_UST_LEVEL else 3

/-- A write of DBG_UREQ with CHAL = 1: RANGE for a level that the table does not list (R462). (DEDUCED, log 90.) -/
def Device.dbgChallenge (d : Device) (level : Nat) : Device :=
  if level = 0 then d.dbgSt .range
  else
    let r := d.fresh
    let d := (List.range 8).foldl (fun d k => d.rset (DBG_CHAL k) (Config.nonceWord r.1 k)) r.2
    (d.setSec fun s => { s with nonce := true }).dbgSt .ok

/-- The message that a debugger signs: nonce, identity, level. (DEDUCED, log 90.) -/
def Device.dbgMessage (d : Device) (level : Nat) : List Byte :=
  (List.range 8).flatMap (fun k => leBytes (d.rget (DBG_CHAL k)).toNat 4) ++
    (List.range 4).flatMap (fun k => leBytes (Config.uid k).toNat 4) ++ [BitVec.ofNat 8 level]

/-- Words k to k + 11 of DBG_RSP as a number. -/
def Device.dbgNum (d : Device) (k : Nat) : Nat :=
  beNat ((List.range 12).flatMap fun i => leBytes ((d.sec.rsp[k + i]?).getD 0#32).toNat 4)

/-- A write of DBG_UREQ with CHK = 1, which carries LEVEL and KSLOT again: RANGE for an unlisted level, and the nonce stays.
(DEDUCED, log 90.) -/
def Device.dbgCheck (d : Device) (level kslot : Nat) : Device :=
  if level = 0 then d.dbgSt .range
  else if d.sec.nonce = false then d.dbgSt .reject
  else
    let k := d.keySlot kslot
    let ok := k.valid && !k.revoked && k.use == 2 &&
      signedByHash k.hash (sha384 (d.dbgMessage level)) (d.dbgNum 0) (d.dbgNum 12)
    let d := d.setSec fun s => { s with nonce := false }
    if ok then (d.put DBG_UST_LEVEL (max level (d.get DBG_UST_LEVEL))).dbgSt .ok else d.dbgSt .integrity

/-- A request to halt pair h, or to let it execute one instruction (R438, R439). (DEDUCED, log 90.) -/
def Device.dbgHalt (d : Device) (h : Nat) (step : Bool) : Device :=
  if d.dbgLevel < 2 then d.dbgSt .locked
  else if d.get (CPX_PST_STATE h) = 1 then d.dbgSt .busy
  else if !d.banksOpen then d.dbgSt .reject
  else if step then
    if (d.corePair h).halted then (d.setCore h fun c => { c with step := true }).dbgSt .ok else d.dbgSt .reject
  else (d.setCore h fun c => { c with halted := true }).dbgSt .ok

/-- EXTEST or INTEST: the field die turns every coil, load channel and gate output off and sets the trip latch first (R438). -/
def Device.dbgScan (d : Device) : Device :=
  if d.dbgLevel < 3 then d.dbgSt .locked
  else (d.outputsOff.setSec fun s => { s with scan := true }).dbgSt .ok

/-! ### Timeouts (R52) -/

/-- The requester of an operation with a reply receives TIMEOUT. (DEDUCED, log 63.) -/
def Device.timeoutOp (d : Device) : OpKind → Device
  | .flkCommand p =>
    match (d.pt p.val).out with
    | none => d
    | some c =>
      let d := d.setPt p.val fun v => { v with out := none, retried := false }
      match c.src with
      | .firmware => d.prsp p.val (d.answer uFLK c.gen 0 (d.pt p.val).rgen .timeout).code c.gen
      | .flk => d
      | .acq => d.acqReply ⟨d.nodeIndex (d.aEnd p.val) c.addr.toNat, c.opc.toNat, none⟩
  | .flkOps =>
    match d.flk.op with
    | some (.enumerate _) => d.opDone .timeout 0
    | some .calibrate => d.opDone .timeout 1
    | none => d
  | .kernelLoad =>
    match d.scr.load with
    | some l => if l.rom then d else (d.invalidate l.slot).kernelLoadEnd l .timeout
    | none => d
  | .scrJob => d.endJob Status.timeout.code
  | .mdio m => d.mdioEnd m.val .timeout none
  | .nvm =>
    match d.nvc.queue with
    | q :: rest =>
      if q.temp then d else (d.nvmReply q rest .timeout).setNvc fun n => { n with orphan := n.row.isSome }
    | [] => d
  | .prlJoin => if d.prl.join.isSome then d.joinEnd .timeout else d
  | .prlCheckpoint => d.checkpointEnd .timeout

/-! ### Meanings -/

/-- A command of pair A or of another writer: without effect while the application domain is held (R46). (DEDUCED, log 6.) -/
def onBus (s : State) (f : Device → Device) : Host.Outcome State Fault Refusal :=
  onCtl s fun d => if d.sys.appHeld then d else f d

/-- KERNEL_LOAD (R170). -/
def execKernelLoad (slot : Fin 8) (gen : Byte) (s : State) : Host.Outcome State Fault Refusal :=
  onBus s fun d => d.kernelLoad slot.val gen.toNat

/-- KERNEL_LOAD_DONE (R170): SCR loads nothing while it is held in reset (R46). -/
def execKernelLoadDone (s : State) : Host.Outcome State Fault Refusal := onCtl s fun d => if d.sys.appHeld then d else d.kernelLoadDone

/-- NVM_WRITE (R434). -/
def execNvmWrite (gen : Byte) (s : State) : Host.Outcome State Fault Refusal := onBus s fun d => d.nvmGo false gen.toNat

/-- NVM_APPEND (R434, R435). -/
def execNvmAppend (gen : Byte) (s : State) : Host.Outcome State Fault Refusal := onBus s fun d => d.nvmGo true gen.toNat

/-- NVM_ROW_START (R339). -/
def execNvmRowStart (s : State) : Host.Outcome State Fault Refusal := onCtl s Device.nvmStart

/-- NVM_ROW_DONE (R434, R340). -/
def execNvmRowDone (s : State) : Host.Outcome State Fault Refusal := onDev s Device.nvmRowDone

/-- JOURNAL_SCAN_DONE (R435). -/
def execJournalScanDone (s : State) : Host.Outcome State Fault Refusal := onCtl s Device.journalScan

/-- IMAGE_VERIFY_DONE (R427 to R430). -/
def execImageVerifyDone (k : ImageKind) (s : State) : Host.Outcome State Fault Refusal :=
  onCtl s fun d => d.verifyDone (k == .bankB)

/-- BOOT_CONFIRM (R429). -/
def execBootConfirm (key : BitVec 24) (gen : Byte) (s : State) : Host.Outcome State Fault Refusal :=
  onBus s fun d => d.bootConf key.toNat gen.toNat

/-- ROLLBACK_ADVANCE (R432). -/
def execRollbackAdvance (fw krn gen : Byte) (s : State) : Host.Outcome State Fault Refusal :=
  onBus s fun d => d.rbAdvance fw.toNat krn.toNat gen.toNat

/-- LIFECYCLE_KEY (R437). -/
def execLifecycleKey (key : BitVec 24) (gen : Byte) (s : State) : Host.Outcome State Fault Refusal :=
  onBus s fun d => d.lcKey key.toNat gen.toNat

/-- KEY_PROGRAM (R436). -/
def execKeyProgram (slot : Fin 8) (use : BitVec 2) (gen : Byte) (s : State) : Host.Outcome State Fault Refusal :=
  onBus s fun d => d.keyProg slot.val use.toNat gen.toNat

/-- KEY_REVOKE (R436). -/
def execKeyRevoke (slot : Fin 8) (gen : Byte) (s : State) : Host.Outcome State Fault Refusal :=
  onBus s fun d => d.keyRev slot.val gen.toNat

/-- RECOVERY_IMAGE (R430). -/
def execRecoveryImage (bytes : List Byte) (s : State) : Host.Outcome State Fault Refusal := onBus s fun d => d.recover bytes

/-- RELEASE_TEST_COMPLETE (R308, R309, R311). -/
def execReleaseTestComplete (p : Pair) (pass : Bool) (s : State) : Host.Outcome State Fault Refusal :=
  onCtl s fun d => d.releaseTest (pairIx p) pass

/-- DEBUG_CHALLENGE (R438). -/
def execDebugChallenge (level : BitVec 2) (_kslot : Fin 8) (s : State) : Host.Outcome State Fault Refusal :=
  onCtl s fun d => d.dbgChallenge level.toNat

/-- DEBUG_CHECK (R438). -/
def execDebugCheck (level : BitVec 2) (kslot : Fin 8) (s : State) : Host.Outcome State Fault Refusal :=
  onCtl s fun d => d.dbgCheck level.toNat kslot.val

/-- DEBUG_HALT (R438, R439). -/
def execDebugHalt (p : Pair) (step : Bool) (s : State) : Host.Outcome State Fault Refusal :=
  onCtl s fun d => d.dbgHalt (pairIx p) step

/-- SCAN_EXTEST (R438). -/
def execScanExtest (s : State) : Host.Outcome State Fault Refusal := onCtl s Device.dbgScan

/-- OPERATION_TIMEOUT (R52). -/
def execOperationTimeout (op : OpKind) (s : State) : Host.Outcome State Fault Refusal := onCtl s fun d => d.timeoutOp op

end Sys2Proof.Machine
end

