-- ==== Sys2Proof/Machine/Epoch.lean ====
section
/-! DEFINITION. The epoch sequencer (R21, R94, R403, R411, R464) and the close of an epoch (R15). -/

namespace Sys2Proof.Machine



/-- Time passes up to an instant in ns, in whole FAB cycles. (DESIGN CHOICE, log 1.) -/
def Device.runTo (d : Device) (ns : Nat) : Device := if d.now < ns then d.elapse ((ns - d.now + 3) / 4) else d

/-- The announced period takes effect at the epoch time of epoch n (R94, R154, R155, R403): source 114; the low-current epoch
begins with the period that acquisition asked for, and ends with the next one. (DEDUCED, log 30.) -/
def Device.takePeriod (d : Device) (n : Nat) : Device :=
  match d.flk.perNext with
  | some (p, eff) =>
    if eff ≤ n then
      let d := d.when_ (p != d.flk.per) fun d => { d.unlockPhase with tim := { d.unlockPhase.tim with adjust := 0 } }
      let d : Device := { d with flk := { d.flk with per := p, perNext := none, src := d.flk.src ||| 0x4#4, diagSent := none } }
      if d.flk.nextLce then ((d.put FLK_EPER_LCE 1).put ACQ_LCST_ACTIVE 1).up ACQ_EVT_LCENT
      else d.when_ (d.on FLK_EPER_LCE || d.on ACQ_LCST_ACTIVE) fun d => ((d.put FLK_EPER_LCE 0).put ACQ_LCST_ACTIVE 0).up ACQ_EVT_LCEXIT
    else d
  | none => d

/-- R80 for an interval of `ns` ns and a flock of `n` nodes with `t` trains. (DEDUCED, log 28.) -/
def admitsNs (ns n t : Nat) : Bool :=
  decide ((1000 + t * n * 41 + (if t = 1 then 500 else 810)) * 1000 ≤ ns) && decide (t * n * 40 * 100000 ≤ 77 * ns)

/-- Change of the interval that follows an epoch time with phase error e (R403). (DEDUCED, log 28.) -/
def Device.steerBy (d : Device) (e : Int) : Int :=
  let a := if e.natAbs ≤ 10000 then -e else if 0 < e then -10000 else 10000
  let ns := ((d.flk.per * 1000000 : Nat) + a).toNat
  if a < 0 ∧ !(d.enabledFlocks.all fun f => admitsNs ns (d.population f) (d.trains f)) then 10000 else a

/-- Phase lock at an epoch time (R403). (DEDUCED, log 28.) -/
def Device.steer (d : Device) : Device :=
  if d.on TIM_EPL_EN && d.on TIM_ST_INIT then
    let e := phaseError d.tbNs (d.get TIM_EPL_PHOFS) (d.flk.per * 1000000)
    let run := if e.natAbs ≤ 100 then min 16 (d.tim.lockRun + 1) else 0
    let d := d.puts TIM_EPST_ERR e
    let d : Device := { d with tim := { d.tim with adjust := d.steerBy e, lockRun := run } }
    if 1000 < e.natAbs then d.setPlk false else if run = 16 then d.setPlk true else d
  else { d with tim := { d.tim with adjust := 0, lockRun := 0 } }

/-- Arming and disarming take effect; FLK then programs the comparators of every valid string (R238). (DEDUCED, log 49.) -/
def Device.armNow (d : Device) : Device :=
  match d.ref.armDue with
  | none => d
  | some arm =>
    let d : Device := if arm then { d.put REF_ST_ARMED 1 with ref := { d.ref with armDue := none } } else d.disarm
    if arm then
      { d with ref := { d.ref with setcmpDue := (List.range 512).filter fun s => d.on (REF_SMAP_VALID s) } }
    else d

/-- The counts of R39, R233 and R234 at the end of an epoch. (DEDUCED, log 46.) -/
def Device.rollReferee (d : Device) : Device :=
  let r := d.ref
  let good := r.cleanNow.filter fun i => !r.dirtyNow.contains i
  let clean := good.foldl (fun (m : List (Nat × Nat)) i => mapSet i (min 10 (mapGetD i 0 r.clean + 1)) m) []
  { d with ref := { r with
      clean := clean, cleanNow := [], dirtyNow := [], noisy := false
      quiet := if r.noisy then 0 else min 100 (r.quiet + 1)
      bankQuiet := r.bankQuiet.map fun n => min 101 (n + 1) } }

/-- DEGRADED returns to ONLINE (R35). (DEDUCED, log 31.) -/
def Device.upgrade (d : Device) : Device :=
  if !d.follower && d.mode == .degraded && d.anyClosed then d.enter d.onlineMode else d

/-- Acquisition closes its oldest open epoch (R15, R130, R141, R177, R184), and the device sends its epoch summary (R416).
(DEDUCED, log 27.) -/
def Device.closeOldest (d : Device) : Device :=
  match d.acq.opens with
  | o :: _ =>
    let d := (d.closeEpoch o).closeStrings o.epoch
    d.when_ (d.on PRL_CTL_EN) fun d => d.prlSend (.summary d.summaryNow)
  | [] => d

/-- Epochs whose close deadline has passed close, oldest first (R15). (DEDUCED, log 27.) -/
def Device.closeOverdue (d : Device) : Device :=
  d.acq.opens.foldl (fun (d : Device) o =>
    d.when_ (match d.acq.opens with | x :: _ => x.epoch == o.epoch && decide (d.closeAt o ≤ d.now) | [] => false) Device.closeOldest) d

/-- An epoch whose every enabled port end has population 0, or that finds no end enabled, closes at its epoch time (R15).
(DEDUCED, log 27.) -/
def Device.closeDelivered (d : Device) : Device :=
  d.when_ (match d.acq.opens with | [o] => d.delivered o.epoch | _ => false) Device.closeOldest

/-- An epoch time (R464): the number advances, the period and arming due at it take effect, phase lock steers, the epoch that
ends gives its means and counts, and the new epoch opens. (DEDUCED, log 29 and 31.) -/
def Device.epochTime (d : Device) (ones : Vector BmiOnes 16) : Device :=
  let ended := d.epoch
  let per := d.flk.per
  let d := d.runTo d.nextEpochAt
  let d := d.closeOverdue
  let d := d.when_ (ended != 0) fun d => (d.bmiMeans ended per ones).rollReferee
  let d := d.when_ (d.flk.lce && d.currentsHigh) Device.lceExit
  let n := if d.follower then d.followNumber else ended + 1
  let d := d.put FLK_EPNUM_EPOCH n
  let d : Device := { d with flk := { d.flk with
    lastT := d.now, prevLen := d.now - d.flk.lastT, totalMs := if ended = 0 then d.flk.totalMs else d.flk.totalMs + per } }
  let d := ((d.takePeriod n).steer).armNow.upgrade
  let d := (d.openEpoch n d.flk.per d.flk.totalMs).closeDelivered
  let d := d.prlEpoch
  d.when_ (d.isActive && d.on PRL_CTL_EN) fun d => d.prlSend (.epoch ⟨d.rget FLK_EPNUM, BitVec.ofNat 7 d.flk.per⟩)

/-- The sequencer runs: from the first release of the application domain, in every mode from MUSTER onward (R238, R464); a W
reset does not stop it (R12). -/
def Device.sequencing (d : Device) : Bool := d.mode.live && d.sys.released

/-- EPOCH_TIME (R464, R21, R403, R411). (DESIGN CHOICE, log 1.) -/
def execEpochTime (ones : Vector BmiOnes 16) (s : State) : Host.Outcome State Fault Refusal :=
  onCtl s fun d => if d.sequencing then d.epochTime ones else d

/-- EPOCH_CLOSE (R15, R130, R141, R184, R416): acquisition closes its oldest open epoch once every record of it is delivered or
declared missing; else the command is the passing of the close deadline, when that comes before the next epoch time.
(DEDUCED, log 27.) -/
def execEpochClose (s : State) : Host.Outcome State Fault Refusal :=
  onCtl s fun d =>
    match d.acq.opens with
    | o :: _ =>
      if !d.on ACQ_CTL_EN then d
      else if d.delivered o.epoch then d.closeOldest
      else if d.closeAt o ≤ max d.now d.nextEpochAt then (d.runTo (d.closeAt o)).closeOldest
      else d
    | [] => d

end Sys2Proof.Machine
end

