-- ==== Sys2Proof/Machine/Regs.lean ====
section
/-! DEFINITION. Reads and writes of a register under its field types: R8 to R10, R53, R54, R462, R463. -/

namespace Sys2Proof.Machine

/-- Index of a repeated register: `a` is base + i × spacing with i < n. -/
def ix (base spacing n a : Nat) : Option Nat :=
  if base ≤ a ∧ (a - base) % spacing = 0 ∧ (a - base) / spacing < n then some ((a - base) / spacing) else none

/-- The field's range or list of codes admits the value that `w` gives it (R462). (DEDUCED, log 45.) -/
def FieldDef.accepts (f : FieldDef) (w : Word) : Bool :=
  let v := bitsOf w f.lo f.w
  match f.ok with
  | .any => true
  | .range lo hi => decide (lo ≤ v) && decide (v ≤ hi)
  | .srange lo hi => decide (lo ≤ signed f.w v) && decide (signed f.w v ≤ hi)
  | .codes l => l.contains v

/-- A write of `w` carried out in one field of `old` under its type (R9, R463). -/
def FieldDef.write (f : FieldDef) (locked : Bool) (w old : Word) : Word :=
  let v := bitsOf w f.lo f.w
  let o := bitsOf old f.lo f.w
  match f.ty with
  | .rw => withBits old f.lo f.w v
  | .w1c => withBits old f.lo f.w (o - (o &&& v))
  | .w1s => withBits old f.lo f.w (o ||| v)
  | .lk => if locked then old else withBits old f.lo f.w v
  | .ro => old
  | .rc => old
  | .wo => old
  | .cnt => old

/-- The lock bit that governs the LK fields of an address (R10): each CAN controller and each MAC has its own; CAN_WKCFG
stands in controller 0's window. (DEDUCED, log 85.) -/
def lockOf (a : Nat) : Option Fld :=
  match blockOf a with
  | some .sys => some SYS_LOCK_LOCK | some .thm => some THM_LOCK_LOCK | some .bud => some BUD_LOCK_LOCK
  | some .nvc => some NVC_LOCK_LOCK | some .sec => some SEC_LOCK_LOCK | some .cpx => some CPX_LOCK_LOCK
  | some .int => some INT_LOCK_LOCK | some .flk => some FLK_LOCK_LOCK | some .acq => some ACQ_LOCK_LOCK
  | some .bmi => some BMI_LOCK_LOCK | some .scr => some SCR_LOCK_LOCK | some .pub => some PUB_LOCK_LOCK
  | some .ref => some REF_LOCK_LOCK | some .ctd => some CTD_LOCK_LOCK | some .lsw => some LSW_LOCK_LOCK
  | some .mtr => some MTR_LOCK_LOCK | some .can => some (CAN_LOCK_LOCK ((a - 0x60180000) / 0x4000))
  | some .eth => some (ETH_LOCK_LOCK ((a - 0x601A0000) / 0x10000)) | some .tim => some TIM_LOCK_LOCK
  | some .prl => some PRL_LOCK_LOCK | some .dbg => none | none => none

def Device.lockedAt (d : Device) (a : Nat) : Bool := match lockOf a with | some f => d.on f | none => false

/-- A write of zero to an event counter clears the count and its SAT flag (R54). -/
def Device.clearCount (d : Device) (a : Nat) (c : Cnt) : Device :=
  match c with
  | .plain => d
  | .c16 => d.rset a 0#32
  | .c32 k => (d.rset a 0#32).put ⟨unitOf a + 8, k, 1⟩ 0

/-- A write of a register of the table under its field types. -/
def Device.typedReg (d : Device) (a : Nat) (r : RegDef) (w : Word) : Device :=
  let u := unitOf a
  let locked := d.lockedAt a
  let old := d.rget a
  if !r.fields.all (fun f => f.accepts w) then d.st u .range
  else if r.cnt != .plain then ((if w = 0#32 then d.clearCount a r.cnt else d).st u .ok)
  else
    let refused := locked && r.fields.any fun f => f.ty == .lk && bitsOf w f.lo f.w != bitsOf old f.lo f.w
    (d.rset a (r.fields.foldl (fun acc f => f.write locked w acc) old)).st u (if refused then .locked else .ok)

/-- A write to an address of a block: the header is read only, and an offset that names no register takes no effect (R8).
(DEDUCED, log 91.) -/
def Device.typed (d : Device) (a : Nat) (w : Word) : Device :=
  match regDef? a with
  | some r => d.typedReg a r w
  | none => if isHeader a then d.st (unitOf a) .ok else d

/-- The last write to a unit was carried out (in full, or apart from locked fields). (DEDUCED, log 91.) -/
def Device.took (d : Device) (u : Nat) : Bool :=
  d.get (lastFld u) == Status.ok.code || d.get (lastFld u) == Status.locked.code

/-! ### Reading -/

/-- UNIT of an address (R53). -/
def unitNo (a : Nat) : Nat :=
  match blockOf a with
  | some .can => (a - 0x60180000) / 0x4000
  | some .eth => (a - 0x601A0000) / 0x10000
  | some .flk => (a - 0x60080000) / 0x1000
  | _ => 0

/-- xxx_ID (R53). -/
def idWord (a : Nat) : Word :=
  match blockOf a with
  | some b => BitVec.ofNat 32 (b.code + unitNo a * 256 + 0xB0000000)
  | none => 0#32

/-- Offset of a header register (R53): it stands at the base of every unit and of every port end window. -/
def headerOffset (a : Nat) : Option Nat :=
  let o := match blockOf a with
    | some .flk => (a - 0x60080000) % 0x1000
    | _ => a - unitOf a
  if o < 12 ∧ (blockOf a).isSome then some o else none

/-- CAN_NEWD[j] of controller c: the NEW bits of 32 objects. -/
def Device.newdWord (d : Device) (c j : Nat) : Nat :=
  (List.range 32).foldl (fun acc b => acc + d.get (CAN_OSTAT_NEW c (32 * j + b)) * 2 ^ b) 0

/-- A window of a port end that the part lacks (R1). (DEDUCED, log 35.) -/
def Device.fusedPort (d : Device) (a : Nat) : Bool :=
  match blockOf a with
  | some .flk => decide (d.portCount ≤ (a - 0x60080000) / 0x1000)
  | _ => false

/-- What registers that show something else than a stored value read as. No current flows in the coil of a
driver that is off (R465). (DESIGN CHOICE, log 10; DEDUCED, log 35.) -/
def Device.shown (d : Device) (a : Nat) : Option Nat :=
  let w := d.rget a
  let also (f : Fld) (v : Nat) : Nat := (withBits w f.lo f.w v).toNat
  match blockOf a with
  | some .sys => if a = SYS_MODE then some (also SYS_MODE_TRIPL (Bool.bit d.fd.tripLatch)) else none
  | some .int =>
    match ix (INT_RAW 0) 4 8 a, ix (INT_ACT 0) 0x400 2 a with
    | some j, _ => some (d.rawWord j)
    | none, some h => some (d.actWord h)
    | none, none => none
  | some .cpx =>
    match ix (CPX_PST 0) 0x20 2 a with
    | some h => if d.sys.appHeld && d.get (CPX_PST_STATE h) == 0 then some (also (CPX_PST_STATE h) 2) else none
    | none => none
  | some .ctd => match ix (CTD_DST 0) 0x20 12 a with
    | some k => some (also (CTD_DST_I k) (if d.drvSt k = .off then 0 else (Config.coilCurrent d.now k).toNat))
    | none => none
  | some .ref => if a = REF_ST then some (also REF_ST_TRIPI (Bool.bit d.tripSensed)) else none
  | some .lsw =>
    match ix (LSW_CST 0) 0x20 16 a, ix (LSW_CFI 0) 0x20 16 a, ix (LSW_VSEG 0) 4 4 a with
    | some n, _, _ => some (also (LSW_CST_I n) (Config.loadCurrent d.now n).toNat)
    | none, some n, _ => some (Config.loadFine d.now n).toNat
    | none, none, some j => some (Config.segVoltage d.now j).toNat
    | none, none, none => none
  | some .can =>
    let c := (a - 0x60180000) / 0x4000
    match ix (CAN_NEWD c 0) 4 4 a with
    | some j => some (d.newdWord c j)
    | none => if a = CAN_WKCFG c ∧ c ≠ 0 then some 0 else none
  | some .tim => if a = TIM_NS then some (d.tbNs % secNs) else none
  | some .prl =>
    if a = PRL_ST then
      some ((withBits (withBits w PRL_ST_PRI.lo 1 (Bool.bit Config.pairSel)) PRL_ST_SHDOK.lo 1 (Bool.bit d.shdOk)).toNat)
    else none
  | some .sec =>
    match ix (SEC_UID 0) 4 4 a with
    | some k => some (Config.uid k).toNat
    | none => if a = SEC_KST then some d.kstWord else none
  | some .scr => if a = SCR_LUTD then some (d.lutPoint (d.get SCR_LUTA_TABLE) (d.get SCR_LUTA_POINT) % 4294967296).toNat else none
  | _ => none

/-- What a read of a register returns. -/
def Device.regRead (d : Device) (a : Nat) : Word :=
  if d.fusedPort a then 0#32
  else match headerOffset a with
    | some 0 => idWord a
    | some o => d.rget (unitOf a + o)
    | none =>
      match d.shown a with
      | some v => BitVec.ofNat 32 v
      | none => if (regDef? a).isSome then d.rget a else 0#32

/-- What a read does (R9 RC, R55, R149, R394, R402, R173). -/
def Device.afterRead (d : Device) (a : Nat) : Device :=
  match blockOf a with
  | some .can =>
    let c := (a - 0x60180000) / 0x4000
    if a = CAN_BST c then (d.put (CAN_BST_NERR c) 0).put (CAN_BST_DERR c) 0 else d
  | some .tim =>
    if a = TIM_NS then d.latchRead .timNs
    else match ix (TIM_CNS 0) 0x10 8 a with
      | some k => d.latchRead (.capture (Fin.ofNat 8 k))
      | none => d
  | some .bmi => match ix (BMI_LSMP 0) 0x40 16 a with
    | some i => d.latchRead (.bmiSample (Fin.ofNat 16 i))
    | none => d
  | some .scr => if a = SCR_LUTD then d.lutStep else d
  | _ => d

end Sys2Proof.Machine
end

