-- ==== Sys2Proof/Machine/Bus.lean ====
section
/-! DEFINITION. What a write to each register does beyond its field types, block by block, ownership of the blocks (R28),
REGISTER_WRITE and LOCK_SET. -/

namespace Sys2Proof.Machine

/-- Bits [31:24] of a write that starts an operation (R51). -/
def genOf (w : Word) : Nat := bitsOf w 24 8

/-- A register write that also starts an operation: nothing starts where a field is out of range (R462), and a locked field
that was to change is what LASTST reports (R463). (DEDUCED, log 91.) -/
def Device.typedThen (d : Device) (a : Nat) (w : Word) (f : Device → Device) : Device :=
  let d := d.typed a w
  let u := unitOf a
  if !d.took u then d
  else
    let lk := d.get (lastFld u) == Status.locked.code
    (f d).when_ lk fun d => d.st u .locked

/-! ### Pair A's blocks -/

/-- SYS (R36, R39, R44, R46, R49). -/
def Device.wSys (d : Device) (a : Nat) (w : Word) : Device :=
  if a = SYS_MREQ then d.writeMreq w
  else if a = SYS_HOLDACK then d.holdAck w
  else if a = SYS_TRIPCLR then d.tripKey w
  else if a = SYS_GRST then d.gReset (bitsOf w 0 8) (bitsOf w 8 8)
  else if a = SYS_WRST then d.writeWrst w
  else d.typed a w

/-- THM: a higher MIN moves the budget state up at once (R331 rule 5). -/
def Device.wThm (d : Device) (a : Nat) (w : Word) : Device :=
  let d := d.typed a w
  if a = THM_MIN then d.raiseBudget else d

/-- BUD (R335, R338): a lower EBUD caps the bucket, an entry's EN starts its period, and QCNT has a range of its own. -/
def Device.wBud (d : Device) (a : Nat) (w : Word) : Device :=
  if a = BUD_EBUD then
    let d := d.typed a w
    d.setBucket d.bud.bucket
  else if a = BUD_SLCTL then
    d.typedThen a w fun d => if w.toNat.testBit 16 then d.sleepGo else d
  else match ix (BUD_QCFG 0) 16 16 a, ix (BUD_QCNT 0) 16 16 a with
    | some j, _ =>
      let was := d.on (BUD_QCFG_EN j)
      let d := d.typed a w
      if !was && d.on (BUD_QCFG_EN j) then { d with bud := { d.bud with refAt := d.bud.refAt.setIfInBounds j d.now } } else d
    | none, some j =>
      let v := bitsOf w 0 18
      if v = 0 ∨ d.get SCR_ROWS_ROWS < d.get (BUD_QROW_FIRST j) + v then d.st 0x60020000 .range else d.typed a w
    | none, none => d.typed a w

/-- NVC (R434). -/
def Device.wNvc (d : Device) (a : Nat) (w : Word) : Device :=
  if a = NVC_CMD then
    match bitsOf w 0 2 with
    | 1 => d.nvmGo false (genOf w)
    | 2 => d.nvmGo true (genOf w)
    | _ => d.st uNVC .range
  else d.typed a w

/-- SEC (R429, R432, R436, R437): BOOTSEL stands in the NVM, whose writes obey R339. (DEDUCED, log 88 and 93.) -/
def Device.wSec (d : Device) (a : Nat) (w : Word) : Device :=
  if a = SEC_BOOTSEL then
    if !d.nvmTempOk false then d.st uSEC .temp
    else
      let old := d.rget a
      let d := d.typed a w
      if d.rget a = old then d else d.setSec fun s => { s with cfgVer := s.cfgVer + 1 }
  else if a = SEC_BOOTCONF then d.bootConf (bitsOf w 0 24) (genOf w)
  else if a = SEC_RBADV then d.rbAdvance (bitsOf w 0 8) (bitsOf w 8 8) (genOf w)
  else if a = SEC_LC then d.lcKey (bitsOf w 0 24) (genOf w)
  else if a = SEC_KPROG then
    if w.toNat.testBit 16 then d.keyProg (bitsOf w 0 3) (bitsOf w 4 2) (genOf w) else d.st uSEC .ok
  else if a = SEC_KREV then
    if w.toNat.testBit 8 then d.keyRev (bitsOf w 0 3) (genOf w) else d.st uSEC .ok
  else d.typed a w

/-- CPX: setting WDT.EN starts the watchdog's period (R313). -/
def Device.wCpx (d : Device) (a : Nat) (w : Word) : Device :=
  match ix (CPX_WDT 0) 0x20 2 a with
  | some h =>
    let was := d.on (CPX_WDT_EN h)
    let d := d.typed a w
    if !was && d.on (CPX_WDT_EN h) then d.watchdogStart h else d
  | none => d.typed a w

/-- FLK (R71, R72, R81, R83, R93, R109, R318, R323, R467): a fenced port end takes no write of FLK_PCTL, and FLK_PBASE is
rewritten in MUSTER and READY only. (DEDUCED, log 93.) -/
def Device.wFlk (d : Device) (a : Nat) (w : Word) : Device :=
  let p := (a - 0x60080000) / 0x1000
  if d.fusedPort a then d
  else if a = FLK_EPER then d.periodWrite (bitsOf w 0 7)
  else if a = FLK_NTIM then d.ntimWrite (bitsOf w 0 9) (bitsOf w 16 7)
  else if a = FLK_OPS then
    let ring := bitsOf w 8 6
    let all := w.toNat.testBit 16
    match bitsOf w 0 2 with
    | 1 => d.flkOps (.enumerate false) ring all (genOf w)
    | 2 => d.flkOps .calibrate ring all (genOf w)
    | 3 => d.flkOps (.enumerate true) ring all (genOf w)
    | _ => d.st uFLK .range
  else if a = FLK_PCTL p then (if d.on (FLK_PFEN_FEN p) then d.st uFLK .fenced else d.typed a w)
  else if a = FLK_PBASE p then (if d.mode = .muster ∨ d.mode = .ready then d.typed a w else d.st uFLK .reject)
  else if a = FLK_PCMD p then (if w.toNat.testBit 0 then d.pcmd p (genOf w) else d.st uFLK .ok)
  else if a = FLK_PRSP p then
    let d := d.typed a w
    if w.toNat.testBit 17 then d.releaseReply p else d
  else if a = FLK_PFEN p then
    (if w.toNat.testBit 0 then (d.fencePort p 0).st uFLK .ok else d.st uFLK .ok)
  else d.typed a w

/-- ACQ (R15, R143, R154). -/
def Device.wAcq (d : Device) (a : Nat) (w : Word) : Device :=
  if a = ACQ_CLOSE then
    let v := bitsOf w 0 10
    if v = 0 ∨ (20 ≤ v ∧ v ≤ 1000) then d.typed a w else d.st uACQ .range
  else if a = ACQ_LCE then d.lceWrite (w.toNat.testBit 0) (bitsOf w 16 16)
  else if a = ACQ_MIDLD then (if w.toNat.testBit 16 then d.modidLoad (bitsOf w 0 13) else d.st uACQ .ok)
  else d.typed a w

/-- BMI_ICFG (R146, R462): FUNC, BANK, OSR and ISODLY change only while EN = 0, and a bank has one input of each function 1
to 4. -/
def Device.icfgWrite (d : Device) (i : Nat) (w : Word) : Device :=
  let f := bitsOf w 1 3
  let b := bitsOf w 4 2
  let twin := decide (1 ≤ f) && decide (f ≤ 4) && (List.range 16).any fun j =>
    j != i && d.get (BMI_ICFG_FUNC j) == f && d.get (BMI_ICFG_BANK j) == b
  if d.on (BMI_ICFG_EN i) && bitsOf w 1 15 != bitsOf (d.rget (BMI_ICFG i)) 1 15 then d.st uBMI .reject
  else if twin then d.st uBMI .range
  else d.typed (BMI_ICFG i) w

/-- BMI (R153, R156); the referee sees a change of its inputs at once (R227). -/
def Device.wBmi (d : Device) (a : Nat) (w : Word) : Device :=
  (match ix (BMI_ICFG 0) 0x40 16 a, ix (BMI_FCMP 0) 0x40 16 a, ix (BMI_IMDC 0) 0x10 4 a with
   | some i, _, _ => d.icfgWrite i w
   | none, some i, _ => d.fcmpWrite i (bitsOf w 0 16) (bitsOf w 16 16)
   | none, none, some b =>
     let r := d.imdEnable b (w.toNat.testBit 0)
     if r.1 = Status.range ∨ bitsOf w 16 16 < 100 ∨ 2000 < bitsOf w 16 16 then d.st uBMI .range else r.2.typed a w
   | none, none, none => d.typed a w).judgeInputs

/-- SCR (R163, R170, R171, R173, R174, R175). -/
def Device.wScr (d : Device) (a : Nat) (w : Word) : Device :=
  if a = SCR_CTL then (if w.toNat.testBit 0 then d.scrStart else d.scrStop)
  else if a = SCR_ROWS then d.scrRowsWrite (bitsOf w 0 18)
  else if a = SCR_KSEL then d.kselWrite (bitsOf w 0 3)
  else if a = SCR_KLD then (if w.toNat.testBit 8 then d.kernelLoad (bitsOf w 0 3) (genOf w) else d.st uSCR .ok)
  else if a = SCR_FENCE then (d.fenceLanes (bitsOf w 0 8)).st uSCR .ok
  else if a = SCR_JOB then (if w.toNat.testBit 3 then d.jobWrite (bitsOf w 0 3) (genOf w) else d.st uSCR .ok)
  else if a = SCR_JCNT then
    let v := bitsOf w 0 18
    if v = 0 ∨ d.get SCR_ROWS_ROWS < d.get SCR_JROW_FIRST + v then d.st uSCR .range else d.typed a w
  else if a = SCR_LUTD then d.lutWrite w
  else if a = SCR_LUTA ∨ (SCR_LUTX 0 ≤ a ∧ a < SCR_LUTX 64) then (if d.scrStopped then d.typed a w else d.st uSCR .busy)
  else d.typed a w

/-- PUB: PUB_STR may be rewritten in MUSTER and READY only (R84). -/
def Device.wPub (d : Device) (a : Nat) (w : Word) : Device :=
  if (ix (PUB_STR 0) 4 512 a).isSome && d.mode != .muster && d.mode != .ready then d.st uPUB .reject else d.typed a w

/-- REF (R219, R223, R233, R234, R238 to R240): a write of the maps reaches both channels. -/
def Device.wRef (d : Device) (a : Nat) (w : Word) : Device :=
  if a = REF_CTL then d.armWrite (w.toNat.testBit 0) (w.toNat.testBit 1)
  else if a = REF_UNLK then d.loosenKey w
  else if a = REF_DIR then (if d.on REF_ST_ARMED then d.st uREF .reject else d.typed a w)
  else if a = REF_TGO then (if w.toNat.testBit 0 then d.compareWrite (genOf w) else d.st uREF .ok)
  else if a = REF_PENCLR then
    (if w.toNat.testBit 16 then d.writePenclr (Fin.ofNat 512 (bitsOf w 0 9)) (w.toNat.testBit 9) else d.st uREF .ok)
  else if a = REF_BCLR then (if w.toNat.testBit 8 then d.writeBclr (bitsOf w 0 2) else d.st uREF .ok)
  else if (ix (REF_NMAP 0) 4 4096 a).isSome || (ix (REF_SMAP 0) 4 512 a).isSome then
    if d.on REF_ST_ARMED || (d.mode != .muster && d.mode != .ready) then d.st uREF .reject
    else if (ix (REF_SMAP 0) 4 512 a).isSome && (bitsOf w 23 8 == 0 || decide (128 < bitsOf w 23 8)) && w.toNat.testBit 15 then
      d.st uREF .range
    else
      let d := d.typed a w
      d.refSet a (d.rget a)
  else d.typed a w

/-- CTD_SHD (R266, R418). -/
def Device.shdWrite (d : Device) (w : Word) : Device :=
  let m := bitsOf w 0 12
  if d.on PRL_CTL_EN then d.st uCTD .busy
  else if d.get CTD_CTL_ROLE ≠ 2 then d.st uCTD .reject
  else if m &&& 0x924 ≠ 0 then d.st uCTD .range
  else
    let d := d.put CTD_SHD_MASK m
    ((List.range 12).foldl (fun (d : Device) k =>
      if m.testBit k then d.startShadow k else if d.drvSt k == .shadow then d.openDriver k else d) d).st uCTD .ok

/-- CTD (R249, R256, R263, R266): CTD_DCFG stands while its driver is closed. (DEDUCED, log 93.) -/
def Device.wCtd (d : Device) (a : Nat) (w : Word) : Device :=
  if a = CTD_CTL then
    let d := d.typed a w
    if d.on CTD_CTL_EN then d.shadows else d.disableDrivers
  else if a = CTD_SHD then d.shdWrite w
  else match ix (CTD_BCMD 0) 4 4 a, ix (CTD_DCFG 0) 0x20 12 a with
    | some b, _ => d.writeBcmd b w
    | none, some k => if (d.drvSt k).high then d.st uCTD .busy else d.typed a w
    | none, none => d.typed a w

/-- PRL (R419, R422, R424): a write that starts an operation under another generation takes no action at all (R51). -/
def Device.wPrl (d : Device) (a : Nat) (w : Word) : Device :=
  if a = PRL_CTL then
    if (w.toNat.testBit 2 || w.toNat.testBit 3) && genOf w != d.gen uPRL then d.st uPRL .reset
    else d.typedThen a w fun d =>
      let d := d.when_ (w.toNat.testBit 2) fun d => d.join (genOf w)
      d.when_ (w.toNat.testBit 3) fun d => d.hand (genOf w)
  else if a = PRL_CKGO then (if w.toNat.testBit 0 then d.checkpointGo (genOf w) else d.st uPRL .ok)
  else d.typed a w

/-- INT (R305, R313). -/
def Device.wInt (d : Device) (a : Nat) (w : Word) : Device :=
  match ix (INT_WDK 0) 0x400 2 a, ix (INT_SWI 0) 0x400 2 a with
  | some h, _ => d.writeWdk h w
  | none, some h => d.writeSwi h w
  | none, none => d.typed a w

/-! ### Pair B's blocks -/

/-- LK fields of a channel change only while it is OFF (R363); OLTH runs with the open-load range (R369). -/
def Device.channelCfg (d : Device) (n a : Nat) (w : Word) : Device :=
  let olr := bitsOf w 12 2
  let th := bitsOf w 16 8
  if d.loadSt n ≠ .off then d.st uLSW .busy
  else if a = LSW_CCFG n ∧ ((olr = 1 ∧ (th < 20 ∨ 200 < th)) ∨ (olr = 2 ∧ (th < 10 ∨ 200 < th))) then d.st uLSW .range
  else d.typed a w

/-- LSW (R363 to R375). -/
def Device.wLsw (d : Device) (a : Nat) (w : Word) : Device :=
  if a = LSW_CTL then (d.lswEnWrite (w.toNat.testBit 0)).st uLSW .ok
  else if a = LSW_FENCE then (d.fenceLoads (bitsOf w 0 16)).st uLSW .ok
  else if a = LSW_SET then d.lswSet (bitsOf w 0 16)
  else if a = LSW_CLR then d.lswClr (bitsOf w 0 16)
  else if a = LSW_LCLR then d.lswLclr (bitsOf w 0 16)
  else match ix (LSW_CCFG 0) 0x20 16 a, ix (LSW_CEB 0) 0x20 16 a, ix (LSW_CEACC 0) 0x20 16 a with
    | some n, _, _ => d.channelCfg n a w
    | none, some n, _ => d.channelCfg n a w
    | none, none, some n => if w = 0#32 then (d.ceaccClear n).st uLSW .ok else d.st uLSW .ok
    | none, none, none => d.typed a w

/-- MTR (R344 to R358): LK fields of a unit change only while it is STOPPED. -/
def Device.wMtr (d : Device) (a : Nat) (w : Word) : Device :=
  let u := (a - 0x60170100) / 0x100
  let o := (a - 0x60170100) % 0x100
  if a = MTR_CTL then (d.motEnWrite (bitsOf w 0 4)).st uMTR .ok
  else if a = MTR_FENCE then (d.fenceMotors (bitsOf w 0 4)).st uMTR .ok
  else if a < 0x60170100 ∨ 4 ≤ u then d.typed a w
  else if o = 0 then d.writeMcmd u w
  else if o = 4 then d.srefWrite u (bitsOf w 0 16)
  else if 0xC ≤ o ∧ o ≤ 0x4C ∧ d.motSt u ≠ .stopped then d.st uMTR .busy
  else d.typed a w

/-- CAN_CTL (R377, R378, R386): OFFL at any time, bits 1 to 4 and 8 only while OFFL = 1. (DEDUCED, log 93.) -/
def Device.canCtl (d : Device) (c : Nat) (w : Word) : Device :=
  let old := d.rget (CAN_CTL c)
  let held := (bitsOf old 0 1 == 0) && (old.toNat &&& 0x11E != w.toNat &&& 0x11E)
  let w' : Word := if bitsOf old 0 1 = 0 then BitVec.ofNat 32 ((w.toNat &&& 0xE1) ||| (old.toNat &&& 0x11E)) else w
  let offl := w.toNat.testBit 0
  let d := d.typed (CAN_CTL c) (BitVec.ofNat 32 ((w'.toNat &&& 0xFFFFFFFE) ||| (old.toNat &&& 1)))
  let d := if offl == old.toNat.testBit 0 then d else d.offlWrite c offl
  d.st (uCAN c) (if held then .busy else .ok)

/-- CAN (R377 to R387). -/
def Device.wCan (d : Device) (a : Nat) (w : Word) : Device :=
  let c := (a - 0x60180000) / 0x4000
  if a = CAN_CTL c then d.canCtl c w
  else if a = CAN_NTIM c then
    if !d.on (CAN_CTL_OFFL c) then d.st (uCAN c) .busy
    else if bitsOf w 16 7 < bitsOf w 24 7 then d.st (uCAN c) .range else d.typed a w
  else if a = CAN_DTIM c then
    if !d.on (CAN_CTL_OFFL c) then d.st (uCAN c) .busy
    else if bitsOf w 16 4 < bitsOf w 24 4 ∨ (w.toNat.testBit 31 ∧ 1 < bitsOf w 0 5) then d.st (uCAN c) .range
    else d.typed a w
  else if a = CAN_WKCFG c then
    if c ≠ 0 then d else d.typed a w
  else match ix (CAN_TXREQ c 0) 4 4 a, ix (CAN_TXABT c 0) 4 4 a with
    | some j, _ => d.txRequest c j w.toNat
    | none, some j => d.txAbort c j w.toNat
    | none, none => d.typed a w

/-- ETH (R388 to R400). (DEDUCED, log 71.) -/
def Device.wEth (d : Device) (a : Nat) (w : Word) : Device :=
  let m := (a - 0x601A0000) / 0x10000
  if a = ETH_CTL m then
    let d := d.typed a w
    (d.rgmiiLink m).ethServe m
  else if a = ETH_FC m then
    let xoff := bitsOf w 0 8
    let xon := bitsOf w 8 8
    if xoff < xon + 16 ∨ 65536 - 256 * xoff < 2 * d.get (ETH_MAXF_MAXF m) + 2048 then d.st (uETH m) .range else d.typed a w
  else if (a = ETH_TXRB m ∨ a = ETH_TXRL m ∨ a = ETH_TXTL m) ∧ d.on (ETH_CTL_TXEN m) then d.st (uETH m) .busy
  else if (a = ETH_RXRB m ∨ a = ETH_RXRL m ∨ a = ETH_RXTL m) ∧ d.on (ETH_CTL_RXEN m) then d.st (uETH m) .busy
  else if a = ETH_TSQ_POP m then (if w.toNat.testBit 0 then d.popStamp m else d.st (uETH m) .ok)
  else if a = ETH_TSQ_KEY m then d.seekStamp m (bitsOf w 0 16) (bitsOf w 16 4)
  else if a = ETH_MDIO m then
    (if w.toNat.testBit 13 then d.mdioGo m (bitsOf w 10 2) (bitsOf w 0 5) (bitsOf w 5 5) (w.toNat.testBit 12) (genOf w)
     else d.st (uETH m) .ok)
  else d.typed a w

/-- TIM_TOCTL[k] (R401): a write whose arming is refused has no effect. (DEDUCED, log 71.) -/
def Device.toctlWrite (d : Device) (k : Nat) (w : Word) : Device :=
  let pol := w.toNat.testBit 1
  let clear := fun (d : Device) => d.when_ (w.toNat.testBit 2) fun d => d.put (TIM_TOCTL_DIS k) 0
  if w.toNat.testBit 0 then
    let d := d.armOutput k pol
    if d.get (lastFld uTIM) = Status.ok.code then clear d else d
  else ((((clear d).putB (TIM_TOCTL_POL k) pol).put (TIM_TOCTL_ARM k) 0).setOut k ⟨0, false⟩).st uTIM .ok

/-- TIM (R394 to R403). -/
def Device.wTim (d : Device) (a : Nat) (w : Word) : Device :=
  if a = TIM_RATE then d.rateWrite w
  else if a = TIM_CMD then (if w.toNat.testBit 0 then d.timeStep (w.toNat.testBit 1) (genOf w) else d.st uTIM .ok)
  else if a = TIM_REINIT then d.reinitKey w
  else if a = TIM_EPL then
    if d.flk.per * 1000000 ≤ bitsOf w 0 27 then d.st uTIM .range
    else
      let d := d.typed a w
      if d.on TIM_EPL_EN then d else d.unlockPhase
  else match ix (TIM_TOCTL 0) 0x20 8 a, ix (TIM_CCTL 0) 0x10 8 a with
    | some k, _ => d.toctlWrite k w
    | none, some k =>
      let d := d.typed a w
      if w.toNat.testBit 8 && d.took uTIM then (d.put (TIM_CCTL_OVR k) 0).put (TIM_CCTL_STALE k) 0 else d
    | none, none =>
      let k := (a - TIM_TOCTL 0) / 0x20
      if TIM_TOCTL 0 < a ∧ k < 8 ∧ (regDef? a).isSome ∧ d.on (TIM_TOCTL_ARM k) then d.st uTIM .busy else d.typed a w

/-! ### The debug port's block -/

/-- DBG (R438). -/
def Device.wDbg (d : Device) (a : Nat) (w : Word) : Device :=
  if a = DBG_UREQ then
    if w.toNat.testBit 16 then d.dbgChallenge (bitsOf w 0 2)
    else if w.toNat.testBit 17 then d.dbgCheck (bitsOf w 0 2) (bitsOf w 8 3)
    else d.dbgSt .ok
  else match ix (DBG_RSP 0) 4 24 a with
    | some k => (d.setSec fun s => { s with rsp := s.rsp.setIfInBounds k w }).st uDBG .ok
    | none => d.typed a w

/-! ### The bus -/

/-- A write to a register, by block. (DEDUCED, log 91.) -/
def Device.regWrite (d : Device) (a : Nat) (w : Word) : Device :=
  match blockOf a with
  | some .sys => d.wSys a w | some .thm => d.wThm a w | some .bud => d.wBud a w | some .nvc => d.wNvc a w
  | some .sec => d.wSec a w | some .cpx => d.wCpx a w | some .int => d.wInt a w | some .flk => d.wFlk a w
  | some .acq => d.wAcq a w | some .bmi => d.wBmi a w | some .scr => d.wScr a w | some .pub => d.wPub a w
  | some .ref => d.wRef a w | some .ctd => d.wCtd a w | some .lsw => d.wLsw a w | some .mtr => d.wMtr a w
  | some .can => d.wCan a w | some .eth => d.wEth a w | some .tim => d.wTim a w | some .prl => d.wPrl a w
  | some .dbg => d.wDbg a w | none => d

/-- Who may write a block (R28); INT is written by both pairs, each its own half. (DEDUCED, log 92.) -/
def mayWrite (ini : Initiator) (a : Nat) : Bool :=
  match blockOf a, ini with
  | none, _ => false
  | some .dbg, i => i == .debug
  | _, .debug => false
  | some .int, .core p => decide (a < 0x60060400) || decide (0x60060C00 ≤ a) || (decide (a < 0x60060800) == (p == .a))
  | some b, .core p => ([.lsw, .mtr, .can, .eth, .tim].contains b : Bool) == (p == .b)

/-- Writes that end in a bus error beside R27 and R28: ID, CTL, DATA and CFG of a message object whose transmission is
pending (R381), and an active filter element while the controller is on the bus (R385). (DEDUCED, log 91.) -/
def Device.writeBarred (d : Device) (a : Nat) : Bool :=
  match blockOf a with
  | some .can =>
    let c := (a - 0x60180000) / 0x4000
    let o := (a - 0x60180000) % 0x4000
    if 0x400 ≤ o ∧ o < 0x3400 then
      let m := (o - 0x400) / 0x60
      let r := (o - 0x400) % 0x60
      d.on (txReqFld c m) && (decide (r < 0xC) || decide (0x20 ≤ r))
    else if 0x3400 ≤ o ∧ o < 0x4000 then decide ((o - 0x3400) / 12 < d.get (CAN_FLC_NFE c)) && !d.on (CAN_CTL_OFFL c)
    else false
  | _ => false

/-- An ownership violation of a core pair's access (R28, R299, R300): kind 0, 1, 2; log2 of its size in bytes.
(DEDUCED, log 92.) -/
def Device.violation (d : Device) (p : Pair) (a kind size : Nat) (wr : Bool) : Device :=
  let d := ((d.count16 CPX_OWNV).put CPX_OWNVA_ADDR a).up CPX_EVT_OWNV
  (((d.put CPX_OWNVP_PAIR (pairIx p)).put CPX_OWNVP_KIND kind).put CPX_OWNVP_SIZE size).putB CPX_OWNVP_WR wr

/-- A 32-bit write to peripheral space: whether it completes without a bus error, and the device after it (R8, R27, R28). -/
def Device.busWrite (d : Device) (ini : Initiator) (a : Nat) (w : Word) : Bool × Device :=
  if (blockOf a).isNone || a % 4 != 0 then (false, d)
  else if !mayWrite ini a then
    match ini with
    | .core p => (false, d.violation p a 0 2 true)
    | .debug => (false, d)
  else if d.writeBarred a then (false, d)
  else (true, d.regWrite a w)

/-- REGISTER_WRITE (R8 to R10, R27, R28, R462, R463). -/
def execRegisterWrite (ini : Initiator) (addr val : Word) (s : State) : Host.Outcome State Fault Refusal :=
  onBus s fun d => (d.busWrite ini addr.toNat val).2

/-- Address of a lock bit's register. -/
def lockAddr : LockBlock → Nat
  | .sys => SYS_LOCK | .thm => THM_LOCK | .bud => BUD_LOCK | .nvc => NVC_LOCK | .sec => SEC_LOCK | .cpx => CPX_LOCK
  | .int => INT_LOCK | .flk => FLK_LOCK | .acq => ACQ_LOCK | .bmi => BMI_LOCK | .scr => SCR_LOCK | .pub => PUB_LOCK
  | .ref => REF_LOCK | .ctd => CTD_LOCK | .lsw => LSW_LOCK | .mtr => MTR_LOCK | .can c => CAN_LOCK c.val
  | .eth m => ETH_LOCK m.val | .tim => TIM_LOCK | .prl => PRL_LOCK

/-- LOCK_SET (R10). -/
def execLockSet (ini : Initiator) (blk : LockBlock) (s : State) : Host.Outcome State Fault Refusal :=
  onBus s fun d => (d.busWrite ini (lockAddr blk) 1#32).2

end Sys2Proof.Machine
end

