-- ==== Sys2Proof/Machine/Flags.lean ====
section
/-! DEFINITION. Predicates, comparisons and the accrued floating-point conditions (R269, R271, R275, R276). -/

namespace Sys2Proof.Machine

/-- p[k]; p0 reads 1 (R269). -/
def predAt (p : BitVec 8) (k : Nat) : Bool := k == 0 || p.getLsbD k

/-- p[k] set to b; a write to p0 is discarded (R269). -/
def predSet (p : BitVec 8) (k : Nat) (b : Bool) : BitVec 8 :=
  if k = 0 then p else if b then p ||| (1#8 <<< k) else p &&& ~~~(1#8 <<< k)

/-- The guard lets the instruction execute (R271). -/
def guardHolds (g : Guard) (p : BitVec 8) : Bool := predAt p g.pg.val != g.pn

/-- Condition of CMP (R275). -/
def cmpCond (fn : CmpFn) (a b : DWord) : Bool :=
  match fn with
  | .eq => a == b | .ne => a != b
  | .lt => decide (a.toInt < b.toInt) | .ge => decide (b.toInt ≤ a.toInt)
  | .ltu => decide (a.toNat < b.toNat) | .geu => decide (b.toNat ≤ a.toNat)

/-- Conditions of CMPI and CMPIU, which differ in the sense of LT and GE (R275). -/
def cmpICond (sgn : Bool) (fn : CmpIFn) (a b : DWord) : Bool :=
  match fn with
  | .eq => a == b | .ne => a != b
  | .lt => if sgn then cmpCond .lt a b else cmpCond .ltu a b
  | .ge => if sgn then cmpCond .ge a b else cmpCond .geu a b

/-- Codes of the conditions (R275). -/
def cmpCode : CmpFn → Nat | .eq => 0 | .ne => 1 | .lt => 2 | .ge => 3 | .ltu => 4 | .geu => 5
def cmpICode : CmpIFn → Nat | .eq => 0 | .ne => 1 | .lt => 2 | .ge => 3
def fcmpCode : FcmpFn → Nat | .feq => 0 | .flt => 1 | .fle => 2 | .fun_ => 3

/-- FFLAGS after an operation that met the conditions `fl` (R276). -/
def accrue (f : BitVec 5) (fl : Nat) : BitVec 5 := f ||| BitVec.ofNat 5 fl

end Sys2Proof.Machine
end

