-- ==== Sys2Proof/Machine/Operands.lean ====
section
/-! DEFINITION. The Islor instruction word (R270): its formats, what each profile defines (R268, R271 to R294), and the integer
operations (R273, R274). -/

namespace Sys2Proof.Machine

/-! ### Formats (R270) -/

/-- Guard and major opcode. -/
def encHead (g : Guard) (op : Nat) : Nat := g.pg.val * 2 ^ 29 + (if g.pn then 2 ^ 28 else 0) + op * 2 ^ 22

/-- Format R. -/
def encR (g : Guard) (op rd rs1 rs2 fn : Nat) : Word :=
  BitVec.ofNat 32 (encHead g op + rd * 2 ^ 17 + rs1 * 2 ^ 12 + rs2 * 2 ^ 7 + fn)

/-- Formats I and St. -/
def encI (g : Guard) (op rd rs1 imm : Nat) : Word := BitVec.ofNat 32 (encHead g op + rd * 2 ^ 17 + rs1 * 2 ^ 12 + imm)

/-- Format U. -/
def encU (g : Guard) (op rd imm : Nat) : Word := BitVec.ofNat 32 (encHead g op + rd * 2 ^ 17 + imm)

/-- Format B. -/
def encB (g : Guard) (op : Nat) (off : BitVec 22) : Word := BitVec.ofNat 32 (encHead g op + off.toNat)

/-- Format L: MAX − 1 and LEN − 1. -/
def encL (g : Guard) (op rs max len : Nat) : Word := BitVec.ofNat 32 (encHead g op + rs * 2 ^ 17 + max * 2 ^ 11 + len * 2 ^ 2)

/-- `n` bits of a word from bit `lo`. -/
def fieldOf (w : Word) (lo n : Nat) : Nat := (w.toNat >>> lo) % 2 ^ n

/-! ### What is defined (R268, R272) -/

/-- FN codes of OP 0x00 (R273); CLZ and POPC need RS2 = 0. -/
def intFnOk (fn rs2 : Nat) : Bool :=
  if fn = 0x0E ∨ fn = 0x0F then rs2 == 0
  else decide (fn ≤ 0x11) || (decide (0x16 ≤ fn) && decide (fn ≤ 0x18)) || (decide (0x20 ≤ fn) && decide (fn ≤ 0x23)) ||
    (decide (0x28 ≤ fn) && decide (fn ≤ 0x31)) || (decide (0x38 ≤ fn) && decide (fn ≤ 0x3F))

/-- FN codes of OP 0x20 (R276); FSQRT, FABS and FNEG need RS2 = 0. -/
def floatFnOk (fn rs2 : Nat) : Bool :=
  if fn = 0x04 ∨ fn = 0x07 ∨ fn = 0x08 then rs2 == 0
  else decide (fn ≤ 0x0D) || (decide (0x10 ≤ fn) && decide (fn ≤ 0x14)) || (decide (0x38 ≤ fn) && decide (fn ≤ 0x3F))

/-- IMM12 of SHI (R274). -/
def shiftOk (imm : Nat) : Bool := (imm / 64) % 8 == 0 && (imm / 512 % 2 == 0 || imm / 32 % 2 == 0)

/-- The c registers of Islor-C (R281). -/
def csrListed (c : Nat) : Bool := decide (c ≤ 12) || (decide (16 ≤ c) && decide (c ≤ 48))

/-- IMM12 of the CSR operations (R282, R290). -/
def csrOk (lane : Bool) (imm : Nat) : Bool := imm / 256 == 0 && (if lane then imm / 64 == 0 else csrListed (imm % 64))

/-- Fields of a system operation (R287). -/
def systemOk (lane : Bool) (rd rs1 rs2 fn : Nat) : Bool :=
  let bare := rd == 0 && rs1 == 0 && rs2 == 0
  if lane then (fn == 0x10 || fn == 0x11) && bare
  else if fn = 8 ∨ fn = 9 ∨ fn = 10 then rs2 == 0
  else (decide (fn ≤ 6) || fn == 0x11) && bare

/-- SCR cycles of an operation of OP 0x00, and of OP 0x20, by its FN (R295). -/
def intCycles (fn : Nat) : Nat :=
  if 0x20 ≤ fn ∧ fn ≤ 0x23 then 2 else if 0x28 ≤ fn ∧ fn ≤ 0x2B then 10 else if 0x2C ≤ fn ∧ fn ≤ 0x2F then 6 else 1
def floatCycles (fn : Nat) : Nat :=
  if fn ≤ 2 ∨ fn = 5 ∨ fn = 6 ∨ fn = 9 then 2 else if fn = 3 then 8 else if fn = 4 then 10 else 1

/-- SCR cycles for which an instruction occupies a lane, whatever its guard (R295). (DEDUCED, log 96.) -/
def laneCycles (w : Word) : Nat :=
  let op := fieldOf w 22 6
  if op = 0 then intCycles (fieldOf w 0 7) else if op = 0x20 then floatCycles (fieldOf w 0 7) else if op = 0x2A then 2 else 1

/-- A word is defined for Islor-C, or for Islor-S with `lane` (R268, R271, R272). (DEDUCED, log 94.) -/
def islorDefined (lane : Bool) (w : Word) : Bool :=
  let op := fieldOf w 22 6
  let rd := fieldOf w 17 5
  let rs1 := fieldOf w 12 5
  let rs2 := fieldOf w 7 5
  let fn := fieldOf w 0 7
  let imm := fieldOf w 0 12
  !(fieldOf w 29 3 == 0 && fieldOf w 28 1 == 1) &&
  match op with
  | 0x00 => intFnOk fn rs2
  | 0x01 => true | 0x02 => true | 0x03 => true | 0x04 => true
  | 0x05 => shiftOk imm
  | 0x06 => true
  | 0x08 => !lane | 0x09 => !lane | 0x0A => !lane | 0x0B => !lane | 0x0C => !lane | 0x0D => !lane | 0x0E => !lane
  | 0x10 => !lane | 0x11 => !lane | 0x12 => !lane | 0x13 => !lane | 0x14 => !lane | 0x15 => !lane
  | 0x18 => true
  | 0x19 => !lane | 0x1A => !lane
  | 0x1B => lane && fieldOf w 0 2 == 0
  | 0x1C => decide (fn ≤ 5) && decide (rd < 8)
  | 0x1D => true | 0x1E => true
  | 0x1F => decide (fn ≤ 6) && decide (rd < 8) && (decide (rs1 < 8) || fn == 6) && decide (rs2 < 8)
  | 0x20 => floatFnOk fn rs2
  | 0x21 => decide (fn ≤ 3) && decide (rd < 8)
  | 0x24 => csrOk lane imm
  | 0x25 => systemOk lane rd rs1 rs2 fn
  | 0x26 => !lane && decide (fn ≤ 1)
  | 0x27 => !lane && rd == 0 && fieldOf w 16 1 == 0
  | 0x28 => lane && decide (fn ≤ 6) && rs2 == 0 && decide (rs1 < 16) && (fn != 6 || rs1 % 2 == 0)
  | 0x29 => lane && decide (fn ≤ 3) && rs2 == 0 && decide (rd < 16) && (fn != 3 || rd % 2 == 0)
  | 0x2A => lane && imm / 64 == 0
  | 0x2B => lane && rd == 0 && rs2 == 0 && decide (fn < 4)
  | 0x2C => !lane && decide (fn ≤ 1)
  | _ => false

/-! ### Integer operations (R273) -/

/-- Bits [31:0] of an operand, and a 32-bit result sign-extended from bit 31. -/
def low32 (a : DWord) : Word := a.setWidth 32
def sext32 (a : Word) : DWord := a.signExtend 64

/-- IMM12 sign-extended to 64 bits (R274). -/
def immS (imm : BitVec 12) : DWord := imm.signExtend 64

/-- A signed number stopped at the s64 limits (R56, R273). -/
def satS64 (v : Int) : DWord :=
  BitVec.ofInt 64 (max (-9223372036854775808) (min 9223372036854775807 v))

/-- Leading zeros, and ones. -/
def clz64 (a : DWord) : DWord := if a = 0#64 then 64#64 else BitVec.ofNat 64 (63 - a.toNat.log2)
def popc64 (a : DWord) : DWord := BitVec.ofNat 64 ((List.range 64).countP fun k => a.getLsbD k)

def minS (a b : DWord) : DWord := if a.toInt ≤ b.toInt then a else b
def maxS (a b : DWord) : DWord := if a.toInt ≤ b.toInt then b else a
def minU (a b : DWord) : DWord := if a.toNat ≤ b.toNat then a else b
def maxU (a b : DWord) : DWord := if a.toNat ≤ b.toNat then b else a

/-- High halves of the signed and of the unsigned product. -/
def mulHigh (a b : DWord) : DWord := BitVec.ofInt 64 (a.toInt * b.toInt / 18446744073709551616)
def mulHighU (a b : DWord) : DWord := BitVec.ofNat 64 (a.toNat * b.toNat / 18446744073709551616)

/-- Division of R273 at any width: by zero all ones and the dividend, otherwise toward zero. -/
def divS {n : Nat} (a b : BitVec n) : BitVec n := if b = 0#n then BitVec.allOnes n else BitVec.ofInt n (a.toInt.tdiv b.toInt)
def divU {n : Nat} (a b : BitVec n) : BitVec n := if b = 0#n then BitVec.allOnes n else BitVec.ofNat n (a.toNat / b.toNat)
def remS {n : Nat} (a b : BitVec n) : BitVec n := if b = 0#n then a else BitVec.ofInt n (a.toInt.tmod b.toInt)
def remU {n : Nat} (a b : BitVec n) : BitVec n := if b = 0#n then a else BitVec.ofNat n (a.toNat % b.toNat)

/-- An operation on bits [31:0] with a sign-extended result. -/
def onLow (f : Word → Word → Word) (a b : DWord) : DWord := sext32 (f (low32 a) (low32 b))

/-- MOVI.H (R274). -/
def moviHigh (a : DWord) (v : Half) : DWord := sext32 (v ++ a.setWidth 16)

/-- Shifts by an immediate (R274). -/
def shiftImm (f : DWord → Nat → DWord) (fw : Word → Nat → Word) (w : Bool) (sh : BitVec 6) (a : DWord) : DWord :=
  if w then sext32 (fw (low32 a) sh.toNat) else f a sh.toNat

end Sys2Proof.Machine
end

