-- ==== Sys2Proof/Machine/Islor.lean ====
section
/-! DEFINITION. How a core pair and a scorer lane execute one instruction: registers, memory protection, memory accesses,
exceptions and interrupts (R277 to R286, R289, R290, R293, R297, R299, R300). -/

namespace Sys2Proof.Machine

/-! ### Register files -/

/-- g[i]; g0 reads 0 (R269). -/
def gAt (g : Vector DWord 32) (i : RegNo) : DWord := if i.val = 0 then 0#64 else g[i.val]

/-- g[i] set to v; a write to g0 is discarded (R269). -/
def gSet (g : Vector DWord 32) (i : RegNo) (v : DWord) : Vector DWord 32 := if i.val = 0 then g else g.set i.val v

/-- The registers that both profiles have, and the conditions that an operation accrues (R269, R276). -/
structure Files where
  g  : Vector DWord 32
  f  : Vector DWord 32
  p  : BitVec 8
  fl : Nat
  deriving DecidableEq, Repr

def Files.gv (r : Files) (i : RegNo) : DWord := gAt r.g i
def Files.fv (r : Files) (i : RegNo) : DWord := r.f[i.val]
def Files.pv (r : Files) (k : PredNo) : Bool := predAt r.p k.val
def Files.setG (r : Files) (i : RegNo) (v : DWord) : Files := { r with g := gSet r.g i v }
def Files.setF (r : Files) (i : RegNo) (v : DWord) : Files := { r with f := r.f.set i.val v }
def Files.setP (r : Files) (k : PredNo) (b : Bool) : Files := { r with p := predSet r.p k.val b }
/-- A floating-point result with its conditions. -/
def Files.setR (r : Files) (i : RegNo) (v : FRes) : Files := { r.setF i v.bits with fl := v.flags }

/-! ### STATUS (R282) -/

def CorePair.ie (c : CorePair) : Bool := c.status.getLsbD 0
def CorePair.prv (c : CorePair) : Nat := c.status.toNat / 4 % 4

/-- STATUS from its fields. (DEDUCED, log 94.) -/
def statusWord (ie pie : Bool) (prv pprv : Nat) : DWord :=
  BitVec.ofNat 64 (Bool.bit ie + 2 * Bool.bit pie + 4 * prv + 16 * pprv)

/-- Entry into a handler (R284): EPC, CAUSE, TVAL and STATUS are set and the core continues at `off` from VBASE. -/
def CorePair.enter (c : CorePair) (cause tval off : DWord) : CorePair :=
  { c with epc := c.pc, cause := cause, tval := tval, status := statusWord false c.ie 3 c.prv, pc := c.vbase + off, wait := .none }

/-- ERET (R284): a PPRV of 0b10 is treated as U. -/
def CorePair.leave (c : CorePair) : CorePair :=
  let pprv := c.status.toNat / 16 % 4
  { c with pc := c.epc, status := statusWord (c.status.getLsbD 1) true (if pprv = 2 then 0 else pprv) pprv }

/-- An exception of pair h (R284): in M with IE = 0 it is a double fault, and the pair restarts. -/
def Device.trap (d : Device) (h code : Nat) (tval : DWord) : Device :=
  let c := d.corePair h
  if c.prv = 3 ∧ ¬ c.ie then d.restartPair h (CPX_RCAUSE_DBLF h) none
  else d.setCore h fun c => c.enter (BitVec.ofNat 64 code) tval 0#64

/-- The interrupt that pair h would take, whatever IE holds (R59, R283). -/
def Device.pendingSource (d : Device) (h : Nat) : Option Nat := (d.actSource h).map (·.1)

/-- Interrupt entry of pair h from source n (R284); a source that no register holds is taken with it.
(DEDUCED, log 85 and 95.) -/
def Device.takeInterrupt (d : Device) (h n : Nat) : Device :=
  let d := d.setCore h fun c => c.enter (BitVec.ofNat 64 (2 ^ 63 + n)) 0#64 0x100#64
  { d with pulses := d.pulses.filter fun k => k != n }

/-- Pair h can act: it runs, and neither sleep nor the debugger holds it (R308, R338, R438). -/
def Device.coreActs (d : Device) (h : Nat) : Bool :=
  let c := d.corePair h
  d.pairUp h && !c.asleep && (!c.halted || c.step)

/-! ### Memory protection (R285) -/

/-- Kinds of access. -/
inductive Access where
  | read | write | fetch
  deriving DecidableEq, Repr

/-- Region n matches address a. -/
def CorePair.mpuHit (c : CorePair) (n : Nat) (a : Nat) : Bool :=
  let base := ((c.mpub[n]?).getD 0#64).toNat / 32 % 2 ^ 27
  let lim := (c.mpul[n]?).getD 0#64
  let b := a / 32 % 2 ^ 27
  lim.getLsbD 32 && decide (base ≤ b) && decide (b ≤ lim.toNat / 32 % 2 ^ 27)

/-- Attribute bit of MPUL that an access needs at level P, or at level U. -/
def Access.attr (k : Access) (user : Bool) : Nat :=
  (match k with | .read => 34 | .write => 35 | .fetch => 36) + if user then 3 else 0

/-- The MPU admits an access of pair h: M is not checked, the highest-numbered matching region decides. -/
def CorePair.mpuAdmits (c : CorePair) (k : Access) (a : Nat) : Bool :=
  if c.prv = 3 then true
  else
    let user := c.prv != 1
    match (List.range 16).reverse.find? fun n => c.mpuHit n a with
    | some n => ((c.mpul[n]?).getD 0#64).getLsbD (k.attr user)
    | none => !user && k != .fetch && c.mpuctl.getLsbD 0

/-! ### Accesses to the address map (R7, R27, R29, R31 to R33, R299, R300) -/

/-- A byte as a core reads it: rows fused off read zero (R2), the configuration region's layout is not stated. -/
def Device.memByte (d : Device) (a : Nat) : Byte :=
  if 0x09600000 ≤ a ∧ a < 0x09800000 then Config.cfgByte d.sec.cfgVer a
  else if 0x40000000 ≤ a ∧ a < 0x40C00000 ∧ d.rowLimit ≤ (a - 0x40000000) / 64 then 0#8
  else memGet d.mem a

/-- `n` bytes as a core reads them, little-endian. -/
def Device.memWord (d : Device) (a : Nat) : Nat → Nat
  | 0 => 0
  | n + 1 => (d.memByte a).toNat + 256 * d.memWord (a + 1) n

/-- How a read ends: with a value, in a bus error, or with status INTEGRITY. -/
inductive ReadEnd where
  | value (v : Nat) | bus | integrity
  deriving DecidableEq, Repr

/-- A read of memory that carries ECC (R30): a double-bit error ends it with INTEGRITY, a single-bit error is corrected; NVC
counts its own. (DEDUCED, log 97.) (DESIGN CHOICE, log 114.) -/
def Device.eccRead (d : Device) (a n : Nat) : ReadEnd × Device :=
  let nvm := regionOf a == .nvm
  if d.upsetAt a n true then (.integrity, d.when_ nvm fun d => d.up NVC_EVT_INTG)
  else (.value (d.memWord a n), d.when_ (nvm && d.upsetAt a n false) fun d => (d.up NVC_EVT_ECC1).count16 NVC_ECC1)

/-- A read of `n` bytes by pair h, and the device after it. (DEDUCED, log 92.) -/
def Device.coreRead (d : Device) (h a n : Nat) : ReadEnd × Device :=
  match regionOf a with
  | .none => (.bus, d)
  | .periph => if n = 4 then (.value (d.regRead a).toNat, d.afterRead a) else (.bus, d)
  | .tcm q => if pairIx q = h then d.eccRead a n
    else (.bus, d.violation (if h = 0 then .a else .b) a 1 (Nat.log2 n) false)
  | .rom => (.value (d.memWord a n), d)
  | .nvm => d.eccRead a n
  | .sram => d.eccRead a n
  | .epoch => d.eccRead a n
  | .port => d.eccRead a n
  | .score => d.eccRead a n

/-- Pair h may write byte a of the scoreboard (R29). -/
def Device.mayScore (d : Device) (h a : Nat) : Bool :=
  let o := (a - 0x40000000) % 64
  let k := o / 4
  if h ≠ 0 then false
  else if k = 0 ∨ k = 2 ∨ k = 13 ∨ k = 10 ∨ o = 4 ∨ o = 5 then false
  else if k = 1 then d.mode == .muster || d.mode == .ready
  else d.scrStopped

/-- The SRAM write region of pair h (R300); the area of R32 lies in none. (DEDUCED, log 92.) -/
def Device.ownSram (d : Device) (h a n : Nat) : Bool :=
  if h = 0 then decide (a + n ≤ d.split) else decide (d.split ≤ a) && decide (a + n ≤ 0x20180000)

/-- A write by pair p to a block that it does not own counts as an ownership violation, whatever its size (R28). (DESIGN
CHOICE, log 3.) -/
def Device.foreignWrite (d : Device) (p : Pair) (a n : Nat) : Device :=
  if (blockOf a).isSome && !mayWrite (.core p) a then d.violation p a 0 (Nat.log2 n) true else d

/-- A store of the low `n` bytes of `v` by pair h: whether it completes without a bus error, and the device after it. A store
to SRAM may give a descriptor back to a MAC (R392). (DEDUCED, log 71 and 92.) -/
def Device.coreWrite (d : Device) (h a n v : Nat) : Bool × Device :=
  let p : Pair := if h = 0 then .a else .b
  match regionOf a with
  | .periph =>
    if n = 4 then d.busWrite (.core p) a (BitVec.ofNat 32 v) else (false, d.foreignWrite p a n)
  | .tcm q => if pairIx q = h then (true, d.mwrite a n v) else (false, d.violation p a 1 (Nat.log2 n) true)
  | .sram =>
    if d.ownSram h a n then (true, ((d.mwrite a n v).ethServe 0).ethServe 1) else (false, d.violation p a 2 (Nat.log2 n) true)
  | .epoch => (true, d.mwrite a n v)
  | .score =>
    if (List.range n).all fun i => d.mayScore h (a + i) then
      (true, if (a - 0x40000000) / 64 < d.rowLimit then d.mwrite a n v else d)
    else (false, d)
  | .none => (false, d)
  | .rom => (false, d)
  | .nvm => (false, d)
  | .port => (false, d)

/-! ### One instruction of a core pair -/

/-- How an instruction ends on a core: it retires, goes elsewhere, waits, or raises an exception. -/
inductive CoreEnd where
  | retire (d : Device)
  | jump (d : Device) (pc : DWord)
  | wait (d : Device) (w : CoreWait)
  | trap (d : Device) (code : Nat) (tval : DWord)
  deriving DecidableEq, Repr

/-- An instruction of pair h retires and the core continues at `pc`. -/
def Device.retireAt (d : Device) (h : Nat) (pc : DWord) : Device :=
  d.setCore h fun c => { c with pc := pc, instret := c.instret + 1#64, wait := .none }

/-- The debugger's step is used up (R438). -/
def CorePair.stepped (c : CorePair) : CorePair := { c with step := false }

/-- The exception that the fetch at pc raises, if any: integrity first, then MPU or bus error (R283, R285).
(DESIGN CHOICE, log 3.) -/
def Device.fetch (d : Device) (h : Nat) : Option Nat × Device :=
  let c := d.corePair h
  let a := c.pc.toNat
  if regionOf a = .periph then (if c.mpuAdmits .fetch a then none else some 1, d)
  else
    let r := d.coreRead h a 4
    if r.1 = .integrity then (some 7, r.2)
    else if !c.mpuAdmits .fetch a then (some 1, d)
    else (if r.1 = .bus then some 1 else none, r.2)

/-- Pair h executes the instruction word `w` (R271, R283, R297): an enabled interrupt first, then the fetch, then the word's
legality, the guard, and the instruction itself. (DESIGN CHOICE, log 3.) -/
def Device.runCore (d : Device) (h : Nat) (g : Guard) (w : Word) (body : Device → CoreEnd) : Device :=
  if !d.coreActs h || (d.corePair h).wait != .none then d
  else
    let d := d.setCore h CorePair.stepped
    let c := d.corePair h
    match (if c.ie then d.pendingSource h else none) with
    | some n => d.takeInterrupt h n
    | none =>
      match d.fetch h with
      | (some code, d) => d.trap h code c.pc
      | (none, d) =>
        if !islorDefined false w then d.trap h 2 (w.setWidth 64)
        else if !guardHolds g c.p then d.retireAt h (c.pc + 4#64)
        else match body d with
          | .retire d => d.retireAt h (c.pc + 4#64)
          | .jump d pc => d.retireAt h pc
          | .wait d x => d.setCore h fun c => { c with wait := x }
          | .trap d code tval => d.trap h code tval

/-! ### One instruction of a lane -/

/-- The lane goes on after its instruction; at the end of a LOOPN body it starts the next pass (R293). -/
def Lane.next (v : Lane) : Lane :=
  match v.loop with
  | some l =>
    if v.pc = l.last then
      if l.left = 0 then { v with loop := none, pc := v.pc + 1 }
      else { v with loop := some { l with left := l.left - 1 }, pc := l.first }
    else { v with pc := v.pc + 1 }
  | none => { v with pc := v.pc + 1 }

/-- A forward branch of a lane: beyond the body of a LOOPN it ends the loop (R293). -/
def Lane.goTo (v : Lane) (t : Nat) : Lane :=
  { v with pc := t, loop := match v.loop with | some l => if t ≤ l.last then some l else none | none => none }

/-- The lane's instruction takes n cycles of its invocation (R295). (DEDUCED, log 96.) -/
def Lane.begun (v : Lane) (n : Nat) : Lane := { v with ran := true, cyc := v.cyc + n }

/-- Lane l aborts under R290. -/
def Device.laneAbort (d : Device) (l : Nat) : Device :=
  (d.setLane l fun v => { v with abort := some .none, ran := true }).up SCR_EVT_BOUND

/-- Lane l executes the instruction word `w` (R268, R271, R290): `bad` are the instruction's own conditions of R290, judged on
the kernel's length whatever the guard. (DESIGN CHOICE, log 3; DEDUCED, log 96.) -/
def Device.runLane (d : Device) (l : Nat) (g : Guard) (w : Word) (bad : Lane → Nat → Bool) (body : Device → Lane → Lane) : Device :=
  let v := d.lane l
  match v.row, d.runningSlot with
  | some _, some (slot, _) =>
    let len := d.get (SCR_KINFO_LEN slot)
    if v.ended || v.abort.isSome then d
    else if !islorDefined true w || decide (len ≤ v.pc) || bad v len then d.laneAbort l
    else if guardHolds g v.p then d.setLane l fun v => body d (v.begun (laneCycles w))
    else d.setLane l fun v => (v.begun (laneCycles w)).next
  | _, _ => d

/-! ### Instructions of both profiles, of cores, and of lanes -/

/-- An instruction of both agents that acts on registers only. -/
def regOp (x : Ctx) (w : Word) (f : Files → Files) (s : State) : Host.Outcome State Fault Refusal :=
  onCtl s fun d =>
    match x.agent with
    | .core p =>
      d.runCore (pairIx p) x.guard w fun d =>
        .retire (d.setCore (pairIx p) fun c =>
          let r := f ⟨c.g, c.f, c.p, 0⟩
          { c with g := r.g, f := r.f, p := r.p, fflags := accrue c.fflags r.fl })
    | .lane l =>
      d.runLane l.val x.guard w (fun _ _ => false) fun _ v =>
        let r := f ⟨v.g, v.f, v.p, 0⟩
        { v with g := r.g, f := r.f, p := r.p }.next

/-- An instruction of Islor-C; a lane aborts on its word. -/
def coreOp (x : Ctx) (w : Word) (body : Nat → Device → CoreEnd) (s : State) : Host.Outcome State Fault Refusal :=
  onCtl s fun d =>
    match x.agent with
    | .core p => d.runCore (pairIx p) x.guard w (body (pairIx p))
    | .lane l => d.runLane l.val x.guard w (fun _ _ => true) fun _ v => v

/-- An instruction of Islor-S; its word is illegal on a core. -/
def laneOp (x : Ctx) (w : Word) (bad : Lane → Nat → Bool) (body : Device → Lane → Lane) (s : State) :
    Host.Outcome State Fault Refusal :=
  onCtl s fun d =>
    match x.agent with
    | .core p => d.runCore (pairIx p) x.guard w fun d => .trap d 2 (w.setWidth 64)
    | .lane l => d.runLane l.val x.guard w bad body

/-- g[i] of pair h, and g[i] set. -/
def Device.gv (d : Device) (h : Nat) (i : RegNo) : DWord := gAt (d.corePair h).g i
def Device.setGv (d : Device) (h : Nat) (i : RegNo) (v : DWord) : Device := d.setCore h fun c => { c with g := gSet c.g i v }

/-- A load of `n` bytes at g[rs1] + sext(imm); `put` takes the value (R277, R283). -/
def loadOp (x : Ctx) (op : Nat) (rd rs1 : RegNo) (imm : BitVec 12) (n : Nat) (put : CorePair → Nat → CorePair) (s : State) :
    Host.Outcome State Fault Refusal :=
  coreOp x (encI x.guard op rd.val rs1.val imm.toNat) (fun h d =>
    let a := d.gv h rs1 + immS imm
    if a.toNat % n ≠ 0 then .trap d 4 a
    else if !(d.corePair h).mpuAdmits .read a.toNat then .trap d 5 a
    else match d.coreRead h a.toNat n with
      | (.value v, d) => .retire (d.setCore h fun c => put c v)
      | (.bus, d) => .trap d 5 a
      | (.integrity, d) => .trap d 7 a) s

/-- A load into g[rd]. -/
def loadG (x : Ctx) (op : Nat) (rd rs1 : RegNo) (imm : BitVec 12) (n : Nat) (ext : Nat → DWord) (s : State) :
    Host.Outcome State Fault Refusal :=
  loadOp x op rd rs1 imm n (fun c v => { c with g := gSet c.g rd (ext v) }) s

/-- A store of the low `n` bytes of a register at g[rs1] + sext(imm) (R277, R283). -/
def storeOp (x : Ctx) (op : Nat) (rs2 rs1 : RegNo) (imm : BitVec 12) (n : Nat) (data : CorePair → DWord) (s : State) :
    Host.Outcome State Fault Refusal :=
  coreOp x (encI x.guard op rs2.val rs1.val imm.toNat) (fun h d =>
    let a := d.gv h rs1 + immS imm
    if a.toNat % n ≠ 0 then .trap d 4 a
    else if !(d.corePair h).mpuAdmits .write a.toNat then .trap d 6 a
    else match d.coreWrite h a.toNat n (data (d.corePair h)).toNat with
      | (true, d) => .retire d
      | (false, d) => .trap d 6 a) s

/-- CAS of `n` bytes (R283, R286): TCM and system SRAM only, and any access that the MPU refuses is a store access fault; `ext`
extends the old value. Its address is judged as a write even where the compare fails. (DEDUCED, log 92.) -/
def casOp (x : Ctx) (fn : Nat) (rd rs1 rs2 : RegNo) (n : Nat) (ext : Nat → DWord) (s : State) : Host.Outcome State Fault Refusal :=
  coreOp x (encR x.guard 0x26 rd.val rs1.val rs2.val fn) (fun h d =>
    let a := d.gv h rs1
    let c := d.corePair h
    let old := d.memWord a.toNat n
    let new := if old = (d.gv h rd).toNat % 256 ^ n then (d.gv h rs2).toNat % 256 ^ n else old
    let done (r : Bool × Device) : CoreEnd := match r with
      | (true, e) => if d.upsetAt a.toNat n true then .trap d 7 a else .retire (e.setGv h rd (ext old))
      | (false, e) => .trap e 6 a
    if a.toNat % n ≠ 0 then .trap d 4 a
    else if !c.mpuAdmits .read a.toNat || !c.mpuAdmits .write a.toNat then .trap d 6 a
    else match regionOf a.toNat with
      | .tcm _ => done (d.coreWrite h a.toNat n new)
      | .sram => done (d.coreWrite h a.toNat n new)
      | .periph => .trap (d.foreignWrite (if h = 0 then .a else .b) a.toNat n) 6 a
      | _ => .trap d 6 a) s

/-! ### Control registers (R281, R282) -/

/-- What a read of c[k] returns to pair h. -/
def Device.csrValue (d : Device) (h k : Nat) : DWord :=
  let c := d.corePair h
  if 16 ≤ k ∧ k < 32 then (c.mpub[k - 16]?).getD 0#64
  else if 32 ≤ k ∧ k < 48 then (c.mpul[k - 32]?).getD 0#64
  else match k with
    | 0 => c.status | 1 => c.epc | 2 => c.cause | 3 => c.tval | 4 => c.vbase | 5 => c.mscr | 6 => c.pscr | 7 => c.cycle
    | 8 => c.instret | 9 => (d.rget FLK_EPNUM).setWidth 64 | 10 => c.sig.setWidth 64 | 11 => BitVec.ofNat 64 h
    | 12 => c.fflags.setWidth 64 | 48 => c.mpuctl | _ => 0#64

/-- A level may read c[k]: 3 is M, 1 is P, everything else U. -/
def csrMayRead (k prv : Nat) : Bool :=
  prv == 3 || (decide (7 ≤ k) && decide (k ≤ 12)) || (prv == 1 && (k == 0 || k == 6))

/-- A level may write c[k]. -/
def csrMayWrite (k prv : Nat) : Bool :=
  if 7 ≤ k ∧ k ≤ 9 ∨ k = 11 then false else prv == 3 || k == 10 || k == 12 || (prv == 1 && k == 6)

/-- MPUB or MPUL of a region that is not locked takes a value (R285). -/
def CorePair.setMpu (c : CorePair) (n : Nat) (limit : Bool) (v : DWord) : CorePair :=
  let lim := (c.mpul[n]?).getD 0#64
  if lim.getLsbD 33 then c
  else if limit then { c with mpul := c.mpul.setIfInBounds n (v &&& 0xFFFFFFFFE0#64) }
  else { c with mpub := c.mpub.setIfInBounds n (v &&& 0xFFFFFFE0#64) }

/-- c[k] takes a value; fields that are read only or reserved keep theirs. (DEDUCED, log 94.) -/
def CorePair.setCsr (c : CorePair) (k : Nat) (v : DWord) : CorePair :=
  if 16 ≤ k ∧ k < 32 then c.setMpu (k - 16) false v
  else if 32 ≤ k ∧ k < 48 then c.setMpu (k - 32) true v
  else match k with
    | 0 => { c with status := (c.status &&& 0xC#64) ||| (v &&& 0x33#64) }
    | 1 => { c with epc := v }
    | 2 => { c with cause := v &&& 0x80000000000000FF#64 }
    | 3 => { c with tval := v }
    | 4 => { c with vbase := v &&& 0xFFFFFFFFFFFFFF00#64 }
    | 5 => { c with mscr := v }
    | 6 => { c with pscr := v }
    | 10 => { c with sig := low32 v }
    | 12 => { c with fflags := v.setWidth 5 }
    | 48 => { c with mpuctl := v &&& 1#64 }
    | _ => c

/-- A CSR operation (R281, R282): `new` gives the value written from the present one and g[rs1] as it stands after g[rd] :=
c[k]; `writes` says whether the form writes. -/
def csrOp (x : Ctx) (kind : Nat) (rd : RegNo) (k : Fin 64) (rs1 : RegNo) (writes : Bool) (new : DWord → DWord → DWord) (s : State) :
    Host.Outcome State Fault Refusal :=
  coreOp x (encI x.guard 0x24 rd.val rs1.val (kind * 64 + k.val)) (fun h d =>
    let prv := (d.corePair h).prv
    let w := encI x.guard 0x24 rd.val rs1.val (kind * 64 + k.val)
    if !csrMayRead k.val prv || (writes && !csrMayWrite k.val prv) then .trap d 3 (w.setWidth 64)
    else
      let old := d.csrValue h k.val
      let d := d.setGv h rd old
      .retire (if writes then d.setCore h fun c => c.setCsr k.val (new old (gAt c.g rs1)) else d)) s

end Sys2Proof.Machine
end

