-- ==== Sys2Proof/Machine/Accesses.lean ====
section
/-! DEFINITION. Loads, stores and compare-and-swap of Islor-C (R277, R286). -/

namespace Sys2Proof.Machine

/-- A value of `n` bits sign-extended, and zero-extended, to 64 bits. -/
def sextNat (n v : Nat) : DWord := BitVec.ofInt 64 (signed n v)
def zextNat (v : Nat) : DWord := BitVec.ofNat 64 v

/-- LB (R277). -/
def execLb (x : Ctx) (rd rs1 : RegNo) (imm : BitVec 12) (s : State) : Host.Outcome State Fault Refusal :=
  loadG x 0x08 rd rs1 imm 1 (sextNat 8) s

/-- LBU (R277). -/
def execLbu (x : Ctx) (rd rs1 : RegNo) (imm : BitVec 12) (s : State) : Host.Outcome State Fault Refusal :=
  loadG x 0x09 rd rs1 imm 1 zextNat s

/-- LH (R277). -/
def execLh (x : Ctx) (rd rs1 : RegNo) (imm : BitVec 12) (s : State) : Host.Outcome State Fault Refusal :=
  loadG x 0x0A rd rs1 imm 2 (sextNat 16) s

/-- LHU (R277). -/
def execLhu (x : Ctx) (rd rs1 : RegNo) (imm : BitVec 12) (s : State) : Host.Outcome State Fault Refusal :=
  loadG x 0x0B rd rs1 imm 2 zextNat s

/-- LW (R277). -/
def execLw (x : Ctx) (rd rs1 : RegNo) (imm : BitVec 12) (s : State) : Host.Outcome State Fault Refusal :=
  loadG x 0x0C rd rs1 imm 4 (sextNat 32) s

/-- LWU (R277). -/
def execLwu (x : Ctx) (rd rs1 : RegNo) (imm : BitVec 12) (s : State) : Host.Outcome State Fault Refusal :=
  loadG x 0x0D rd rs1 imm 4 zextNat s

/-- LD (R277). -/
def execLd (x : Ctx) (rd rs1 : RegNo) (imm : BitVec 12) (s : State) : Host.Outcome State Fault Refusal :=
  loadG x 0x0E rd rs1 imm 8 zextNat s

/-- SB (R277). -/
def execSb (x : Ctx) (rs2 rs1 : RegNo) (imm : BitVec 12) (s : State) : Host.Outcome State Fault Refusal :=
  storeOp x 0x10 rs2 rs1 imm 1 (fun c => gAt c.g rs2) s

/-- SH (R277). -/
def execSh (x : Ctx) (rs2 rs1 : RegNo) (imm : BitVec 12) (s : State) : Host.Outcome State Fault Refusal :=
  storeOp x 0x11 rs2 rs1 imm 2 (fun c => gAt c.g rs2) s

/-- SW (R277). -/
def execSw (x : Ctx) (rs2 rs1 : RegNo) (imm : BitVec 12) (s : State) : Host.Outcome State Fault Refusal :=
  storeOp x 0x12 rs2 rs1 imm 4 (fun c => gAt c.g rs2) s

/-- SD (R277). -/
def execSd (x : Ctx) (rs2 rs1 : RegNo) (imm : BitVec 12) (s : State) : Host.Outcome State Fault Refusal :=
  storeOp x 0x13 rs2 rs1 imm 8 (fun c => gAt c.g rs2) s

/-- FLD (R277). -/
def execFld (x : Ctx) (rd rs1 : RegNo) (imm : BitVec 12) (s : State) : Host.Outcome State Fault Refusal :=
  loadOp x 0x14 rd rs1 imm 8 (fun c v => { c with f := c.f.set rd.val (BitVec.ofNat 64 v) }) s

/-- FSD (R277). -/
def execFsd (x : Ctx) (rs2 rs1 : RegNo) (imm : BitVec 12) (s : State) : Host.Outcome State Fault Refusal :=
  storeOp x 0x15 rs2 rs1 imm 8 (fun c => c.f[rs2.val]) s

/-- CAS.W (R286). -/
def execCasW (x : Ctx) (rd rs1 rs2 : RegNo) (s : State) : Host.Outcome State Fault Refusal :=
  casOp x 0x00 rd rs1 rs2 4 (sextNat 32) s

/-- CAS.D (R286). -/
def execCasD (x : Ctx) (rd rs1 rs2 : RegNo) (s : State) : Host.Outcome State Fault Refusal :=
  casOp x 0x01 rd rs1 rs2 8 zextNat s

end Sys2Proof.Machine
end

