-- ==== Sys2Proof/Machine/Branches.lean ====
section
/-! DEFINITION. Control flow, bounded loops, comparisons and predicates (R275, R278, R290, R293). -/

namespace Sys2Proof.Machine

/-- BR (R278, R290): in a lane the branch goes forward, within the kernel. -/
def execBr (x : Ctx) (off : BitVec 22) (s : State) : Host.Outcome State Fault Refusal :=
  let w := encB x.guard 0x18 off
  onCtl s fun d =>
    match x.agent with
    | .core p => d.runCore (pairIx p) x.guard w fun d => .jump d ((d.corePair (pairIx p)).pc + off.signExtend 64 * 4#64)
    | .lane l =>
      d.runLane l.val x.guard w (fun v len => decide (off.toInt < 1) || decide (len ≤ v.pc + off.toNat)) fun _ v =>
        v.goTo (v.pc + off.toNat)

/-- CALL (R278). -/
def execCall (x : Ctx) (off : BitVec 22) (s : State) : Host.Outcome State Fault Refusal :=
  coreOp x (encB x.guard 0x19 off) (fun h d =>
    let pc := (d.corePair h).pc
    .jump (d.setGv h 31 (pc + 4#64)) (pc + off.signExtend 64 * 4#64)) s

/-- JR (R278): the target is g[rs1] as it stands after g[rd] := pc + 4. -/
def execJr (x : Ctx) (rd rs1 : RegNo) (s : State) : Host.Outcome State Fault Refusal :=
  coreOp x (encR x.guard 0x1A rd.val rs1.val 0 0) (fun h d =>
    let d := d.setGv h rd ((d.corePair h).pc + 4#64)
    .jump d (d.gv h rs1 &&& ~~~3#64)) s

/-- LOOPN (R290, R293), with MAX − 1 and LEN − 1: a guarded-off LOOPN takes n = 0. -/
def execLoopn (x : Ctx) (rs : RegNo) (max : Fin 64) (len : Fin 512) (s : State) : Host.Outcome State Fault Refusal :=
  let body := len.val + 1
  let passes (v : Lane) : Nat :=
    if !guardHolds x.guard v.p then 0
    else if rs.val = 0 then max.val + 1
    else min (max.val + 1) (Int.toNat (gAt v.g rs).toInt)
  let w := encL x.guard 0x1B rs.val max.val len.val
  onCtl s fun d =>
    match x.agent with
    | .core p => d.runCore (pairIx p) x.guard w fun d => .trap d 2 (w.setWidth 64)
    | .lane l =>
      d.runLane l.val ⟨0, false⟩ w (fun v n => v.loop.isSome || decide (n < v.pc + 1 + body)) fun _ v =>
        if passes v = 0 then { v with pc := v.pc + 1 + body }
        else { v with pc := v.pc + 1, loop := some ⟨v.pc + 1, v.pc + body, passes v - 1⟩ }

/-- CMP (R275). -/
def execCmp (x : Ctx) (pd : PredNo) (fn : CmpFn) (rs1 rs2 : RegNo) (s : State) : Host.Outcome State Fault Refusal :=
  regOp x (encR x.guard 0x1C pd.val rs1.val rs2.val (cmpCode fn)) (fun r => r.setP pd (cmpCond fn (r.gv rs1) (r.gv rs2))) s

/-- CMPI (R275). -/
def execCmpi (x : Ctx) (pd : PredNo) (fn : CmpIFn) (rs1 : RegNo) (imm : BitVec 12) (s : State) : Host.Outcome State Fault Refusal :=
  regOp x (encI x.guard 0x1D (cmpICode fn * 8 + pd.val) rs1.val imm.toNat)
    (fun r => r.setP pd (cmpICond true fn (r.gv rs1) (immS imm))) s

/-- CMPIU (R275). -/
def execCmpiu (x : Ctx) (pd : PredNo) (fn : CmpIFn) (rs1 : RegNo) (imm : BitVec 12) (s : State) : Host.Outcome State Fault Refusal :=
  regOp x (encI x.guard 0x1E (cmpICode fn * 8 + pd.val) rs1.val imm.toNat)
    (fun r => r.setP pd (cmpICond false fn (r.gv rs1) (imm.setWidth 64))) s

/-- FCMP (R275). -/
def execFcmp (x : Ctx) (pd : PredNo) (fn : FcmpFn) (rs1 rs2 : RegNo) (s : State) : Host.Outcome State Fault Refusal :=
  regOp x (encR x.guard 0x21 pd.val rs1.val rs2.val (fcmpCode fn)) (fun r =>
    let c := fCmp fn (r.fv rs1) (r.fv rs2)
    { r.setP pd c.1 with fl := c.2 }) s

/-- A predicate operation of PLOG (R275). -/
def plogOp (x : Ctx) (fn : Nat) (pd a b : PredNo) (f : Bool → Bool → Bool) (s : State) : Host.Outcome State Fault Refusal :=
  regOp x (encR x.guard 0x1F pd.val a.val b.val fn) (fun r => r.setP pd (f (r.pv a) (r.pv b))) s

/-- PLOG.AND (R275). -/
def execPlogAnd (x : Ctx) (pd a b : PredNo) (s : State) : Host.Outcome State Fault Refusal := plogOp x 0 pd a b (fun a b => a && b) s

/-- PLOG.OR (R275). -/
def execPlogOr (x : Ctx) (pd a b : PredNo) (s : State) : Host.Outcome State Fault Refusal := plogOp x 1 pd a b (fun a b => a || b) s

/-- PLOG.XOR (R275). -/
def execPlogXor (x : Ctx) (pd a b : PredNo) (s : State) : Host.Outcome State Fault Refusal := plogOp x 2 pd a b (fun a b => a != b) s

/-- PLOG.ANDN (R275). -/
def execPlogAndn (x : Ctx) (pd a b : PredNo) (s : State) : Host.Outcome State Fault Refusal := plogOp x 3 pd a b (fun a b => a && !b) s

/-- PLOG.SET (R275). -/
def execPlogSet (x : Ctx) (pd : PredNo) (s : State) : Host.Outcome State Fault Refusal := plogOp x 4 pd 0 0 (fun _ _ => true) s

/-- PLOG.CLR (R275). -/
def execPlogClr (x : Ctx) (pd : PredNo) (s : State) : Host.Outcome State Fault Refusal := plogOp x 5 pd 0 0 (fun _ _ => false) s

/-- PLOG.TST (R275). -/
def execPlogTst (x : Ctx) (pd : PredNo) (rs1 : RegNo) (s : State) : Host.Outcome State Fault Refusal :=
  regOp x (encR x.guard 0x1F pd.val rs1.val 0 6) (fun r => r.setP pd (r.gv rs1 != 0#64)) s

end Sys2Proof.Machine
end

