-- ==== Sys2Proof/Machine/Floats.lean ====
section
/-! DEFINITION. Floating-point instructions of both profiles (R276). -/

namespace Sys2Proof.Machine

/-- An operation of OP 0x20 with a floating-point result (R276). -/
def floatOp (x : Ctx) (fn : Nat) (rd rs1 rs2 : RegNo) (f : Files → FRes) (s : State) : Host.Outcome State Fault Refusal :=
  regOp x (encR x.guard 0x20 rd.val rs1.val rs2.val fn) (fun r => r.setR rd (f r)) s

/-- A conversion of f[rs1] to s64 (R276). -/
def toIntOp (x : Ctx) (fn : Nat) (rm : Rnd) (rd rs1 : RegNo) (s : State) : Host.Outcome State Fault Refusal :=
  regOp x (encR x.guard 0x20 rd.val rs1.val 0 fn) (fun r =>
    let v := fToInt rm (r.fv rs1)
    { r.setG rd (BitVec.ofInt 64 v.1) with fl := v.2 }) s

/-- FADD (R276). -/
def execFadd (x : Ctx) (rd rs1 rs2 : RegNo) (s : State) : Host.Outcome State Fault Refusal :=
  floatOp x 0x00 rd rs1 rs2 (fun r => fAdd (r.fv rs1) (r.fv rs2)) s

/-- FSUB (R276). -/
def execFsub (x : Ctx) (rd rs1 rs2 : RegNo) (s : State) : Host.Outcome State Fault Refusal :=
  floatOp x 0x01 rd rs1 rs2 (fun r => fSub (r.fv rs1) (r.fv rs2)) s

/-- FMUL (R276). -/
def execFmul (x : Ctx) (rd rs1 rs2 : RegNo) (s : State) : Host.Outcome State Fault Refusal :=
  floatOp x 0x02 rd rs1 rs2 (fun r => fMul (r.fv rs1) (r.fv rs2)) s

/-- FDIV (R276). -/
def execFdiv (x : Ctx) (rd rs1 rs2 : RegNo) (s : State) : Host.Outcome State Fault Refusal :=
  floatOp x 0x03 rd rs1 rs2 (fun r => fDiv (r.fv rs1) (r.fv rs2)) s

/-- FMIN (R276). -/
def execFmin (x : Ctx) (rd rs1 rs2 : RegNo) (s : State) : Host.Outcome State Fault Refusal :=
  floatOp x 0x05 rd rs1 rs2 (fun r => fMinMax false (r.fv rs1) (r.fv rs2)) s

/-- FMAX (R276). -/
def execFmax (x : Ctx) (rd rs1 rs2 : RegNo) (s : State) : Host.Outcome State Fault Refusal :=
  floatOp x 0x06 rd rs1 rs2 (fun r => fMinMax true (r.fv rs1) (r.fv rs2)) s

/-- FMAC (R276). -/
def execFmac (x : Ctx) (rd rs1 rs2 : RegNo) (s : State) : Host.Outcome State Fault Refusal :=
  floatOp x 0x09 rd rs1 rs2 (fun r => fMac (r.fv rd) (r.fv rs1) (r.fv rs2)) s

/-- FSQRT (R276). -/
def execFsqrt (x : Ctx) (rd rs1 : RegNo) (s : State) : Host.Outcome State Fault Refusal :=
  floatOp x 0x04 rd rs1 0 (fun r => fSqrt (r.fv rs1)) s

/-- FABS (R276). -/
def execFabs (x : Ctx) (rd rs1 : RegNo) (s : State) : Host.Outcome State Fault Refusal :=
  floatOp x 0x07 rd rs1 0 (fun r => ⟨fAbs (r.fv rs1), 0⟩) s

/-- FNEG (R276). -/
def execFneg (x : Ctx) (rd rs1 : RegNo) (s : State) : Host.Outcome State Fault Refusal :=
  floatOp x 0x08 rd rs1 0 (fun r => ⟨fNeg (r.fv rs1), 0⟩) s

/-- FMV.FG (R276). -/
def execFmvFg (x : Ctx) (rd rs1 : RegNo) (s : State) : Host.Outcome State Fault Refusal :=
  floatOp x 0x0A rd rs1 0 (fun r => ⟨r.gv rs1, 0⟩) s

/-- FCVT.FG (R276). -/
def execFcvtFg (x : Ctx) (rd rs1 : RegNo) (s : State) : Host.Outcome State Fault Refusal :=
  floatOp x 0x0C rd rs1 0 (fun r => fOfInt (r.gv rs1).toInt) s

/-- FCVT.FGU (R276). -/
def execFcvtFgu (x : Ctx) (rd rs1 : RegNo) (s : State) : Host.Outcome State Fault Refusal :=
  floatOp x 0x0D rd rs1 0 (fun r => fOfInt (r.gv rs1).toNat) s

/-- FMV.GF (R276). -/
def execFmvGf (x : Ctx) (rd rs1 : RegNo) (s : State) : Host.Outcome State Fault Refusal :=
  regOp x (encR x.guard 0x20 rd.val rs1.val 0 0x0B) (fun r => r.setG rd (r.fv rs1)) s

/-- FCVT.GF.RNE (R276). -/
def execFcvtGfRne (x : Ctx) (rd rs1 : RegNo) (s : State) : Host.Outcome State Fault Refusal := toIntOp x 0x10 .rne rd rs1 s

/-- FCVT.GF.RTZ (R276). -/
def execFcvtGfRtz (x : Ctx) (rd rs1 : RegNo) (s : State) : Host.Outcome State Fault Refusal := toIntOp x 0x11 .rtz rd rs1 s

/-- FCVT.GF.RDN (R276). -/
def execFcvtGfRdn (x : Ctx) (rd rs1 : RegNo) (s : State) : Host.Outcome State Fault Refusal := toIntOp x 0x12 .rdn rd rs1 s

/-- FCVT.GF.RUP (R276). -/
def execFcvtGfRup (x : Ctx) (rd rs1 : RegNo) (s : State) : Host.Outcome State Fault Refusal := toIntOp x 0x13 .rup rd rs1 s

/-- FCVT.GF.RNA (R276). -/
def execFcvtGfRna (x : Ctx) (rd rs1 : RegNo) (s : State) : Host.Outcome State Fault Refusal := toIntOp x 0x14 .rna rd rs1 s

/-- FSEL (R276). -/
def execFsel (x : Ctx) (rd rs1 rs2 : RegNo) (p : PredNo) (s : State) : Host.Outcome State Fault Refusal :=
  regOp x (encR x.guard 0x20 rd.val rs1.val rs2.val (0x38 + p.val))
    (fun r => r.setF rd (if r.pv p then r.fv rs1 else r.fv rs2)) s

end Sys2Proof.Machine
end

