-- ==== Sys2Proof/Machine/Integers.lean ====
section
/-! DEFINITION. Integer instructions of both profiles (R273, R274). -/

namespace Sys2Proof.Machine

/-- An operation of OP 0x00 on g[rs1] and g[rs2] (R273). -/
def intOp (x : Ctx) (fn : Nat) (rd rs1 rs2 : RegNo) (f : DWord → DWord → DWord) (s : State) : Host.Outcome State Fault Refusal :=
  regOp x (encR x.guard 0x00 rd.val rs1.val rs2.val fn) (fun r => r.setG rd (f (r.gv rs1) (r.gv rs2))) s

/-- An operation of format I on g[rs1] (R274). -/
def immOp (x : Ctx) (op : Nat) (rd rs1 : RegNo) (imm : BitVec 12) (f : DWord → DWord) (s : State) : Host.Outcome State Fault Refusal :=
  regOp x (encI x.guard op rd.val rs1.val imm.toNat) (fun r => r.setG rd (f (r.gv rs1))) s

/-- SHI (R274): kind in IMM12[11:10], the W form in IMM12[9]. -/
def shiOp (x : Ctx) (kind : Nat) (rd rs1 : RegNo) (w : Bool) (sh : BitVec 6) (f : DWord → DWord) (s : State) :
    Host.Outcome State Fault Refusal :=
  regOp x (encI x.guard 0x05 rd.val rs1.val (kind * 1024 + (if w then 512 else 0) + sh.toNat)) (fun r => r.setG rd (f (r.gv rs1))) s

/-- ADD (R273). -/
def execAdd (x : Ctx) (rd rs1 rs2 : RegNo) (s : State) : Host.Outcome State Fault Refusal := intOp x 0x00 rd rs1 rs2 (fun a b => a + b) s

/-- SUB (R273). -/
def execSub (x : Ctx) (rd rs1 rs2 : RegNo) (s : State) : Host.Outcome State Fault Refusal := intOp x 0x01 rd rs1 rs2 (fun a b => a - b) s

/-- AND (R273). -/
def execAnd (x : Ctx) (rd rs1 rs2 : RegNo) (s : State) : Host.Outcome State Fault Refusal := intOp x 0x02 rd rs1 rs2 (fun a b => a &&& b) s

/-- OR (R273). -/
def execOr (x : Ctx) (rd rs1 rs2 : RegNo) (s : State) : Host.Outcome State Fault Refusal := intOp x 0x03 rd rs1 rs2 (fun a b => a ||| b) s

/-- XOR (R273). -/
def execXor (x : Ctx) (rd rs1 rs2 : RegNo) (s : State) : Host.Outcome State Fault Refusal := intOp x 0x04 rd rs1 rs2 (fun a b => a ^^^ b) s

/-- ANDN (R273). -/
def execAndn (x : Ctx) (rd rs1 rs2 : RegNo) (s : State) : Host.Outcome State Fault Refusal := intOp x 0x05 rd rs1 rs2 (fun a b => a &&& ~~~b) s

/-- SLL (R273). -/
def execSll (x : Ctx) (rd rs1 rs2 : RegNo) (s : State) : Host.Outcome State Fault Refusal := intOp x 0x06 rd rs1 rs2 (fun a b => a <<< (b.toNat % 64)) s

/-- SRL (R273). -/
def execSrl (x : Ctx) (rd rs1 rs2 : RegNo) (s : State) : Host.Outcome State Fault Refusal := intOp x 0x07 rd rs1 rs2 (fun a b => a >>> (b.toNat % 64)) s

/-- SRA (R273). -/
def execSra (x : Ctx) (rd rs1 rs2 : RegNo) (s : State) : Host.Outcome State Fault Refusal := intOp x 0x08 rd rs1 rs2 (fun a b => a.sshiftRight (b.toNat % 64)) s

/-- ROL (R273). -/
def execRol (x : Ctx) (rd rs1 rs2 : RegNo) (s : State) : Host.Outcome State Fault Refusal := intOp x 0x09 rd rs1 rs2 (fun a b => a.rotateLeft (b.toNat % 64)) s

/-- MIN (R273). -/
def execMin (x : Ctx) (rd rs1 rs2 : RegNo) (s : State) : Host.Outcome State Fault Refusal := intOp x 0x0A rd rs1 rs2 minS s

/-- MAX (R273). -/
def execMax (x : Ctx) (rd rs1 rs2 : RegNo) (s : State) : Host.Outcome State Fault Refusal := intOp x 0x0B rd rs1 rs2 maxS s

/-- MINU (R273). -/
def execMinu (x : Ctx) (rd rs1 rs2 : RegNo) (s : State) : Host.Outcome State Fault Refusal := intOp x 0x0C rd rs1 rs2 minU s

/-- MAXU (R273). -/
def execMaxu (x : Ctx) (rd rs1 rs2 : RegNo) (s : State) : Host.Outcome State Fault Refusal := intOp x 0x0D rd rs1 rs2 maxU s

/-- ADDW (R273). -/
def execAddw (x : Ctx) (rd rs1 rs2 : RegNo) (s : State) : Host.Outcome State Fault Refusal := intOp x 0x10 rd rs1 rs2 (onLow fun a b => a + b) s

/-- SUBW (R273). -/
def execSubw (x : Ctx) (rd rs1 rs2 : RegNo) (s : State) : Host.Outcome State Fault Refusal := intOp x 0x11 rd rs1 rs2 (onLow fun a b => a - b) s

/-- SLLW (R273). -/
def execSllw (x : Ctx) (rd rs1 rs2 : RegNo) (s : State) : Host.Outcome State Fault Refusal := intOp x 0x16 rd rs1 rs2 (onLow fun a b => a <<< (b.toNat % 32)) s

/-- SRLW (R273). -/
def execSrlw (x : Ctx) (rd rs1 rs2 : RegNo) (s : State) : Host.Outcome State Fault Refusal := intOp x 0x17 rd rs1 rs2 (onLow fun a b => a >>> (b.toNat % 32)) s

/-- SRAW (R273). -/
def execSraw (x : Ctx) (rd rs1 rs2 : RegNo) (s : State) : Host.Outcome State Fault Refusal := intOp x 0x18 rd rs1 rs2 (onLow fun a b => a.sshiftRight (b.toNat % 32)) s

/-- MUL (R273). -/
def execMul (x : Ctx) (rd rs1 rs2 : RegNo) (s : State) : Host.Outcome State Fault Refusal := intOp x 0x20 rd rs1 rs2 (fun a b => a * b) s

/-- MULH (R273). -/
def execMulh (x : Ctx) (rd rs1 rs2 : RegNo) (s : State) : Host.Outcome State Fault Refusal := intOp x 0x21 rd rs1 rs2 mulHigh s

/-- MULHU (R273). -/
def execMulhu (x : Ctx) (rd rs1 rs2 : RegNo) (s : State) : Host.Outcome State Fault Refusal := intOp x 0x22 rd rs1 rs2 mulHighU s

/-- MULW (R273). -/
def execMulw (x : Ctx) (rd rs1 rs2 : RegNo) (s : State) : Host.Outcome State Fault Refusal := intOp x 0x23 rd rs1 rs2 (onLow fun a b => a * b) s

/-- DIV (R273). -/
def execDiv (x : Ctx) (rd rs1 rs2 : RegNo) (s : State) : Host.Outcome State Fault Refusal := intOp x 0x28 rd rs1 rs2 divS s

/-- DIVU (R273). -/
def execDivu (x : Ctx) (rd rs1 rs2 : RegNo) (s : State) : Host.Outcome State Fault Refusal := intOp x 0x29 rd rs1 rs2 divU s

/-- REM (R273). -/
def execRem (x : Ctx) (rd rs1 rs2 : RegNo) (s : State) : Host.Outcome State Fault Refusal := intOp x 0x2A rd rs1 rs2 remS s

/-- REMU (R273). -/
def execRemu (x : Ctx) (rd rs1 rs2 : RegNo) (s : State) : Host.Outcome State Fault Refusal := intOp x 0x2B rd rs1 rs2 remU s

/-- DIVW (R273). -/
def execDivw (x : Ctx) (rd rs1 rs2 : RegNo) (s : State) : Host.Outcome State Fault Refusal := intOp x 0x2C rd rs1 rs2 (onLow divS) s

/-- DIVUW (R273). -/
def execDivuw (x : Ctx) (rd rs1 rs2 : RegNo) (s : State) : Host.Outcome State Fault Refusal := intOp x 0x2D rd rs1 rs2 (onLow divU) s

/-- REMW (R273). -/
def execRemw (x : Ctx) (rd rs1 rs2 : RegNo) (s : State) : Host.Outcome State Fault Refusal := intOp x 0x2E rd rs1 rs2 (onLow remS) s

/-- REMUW (R273). -/
def execRemuw (x : Ctx) (rd rs1 rs2 : RegNo) (s : State) : Host.Outcome State Fault Refusal := intOp x 0x2F rd rs1 rs2 (onLow remU) s

/-- ADDS (R273). -/
def execAdds (x : Ctx) (rd rs1 rs2 : RegNo) (s : State) : Host.Outcome State Fault Refusal := intOp x 0x30 rd rs1 rs2 (fun a b => satS64 (a.toInt + b.toInt)) s

/-- SUBS (R273). -/
def execSubs (x : Ctx) (rd rs1 rs2 : RegNo) (s : State) : Host.Outcome State Fault Refusal := intOp x 0x31 rd rs1 rs2 (fun a b => satS64 (a.toInt - b.toInt)) s

/-- CLZ (R273). -/
def execClz (x : Ctx) (rd rs1 : RegNo) (s : State) : Host.Outcome State Fault Refusal := intOp x 0x0E rd rs1 0 (fun a _ => clz64 a) s

/-- POPC (R273). -/
def execPopc (x : Ctx) (rd rs1 : RegNo) (s : State) : Host.Outcome State Fault Refusal := intOp x 0x0F rd rs1 0 (fun a _ => popc64 a) s

/-- SEL (R273). -/
def execSel (x : Ctx) (rd rs1 rs2 : RegNo) (p : PredNo) (s : State) : Host.Outcome State Fault Refusal :=
  regOp x (encR x.guard 0x00 rd.val rs1.val rs2.val (0x38 + p.val))
    (fun r => r.setG rd (if r.pv p then r.gv rs1 else r.gv rs2)) s

/-- ADDI (R274). -/
def execAddi (x : Ctx) (rd rs1 : RegNo) (imm : BitVec 12) (s : State) : Host.Outcome State Fault Refusal :=
  immOp x 0x01 rd rs1 imm (fun a => a + immS imm) s

/-- ANDI (R274). -/
def execAndi (x : Ctx) (rd rs1 : RegNo) (imm : BitVec 12) (s : State) : Host.Outcome State Fault Refusal :=
  immOp x 0x02 rd rs1 imm (fun a => a &&& immS imm) s

/-- ORI (R274). -/
def execOri (x : Ctx) (rd rs1 : RegNo) (imm : BitVec 12) (s : State) : Host.Outcome State Fault Refusal :=
  immOp x 0x03 rd rs1 imm (fun a => a ||| immS imm) s

/-- XORI (R274). -/
def execXori (x : Ctx) (rd rs1 : RegNo) (imm : BitVec 12) (s : State) : Host.Outcome State Fault Refusal :=
  immOp x 0x04 rd rs1 imm (fun a => a ^^^ immS imm) s

/-- SLLI (R274). -/
def execSlli (x : Ctx) (rd rs1 : RegNo) (w : Bool) (sh : BitVec 6) (s : State) : Host.Outcome State Fault Refusal :=
  shiOp x 0 rd rs1 w sh (shiftImm (fun a n => a <<< n) (fun a n => a <<< n) w sh) s

/-- SRLI (R274). -/
def execSrli (x : Ctx) (rd rs1 : RegNo) (w : Bool) (sh : BitVec 6) (s : State) : Host.Outcome State Fault Refusal :=
  shiOp x 1 rd rs1 w sh (shiftImm (fun a n => a >>> n) (fun a n => a >>> n) w sh) s

/-- SRAI (R274). -/
def execSrai (x : Ctx) (rd rs1 : RegNo) (w : Bool) (sh : BitVec 6) (s : State) : Host.Outcome State Fault Refusal :=
  shiOp x 2 rd rs1 w sh (shiftImm (fun a n => a.sshiftRight n) (fun a n => a.sshiftRight n) w sh) s

/-- ROLI (R274). -/
def execRoli (x : Ctx) (rd rs1 : RegNo) (w : Bool) (sh : BitVec 6) (s : State) : Host.Outcome State Fault Refusal :=
  shiOp x 3 rd rs1 w sh (shiftImm (fun a n => a.rotateLeft n) (fun a n => a.rotateLeft n) w sh) s

/-- MOVI.L (R274). -/
def execMoviL (x : Ctx) (rd : RegNo) (v : Half) (s : State) : Host.Outcome State Fault Refusal :=
  regOp x (encU x.guard 0x06 rd.val v.toNat) (fun r => r.setG rd (v.setWidth 64)) s

/-- MOVI.H (R274). -/
def execMoviH (x : Ctx) (rd : RegNo) (v : Half) (s : State) : Host.Outcome State Fault Refusal :=
  regOp x (encU x.guard 0x06 rd.val (65536 + v.toNat)) (fun r => r.setG rd (moviHigh (r.gv rd) v)) s

end Sys2Proof.Machine
end

