-- ==== Sys2Proof/Machine/Lanes.lean ====
section
/-! DEFINITION. Row slots, lookup, the publish queue and the end of an invocation: instructions of Islor-S (R291, R292, R294). -/

namespace Sys2Proof.Machine

/-- k[n] of a lane. -/
def Lane.kv (v : Lane) (n : Nat) : Word := (v.k[n]?).getD 0#32

/-- KLD (R291): `f` makes the result from the slots. -/
def kldOp (x : Ctx) (fn : Nat) (rd : RegNo) (k : Fin 16) (f : Lane → DWord) (s : State) : Host.Outcome State Fault Refusal :=
  laneOp x (encR x.guard 0x28 rd.val k.val 0 fn) (fun _ _ => false) (fun _ v => { v with g := gSet v.g rd (f v) }.next) s

/-- KST (R291): `f` makes the slots from g[rs1]. -/
def kstOp (x : Ctx) (fn : Nat) (k : Fin 16) (rs1 : RegNo) (f : Lane → DWord → Vector Word 16) (s : State) :
    Host.Outcome State Fault Refusal :=
  laneOp x (encR x.guard 0x29 k.val rs1.val 0 fn) (fun _ _ => false) (fun _ v => { v with k := f v (gAt v.g rs1) }.next) s

/-- KLD.W (R291). -/
def execKldW (x : Ctx) (rd : RegNo) (k : Fin 16) (s : State) : Host.Outcome State Fault Refusal :=
  kldOp x 0 rd k (fun v => (v.kv k.val).setWidth 64) s

/-- KLD.WS (R291). -/
def execKldWs (x : Ctx) (rd : RegNo) (k : Fin 16) (s : State) : Host.Outcome State Fault Refusal :=
  kldOp x 1 rd k (fun v => (v.kv k.val).signExtend 64) s

/-- KLD.L (R291). -/
def execKldL (x : Ctx) (rd : RegNo) (k : Fin 16) (s : State) : Host.Outcome State Fault Refusal :=
  kldOp x 2 rd k (fun v => ((v.kv k.val).setWidth 16).setWidth 64) s

/-- KLD.LS (R291). -/
def execKldLs (x : Ctx) (rd : RegNo) (k : Fin 16) (s : State) : Host.Outcome State Fault Refusal :=
  kldOp x 3 rd k (fun v => ((v.kv k.val).setWidth 16).signExtend 64) s

/-- KLD.H (R291). -/
def execKldH (x : Ctx) (rd : RegNo) (k : Fin 16) (s : State) : Host.Outcome State Fault Refusal :=
  kldOp x 4 rd k (fun v => (v.kv k.val >>> 16).setWidth 64) s

/-- KLD.HS (R291). -/
def execKldHs (x : Ctx) (rd : RegNo) (k : Fin 16) (s : State) : Host.Outcome State Fault Refusal :=
  kldOp x 5 rd k (fun v => ((v.kv k.val >>> 16).setWidth 16).signExtend 64) s

/-- KLD.D (R291). -/
def execKldD (x : Ctx) (rd : RegNo) (k : Fin 16) (s : State) : Host.Outcome State Fault Refusal :=
  kldOp x 6 rd k (fun v => v.kv (k.val + 1) ++ v.kv k.val) s

/-- KST.W (R291). -/
def execKstW (x : Ctx) (k : Fin 16) (rs1 : RegNo) (s : State) : Host.Outcome State Fault Refusal :=
  kstOp x 0 k rs1 (fun v a => v.k.setIfInBounds k.val (low32 a)) s

/-- KST.L (R291). -/
def execKstL (x : Ctx) (k : Fin 16) (rs1 : RegNo) (s : State) : Host.Outcome State Fault Refusal :=
  kstOp x 1 k rs1 (fun v a => v.k.setIfInBounds k.val ((v.kv k.val >>> 16).setWidth 16 ++ a.setWidth 16)) s

/-- KST.H (R291). -/
def execKstH (x : Ctx) (k : Fin 16) (rs1 : RegNo) (s : State) : Host.Outcome State Fault Refusal :=
  kstOp x 2 k rs1 (fun v a => v.k.setIfInBounds k.val ((a.setWidth 16) ++ (v.kv k.val).setWidth 16)) s

/-- KST.D (R291). -/
def execKstD (x : Ctx) (k : Fin 16) (rs1 : RegNo) (s : State) : Host.Outcome State Fault Refusal :=
  kstOp x 3 k rs1 (fun v a => (v.k.setIfInBounds k.val (low32 a)).setIfInBounds (k.val + 1) (low32 (a >>> 32))) s

/-- LUT (R172, R292). -/
def execLut (x : Ctx) (rd rs1 : RegNo) (t : Fin 64) (s : State) : Host.Outcome State Fault Refusal :=
  laneOp x (encI x.guard 0x2A rd.val rs1.val t.val) (fun _ _ => false) (fun d v =>
    { v with g := gSet v.g rd (BitVec.ofInt 64 (d.lut t.val (low32 (gAt v.g rs1)).toInt)) }.next) s

/-- PUBQ (R176, R294): a fifth entry is discarded and sets BADQ at retirement. -/
def execPubq (x : Ctx) (kind : BitVec 2) (rs1 : RegNo) (s : State) : Host.Outcome State Fault Refusal :=
  laneOp x (encR x.guard 0x2B 0 rs1.val 0 kind.toNat) (fun _ _ => false) (fun _ v =>
    (if v.queue.length < 4 then { v with queue := v.queue ++ [QEntry.mk kind.toNat (low32 (gAt v.g rs1))] } else { v with badq := true } : Lane).next) s

/-- END (R294). -/
def execEnd (x : Ctx) (s : State) : Host.Outcome State Fault Refusal :=
  laneOp x (encR x.guard 0x25 0 0 0 0x10) (fun _ _ => false) (fun _ v => { v with ended := true }) s

end Sys2Proof.Machine
end

