-- ==== Sys2Proof/Machine/Nodes.lean ====
section
/-! DEFINITION. The nodes on the flock links: states, windows, records, bell and whistle, comparators, balancing, diagnostics,
sleep, and the commands that they execute (R82, R86 to R89, R96 to R128). -/

namespace Sys2Proof.Machine

/-- Key of a node in `Device.nodes`. -/
def nodeIdx (k : NodeKey) : Nat := 128 * k.flock.val + k.place.val

def Device.node (d : Device) (k : NodeKey) : Option Node := mapGet (nodeIdx k) d.nodes

/-- An event of node k, which sees the present instant; without such a node nothing happens. -/
def onNode (s : State) (k : NodeKey) (f : Nat → Node → Node) : Host.Outcome State Fault Refusal :=
  onDev s fun d =>
    match d.node k with
    | some n => { d with nodes := mapSet (nodeIdx k) (f d.now n) d.nodes }
    | none => d

/-- The A-position that the node holds (R107). -/
def Node.apos (n : Node) : Option Nat :=
  if n.st = .unassigned then none
  else match n.from_, n.ring with
    | .a, _ => some n.pos
    | .b, some (c, _, _) => some (c + 1 - n.pos)
    | .b, none => none

/-- The delay held for a side. -/
def Node.delay (n : Node) (s : Side) : Option Nat := match s with | .a => n.da | .b => n.db

/-- A node of this identity in UNASSIGNED: it has lost every value (R98, R108). -/
def Node.unassign (n : Node) : Node := Node.powerUp ⟨n.cls, n.ver, n.uid⟩

/-- Command the string switch; SWF ends as soon as the command agrees with the feedback (R112). -/
def Node.drive (n : Node) (on : Bool) : Node := { n with sw := on, swf := n.swf && n.fb != on }

/-- Leave DATA: string switch and balance switches off, the plan over (R98, R116). -/
def Node.quiet (n : Node) : Node :=
  { n.drive false with on_ := 0#24, plan := 0#24, left := 0, bswTest := 0#24, bswRot := 0#24 }

/-- Turn on the switches of a running plan when nothing keeps them off (R116, R117, R119). -/
def Node.resume (n : Node) : Node :=
  if n.st = .data ∧ 0 < n.left ∧ n.hot = false ∧ n.paused = false ∧ n.inWin = false ∧ n.bellLost = false then
    { n with on_ := n.plan, balAcc := n.balAcc || n.plan != 0#24 }
  else n

/-- End the balancing plan (R116). -/
def Node.endPlan (n : Node) : Node := { n with plan := 0#24, left := 0, on_ := 0#24 }

/-- The opposite side. -/
def otherSide : Side → Side
  | .a => .b
  | .b => .a

/-- The same preemptive sequence was forwarded less than 300 µs ago (R68). -/
def Node.repeats (n : Node) (sym arg now : Nat) : Bool :=
  n.fwd.any fun f => f.sym == sym && f.arg == arg && decide (now ≤ f.at_ + 300000)

/-- Send a preemptive sequence out of a side (R68). (DEDUCED, log 109.) -/
def Node.sendSeq (n : Node) (sym arg : Nat) (out : Side) (now : Nat) : Node :=
  { n with fwd := ⟨sym, arg, out, now⟩ :: n.fwd.filter fun f => decide (now ≤ f.at_ + 300000) }

/-- Forward a WHISTLE, MARKER or BELL that arrived on `side` out of the other one, unless it repeats one (R68). (DEDUCED, log
109.) -/
def Node.forwardSeq (n : Node) (sym arg : Nat) (side : Side) (now : Nat) : Node :=
  if n.repeats sym arg now then n else n.sendSeq sym arg (otherSide side) now

/-- The node is driving a WHISTLE, MARKER or BELL out of `side`, so it takes no sequence from there (R69). (DEDUCED, log 109.)
-/
def Node.contends (n : Node) (side : Side) (now : Nat) : Bool :=
  n.fwd.any fun f => f.sym != 2 && f.out == side && decide (f.at_ ≤ now) && decide (now < f.at_ + 1500)

/-- The node is the scheduled owner of its link on a side (R64, R70): of the one away from the timing end, and in the record
phase of the other. (DEDUCED, log 109.) -/
def Node.ownsLink (n : Node) (s : Side) : Bool := (s == n.timing) == n.far

/-- A node forwards in ASSIGNED and DATA (R96). -/
def Node.forwards (n : Node) : Bool := n.st == .assigned || n.st == .data

/-! ### What passes along a flock (R64, R68, R76) -/

/-- Places on the way from node k toward the A end, or toward the B end. -/
def wayOf (k : NodeKey) (toA : Bool) : List Nat :=
  if toA then (List.range k.place.val).reverse else (List.range (127 - k.place.val)).map fun j => k.place.val + 1 + j

/-- Pass something along the flock from node k, where it arrives at the next node at `t`: each node that forwards takes it and
says when it arrives at the next one; a node that does not forward, or is missing, ends it. (DEDUCED, log 109.) -/
def Device.relay (d : Device) (k : NodeKey) (toA : Bool) (t : Nat) (f : Nat → Node → Node × Nat) : Device :=
  ((wayOf k toA).foldl (fun (x : Device × Option Nat) j =>
    match x.2, mapGet (128 * k.flock.val + j) x.1.nodes with
    | some t, some n =>
      if n.forwards then
        let r := f t n
        ({ x.1 with nodes := mapSet (128 * k.flock.val + j) r.1 x.1.nodes }, some r.2)
      else (x.1, none)
    | _, _ => (x.1, none)) (d, some t)).1

/-- A record arrives at a node at `t`: it leaves after the forwarding latency, or, while the node is still sending, is held
and leaves after at least one IDLE (R62, R76). (DEDUCED, log 109.) -/
def Node.passRecord (r : Record) (t : Nat) (n : Node) : Node × Nat :=
  let busy := decide (t < n.txUntil)
  let leave := if busy then n.txUntil + 500 else t + 950
  let held := n.held.filter fun x => decide (t < x.1)
  ({ n with recordOut := some r, txUntil := leave + 40000, held := if busy then held ++ [(leave, r)] else held }, leave + 30)

/-- An ALARM passes a node toward a side (R68). (DEDUCED, log 109.) -/
def Node.passAlarm (arg : Nat) (out : Side) (t : Nat) (n : Node) : Node × Nat := (n.sendSeq 2 arg out t, t + 980)

/-- Node k sends the ALARMs that it has raised on both sides, and the flock forwards them (R68, R114). (DEDUCED, log 109.) -/
def Device.sendAlarms (d : Device) (k : NodeKey) : Device :=
  match d.node k with
  | none => d
  | some n =>
    n.alarms.foldl (fun (d : Device) a =>
      let own := fun (m : Node) => (m.sendSeq 2 a.toNat .a d.now).sendSeq 2 a.toNat .b d.now
      let d : Device := match d.node k with
        | some m => { d with nodes := mapSet (nodeIdx k) (own m) d.nodes }
        | none => d
      (d.relay k true (d.now + 30) (Node.passAlarm a.toNat .a)).relay k false (d.now + 30) (Node.passAlarm a.toNat .b)) d

/-! ### Markers and windows -/

/-- The 16-bit epoch number that a MARKER argument gives (R100). -/
def Node.align (n : Node) (arg : Nat) : Nat :=
  let e := n.marked.getD n.epoch
  let follow := if arg < e % 256 then ((e / 256 + 1) * 256 + arg) % 65536 else e / 256 * 256 + arg
  match n.effDue with
  | some e => if e % 256 = arg then e else if (e + 65535) % 65536 % 256 = arg then (e + 65535) % 65536 else follow
  | none => follow

/-- MARKER (R97, R99, R100, R68, R69): the first copy counts; a node that stays out of DATA follows the number without a window.
(DEDUCED, log 32.) -/
def Node.marker (n : Node) (side : Side) (arg now : Nat) : Node :=
  if !n.forwards || n.repeats 3 arg now || n.contends side now then n
  else
    let e := n.align arg
    let n : Node := { n.sendSeq 3 arg (otherSide side) now with marked := some e, effDue := none, timing := side, far := false }
    if n.st = .data then n
    else if n.ring.isSome ∧ n.hasPer ∧ (n.delay side).isSome then { n with st := .data }
    else { n with epoch := e, marked := none }

/-- Group of the open-wire rotation at count c (R124). -/
def Node.rotGroup (n : Node) (q : Nat) : Option Nat :=
  if n.rot.ows = 0 then none
  else if (n.dcnt + q) % n.rot.ows = 0 then some ((n.dcnt + q) / n.rot.ows % 5) else none

/-- Switches of the balance-switch rotation at count c (R124). -/
def Node.rotSwitches (n : Node) (q : Nat) : BitVec 24 :=
  if n.rot.bswb = 0 then 0#24
  else if (n.dcnt + q) % n.rot.bswb = 0 then
    (List.range n.rot.bswk).foldl (fun m k => m ||| (1#24 <<< (((n.dcnt + q) / n.rot.bswb * n.rot.bswk + k) % 24))) 0#24
  else 0#24

/-- 16-bit epoch number e is `eff` or a later one. -/
def epochReached (eff e : Nat) : Bool := decide ((e + 65536 - eff % 65536) % 65536 < 32768)

/-- The rotation settings and the count at the window of epoch e (R124): the latest SETDIAG whose epoch has come takes over. -/
def Node.rotate (n : Node) (e : Nat) : Node :=
  match (n.rotNext.filter fun x => epochReached x.2 e).getLast? with
  | some (r, eff) =>
    { n with rot := r, dcnt := (e + 65536 - eff % 65536) % 65536, rotNext := n.rotNext.filter fun x => !epochReached x.2 e }
  | none => { n with dcnt := (n.dcnt + 1) % 2 ^ 32 }

/-- The window of epoch e opens (R88, R89, R94, R100, R101, R118, R120, R123, R124). -/
def Node.openWindow (n : Node) (e : Nat) (lost : Bool) (sioff : Int) : Node :=
  let q := (n.apos).getD 0
  let n := { n with
    epoch := e, marked := none, inWin := true, paused := true, mklost := lost, sioff := clampI (-32767) 32767 sioff
    found := n.on_ ||| (n.on_ <<< 1) ||| (n.on_ >>> 1)
    balp := n.balAcc || n.on_ != 0#24, balAcc := false, on_ := 0#24 }
  let n := match n.perNext with
    | some (per, eff) => if epochReached eff e then { n with per := per, perNext := none } else n
    | none => n
  let n := n.rotate e
  let asked := match n.owReq with | some (g, eff) => if eff = e then some g else none | none => none
  { n with
    pull := match asked with | some g => some g | none => n.rotGroup q
    owReq := if asked.isSome then none else n.owReq
    bswRot := if n.bswTest = 0#24 then n.rotSwitches q else 0#24
    refDue := n.rot.refs != 0 && (n.dcnt + q) % n.rot.refs == 0 }

/-- Wires of group g (R120). -/
def groupWires (g : Nat) : List Nat := (List.range 5).map fun k => g + 5 * k

/-- Second reference out of ±3 mV around 2.500 V, in 100 µV (R123). -/
def refBad (v : Half) : Bool := decide (30 < ((v.toNat : Int) - 25000).natAbs)

/-- A pulled wire responds: its potential at the end of the window differs from that at the start by more than 150 mV (R120). -/
def wireMoved (m : NodeMeasure) (w : Nat) : Bool :=
  decide (1500 < (((m.wireEnd[w]?).getD 0) - ((m.wireStart[w]?).getD 0)).natAbs)

/-- Results of the window that a record carries: pull and reference check (R120, R123). -/
def Node.conclude (n : Node) (m : NodeMeasure) : Node :=
  let n := { n with ntj := m.ntj }
  let n := match n.pull with
    | some g =>
      let w := (groupWires g).filter (wireMoved m)
      { n with owr := !w.isEmpty, owg := g, owe := n.epoch, owm := (w.map fun k => 2 ^ k).sum }
    | none => { n with owr := false }
  if n.refDue then { n with refv := m.refv, ref2f := refBad m.refv } else n

/-- The cell, and temperature, value that a record reports, and whether its conversion failed (R102). -/
def Node.cellOut (n : Node) (m : NodeMeasure) (c : Nat) : Half × Bool :=
  if !n.cellm.getLsbD c then (0xFFFF#16, false)
  else if n.found.getLsbD c then (0xFFFF#16, true)
  else match (m.cell[c]?).getD none with | some v => (v, false) | none => (0xFFFF#16, true)

def Node.tempOut (n : Node) (m : NodeMeasure) (t : Nat) : Half × Bool :=
  if !n.tempm.getLsbD t then (0x8000#16, false)
  else match (m.temp[t]?).getD none with | some v => (v, false) | none => (0x8000#16, true)

/-- The record of the window, toward the timing end or, as the copy of the second train, toward the other end (R75, R77, R78,
R102). -/
def Node.mkRecord (n : Node) (m : NodeMeasure) (train2 : Bool) : Record :=
  let toB := (n.timing == .b) != train2
  let q := (n.apos).getD 0
  let pos := if toB then (match n.ring with | some (c, _, _) => c + 1 - q | none => 0) else q
  let bit := fun (b : Bool) (k : Nat) => if b then 2 ^ k else 0
  let cells := Vector.ofFn fun (c : Fin 24) => (n.cellOut m c.val).1
  let temps := Vector.ofFn fun (t : Fin 8) => (n.tempOut m t.val).1
  let cverr := (List.range 24).any (fun c => (n.cellOut m c).2) || (List.range 8).any (fun t => (n.tempOut m t).2)
  let flags := bit (n.cls == .head) 0 + bit toB 1 + bit train2 2 + bit n.mklost 3 + bit (!n.cmpAct.isEmpty) 4 + bit n.balp 5 +
    bit n.bellLost 6 + bit (n.cls == .head && n.sw) 7 + bit (n.cls == .head && n.swf) 8
  let status := bit n.pull.isSome 0 + bit (n.pull.isSome && n.owr) 1 + bit n.ref2f 2 +
    bit (n.bswo != 0#24 || n.bswc != 0#24) 3 + bit cverr 4 + bit n.hot 5
  let r : Record :=
    { pos := BitVec.ofNat 8 pos, seq := BitVec.ofNat 8 n.epoch, flags := BitVec.ofNat 16 flags, cell := cells, temp := temps
      msum := m.msum, istr := if n.cls = .head then m.istr else 0#24, status := BitVec.ofNat 8 status
      sioff := BitVec.ofNat 16 (unsigned 16 n.sioff), crc := 0#32, violations := 0, stray := 0 }
  { r with crc := BitVec.ofNat 32 (crc32c (recordBytes r)) }

/-! ### Comparators (R113, R114) -/

/-- One comparator at one sample: beyond its threshold, inside it by the hysteresis. 100 consecutive samples change it. -/
def Node.compare (n : Node) (num : Nat) (beyond inside : Bool) : Node :=
  let act := n.cmpAct.contains num
  let hit := if act then inside else beyond
  let run := if hit then mapGetD num 0 n.cmpRun + 1 else 0
  if 100 ≤ run then
    { n with cmpRun := mapDrop num n.cmpRun, cmpAct := if act then n.cmpAct.filter (· != num) else n.cmpAct ++ [num] }
  else { n with cmpRun := if run = 0 then mapDrop num n.cmpRun else mapSet num run n.cmpRun }

/-- ALARM argument: A-position less 1, bit 7 for a temperature comparator (R114). -/
def Node.alarmArg (n : Node) (temp : Bool) : Byte := BitVec.ofNat 8 ((n.apos).getD 1 - 1 + if temp then 128 else 0)

/-- The ALARM arguments of a set of comparators: one for cells, one for temperatures (R114). -/
def Node.alarmArgs (n : Node) (l : List Nat) : List Byte :=
  (if l.any fun x => decide (x < 48) then [n.alarmArg false] else []) ++
    (if l.any fun x => decide (48 ≤ x) then [n.alarmArg true] else [])

/-- A sample of every comparator (R113); comparators that become active give the node its ALARMs. An active comparator that is
disabled by its threshold counts as inside it; one whose channel is masked, or whose node leaves DATA, keeps its state.
(DESIGN CHOICE, log 108.) -/
def Node.sample (n : Node) (cell : Vector Half 24) (temp : Vector Half 8) : Node :=
  let old := n.cmpAct
  let n1 := ((List.range 24).filter n.cellm.getLsbD).foldl (fun (n : Node) c =>
    let v := ((cell[c]?).getD 0#16).toNat
    let n := n.compare c (n.ov != 0xFFFF && decide (n.ov < v)) (n.ov == 0xFFFF || decide (v + 200 ≤ n.ov))
    n.compare (24 + c) (n.uv != 0 && decide (v < n.uv)) (n.uv == 0 || decide (n.uv + 200 ≤ v))) n
  let n2 := ((List.range 8).filter n.tempm.getLsbD).foldl (fun (n : Node) t =>
    let v := signed 16 ((temp[t]?).getD 0#16).toNat
    n.compare (48 + t) (n.ot != 0x7FFF && decide (n.ot < v)) (n.ot == 0x7FFF || decide (v + 128 ≤ n.ot))) n1
  { n2 with alarms := n2.alarmArgs (n2.cmpAct.filter fun x => !old.contains x) }

/-! ### Commands (R104 to R107) -/

/-- Which ADDR forms an opcode allows (R106). -/
inductive AddrForm where
  | single | all | both
  deriving DecidableEq, Repr

/-- What a command does when nothing refuses it: its status, what follows ST in the reply, and the node after it. -/
structure CmdResult where
  st   : Status
  rest : List Byte
  node : Node

/-- A frame that a receiver discards (R74): code violation, CRC failure, no EOF, or a LEN that disagrees with the symbols. -/
def badFrame (h : CmdHead) : Bool := h.violations != 0 || !h.crcOk || !h.eof || h.received != h.len.toNat

/-- A frame passes the node: every symbol leaves by the opposite side (R104); a frame from the timing end says that the near
parties have their links (R70). (DEDUCED, log 109.) -/
def Node.relayFrame (n : Node) (h : CmdHead) : Node :=
  { n with frameOut := some (otherSide h.side, h), far := if h.side = n.timing then false else n.far }

/-- A frame that the node discards, counts and never answers (R65, R74). -/
def Node.discard (n : Node) (h : CmdHead) : Node := { n with discards := n.discards + 1, cv := n.cv + h.violations }

/-- A command frame that reaches node n (R74, R104, R105): executed when ADDR is its A-position or 0xFF; an opcode that is not
the command's own is an unknown one; REJECT before RANGE; a broadcast never replies and has no effect when it earns REJECT or
RANGE. -/
def Node.command (n : Node) (h : CmdHead) (opc len : Nat) (form : AddrForm) (okState okClass : Bool) (f : Node → CmdResult) : Node :=
  let bcast := h.addr == 0xFF#8
  if n.st = .unassigned then n
  else if badFrame h then (n.relayFrame h).discard h
  else
    let n := n.relayFrame h
    if !bcast && n.apos != some h.addr.toNat then n
    else
      let formOk := match form with | .single => !bcast | .all => bcast | .both => true
      let r : CmdResult :=
        if h.opc.toNat ≠ opc || !formOk || !okState || !okClass || (f n).st == .reject then ⟨.reject, [], n⟩
        else if h.len.toNat ≠ len then ⟨.range, [], n⟩
        else f n
      let m := if r.st = .ok then r.node else n
      if bcast then m
      else { m with reply := some ⟨h.addr.toNat, h.opc.toNat + 128, h.tag,
        BitVec.ofNat 8 r.st.code :: (if r.st = .ok then r.rest else [])⟩ }

/-- In ASSIGNED or DATA. -/
def Node.up (n : Node) : Bool := n.st == .assigned || n.st == .data
def Node.isData (n : Node) : Bool := n.st == .data

/-- A result without reply fields. -/
def done (n : Node) : CmdResult := ⟨.ok, [], n⟩
def outOfRange (n : Node) : CmdResult := ⟨.range, [], n⟩

/-- ASSIGN (R74, R82, R106): an UNASSIGNED node takes the position and answers with its identity; it acts on nothing else. -/
def Node.assign (n : Node) (h : CmdHead) (pos : Nat) : Node :=
  if n.st = .unassigned then
    if badFrame h then n.discard h
    else if h.addr ≠ 0#8 ∨ h.opc ≠ 1#8 then n
    else if h.len ≠ 1#8 ∨ pos = 0 ∨ 128 < pos then { n with reply := some ⟨pos, 0x81, h.tag, [9#8]⟩ }
    else
      { n with
        st := .assigned, pos := pos, from_ := h.side
        reply := some ⟨pos, 0x81, h.tag,
          [0#8, if n.cls = .head then 1#8 else 0#8] ++ leBytes n.ver.toNat 2 ++ leBytes n.uid.toNat 8⟩ }
  else n.command h 0x01 1 .single false true done

/-- The HEAD's freshness rule for a close (R112). -/
def Node.mayClose (n : Node) (bell now : Nat) : Bool :=
  match n.bell with
  | some (c, t) => c == bell && decide (now < t + n.tstr * 10000000) && !n.whistled
  | none => false

/-- SWITCH (R112). A refused close that finds the switch closed leaves it so. (DESIGN CHOICE, log 108.) -/
def Node.switch (n : Node) (act bell now : Nat) : CmdResult :=
  let out := fun (n : Node) => [BitVec.ofNat 8 ((if n.sw then 1 else 0) + if n.fb then 2 else 0)]
  if act = 0 then let m := n.drive false; ⟨.ok, out m, m⟩
  else if act = 1 then
    if n.mayClose bell now then let m := { n.drive true with penned := false }; ⟨.ok, out m, m⟩ else ⟨.reject, [], n⟩
  else ⟨.range, [], n⟩

/-- BALANCE (R116). (DEDUCED, log 32.) -/
def Node.balance (n : Node) (mask : BitVec 24) (dur : Nat) : CmdResult :=
  if dur = 0 then outOfRange n
  else
    let a := mask &&& n.cellm &&& ~~~(n.bswo ||| n.bswc)
    let m := if n.bellLost then n.endPlan else ({ n with plan := a, left := dur, on_ := 0#24 }).resume
    ⟨.ok, leBytes a.toNat 3, m⟩

/-- MODID as the node reads it (R107): 0 without an element, all ones when it does not answer. -/
def modidOf (element : Option Word) (answers : Bool) : Nat :=
  match element with
  | none => 0
  | some v => if answers then v.toNat else 0xFFFFFFFF

/-- A check in SLEEP fails (R126). -/
def Node.checkFails (n : Node) (m : NodeMeasure) (fault : Bool) : Bool :=
  let l := n.slp.getD ⟨n.ov, n.uv, n.ot, -32768⟩
  fault || refBad m.refv ||
    ((List.range 24).filter n.cellm.getLsbD).any (fun c =>
      match (m.cell[c]?).getD none with | some v => decide (l.ov < v.toNat) || decide (v.toNat < l.uv) | none => true) ||
    ((List.range 8).filter n.tempm.getLsbD).any (fun t =>
      match (m.temp[t]?).getD none with
      | some v => v == 0x7FFF#16 || v == 0x7FFE#16 || decide (l.ot < signed 16 v.toNat) || decide (signed 16 v.toNat < l.ut)
      | none => true)

/-- Position N from the timing end: the last node (R127). -/
def Node.isLast (n : Node) : Bool := match n.ring with | some (c, _, _) => n.apos == some c | none => false

/-! ### Meanings -/

/-- NODE_POWER_UP (R97, R108). -/
def execNodePowerUp (k : NodeKey) (id : NodeIdent) (s : State) : Host.Outcome State Fault Refusal :=
  onDev s fun d => { d with nodes := mapSet (nodeIdx k) (Node.powerUp id) d.nodes }

/-- NODE_INTERNAL_FAULT (R97, R98). -/
def execNodeInternalFault (k : NodeKey) (s : State) : Host.Outcome State Fault Refusal := onNode s k fun _ n => n.unassign

/-- NODE_MARKER (R86, R97, R99, R100). -/
def execNodeMarker (k : NodeKey) (side : Side) (arg : Byte) (s : State) : Host.Outcome State Fault Refusal :=
  onNode s k fun now n => n.marker side arg.toNat now

/-- NODE_MARKER_LOST (R89, R99, R101): the window opens at the predicted time; a MARKER without a valid delay still numbers
it. -/
def execNodeMarkerLost (m : LostMarker) (s : State) : Host.Outcome State Fault Refusal :=
  onNode s m.node fun _ n => if n.isData then n.openWindow (n.marked.getD ((n.epoch + 1) % 65536)) true m.sioff else n

/-- NODE_WINDOW_OPEN (R86, R101): from a MARKER with a valid delay. -/
def execNodeWindowOpen (k : NodeKey) (sioff : Int) (s : State) : Host.Outcome State Fault Refusal :=
  onNode s k fun _ n =>
    match n.marked with
    | some e => if n.isData && (n.delay n.timing).isSome then n.openWindow e false sioff else n
    | none => n

/-- NODE_WINDOW_END (R117, R116): one window of the plan has passed and balancing resumes. -/
def execNodeWindowEnd (k : NodeKey) (s : State) : Host.Outcome State Fault Refusal :=
  onNode s k fun _ n => if n.inWin then ({ n with inWin := false, paused := false, left := n.left - 1 }).resume else n

/-- The node sends its record of train 1 or 2 (R75, R77, R102); it drives the link that the record leaves by (R70). -/
def Node.sendRecord (n : Node) (m : NodeMeasure) (train2 : Bool) (now : Nat) : Node :=
  let n := if train2 then n else n.conclude m
  { n with record := some (n.mkRecord m train2), far := !train2, txUntil := now + 40000 }

/-- NODE_RECORD_SEND (R75, R76, R77, R102): the nodes on the way forward or hold the record; the second train only in pair
mode. -/
def execNodeRecordSend (k : NodeKey) (m : NodeMeasure) (train2 : Bool) (s : State) : Host.Outcome State Fault Refusal :=
  onDev s fun d =>
    match d.node k with
    | none => d
    | some n =>
      let pair := match n.ring with | some (_, _, pm) => pm | none => false
      if n.isData && (!train2 || pair) then
        let n := n.sendRecord m train2 d.now
        let d : Device := { d with nodes := mapSet (nodeIdx k) n d.nodes }
        d.relay k ((n.timing == .a) != train2) (d.now + 30) (Node.passRecord (n.mkRecord m train2))
      else d

/-- NODE_BALANCE_PAUSE (R117). -/
def execNodeBalancePause (k : NodeKey) (s : State) : Host.Outcome State Fault Refusal :=
  onNode s k fun _ n => if n.isData then { n with on_ := 0#24, paused := true } else n

/-- BELL (R110, R68, R69). (DEDUCED, log 32.) -/
def Node.takeBell (n : Node) (side : Side) (count now : Nat) : Node :=
  if n.forwards && !n.contends side now then
    { n.forwardSeq 6 count side now with bell := some (count, now), whistled := false, bellLost := false }
  else n

/-- NODE_BELL (R110, R68, R69). -/
def execNodeBell (k : NodeKey) (side : Side) (count : Byte) (s : State) : Host.Outcome State Fault Refusal :=
  onNode s k fun now n => n.takeBell side count.toNat now

/-- NODE_BELL_ABSENT_TSTR (R110): a HEAD in DATA pens its switch. -/
def execNodeBellAbsentTstr (k : NodeKey) (s : State) : Host.Outcome State Fault Refusal :=
  onNode s k fun _ n => if n.isData && n.cls == .head then { n.drive false with penned := true } else n

/-- NODE_BELL_ABSENT_TBAL (R110, R116). -/
def execNodeBellAbsentTbal (k : NodeKey) (s : State) : Host.Outcome State Fault Refusal :=
  onNode s k fun _ n => if n.isData then { n.endPlan with bellLost := true } else n

/-- NODE_BELL_ABSENT_SLEEP (R110, R98). -/
def execNodeBellAbsentSleep (k : NodeKey) (s : State) : Host.Outcome State Fault Refusal :=
  onNode s k fun _ n => if n.isData then { n.quiet with st := .sleep, inWin := false, chkFail := false, toneIn := none } else n

/-- WHISTLE (R111, R68, R69). -/
def Node.takeWhistle (n : Node) (side : Side) (arg now : Nat) : Node :=
  if n.forwards && !n.contends side now then
    let n := n.forwardSeq 1 arg side now
    if n.cls = .head ∧ (arg = 0xFF ∨ n.apos = some arg) then { n.drive false with penned := true, whistled := true } else n
  else n

/-- NODE_WHISTLE (R111, R68, R69). -/
def execNodeWhistle (k : NodeKey) (side : Side) (arg : Byte) (s : State) : Host.Outcome State Fault Refusal :=
  onNode s k fun now n => n.takeWhistle side arg.toNat now

/-- An event of node k that may give it ALARMs to send (R114). -/
def onAlarming (s : State) (k : NodeKey) (f : Node → Node) : Host.Outcome State Fault Refusal :=
  onDev s fun d =>
    match d.node k with
    | some n =>
      if n.isData then ({ d with nodes := mapSet (nodeIdx k) (f n) d.nodes } : Device).sendAlarms k else d
    | none => d

/-- NODE_COMPARATOR_SAMPLE (R113, R114). -/
def execNodeComparatorSample (k : NodeKey) (cell : Vector Half 24) (temp : Vector Half 8) (s : State) :
    Host.Outcome State Fault Refusal :=
  onAlarming s k fun n => n.sample cell temp

/-- NODE_ALARM_RESEND (R114): the types that stay active. -/
def execNodeAlarmResend (k : NodeKey) (s : State) : Host.Outcome State Fault Refusal :=
  onAlarming s k fun n => { n with alarms := n.alarmArgs n.cmpAct }

/-- A seize with an ALARM has yielded (R115): an ALARM that travels toward the timing end goes out again, one that travels away
from it is discarded; the node's own and those that it forwards. -/
def Node.retryAlarms (n : Node) (now : Nat) : Node :=
  { n with fwd := (n.fwd.filter fun f => f.sym != 2 || f.out == n.timing).map fun f => if f.sym = 2 then { f with at_ := now } else f }

/-- NODE_ALARM_RETRY (R115). -/
def execNodeAlarmRetry (k : NodeKey) (s : State) : Host.Outcome State Fault Refusal :=
  onNode s k fun now n => if n.forwards then n.retryAlarms now else n

/-- NODE_SWITCH_FEEDBACK (R112): the feedback has stood so for 20 ms. -/
def execNodeSwitchFeedback (k : NodeKey) (closed : Bool) (s : State) : Host.Outcome State Fault Refusal :=
  onNode s k fun _ n => if n.cls = .head then { n with fb := closed, swf := closed != n.sw } else n

/-- NODE_BALANCE_PLAN_END (R116): DUR windows have passed. -/
def execNodeBalancePlanEnd (k : NodeKey) (s : State) : Host.Outcome State Fault Refusal :=
  onNode s k fun _ n => if n.left = 0 then n.endPlan else n

/-- NODE_OVER_TEMPERATURE (R119). -/
def execNodeOverTemperature (k : NodeKey) (s : State) : Host.Outcome State Fault Refusal :=
  onNode s k fun _ n => { n with on_ := 0#24, hot := true }

/-- NODE_TEMPERATURE_RECOVERED (R119). -/
def execNodeTemperatureRecovered (k : NodeKey) (s : State) : Host.Outcome State Fault Refusal :=
  onNode s k fun _ n => ({ n with hot := false }).resume

/-- The switch that the next test slot tests: the lowest of a running BSWTEST, else of the rotation's step (R121, R122, R124).
-/
def Node.nextTest (n : Node) : Option Nat :=
  let m := if n.bswTest = 0#24 then n.bswRot else n.bswTest
  (List.range 24).find? fun c => m.getLsbD c

/-- A test slot of switch c (R121): it draws `offUa` µA while commanded off and shows `onMv` mV while commanded on; its
neighbours do not balance meanwhile. In a slot that fails in one half the other half's bit stays. (DESIGN CHOICE, log 108.) -/
def Node.testSlot (n : Node) (c offUa onMv : Nat) : Node :=
  let b : BitVec 24 := 1#24 <<< c
  let bad := decide (1000 < offUa) || decide (300 < onMv)
  { n with
    bswc := if 1000 < offUa then n.bswc ||| b else if bad then n.bswc else n.bswc &&& ~~~b
    bswo := if 300 < onMv then n.bswo ||| b else if bad then n.bswo else n.bswo &&& ~~~b
    bswTest := n.bswTest &&& ~~~b, bswRot := n.bswRot &&& ~~~b
    slotOn := n.on_ &&& ~~~(b ||| (b <<< 1) ||| (b >>> 1))
    balAcc := true }

/-- NODE_BSW_TEST_SLOT (R119, R121, R122): not in a window, in a pause or while the junction keeps every switch off. (DESIGN
CHOICE, log 108.) -/
def execNodeBswTestSlot (k : NodeKey) (c : Fin 24) (offUa onMv : Nat) (s : State) : Host.Outcome State Fault Refusal :=
  onNode s k fun _ n =>
    if n.isData && !n.hot && !n.inWin && !n.paused && n.nextTest == some c.val then n.testSlot c.val offUa onMv else n

/-- NODE_SLEEP_CHECK (R126): a failed check stands until the node leaves SLEEP. (DEDUCED, log 32.) The check writes
REFV and leaves REF2F. (DESIGN CHOICE, log 108.) -/
def execNodeSleepCheck (k : NodeKey) (m : NodeMeasure) (fault : Bool) (s : State) : Host.Outcome State Fault Refusal :=
  onNode s k fun _ n => if n.st = .sleep then { n with refv := m.refv, chkFail := n.chkFail || n.checkFails m fault } else n

/-- NODE_TONE_BURST (R127): the last node sends on its own timer. -/
def execNodeToneBurst (k : NodeKey) (s : State) : Host.Outcome State Fault Refusal :=
  onNode s k fun _ n => if n.st = .sleep ∧ n.isLast ∧ n.chkFail = false then { n with tones := n.tones + 1 } else n

/-- NODE_TONE_RECEIVED (R127, R95): the upstream neighbour is on the side away from the timing end. -/
def execNodeToneReceived (k : NodeKey) (side : Side) (s : State) : Host.Outcome State Fault Refusal :=
  onNode s k fun now n =>
    if n.st = .sleep ∧ side = .b then
      let n := { n with toneIn := some now }
      if n.chkFail = false ∧ n.isLast = false then { n with tones := n.tones + 1 } else n
    else n

/-- NODE_WAKE_IDLE (R128). -/
def execNodeWakeIdle (k : NodeKey) (side : Side) (s : State) : Host.Outcome State Fault Refusal :=
  onNode s k fun _ n => if n.st = .sleep ∧ side = .a then { n with st := .assigned, chkFail := false, marked := none } else n

/-- ASSIGN (R82, R106). -/
def execAssign (k : NodeKey) (h : CmdHead) (pos : Byte) (s : State) : Host.Outcome State Fault Refusal :=
  onNode s k fun _ n => n.assign h pos.toNat

/-- SETRING (R106, R107); FL with bits 7:2 set is out of range. (DESIGN CHOICE, log 108.) -/
def execSetring (k : NodeKey) (h : CmdHead) (count fl : Byte) (s : State) : Host.Outcome State Fault Refusal :=
  onNode s k fun _ n => n.command h 0x02 2 .all n.up true fun n =>
    if count = 0#8 ∨ 128 < count.toNat ∨ 3 < fl.toNat then outOfRange n
    else done { n with ring := some (count.toNat, fl.getLsbD 0, fl.getLsbD 1) }

/-- PING (R85, R106): the reply leaves after T_turn. -/
def execPing (k : NodeKey) (h : CmdHead) (s : State) : Host.Outcome State Fault Refusal :=
  onNode s k fun _ n => n.command h 0x03 0 .single n.up true done

/-- SETDELAY (R106, R107). (DEDUCED, log 32.) VALID with bits 7:2 set is out of range. (DESIGN CHOICE, log 108.) -/
def execSetdelay (k : NodeKey) (h : CmdHead) (da db : Word) (valid : Byte) (s : State) : Host.Outcome State Fault Refusal :=
  onNode s k fun _ n => n.command h 0x04 9 .single n.up true fun n =>
    if 3 < valid.toNat then outOfRange n
    else done { n with
      da := if valid.getLsbD 0 then some (da.toNat % 2 ^ 20) else n.da
      db := if valid.getLsbD 1 then some (db.toNat % 2 ^ 20) else n.db }

/-- TRACE (R106): forwarded, without action. -/
def execTrace (k : NodeKey) (h : CmdHead) (_seqn : Half) (s : State) : Host.Outcome State Fault Refusal :=
  onNode s k fun _ n => n.command h 0x05 2 .all n.up true done

/-- SETPER (R94, R100, R106). -/
def execSetper (k : NodeKey) (h : CmdHead) (per : Byte) (eff : Half) (s : State) : Host.Outcome State Fault Refusal :=
  onNode s k fun _ n => n.command h 0x06 3 .all n.up true fun n =>
    if per.toNat < 2 ∨ 100 < per.toNat then outOfRange n
    else done { n with hasPer := true, perNext := some (per.toNat, eff.toNat), effDue := some eff.toNat }

/-- SETTIM (R106, R108). -/
def execSettim (k : NodeKey) (h : CmdHead) (tstr : Half) (tbal tone : Byte) (s : State) : Host.Outcome State Fault Refusal :=
  onNode s k fun _ n => n.command h 0x07 4 .both n.up true fun n =>
    if tstr.toNat < 10 ∨ 500 < tstr.toNat ∨ tbal.toNat < 5 ∨ 100 < tbal.toNat ∨ tone = 0#8 ∨ 100 < tone.toNat then outOfRange n
    else done { n with tstr := tstr.toNat, tbal := tbal.toNat, tone := tone.toNat }

/-- CONFIG (R106, R108). -/
def execConfig (k : NodeKey) (h : CmdHead) (cellm : BitVec 24) (tempm : Byte) (s : State) : Host.Outcome State Fault Refusal :=
  onNode s k fun _ n => n.command h 0x08 4 .single n.up true fun n => done { n with cellm := cellm, tempm := tempm }

/-- SETCMP (R106, R113). -/
def execSetcmp (k : NodeKey) (h : CmdHead) (ov uv ot : Half) (s : State) : Host.Outcome State Fault Refusal :=
  onNode s k fun _ n => n.command h 0x09 6 .both n.up true fun n =>
    done { n with ov := ov.toNat, uv := uv.toNat, ot := signed 16 ot.toNat }

/-- BALANCE (R106, R116). -/
def execBalance (k : NodeKey) (h : CmdHead) (mask : BitVec 24) (dur : Half) (s : State) : Host.Outcome State Fault Refusal :=
  onNode s k fun _ n => n.command h 0x0A 5 .single n.isData true fun n => n.balance mask dur.toNat

/-- STOPBAL (R106, R116). -/
def execStopbal (k : NodeKey) (h : CmdHead) (s : State) : Host.Outcome State Fault Refusal :=
  onNode s k fun _ n => n.command h 0x0B 0 .both n.up true fun n => done n.endPlan

/-- SWITCH (R106, R112): HEAD nodes in DATA only. -/
def execSwitch (k : NodeKey) (h : CmdHead) (act bell : Byte) (s : State) : Host.Outcome State Fault Refusal :=
  onNode s k fun now n => n.command h 0x0C 2 .single n.isData (n.cls == .head) fun n => n.switch act.toNat bell.toNat now

/-- SETDIAG (R106, R124). -/
def execSetdiag (k : NodeKey) (h : CmdHead) (ows bswb : Half) (bswk : Byte) (refs : Half) (s : State) :
    Host.Outcome State Fault Refusal :=
  onNode s k fun _ n => n.command h 0x0D 7 .both n.isData true fun n =>
    if bswb ≠ 0#16 ∧ ¬ [1, 2, 3, 4, 6, 8, 12, 24].contains bswk.toNat then outOfRange n
    else done { n with rotNext := n.rotNext ++ [(⟨ows.toNat, bswb.toNat, bswk.toNat, refs.toNat⟩, (n.epoch + 2) % 65536)] }

/-- OWTEST (R106, R120). -/
def execOwtest (k : NodeKey) (h : CmdHead) (group : Byte) (eff : Half) (s : State) : Host.Outcome State Fault Refusal :=
  onNode s k fun _ n => n.command h 0x0E 3 .single n.isData true fun n =>
    if 4 < group.toNat then outOfRange n else done { n with owReq := some (group.toNat, eff.toNat) }

/-- BSWTEST (R106, R122). -/
def execBswtest (k : NodeKey) (h : CmdHead) (mask : BitVec 24) (s : State) : Host.Outcome State Fault Refusal :=
  onNode s k fun _ n => n.command h 0x0F 3 .single n.isData true fun n =>
    if n.bswTest ≠ 0#24 then ⟨.busy, [], n⟩ else done { n with bswTest := mask, bswRot := 0#24 }

/-- DIAGRD (R106, R120, R124). -/
def execDiagrd (k : NodeKey) (h : CmdHead) (s : State) : Host.Outcome State Fault Refusal :=
  onNode s k fun _ n => n.command h 0x10 0 .single n.isData true fun n =>
    ⟨.ok, leBytes n.owg 1 ++ leBytes n.owe 2 ++ leBytes n.owm 4 ++ leBytes n.bswo.toNat 3 ++ leBytes n.bswc.toNat 3 ++
      leBytes n.refv.toNat 2 ++ leBytes n.ntj.toNat 2 ++ leBytes n.dcnt 4, n⟩

/-- READID (R106, R107): the identity element is fitted or not, and answers or not. -/
def execReadid (k : NodeKey) (h : CmdHead) (element : Option Word) (answers : Bool) (s : State) : Host.Outcome State Fault Refusal :=
  onNode s k fun _ n => n.command h 0x11 0 .single n.up true fun n =>
    ⟨.ok, (if n.cls = .head then 1#8 else 0#8) :: (leBytes n.ver.toNat 2 ++ leBytes n.uid.toNat 8 ++
      leBytes (modidOf element answers) 4), n⟩

/-- SLEEP (R106, R126, R98). -/
def execSleep (k : NodeKey) (h : CmdHead) (chk ov uv ot ut : Half) (s : State) : Host.Outcome State Fault Refusal :=
  onNode s k fun _ n => n.command h 0x12 10 .all n.isData true fun n =>
    if chk = 0#16 ∨ 3600 < chk.toNat then outOfRange n
    else done { n.quiet with
      st := .sleep, inWin := false, chk := chk.toNat, chkFail := false, toneIn := none
      slp := some ⟨ov.toNat, uv.toNat, signed 16 ot.toNat, signed 16 ut.toNat⟩ }

/-- RELEASE (R97, R106). -/
def execRelease (k : NodeKey) (h : CmdHead) (s : State) : Host.Outcome State Fault Refusal :=
  onNode s k fun _ n => n.command h 0x13 0 .all n.up true fun n => done n.unassign

end Sys2Proof.Machine
end

