-- ==== Sys2Proof/Machine/Systems.lean ====
section
/-! DEFINITION. Control registers, system operations, interrupts, epoch waits and signatures of Islor-C (R279 to R288, R297). -/

namespace Sys2Proof.Machine

/-- ILLEGAL_INSTRUCTION (R268, R271): a word that the agent's profile does not define. (DESIGN CHOICE, log 21.) -/
def execIllegalInstruction (a : Agent) (word : Word) (s : State) : Host.Outcome State Fault Refusal :=
  onCtl s fun d =>
    match a with
    | .core p => if islorDefined false word then d else d.runCore (pairIx p) ⟨0, false⟩ word fun d => .retire d
    | .lane l => if islorDefined true word then d else d.runLane l.val ⟨0, false⟩ word (fun _ _ => true) fun _ v => v

/-- CSRR (R282): in a lane c0 to c5 hold the invocation's context, and the rest read 0 (R289). -/
def execCsrr (x : Ctx) (rd : RegNo) (c : Fin 64) (s : State) : Host.Outcome State Fault Refusal :=
  match x.agent with
  | .core _ => csrOp x 0 rd c 0 false (fun old _ => old) s
  | .lane l =>
    onCtl s fun d => d.runLane l.val x.guard (encI x.guard 0x24 rd.val 0 c.val) (fun _ _ => false) fun _ v =>
      { v with g := gSet v.g rd ((v.c[c.val]?).getD 0#64) }.next

/-- CSRW (R282): g[rd] := c, then c := g[rs1]. -/
def execCsrw (x : Ctx) (rd : RegNo) (c : Fin 64) (rs1 : RegNo) (s : State) : Host.Outcome State Fault Refusal :=
  csrOp x 1 rd c rs1 true (fun _ v => v) s

/-- CSRS (R282): with rs1 = 0 it writes nothing. -/
def execCsrs (x : Ctx) (rd : RegNo) (c : Fin 64) (rs1 : RegNo) (s : State) : Host.Outcome State Fault Refusal :=
  csrOp x 2 rd c rs1 (rs1.val != 0) (fun old v => old ||| v) s

/-- CSRC (R282). -/
def execCsrc (x : Ctx) (rd : RegNo) (c : Fin 64) (rs1 : RegNo) (s : State) : Host.Outcome State Fault Refusal :=
  csrOp x 3 rd c rs1 (rs1.val != 0) (fun old v => old &&& ~~~v) s

/-- The word of a system operation (R287). -/
def sysWord (x : Ctx) (fn : Nat) : Word := encR x.guard 0x25 0 0 0 fn

/-- ECALL (R283, R287): the code names the present level. -/
def execEcall (x : Ctx) (s : State) : Host.Outcome State Fault Refusal :=
  coreOp x (sysWord x 0x00) (fun h d =>
    let prv := (d.corePair h).prv
    .trap d (if prv = 3 then 0x0A else if prv = 1 then 0x09 else 0x08) 0#64) s

/-- ERET (R283, R284). -/
def execEret (x : Ctx) (s : State) : Host.Outcome State Fault Refusal :=
  coreOp x (sysWord x 0x01) (fun h d =>
    let c := d.corePair h
    if c.prv ≠ 3 then .trap d 3 ((sysWord x 0x01).setWidth 64) else .jump (d.setCore h fun c => c.leave) c.leave.pc) s

/-- WFI (R283, R287): it ends at once while an interrupt is pending above threshold. (DEDUCED, log 95.) -/
def execWfi (x : Ctx) (s : State) : Host.Outcome State Fault Refusal :=
  coreOp x (sysWord x 0x02) (fun h d =>
    if (d.corePair h).prv = 0 then .trap d 3 ((sysWord x 0x02).setWidth 64)
    else if (d.pendingSource h).isSome then .retire d else .wait d .wfi) s

/-- BRK (R283, R287). -/
def execBrk (x : Ctx) (s : State) : Host.Outcome State Fault Refusal :=
  coreOp x (sysWord x 0x03) (fun h d => .trap d 0x0B (d.corePair h).pc) s

/-- FENCE (R280): accesses of the model take effect in program order. -/
def execFence (x : Ctx) (s : State) : Host.Outcome State Fault Refusal := coreOp x (sysWord x 0x04) (fun _ d => .retire d) s

/-- FENCE.IO (R280): the core waits until FENCE_IO_COMPLETE. (DEDUCED, log 95.) -/
def execFenceIo (x : Ctx) (s : State) : Host.Outcome State Fault Refusal := coreOp x (sysWord x 0x05) (fun _ d => .wait d .fenceIo) s

/-- FENCE_IO_COMPLETE (R280): every earlier peripheral write has been accepted. -/
def execFenceIoComplete (p : Pair) (s : State) : Host.Outcome State Fault Refusal :=
  onCtl s fun d =>
    let h := pairIx p
    if d.coreActs h && (d.corePair h).wait == .fenceIo then d.retireAt h ((d.corePair h).pc + 4#64) else d

/-- FENCE.I (R279): the model holds no I-cache. (DESIGN CHOICE, log 3.) -/
def execFenceI (x : Ctx) (s : State) : Host.Outcome State Fault Refusal := coreOp x (sysWord x 0x06) (fun _ d => .retire d) s

/-- NOP (R287). -/
def execNop (x : Ctx) (s : State) : Host.Outcome State Fault Refusal := regOp x (sysWord x 0x11) (fun r => r) s

/-- WFI_WAKE (R287): the core resumes; an enabled interrupt is then taken before the next instruction. -/
def execWfiWake (p : Pair) (s : State) : Host.Outcome State Fault Refusal :=
  onCtl s fun d =>
    let h := pairIx p
    if d.coreActs h && (d.corePair h).wait == .wfi && (d.pendingSource h).isSome then d.retireAt h ((d.corePair h).pc + 4#64) else d

/-- The pair takes an enabled pending interrupt, unless it waits for FENCE.IO (R280, R283, R284, R287). (DEDUCED, log 95.) -/
def Device.interrupted (d : Device) (h : Nat) : Option Device :=
  let c := d.corePair h
  if d.coreActs h && c.ie && c.wait != .fenceIo then
    match d.pendingSource h with
    | some n =>
      let d := if c.wait = .wfi then d.retireAt h (c.pc + 4#64) else d
      some (d.takeInterrupt h n)
    | none => none
  else none

/-- INTERRUPT_ENTRY (R283, R284). -/
def execInterruptEntry (p : Pair) (s : State) : Host.Outcome State Fault Refusal :=
  onCtl s fun d => (d.interrupted (pairIx p)).getD d

/-- The latest epoch number L of an event (R287): epoch time, acquisition close, publish instant. -/
def Device.latest (d : Device) (ev : Fin 3) : Word :=
  match ev with
  | 0 => d.rget FLK_EPNUM
  | 1 => d.rget ACQ_LASTEP
  | 2 => d.rget PUB_CEP

/-- L is newer than an epoch number (R287). -/
def newer (l than : Word) : Bool := decide (1 ≤ (l - than).toNat) && decide ((l - than).toNat < 2147483648)

/-- An epoch wait (R287). (DEDUCED, log 95.) -/
def epwOp (x : Ctx) (fn : Nat) (ev : Fin 3) (rd rs1 : RegNo) (s : State) : Host.Outcome State Fault Refusal :=
  coreOp x (encR x.guard 0x25 rd.val rs1.val 0 fn) (fun h d =>
    let than := low32 (d.gv h rs1)
    if newer (d.latest ev) than then .retire (d.setGv h rd ((d.latest ev).setWidth 64)) else .wait d (.epochs ev rd than)) s

/-- EPW.E (R287). -/
def execEpwE (x : Ctx) (rd rs1 : RegNo) (s : State) : Host.Outcome State Fault Refusal := epwOp x 0x08 0 rd rs1 s
/-- EPW.C (R287). -/
def execEpwC (x : Ctx) (rd rs1 : RegNo) (s : State) : Host.Outcome State Fault Refusal := epwOp x 0x09 1 rd rs1 s
/-- EPW.P (R287). -/
def execEpwP (x : Ctx) (rd rs1 : RegNo) (s : State) : Host.Outcome State Fault Refusal := epwOp x 0x0A 2 rd rs1 s

/-- The end of an epoch wait of pair h (R287, R297): a pending enabled interrupt comes first; `always` is the timeout. -/
def Device.epochWaitOver (d : Device) (h : Nat) (always : Bool) : Device :=
  match (d.corePair h).wait with
  | .epochs ev rd than =>
    if !d.coreActs h then d
    else match d.interrupted h with
      | some d => d
      | none =>
        if always || newer (d.latest ev) than then
          (d.setGv h rd ((d.latest ev).setWidth 64)).retireAt h ((d.corePair h).pc + 4#64)
        else d
  | _ => d

/-- EPOCH_WAIT_END (R287, R297). -/
def execEpochWaitEnd (p : Pair) (s : State) : Host.Outcome State Fault Refusal := onCtl s fun d => d.epochWaitOver (pairIx p) false

/-- EPOCH_WAIT_TIMEOUT (R287): 200 ms without a newer event. -/
def execEpochWaitTimeout (p : Pair) (s : State) : Host.Outcome State Fault Refusal := onCtl s fun d => d.epochWaitOver (pairIx p) true

/-- SIGA (R288). -/
def execSiga (x : Ctx) (c : Half) (s : State) : Host.Outcome State Fault Refusal :=
  coreOp x (encU x.guard 0x27 0 c.toNat) (fun h d =>
    .retire (d.setCore h fun p => { p with sig := p.sig.rotateLeft 3 ^^^ c.setWidth 32 })) s

/-- SIGS (R288). -/
def execSigs (x : Ctx) (rs1 : RegNo) (s : State) : Host.Outcome State Fault Refusal :=
  coreOp x (encR x.guard 0x2C 0 rs1.val 0 1) (fun h d => .retire (d.setCore h fun p => { p with sig := low32 (gAt p.g rs1) })) s

/-- SIGC (R283, R288): SIG is 0 afterwards, whether or not the check raises its exception. -/
def execSigc (x : Ctx) (rs1 : RegNo) (s : State) : Host.Outcome State Fault Refusal :=
  coreOp x (encR x.guard 0x2C 0 rs1.val 0 0) (fun h d =>
    let sig := (d.corePair h).sig
    let ok := sig == low32 (d.gv h rs1)
    let d := d.setCore h fun p => { p with sig := 0#32 }
    if ok then .retire d else .trap d 0x0C (sig.setWidth 64)) s

end Sys2Proof.Machine
end

