-- ==== Sys2Proof/Machine/Dispatch.lean ====
section
/-! DEFINITION. The meaning of every command: one arm for each, one direct call of its meaning. -/

namespace Sys2Proof.Machine

/-- A command's effect on everything but the queue. -/
def exec (i : Instr) (s : State) : Host.Outcome State Fault Refusal :=
  match i with
  | .registerWrite ini addr val => Sys2Proof.Machine.execRegisterWrite ini addr val s
  | .lockSet ini blk => Sys2Proof.Machine.execLockSet ini blk s
  | .epochTime ones => Sys2Proof.Machine.execEpochTime ones s
  | .throttleStep => Sys2Proof.Machine.execThrottleStep s
  | .clockMonitorWindow rootCycles => Sys2Proof.Machine.execClockMonitorWindow rootCycles s
  | .pllLock => Sys2Proof.Machine.execPllLock s
  | .modeRequestWatch => Sys2Proof.Machine.execModeRequestWatch s
  | .modeRequestDormant => Sys2Proof.Machine.execModeRequestDormant s
  | .modeRequestMuster => Sys2Proof.Machine.execModeRequestMuster s
  | .modeRequestReady => Sys2Proof.Machine.execModeRequestReady s
  | .modeRequestPrecharge b => Sys2Proof.Machine.execModeRequestPrecharge b s
  | .modeRequestTripped => Sys2Proof.Machine.execModeRequestTripped s
  | .wakePin => Sys2Proof.Machine.execWakePin s
  | .canWake => Sys2Proof.Machine.execCanWake s
  | .toneAbsent p => Sys2Proof.Machine.execToneAbsent p s
  | .rtcAlarm => Sys2Proof.Machine.execRtcAlarm s
  | .tripAckRelease => Sys2Proof.Machine.execTripAckRelease s
  | .tripClearKey key => Sys2Proof.Machine.execTripClearKey key s
  | .tripClearWindowExpiry => Sys2Proof.Machine.execTripClearWindowExpiry s
  | .musterSelftestsDone r => Sys2Proof.Machine.execMusterSelftestsDone r s
  | .pResetPin => Sys2Proof.Machine.execPResetPin s
  | .vfieldRise => Sys2Proof.Machine.execVfieldRise s
  | .wResetPin => Sys2Proof.Machine.execWResetPin s
  | .wResetSoftware key => Sys2Proof.Machine.execWResetSoftware key s
  | .gReset blk unit => Sys2Proof.Machine.execGReset blk unit s
  | .appDomainRelease => Sys2Proof.Machine.execAppDomainRelease s
  | .holdReassert key => Sys2Proof.Machine.execHoldReassert key s
  | .holdWindowExpiry => Sys2Proof.Machine.execHoldWindowExpiry s
  | .holdExpirySecondStage => Sys2Proof.Machine.execHoldExpirySecondStage s
  | .operationTimeout op => Sys2Proof.Machine.execOperationTimeout op s
  | .timeCounterCarry c => Sys2Proof.Machine.execTimeCounterCarry c s
  | .latchingLowWordRead r => Sys2Proof.Machine.execLatchingLowWordRead r s
  | .controlDiePowerUp => Sys2Proof.Machine.execControlDiePowerUp s
  | .wakeFromS3 => Sys2Proof.Machine.execWakeFromS3 s
  | .bellRing absent => Sys2Proof.Machine.execBellRing absent s
  | .bellCheck p => Sys2Proof.Machine.execBellCheck p s
  | .markerInject => Sys2Proof.Machine.execMarkerInject s
  | .recordPhaseLinkTake => Sys2Proof.Machine.execRecordPhaseLinkTake s
  | .recordPhaseEnd p => Sys2Proof.Machine.execRecordPhaseEnd p s
  | .commandIntervalStart => Sys2Proof.Machine.execCommandIntervalStart s
  | .commandFrameStart p => Sys2Proof.Machine.execCommandFrameStart p s
  | .replyFrame p f rtQns => Sys2Proof.Machine.execReplyFrame p f rtQns s
  | .retryDeadline p => Sys2Proof.Machine.execRetryDeadline p s
  | .recordReceived p r => Sys2Proof.Machine.execRecordReceived p r s
  | .positionMissing p q => Sys2Proof.Machine.execPositionMissing p q s
  | .alarmReceived p arg => Sys2Proof.Machine.execAlarmReceived p arg s
  | .traceArrival k delayQns => Sys2Proof.Machine.execTraceArrival k delayQns s
  | .linkLoss p => Sys2Proof.Machine.execLinkLoss p s
  | .enumerate ring all gen => Sys2Proof.Machine.execEnumerate ring all gen s
  | .calibrate ring all gen => Sys2Proof.Machine.execCalibrate ring all gen s
  | .enumerateAndCalibrate ring all gen => Sys2Proof.Machine.execEnumerateAndCalibrate ring all gen s
  | .enumerationDone => Sys2Proof.Machine.execEnumerationDone s
  | .calibrationDone => Sys2Proof.Machine.execCalibrationDone s
  | .commandQueue p gen => Sys2Proof.Machine.execCommandQueue p gen s
  | .replySpaceRelease p => Sys2Proof.Machine.execReplySpaceRelease p s
  | .periodWrite per => Sys2Proof.Machine.execPeriodWrite per s
  | .nodeTimerWrite tstr tbal => Sys2Proof.Machine.execNodeTimerWrite tstr tbal s
  | .portFence p => Sys2Proof.Machine.execPortFence p s
  | .nodePowerUp k id => Sys2Proof.Machine.execNodePowerUp k id s
  | .nodeInternalFault k => Sys2Proof.Machine.execNodeInternalFault k s
  | .nodeMarker k side arg => Sys2Proof.Machine.execNodeMarker k side arg s
  | .nodeMarkerLost k => Sys2Proof.Machine.execNodeMarkerLost k s
  | .nodeWindowOpen k sioff => Sys2Proof.Machine.execNodeWindowOpen k sioff s
  | .nodeWindowEnd k => Sys2Proof.Machine.execNodeWindowEnd k s
  | .nodeRecordSend k m train2 => Sys2Proof.Machine.execNodeRecordSend k m train2 s
  | .nodeBalancePause k => Sys2Proof.Machine.execNodeBalancePause k s
  | .nodeBell k side count => Sys2Proof.Machine.execNodeBell k side count s
  | .nodeBellAbsentTstr k => Sys2Proof.Machine.execNodeBellAbsentTstr k s
  | .nodeBellAbsentTbal k => Sys2Proof.Machine.execNodeBellAbsentTbal k s
  | .nodeBellAbsentSleep k => Sys2Proof.Machine.execNodeBellAbsentSleep k s
  | .nodeWhistle k side arg => Sys2Proof.Machine.execNodeWhistle k side arg s
  | .nodeComparatorSample k cell temp => Sys2Proof.Machine.execNodeComparatorSample k cell temp s
  | .nodeAlarmResend k => Sys2Proof.Machine.execNodeAlarmResend k s
  | .nodeAlarmRetry k => Sys2Proof.Machine.execNodeAlarmRetry k s
  | .nodeSwitchFeedback k closed => Sys2Proof.Machine.execNodeSwitchFeedback k closed s
  | .nodeBalancePlanEnd k => Sys2Proof.Machine.execNodeBalancePlanEnd k s
  | .nodeOverTemperature k => Sys2Proof.Machine.execNodeOverTemperature k s
  | .nodeTemperatureRecovered k => Sys2Proof.Machine.execNodeTemperatureRecovered k s
  | .nodeBswTestSlot k c offUa onMv => Sys2Proof.Machine.execNodeBswTestSlot k c offUa onMv s
  | .nodeSleepCheck k m fault => Sys2Proof.Machine.execNodeSleepCheck k m fault s
  | .nodeToneBurst k => Sys2Proof.Machine.execNodeToneBurst k s
  | .nodeToneReceived k side => Sys2Proof.Machine.execNodeToneReceived k side s
  | .nodeWakeIdle k side => Sys2Proof.Machine.execNodeWakeIdle k side s
  | .assign k h pos => Sys2Proof.Machine.execAssign k h pos s
  | .setring k h n fl => Sys2Proof.Machine.execSetring k h n fl s
  | .ping k h => Sys2Proof.Machine.execPing k h s
  | .setdelay k h da db valid => Sys2Proof.Machine.execSetdelay k h da db valid s
  | .trace k h seqn => Sys2Proof.Machine.execTrace k h seqn s
  | .setper k h per eff => Sys2Proof.Machine.execSetper k h per eff s
  | .settim k h tstr tbal tone => Sys2Proof.Machine.execSettim k h tstr tbal tone s
  | .config k h cellm tempm => Sys2Proof.Machine.execConfig k h cellm tempm s
  | .setcmp k h ov uv ot => Sys2Proof.Machine.execSetcmp k h ov uv ot s
  | .balance k h mask dur => Sys2Proof.Machine.execBalance k h mask dur s
  | .stopbal k h => Sys2Proof.Machine.execStopbal k h s
  | .switch k h act bell => Sys2Proof.Machine.execSwitch k h act bell s
  | .setdiag k h ows bswb bswk refs => Sys2Proof.Machine.execSetdiag k h ows bswb bswk refs s
  | .owtest k h group eff => Sys2Proof.Machine.execOwtest k h group eff s
  | .bswtest k h mask => Sys2Proof.Machine.execBswtest k h mask s
  | .diagrd k h => Sys2Proof.Machine.execDiagrd k h s
  | .readid k h element answers => Sys2Proof.Machine.execReadid k h element answers s
  | .sleep k h chk ov uv ot ut => Sys2Proof.Machine.execSleep k h chk ov uv ot ut s
  | .release k h => Sys2Proof.Machine.execRelease k h s
  | .epochClose => Sys2Proof.Machine.execEpochClose s
  | .wireSuspectTimeout n w => Sys2Proof.Machine.execWireSuspectTimeout n w s
  | .acqScoreboardWrite => Sys2Proof.Machine.execAcqScoreboardWrite s
  | .modidLoad idx => Sys2Proof.Machine.execModidLoad idx s
  | .lceWrite en lcth => Sys2Proof.Machine.execLceWrite en lcth s
  | .bmiFilterOutput inp num => Sys2Proof.Machine.execBmiFilterOutput inp num s
  | .fastFilterOutput inp num => Sys2Proof.Machine.execFastFilterOutput inp num s
  | .stuckTimeout inp => Sys2Proof.Machine.execStuckTimeout inp s
  | .fastBandWrite inp lo hi => Sys2Proof.Machine.execFastBandWrite inp lo hi s
  | .imdPhaseTimer b m => Sys2Proof.Machine.execImdPhaseTimer b m s
  | .scorerStart => Sys2Proof.Machine.execScorerStart s
  | .scorerStop => Sys2Proof.Machine.execScorerStop s
  | .sweepStart => Sys2Proof.Machine.execSweepStart s
  | .invocationRetire l f => Sys2Proof.Machine.execInvocationRetire l f s
  | .publishInstant => Sys2Proof.Machine.execPublishInstant s
  | .staleTimeout => Sys2Proof.Machine.execStaleTimeout s
  | .pubInitDone => Sys2Proof.Machine.execPubInitDone s
  | .kernelLoad slot gen => Sys2Proof.Machine.execKernelLoad slot gen s
  | .kernelLoadDone => Sys2Proof.Machine.execKernelLoadDone s
  | .kernelSelect slot => Sys2Proof.Machine.execKernelSelect slot s
  | .lutDataAccess wr => Sys2Proof.Machine.execLutDataAccess wr s
  | .jobStart slot gen => Sys2Proof.Machine.execJobStart slot gen s
  | .jobDone => Sys2Proof.Machine.execJobDone s
  | .laneFenceWrite mask => Sys2Proof.Machine.execLaneFenceWrite mask s
  | .penConfirmDeadline s_ => Sys2Proof.Machine.execPenConfirmDeadline s_ s
  | .band1Persistence b => Sys2Proof.Machine.execBand1Persistence b s
  | .channelComparePass => Sys2Proof.Machine.execChannelComparePass s
  | .channelDisagree => Sys2Proof.Machine.execChannelDisagree s
  | .heartbeatTimeout => Sys2Proof.Machine.execHeartbeatTimeout s
  | .tripNSensed => Sys2Proof.Machine.execTripNSensed s
  | .arm => Sys2Proof.Machine.execArm s
  | .disarm => Sys2Proof.Machine.execDisarm s
  | .tableCompareWrite gen => Sys2Proof.Machine.execTableCompareWrite gen s
  | .loosenKey key => Sys2Proof.Machine.execLoosenKey key s
  | .loosenWindowExpiry => Sys2Proof.Machine.execLoosenWindowExpiry s
  | .penRelease s_ all => Sys2Proof.Machine.execPenRelease s_ all s
  | .bankRelease b => Sys2Proof.Machine.execBankRelease b s
  | .bankConnect b gen => Sys2Proof.Machine.execBankConnect b gen s
  | .bankOpen b force gen => Sys2Proof.Machine.execBankOpen b force gen s
  | .bankAbort b gen => Sys2Proof.Machine.execBankAbort b gen s
  | .clearWeld b gen => Sys2Proof.Machine.execClearWeld b gen s
  | .armatureMovement d t => Sys2Proof.Machine.execArmatureMovement d t s
  | .pullInEnd d => Sys2Proof.Machine.execPullInEnd d s
  | .w0End b => Sys2Proof.Machine.execW0End b s
  | .prechargeEval b => Sys2Proof.Machine.execPrechargeEval b s
  | .prechargeRelease b => Sys2Proof.Machine.execPrechargeRelease b s
  | .openGapExpiry b => Sys2Proof.Machine.execOpenGapExpiry b s
  | .coilCurrentZero b => Sys2Proof.Machine.execCoilCurrentZero b s
  | .openCheckEnd b => Sys2Proof.Machine.execOpenCheckEnd b s
  | .auxCheck d level => Sys2Proof.Machine.execAuxCheck d level s
  | .resistorModelTick => Sys2Proof.Machine.execResistorModelTick s
  | .outputCurrentLimit d => Sys2Proof.Machine.execOutputCurrentLimit d s
  | .coilCurrentLow d vfieldAtLeast9 => Sys2Proof.Machine.execCoilCurrentLow d vfieldAtLeast9 s
  | .seriesSwitchTest d fell => Sys2Proof.Machine.execSeriesSwitchTest d fell s
  | .driversDisable => Sys2Proof.Machine.execDriversDisable s
  | .shadowReleased d => Sys2Proof.Machine.execShadowReleased d s
  | .shadowReleaseTimeout b => Sys2Proof.Machine.execShadowReleaseTimeout b s
  | .lockstepMismatch p grp => Sys2Proof.Machine.execLockstepMismatch p grp s
  | .comparatorFault p grp => Sys2Proof.Machine.execComparatorFault p grp s
  | .scrubLine p r => Sys2Proof.Machine.execScrubLine p r s
  | .testSlot p r => Sys2Proof.Machine.execTestSlot p r s
  | .watchdogExpiry p => Sys2Proof.Machine.execWatchdogExpiry p s
  | .watchdogKick p key => Sys2Proof.Machine.execWatchdogKick p key s
  | .softwareInterruptSet p => Sys2Proof.Machine.execSoftwareInterruptSet p s
  | .softwareInterruptClear p => Sys2Proof.Machine.execSoftwareInterruptClear p s
  | .interruptEntry p => Sys2Proof.Machine.execInterruptEntry p s
  | .thermalSample v => Sys2Proof.Machine.execThermalSample v s
  | .budgetStepDown => Sys2Proof.Machine.execBudgetStepDown s
  | .sensorFailHoldExpiry => Sys2Proof.Machine.execSensorFailHoldExpiry s
  | .orderlyTripSecondStage => Sys2Proof.Machine.execOrderlyTripSecondStage s
  | .shutdownComparator c => Sys2Proof.Machine.execShutdownComparator c s
  | .shutdownGraceExpiry => Sys2Proof.Machine.execShutdownGraceExpiry s
  | .thermalRecoveryPowerUp => Sys2Proof.Machine.execThermalRecoveryPowerUp s
  | .bucketFill => Sys2Proof.Machine.execBucketFill s
  | .jobDispatch => Sys2Proof.Machine.execJobDispatch s
  | .sleepRequest => Sys2Proof.Machine.execSleepRequest s
  | .sleepDeadlineWake => Sys2Proof.Machine.execSleepDeadlineWake s
  | .nvmWrite gen => Sys2Proof.Machine.execNvmWrite gen s
  | .nvmAppend gen => Sys2Proof.Machine.execNvmAppend gen s
  | .nvmRowStart => Sys2Proof.Machine.execNvmRowStart s
  | .nvmRowDone => Sys2Proof.Machine.execNvmRowDone s
  | .journalScanDone => Sys2Proof.Machine.execJournalScanDone s
  | .motorStart u gen => Sys2Proof.Machine.execMotorStart u gen s
  | .motorStop u gen => Sys2Proof.Machine.execMotorStop u gen s
  | .motorCoast u gen => Sys2Proof.Machine.execMotorCoast u gen s
  | .motorClear u gen => Sys2Proof.Machine.execMotorClear u gen s
  | .speedReferenceWrite u sref => Sys2Proof.Machine.execSpeedReferenceWrite u sref s
  | .motorDisable u => Sys2Proof.Machine.execMotorDisable u s
  | .motorFence mask => Sys2Proof.Machine.execMotorFence mask s
  | .currentLoopPeriod u m => Sys2Proof.Machine.execCurrentLoopPeriod u m s
  | .catchDecayDone u => Sys2Proof.Machine.execCatchDecayDone u s
  | .catchMeasureDone u rpm => Sys2Proof.Machine.execCatchMeasureDone u rpm s
  | .alignDone u => Sys2Proof.Machine.execAlignDone u s
  | .noHandoverTimeout u => Sys2Proof.Machine.execNoHandoverTimeout u s
  | .reverseRetryTimer u => Sys2Proof.Machine.execReverseRetryTimer u s
  | .observerLoss u => Sys2Proof.Machine.execObserverLoss u s
  | .resyncTimeout u => Sys2Proof.Machine.execResyncTimeout u s
  | .phaseOverCurrent u => Sys2Proof.Machine.execPhaseOverCurrent u s
  | .stageFault u => Sys2Proof.Machine.execStageFault u s
  | .converterSelfCheck u within1pc => Sys2Proof.Machine.execConverterSelfCheck u within1pc s
  | .busUvRecovery u => Sys2Proof.Machine.execBusUvRecovery u s
  | .motorLaneFault u => Sys2Proof.Machine.execMotorLaneFault u s
  | .loadTurnOn mask => Sys2Proof.Machine.execLoadTurnOn mask s
  | .loadTurnOff mask => Sys2Proof.Machine.execLoadTurnOff mask s
  | .latchClear mask => Sys2Proof.Machine.execLatchClear mask s
  | .inrushEnd n aboveLimit => Sys2Proof.Machine.execInrushEnd n aboveLimit s
  | .loadOverCurrent n => Sys2Proof.Machine.execLoadOverCurrent n s
  | .retryDue n => Sys2Proof.Machine.execRetryDue n s
  | .deferredRetry j => Sys2Proof.Machine.execDeferredRetry j s
  | .overCurrentCountReset n => Sys2Proof.Machine.execOverCurrentCountReset n s
  | .openLoadDetect n below => Sys2Proof.Machine.execOpenLoadDetect n below s
  | .offStateDiag n mv => Sys2Proof.Machine.execOffStateDiag n mv s
  | .clampPulseEnd n energy => Sys2Proof.Machine.execClampPulseEnd n energy s
  | .clampEnergyClear n => Sys2Proof.Machine.execClampEnergyClear n s
  | .segmentSupplyFault j f => Sys2Proof.Machine.execSegmentSupplyFault j f s
  | .groundLoss => Sys2Proof.Machine.execGroundLoss s
  | .supplyRestored r => Sys2Proof.Machine.execSupplyRestored r s
  | .stuckOn n => Sys2Proof.Machine.execStuckOn n s
  | .loadFence mask => Sys2Proof.Machine.execLoadFence mask s
  | .canOfflineWrite c offl => Sys2Proof.Machine.execCanOfflineWrite c offl s
  | .canIntegrated c => Sys2Proof.Machine.execCanIntegrated c s
  | .canTxRequest c j mask => Sys2Proof.Machine.execCanTxRequest c j mask s
  | .canTxAbort c j mask => Sys2Proof.Machine.execCanTxAbort c j mask s
  | .canArbitrationStart c ecc => Sys2Proof.Machine.execCanArbitrationStart c ecc s
  | .canTxComplete c e => Sys2Proof.Machine.execCanTxComplete c e s
  | .canFrameReceived c f => Sys2Proof.Machine.execCanFrameReceived c f s
  | .canError c e => Sys2Proof.Machine.execCanError c e s
  | .canRecoveryDone c => Sys2Proof.Machine.execCanRecoveryDone c s
  | .canStatusRead c => Sys2Proof.Machine.execCanStatusRead c s
  | .ethFrameReceived m f => Sys2Proof.Machine.execEthFrameReceived m f s
  | .ethXon m => Sys2Proof.Machine.execEthXon m s
  | .pauseRefresh m => Sys2Proof.Machine.execPauseRefresh m s
  | .ethPauseReceived m quanta => Sys2Proof.Machine.execEthPauseReceived m quanta s
  | .ethFrameTransmit m e => Sys2Proof.Machine.execEthFrameTransmit m e s
  | .ethLinkChange m link spd fd => Sys2Proof.Machine.execEthLinkChange m link spd fd s
  | .mdioAddress m reg phy c45 gen => Sys2Proof.Machine.execMdioAddress m reg phy c45 gen s
  | .mdioWrite m reg phy c45 gen => Sys2Proof.Machine.execMdioWrite m reg phy c45 gen s
  | .mdioRead m reg phy c45 gen => Sys2Proof.Machine.execMdioRead m reg phy c45 gen s
  | .mdioDone m rdata => Sys2Proof.Machine.execMdioDone m rdata s
  | .timestampPop m => Sys2Proof.Machine.execTimestampPop m s
  | .timestampKeySeek m seqid mtype => Sys2Proof.Machine.execTimestampKeySeek m seqid mtype s
  | .timeStepAbsolute gen => Sys2Proof.Machine.execTimeStepAbsolute gen s
  | .timeStepRelative gen => Sys2Proof.Machine.execTimeStepRelative gen s
  | .timeReinitKey key => Sys2Proof.Machine.execTimeReinitKey key s
  | .rateAdjust adj => Sys2Proof.Machine.execRateAdjust adj s
  | .outputArm k pol => Sys2Proof.Machine.execOutputArm k pol s
  | .outputEdge k => Sys2Proof.Machine.execOutputEdge k s
  | .captureEdge k rising => Sys2Proof.Machine.execCaptureEdge k rising s
  | .partnerAliveChange a => Sys2Proof.Machine.execPartnerAliveChange a s
  | .partnerStandbyRateTimeout => Sys2Proof.Machine.execPartnerStandbyRateTimeout s
  | .yieldTimeout => Sys2Proof.Machine.execYieldTimeout s
  | .secondaryActiveTimeout => Sys2Proof.Machine.execSecondaryActiveTimeout s
  | .laneTrained l dly => Sys2Proof.Machine.execLaneTrained l dly s
  | .laneDown l => Sys2Proof.Machine.execLaneDown l s
  | .actionMessage m => Sys2Proof.Machine.execActionMessage m s
  | .epochSummaryReceived s_ => Sys2Proof.Machine.execEpochSummaryReceived s_ s
  | .epochMessage epoch => Sys2Proof.Machine.execEpochMessage epoch s
  | .withdrawMessage => Sys2Proof.Machine.execWithdrawMessage s
  | .sharedStateMirror m => Sys2Proof.Machine.execSharedStateMirror m s
  | .shadowSet d => Sys2Proof.Machine.execShadowSet d s
  | .standbySlotStart => Sys2Proof.Machine.execStandbySlotStart s
  | .pairJoin gen => Sys2Proof.Machine.execPairJoin gen s
  | .configImageReceived => Sys2Proof.Machine.execConfigImageReceived s
  | .pairHand gen => Sys2Proof.Machine.execPairHand gen s
  | .checkpointSend gen => Sys2Proof.Machine.execCheckpointSend gen s
  | .checkpointReceived bytes epoch => Sys2Proof.Machine.execCheckpointReceived bytes epoch s
  | .imageVerifyDone k => Sys2Proof.Machine.execImageVerifyDone k s
  | .bootConfirm key gen => Sys2Proof.Machine.execBootConfirm key gen s
  | .rollbackAdvance fw krn gen => Sys2Proof.Machine.execRollbackAdvance fw krn gen s
  | .lifecycleKey key gen => Sys2Proof.Machine.execLifecycleKey key gen s
  | .keyProgram slot use gen => Sys2Proof.Machine.execKeyProgram slot use gen s
  | .keyRevoke slot gen => Sys2Proof.Machine.execKeyRevoke slot gen s
  | .recoveryImage bytes => Sys2Proof.Machine.execRecoveryImage bytes s
  | .debugChallenge level kslot => Sys2Proof.Machine.execDebugChallenge level kslot s
  | .debugCheck level kslot => Sys2Proof.Machine.execDebugCheck level kslot s
  | .supplyFault r => Sys2Proof.Machine.execSupplyFault r s
  | .supplyQualified => Sys2Proof.Machine.execSupplyQualified s
  | .cpwrRetry => Sys2Proof.Machine.execCpwrRetry s
  | .vfieldLow => Sys2Proof.Machine.execVfieldLow s
  | .vfieldLoss => Sys2Proof.Machine.execVfieldLoss s
  | .illegalInstruction a word => Sys2Proof.Machine.execIllegalInstruction a word s
  | .add x rd rs1 rs2 => Sys2Proof.Machine.execAdd x rd rs1 rs2 s
  | .sub x rd rs1 rs2 => Sys2Proof.Machine.execSub x rd rs1 rs2 s
  | .and x rd rs1 rs2 => Sys2Proof.Machine.execAnd x rd rs1 rs2 s
  | .or x rd rs1 rs2 => Sys2Proof.Machine.execOr x rd rs1 rs2 s
  | .xor x rd rs1 rs2 => Sys2Proof.Machine.execXor x rd rs1 rs2 s
  | .andn x rd rs1 rs2 => Sys2Proof.Machine.execAndn x rd rs1 rs2 s
  | .sll x rd rs1 rs2 => Sys2Proof.Machine.execSll x rd rs1 rs2 s
  | .srl x rd rs1 rs2 => Sys2Proof.Machine.execSrl x rd rs1 rs2 s
  | .sra x rd rs1 rs2 => Sys2Proof.Machine.execSra x rd rs1 rs2 s
  | .rol x rd rs1 rs2 => Sys2Proof.Machine.execRol x rd rs1 rs2 s
  | .min x rd rs1 rs2 => Sys2Proof.Machine.execMin x rd rs1 rs2 s
  | .max x rd rs1 rs2 => Sys2Proof.Machine.execMax x rd rs1 rs2 s
  | .minu x rd rs1 rs2 => Sys2Proof.Machine.execMinu x rd rs1 rs2 s
  | .maxu x rd rs1 rs2 => Sys2Proof.Machine.execMaxu x rd rs1 rs2 s
  | .clz x rd rs1 => Sys2Proof.Machine.execClz x rd rs1 s
  | .popc x rd rs1 => Sys2Proof.Machine.execPopc x rd rs1 s
  | .addw x rd rs1 rs2 => Sys2Proof.Machine.execAddw x rd rs1 rs2 s
  | .subw x rd rs1 rs2 => Sys2Proof.Machine.execSubw x rd rs1 rs2 s
  | .sllw x rd rs1 rs2 => Sys2Proof.Machine.execSllw x rd rs1 rs2 s
  | .srlw x rd rs1 rs2 => Sys2Proof.Machine.execSrlw x rd rs1 rs2 s
  | .sraw x rd rs1 rs2 => Sys2Proof.Machine.execSraw x rd rs1 rs2 s
  | .mul x rd rs1 rs2 => Sys2Proof.Machine.execMul x rd rs1 rs2 s
  | .mulh x rd rs1 rs2 => Sys2Proof.Machine.execMulh x rd rs1 rs2 s
  | .mulhu x rd rs1 rs2 => Sys2Proof.Machine.execMulhu x rd rs1 rs2 s
  | .mulw x rd rs1 rs2 => Sys2Proof.Machine.execMulw x rd rs1 rs2 s
  | .div x rd rs1 rs2 => Sys2Proof.Machine.execDiv x rd rs1 rs2 s
  | .divu x rd rs1 rs2 => Sys2Proof.Machine.execDivu x rd rs1 rs2 s
  | .rem x rd rs1 rs2 => Sys2Proof.Machine.execRem x rd rs1 rs2 s
  | .remu x rd rs1 rs2 => Sys2Proof.Machine.execRemu x rd rs1 rs2 s
  | .divw x rd rs1 rs2 => Sys2Proof.Machine.execDivw x rd rs1 rs2 s
  | .divuw x rd rs1 rs2 => Sys2Proof.Machine.execDivuw x rd rs1 rs2 s
  | .remw x rd rs1 rs2 => Sys2Proof.Machine.execRemw x rd rs1 rs2 s
  | .remuw x rd rs1 rs2 => Sys2Proof.Machine.execRemuw x rd rs1 rs2 s
  | .adds x rd rs1 rs2 => Sys2Proof.Machine.execAdds x rd rs1 rs2 s
  | .subs x rd rs1 rs2 => Sys2Proof.Machine.execSubs x rd rs1 rs2 s
  | .sel x rd rs1 rs2 p => Sys2Proof.Machine.execSel x rd rs1 rs2 p s
  | .addi x rd rs1 imm => Sys2Proof.Machine.execAddi x rd rs1 imm s
  | .andi x rd rs1 imm => Sys2Proof.Machine.execAndi x rd rs1 imm s
  | .ori x rd rs1 imm => Sys2Proof.Machine.execOri x rd rs1 imm s
  | .xori x rd rs1 imm => Sys2Proof.Machine.execXori x rd rs1 imm s
  | .slli x rd rs1 w sh => Sys2Proof.Machine.execSlli x rd rs1 w sh s
  | .srli x rd rs1 w sh => Sys2Proof.Machine.execSrli x rd rs1 w sh s
  | .srai x rd rs1 w sh => Sys2Proof.Machine.execSrai x rd rs1 w sh s
  | .roli x rd rs1 w sh => Sys2Proof.Machine.execRoli x rd rs1 w sh s
  | .moviL x rd v => Sys2Proof.Machine.execMoviL x rd v s
  | .moviH x rd v => Sys2Proof.Machine.execMoviH x rd v s
  | .lb x rd rs1 imm => Sys2Proof.Machine.execLb x rd rs1 imm s
  | .lbu x rd rs1 imm => Sys2Proof.Machine.execLbu x rd rs1 imm s
  | .lh x rd rs1 imm => Sys2Proof.Machine.execLh x rd rs1 imm s
  | .lhu x rd rs1 imm => Sys2Proof.Machine.execLhu x rd rs1 imm s
  | .lw x rd rs1 imm => Sys2Proof.Machine.execLw x rd rs1 imm s
  | .lwu x rd rs1 imm => Sys2Proof.Machine.execLwu x rd rs1 imm s
  | .ld x rd rs1 imm => Sys2Proof.Machine.execLd x rd rs1 imm s
  | .sb x rs2 rs1 imm => Sys2Proof.Machine.execSb x rs2 rs1 imm s
  | .sh x rs2 rs1 imm => Sys2Proof.Machine.execSh x rs2 rs1 imm s
  | .sw x rs2 rs1 imm => Sys2Proof.Machine.execSw x rs2 rs1 imm s
  | .sd x rs2 rs1 imm => Sys2Proof.Machine.execSd x rs2 rs1 imm s
  | .fld x rd rs1 imm => Sys2Proof.Machine.execFld x rd rs1 imm s
  | .fsd x rs2 rs1 imm => Sys2Proof.Machine.execFsd x rs2 rs1 imm s
  | .br x off => Sys2Proof.Machine.execBr x off s
  | .call x off => Sys2Proof.Machine.execCall x off s
  | .jr x rd rs1 => Sys2Proof.Machine.execJr x rd rs1 s
  | .loopn x rs max len => Sys2Proof.Machine.execLoopn x rs max len s
  | .cmp x pd fn rs1 rs2 => Sys2Proof.Machine.execCmp x pd fn rs1 rs2 s
  | .cmpi x pd fn rs1 imm => Sys2Proof.Machine.execCmpi x pd fn rs1 imm s
  | .cmpiu x pd fn rs1 imm => Sys2Proof.Machine.execCmpiu x pd fn rs1 imm s
  | .fcmp x pd fn rs1 rs2 => Sys2Proof.Machine.execFcmp x pd fn rs1 rs2 s
  | .plogAnd x pd a b => Sys2Proof.Machine.execPlogAnd x pd a b s
  | .plogOr x pd a b => Sys2Proof.Machine.execPlogOr x pd a b s
  | .plogXor x pd a b => Sys2Proof.Machine.execPlogXor x pd a b s
  | .plogAndn x pd a b => Sys2Proof.Machine.execPlogAndn x pd a b s
  | .plogSet x pd => Sys2Proof.Machine.execPlogSet x pd s
  | .plogClr x pd => Sys2Proof.Machine.execPlogClr x pd s
  | .plogTst x pd rs1 => Sys2Proof.Machine.execPlogTst x pd rs1 s
  | .fadd x rd rs1 rs2 => Sys2Proof.Machine.execFadd x rd rs1 rs2 s
  | .fsub x rd rs1 rs2 => Sys2Proof.Machine.execFsub x rd rs1 rs2 s
  | .fmul x rd rs1 rs2 => Sys2Proof.Machine.execFmul x rd rs1 rs2 s
  | .fdiv x rd rs1 rs2 => Sys2Proof.Machine.execFdiv x rd rs1 rs2 s
  | .fsqrt x rd rs1 => Sys2Proof.Machine.execFsqrt x rd rs1 s
  | .fmin x rd rs1 rs2 => Sys2Proof.Machine.execFmin x rd rs1 rs2 s
  | .fmax x rd rs1 rs2 => Sys2Proof.Machine.execFmax x rd rs1 rs2 s
  | .fabs x rd rs1 => Sys2Proof.Machine.execFabs x rd rs1 s
  | .fneg x rd rs1 => Sys2Proof.Machine.execFneg x rd rs1 s
  | .fmac x rd rs1 rs2 => Sys2Proof.Machine.execFmac x rd rs1 rs2 s
  | .fmvFg x rd rs1 => Sys2Proof.Machine.execFmvFg x rd rs1 s
  | .fmvGf x rd rs1 => Sys2Proof.Machine.execFmvGf x rd rs1 s
  | .fcvtFg x rd rs1 => Sys2Proof.Machine.execFcvtFg x rd rs1 s
  | .fcvtFgu x rd rs1 => Sys2Proof.Machine.execFcvtFgu x rd rs1 s
  | .fcvtGfRne x rd rs1 => Sys2Proof.Machine.execFcvtGfRne x rd rs1 s
  | .fcvtGfRtz x rd rs1 => Sys2Proof.Machine.execFcvtGfRtz x rd rs1 s
  | .fcvtGfRdn x rd rs1 => Sys2Proof.Machine.execFcvtGfRdn x rd rs1 s
  | .fcvtGfRup x rd rs1 => Sys2Proof.Machine.execFcvtGfRup x rd rs1 s
  | .fcvtGfRna x rd rs1 => Sys2Proof.Machine.execFcvtGfRna x rd rs1 s
  | .fsel x rd rs1 rs2 p => Sys2Proof.Machine.execFsel x rd rs1 rs2 p s
  | .csrr x rd c => Sys2Proof.Machine.execCsrr x rd c s
  | .csrw x rd c rs1 => Sys2Proof.Machine.execCsrw x rd c rs1 s
  | .csrs x rd c rs1 => Sys2Proof.Machine.execCsrs x rd c rs1 s
  | .csrc x rd c rs1 => Sys2Proof.Machine.execCsrc x rd c rs1 s
  | .ecall x => Sys2Proof.Machine.execEcall x s
  | .eret x => Sys2Proof.Machine.execEret x s
  | .wfi x => Sys2Proof.Machine.execWfi x s
  | .wfiWake p => Sys2Proof.Machine.execWfiWake p s
  | .brk x => Sys2Proof.Machine.execBrk x s
  | .fence x => Sys2Proof.Machine.execFence x s
  | .fenceIo x => Sys2Proof.Machine.execFenceIo x s
  | .fenceIoComplete p => Sys2Proof.Machine.execFenceIoComplete p s
  | .fenceI x => Sys2Proof.Machine.execFenceI x s
  | .epwE x rd rs1 => Sys2Proof.Machine.execEpwE x rd rs1 s
  | .epwC x rd rs1 => Sys2Proof.Machine.execEpwC x rd rs1 s
  | .epwP x rd rs1 => Sys2Proof.Machine.execEpwP x rd rs1 s
  | .epochWaitEnd p => Sys2Proof.Machine.execEpochWaitEnd p s
  | .epochWaitTimeout p => Sys2Proof.Machine.execEpochWaitTimeout p s
  | .end_ x => Sys2Proof.Machine.execEnd x s
  | .nop x => Sys2Proof.Machine.execNop x s
  | .casW x rd rs1 rs2 => Sys2Proof.Machine.execCasW x rd rs1 rs2 s
  | .casD x rd rs1 rs2 => Sys2Proof.Machine.execCasD x rd rs1 rs2 s
  | .siga x c => Sys2Proof.Machine.execSiga x c s
  | .sigs x rs1 => Sys2Proof.Machine.execSigs x rs1 s
  | .sigc x rs1 => Sys2Proof.Machine.execSigc x rs1 s
  | .kldW x rd k => Sys2Proof.Machine.execKldW x rd k s
  | .kldWs x rd k => Sys2Proof.Machine.execKldWs x rd k s
  | .kldL x rd k => Sys2Proof.Machine.execKldL x rd k s
  | .kldLs x rd k => Sys2Proof.Machine.execKldLs x rd k s
  | .kldH x rd k => Sys2Proof.Machine.execKldH x rd k s
  | .kldHs x rd k => Sys2Proof.Machine.execKldHs x rd k s
  | .kldD x rd k => Sys2Proof.Machine.execKldD x rd k s
  | .kstW x k rs1 => Sys2Proof.Machine.execKstW x k rs1 s
  | .kstL x k rs1 => Sys2Proof.Machine.execKstL x k rs1 s
  | .kstH x k rs1 => Sys2Proof.Machine.execKstH x k rs1 s
  | .kstD x k rs1 => Sys2Proof.Machine.execKstD x k rs1 s
  | .lut x rd rs1 t => Sys2Proof.Machine.execLut x rd rs1 t s
  | .pubq x kind rs1 => Sys2Proof.Machine.execPubq x kind rs1 s
  | .releaseTestComplete p pass => Sys2Proof.Machine.execReleaseTestComplete p pass s
  | .sleepEntryComplete => Sys2Proof.Machine.execSleepEntryComplete s
  | .pauseExpiry m => Sys2Proof.Machine.execPauseExpiry m s
  | .tripAckAssert => Sys2Proof.Machine.execTripAckAssert s
  | .markerCheck p => Sys2Proof.Machine.execMarkerCheck p s
  | .markerAtListenEnd p m => Sys2Proof.Machine.execMarkerAtListenEnd p m s
  | .shadowReleaseReceived mask => Sys2Proof.Machine.execShadowReleaseReceived mask s
  | .debugHalt p step => Sys2Proof.Machine.execDebugHalt p step s
  | .scanExtest => Sys2Proof.Machine.execScanExtest s

end Sys2Proof.Machine
end

