-- ==== Sys2Proof/Machine/Step.lean ====
section
/-! DEFINITION. One step: the command at the front of the queue, or one FAB cycle of time on an empty queue. -/

namespace Sys2Proof.Machine

/-- Take the command at the front of the queue and carry it out with the rest of the queue; on an empty queue one FAB cycle
(4 ns) passes (R22). (DESIGN CHOICE, log 1, 2, 100.) -/
def step (s : State) : Host.Outcome State Fault Refusal :=
  match s.pending with
  | [] => onDev s Device.tick
  | c :: rest => exec c { s with pending := rest }

/-- `s` with the command that a word spells by the opcode table's bits at the front of its queue; `s` where it spells none.
(DESIGN CHOICE, log 2.) -/
def State.withFetchWord (s : State) (nbits w : Nat) : State :=
  match decodeTableWord nbits w with
  | some c => { s with pending := c :: s.pending }
  | none => s

end Sys2Proof.Machine
end

