-- ==== Sys2Proof/Safety.lean ====
section
/-! DEFINITION. What counts as a safe state and a safe run, and the words that the statements use. -/

namespace Sys2Proof

open Machine

/-- A safe state: TRIPPED implies the trip latch (R38), and wherever a series switch has to be off (R247, R321) its driver
sources no current and no bank counts as CLOSED or PRECHARGING through it (R230, R263, R465). -/
def SafeState (s : State) : Prop := s.dev.settled = true

/-- A safe step answers a next state that is safe: no command stops this machine. -/
def SafeStep (s : State) : Prop := ∃ t, step s = .next t ∧ SafeState t

/-- The states of `n` steps from `s` exist and are safe. -/
def SafeRun : Nat → State → Prop
  | 0, s => SafeState s
  | n + 1, s => SafeState s ∧ ∃ t, step s = .next t ∧ SafeRun n t

namespace Machine

/-- The state after a command whose effect on the device is `d`: the queue stays, and what follows in the same instant from R38,
R247, R465 and R35 is in force. (DEDUCED, log 5.) -/
def State.after (s : State) (d : Device) : State := { s with dev := d.settle }

/-- Nothing of R38, R247, R465 and R35 is left to follow from the state. Every step answers such a state. -/
def Device.Still (d : Device) : Prop := d.settle = d

/-- The state after node k becomes `n`. -/
def State.putNode (s : State) (k : NodeKey) (n : Node) : State :=
  s.after { s.dev with nodes := mapSet (nodeIdx k) n s.dev.nodes }

/-- A command frame of an opcode, received whole and addressed to one assigned node, with the opcode's payload length (R72, R74,
R99, R104). -/
def Node.Addressed (n : Node) (h : CmdHead) (opc len : Nat) : Prop :=
  n.st ≠ .unassigned ∧ badFrame h = false ∧ h.addr ≠ 0xFF#8 ∧ n.apos = some h.addr.toNat ∧ h.opc.toNat = opc ∧ h.len.toNat = len

/-- A command frame of an opcode, received whole by an assigned node and broadcast, with the opcode's payload length (R74, R104). -/
def Node.Broadcast (n : Node) (h : CmdHead) (opc len : Nat) : Prop :=
  n.st ≠ .unassigned ∧ badFrame h = false ∧ h.addr = 0xFF#8 ∧ h.opc.toNat = opc ∧ h.len.toNat = len

/-- The reply to command h: the node's own address, the opcode with bit 7 set, the tag echoed, then the payload (R72). -/
def replied (h : CmdHead) (bytes : List Byte) : Option NodeReply :=
  some ⟨h.addr.toNat, h.opc.toNat + 128, h.tag, bytes⟩

/-- Pair h executes its next instruction, guarded by g: it runs and waits for nothing, no enabled interrupt is pending, the fetch
at its pc completes with no bit error that NVC corrects (R283, R285, R30), and the guard is legal and true (R271). -/
structure CoreReady (d : Device) (h : Nat) (g : Guard) : Prop where
  awake   : d.awake = true
  acts    : d.coreActs h = true
  idle    : (d.corePair h).wait = .none
  calm    : (d.corePair h).ie = true → d.pendingSource h = none
  fetched : (d.fetch h).1 = none
  clean   : regionOf (d.corePair h).pc.toNat = .nvm → d.upsetAt (d.corePair h).pc.toNat 4 false = false
  legal   : g.pg = 0 → g.pn = false
  guarded : guardHolds g (d.corePair h).p = true

/-- Lane l executes its next instruction, guarded by g: it holds a row, has neither ended nor aborted, its pc lies in the kernel
(R268, R290), and the guard is legal and true. -/
structure LaneReady (d : Device) (l : Nat) (g : Guard) : Prop where
  awake   : d.awake = true
  row     : (d.lane l).row.isSome = true
  running : ∃ slot job, d.runningSlot = some (slot, job) ∧ (d.lane l).pc < d.get (SCR_KINFO_LEN slot)
  going   : (d.lane l).ended = false
  whole   : (d.lane l).abort = none
  legal   : g.pg = 0 → g.pn = false
  guarded : guardHolds g (d.lane l).p = true

/-- The agent of an instruction executes it. -/
def Device.Ready (d : Device) (x : Ctx) : Prop :=
  match x.agent with
  | .core p => CoreReady d (pairIx p) x.guard
  | .lane l => LaneReady d l.val x.guard

/-- An instruction of pair h has retired with effect f on its registers: the pc has advanced by 4 and INSTRET by 1. -/
def Device.coreDone (d : Device) (h : Nat) (f : CorePair → CorePair) : Device :=
  d.setCore h fun c => { f c with pc := c.pc + 4#64, instret := c.instret + 1#64, wait := .none, step := false }

/-- Pair h has gone to `pc` with effect f on its registers, and its instruction has retired. -/
def Device.coreTo (d : Device) (h : Nat) (pc : DWord) (f : CorePair → CorePair) : Device :=
  d.setCore h fun c => { f c with pc := pc, instret := c.instret + 1#64, wait := .none, step := false }

/-- An instruction of lane l has completed with effect f on its state, in n cycles of its invocation (R295). -/
def Device.laneDone (d : Device) (l n : Nat) (f : Lane → Lane) : Device := d.setLane l fun v => (f (v.begun n)).next

/-- The agent of x has completed an instruction that acts on its registers only, with effect f; a core accrues the
floating-point conditions that f left (R276), a lane spends n cycles (R295). -/
def State.ran (s : State) (x : Ctx) (n : Nat) (f : Files → Files) : State :=
  match x.agent with
  | .core p => s.after (s.dev.coreDone (pairIx p) fun c =>
      { c with g := (f ⟨c.g, c.f, c.p, 0⟩).g, f := (f ⟨c.g, c.f, c.p, 0⟩).f, p := (f ⟨c.g, c.f, c.p, 0⟩).p,
               fflags := accrue c.fflags (f ⟨c.g, c.f, c.p, 0⟩).fl })
  | .lane l => s.after (s.dev.laneDone l.val n fun v =>
      { v with g := (f ⟨v.g, v.f, v.p, 0⟩).g, f := (f ⟨v.g, v.f, v.p, 0⟩).f, p := (f ⟨v.g, v.f, v.p, 0⟩).p })

/-- No bit error that a read of `n` bytes would meet (R30). -/
def Device.soundAt (d : Device) (a n : Nat) : Bool := !d.upsetAt a n true && !d.upsetAt a n false

/-- An address that pair h reads as memory: its own TCM, or the NVM window, ROM, SRAM, epoch and port buffers, scoreboard. -/
def readsMemory (h a : Nat) : Bool :=
  match regionOf a with
  | .tcm q => pairIx q == h
  | .none => false
  | .periph => false
  | _ => true

end Machine

end Sys2Proof
end

