-- ==== Sys2Proof/Certificates/Slice0/Obligations.lean ====
section
/-! DEFINITION. The statements: what the commands do, by the rules that each names. -/

section

open Sys2Proof Sys2Proof.Machine

/-- R25, R26, R42, R43, R443: what the clock monitor, the PLL, the supplies and the start of the control die do. Readings and
choices of the model that it rests on: log entry 82. -/
def Obligations.ClockAndSupplyEvents : Prop :=
  ∀ s : State,
    (∀ n : Nat, s.dev.awake = true → 3880 ≤ n → n ≤ 4120 →
      exec (.clockMonitorWindow n) s = .next (s.after (s.dev.setFd fun f => { f with clockBadPrev := false }))) ∧
    (∀ n : Nat, s.dev.awake = true → n < 3880 ∨ 4120 < n → s.dev.fd.clockBadPrev = false →
      exec (.clockMonitorWindow n) s = .next (s.after (s.dev.setFd fun f => { f with clockBadPrev := true }))) ∧
    (∀ n : Nat, s.dev.awake = true → n < 3880 ∨ 4120 < n → s.dev.fd.clockBadPrev = true →
      exec (.clockMonitorWindow n) s =
        .next (s.after ((s.dev.setFd fun f => { f with clockBadPrev := true, clockCause := true }).fieldTrip))) ∧
    (s.dev.fd.ctl = .ramping → s.dev.fd.thermal = false →
      exec .supplyQualified s = .next (s.after (s.dev.setFd fun f => { f with ctl := .locking }))) ∧
    (s.dev.fd.ctl = .locking → ∃ t, exec .pllLock s = .next t ∧ t.pending = s.pending ∧ t.dev.fd.ctl = .running ∧
      t.dev.fd.outputsOff = false ∧ t.dev.sys.appHeld = false ∧ t.dev.fd.wakePending = none ∧ t.dev.flk.lastT = s.dev.now) ∧
    (s.dev.fd.ctl = .off → s.dev.fd.thermal = false → s.dev.fd.down ≠ .vfield →
      s.dev.fd.wakePending.isSome = true ∨ s.dev.fd.wakeIdx.isSome = true ∨ s.dev.fd.down = .supply →
      exec .controlDiePowerUp s =
        .next (s.after ((s.dev.pClass false).setFd fun f => { f with ctl := .ramping, sleep := .awake }))) ∧
    (s.dev.fd.sleep = .asleep 3 → s.dev.fd.ctl = .gated →
      s.dev.fd.wakePending.isSome = true ∨ s.dev.fd.wakeIdx.isSome = true →
      exec .wakeFromS3 s =
        .next (s.after (s.dev.wakeS3.setFd fun f => { f with ctl := .locking, sleep := .awake }))) ∧
    (∀ r : Rail, s.dev.fd.ctl = .running →
      exec (.supplyFault r) s = .next (s.after (s.dev.outputsOff.tearRow.powerUp))) ∧
    (s.dev.fd.ctl = .ramping → s.dev.fd.grace = false →
      exec .cpwrRetry s =
        .next (s.after (s.dev.tearRow.setFd fun f => { f with ctl := .off, down := .supply, sleep := .awake, grace := false })))

/-- R333, R340, R444, R445: hardware shutdown, its grace time, thermal recovery, and the field supply. Readings and choices of
the model that it rests on: log entry 82. -/
def Obligations.ShutdownAndFieldSupply : Prop :=
  ∀ s : State,
    (∀ n : Fin 18, s.dev.healthy n.val = false → exec (.shutdownComparator (.comparator n)) s = .next (s.after s.dev)) ∧
    (∀ n : Fin 18, s.dev.healthy n.val = true → s.dev.fd.thermal = false → s.dev.fd.ctl ≠ .off →
      ∃ t, exec (.shutdownComparator (.comparator n)) s = .next t ∧ t.dev.fd.thermal = true ∧ t.dev.fd.grace = true ∧
        t.dev.fd.outputsOff = true ∧ t.dev.fd.tripLatch = true ∧ t.dev.fd.ctl = .ramping) ∧
    (s.dev.fd.grace = true →
      ∃ t, exec .shutdownGraceExpiry s = .next t ∧ t.dev.fd.ctl = .off ∧ t.dev.fd.down = .thermal ∧ t.dev.fd.grace = false ∧
        t.dev.rget SYS_RSTCAUSE = (s.dev.up SYS_RSTCAUSE_THSD).rget SYS_RSTCAUSE) ∧
    (s.dev.fd.thermal = true → s.dev.fd.ctl = .off → s.dev.fd.down ≠ .vfield →
      exec .thermalRecoveryPowerUp s = .next (s.after ((s.dev.setFd fun f => { f with thermal := false }).powerUp))) ∧
    (∃ t, exec .vfieldLow s = .next t ∧ t.dev.fd.ctl = .off ∧ t.dev.fd.down = .vfield ∧ t.dev.fd.outputsOff = true ∧
      t.dev.fd.tripLatch = true ∧ t.dev.fd.wakePending = none) ∧
    (∃ t, exec .vfieldLoss s = .next t ∧ t.dev.fd.lost = true) ∧
    (s.dev.fd.lost = true → exec .vfieldRise s = .next (s.after s.dev.pReset)) ∧
    (s.dev.fd.lost = false → s.dev.fd.ctl = .off → s.dev.fd.down = .vfield → s.dev.fd.thermal = false →
      exec .vfieldRise s = .next (s.after s.dev.powerUp))

/-- R44, R46, R49, R50, R52: reset by pin and by key, block resets, release of the application domain, the hold window's end.
Readings and choices of the model that it rests on: log entries 78, 80, 111. -/
def Obligations.ResetsAndHold : Prop :=
  ∀ s : State,
    exec .pResetPin s = .next (s.after s.dev.pReset) ∧
    (s.dev.awake = true → s.dev.sys.appHeld = true →
      exec .wResetPin s = .next (s.after (s.dev.up SYS_RSTCAUSE_WPIN))) ∧
    (s.dev.awake = true → s.dev.sys.appHeld = false → ∃ t, exec .wResetPin s = .next t ∧ t.dev.sys.appHeld = true ∧
      t.dev.acq = Acq.reset ∧ t.dev.bud = Bud.reset ∧ t.dev.nvc.row = s.dev.nvc.row ∧
      (s.dev.nvc.row = none → t.dev.nvc.queue = []) ∧ (s.dev.nvc.row ≠ none → t.dev.nvc.resetDue = some 1) ∧
      t.dev.scr.luts = s.dev.scr.luts ∧ t.dev.cpx.core = Vector.replicate 2 CorePair.reset) ∧
    (s.dev.awake = true → s.dev.sys.appHeld = false → exec (.wResetSoftware 0x57#32) s =
      .next (s.after ((s.dev.wReset SYS_RSTCAUSE_WSW).st uSYS .ok))) ∧
    (∀ key : Word, s.dev.awake = true → s.dev.sys.appHeld = false → key ≠ 0x57#32 →
      exec (.wResetSoftware key) s = .next (s.after (s.dev.st uSYS .reject))) ∧
    (∀ blk unit : Byte, s.dev.awake = true → s.dev.sys.appHeld = false → gUnit blk.toNat unit.toNat = none →
      exec (.gReset blk unit) s = .next (s.after (s.dev.st uSYS .range))) ∧
    (∀ (blk unit : Byte) (u : Nat), s.dev.awake = true → s.dev.sys.appHeld = false → gUnit blk.toNat unit.toNat = some u →
      s.dev.gAllowed blk.toNat = false → exec (.gReset blk unit) s = .next (s.after (s.dev.st uSYS .reject))) ∧
    (∀ (blk unit : Byte) (u : Nat), s.dev.awake = true → s.dev.sys.appHeld = false → gUnit blk.toNat unit.toNat = some u →
      s.dev.gAllowed blk.toNat = true → s.dev.genFresh u = true →
      exec (.gReset blk unit) s = .next (s.after (s.dev.st uSYS .busy))) ∧
    (∀ (blk unit : Byte) (u : Nat), s.dev.awake = true → s.dev.sys.appHeld = false → gUnit blk.toNat unit.toNat = some u →
      s.dev.gAllowed blk.toNat = true → (∀ t, mapGet u s.dev.sys.genAt = some t → t + 10000000 ≤ s.dev.now) →
      blk ≠ 3#8 ∨ s.dev.nvc.row = none →
      exec (.gReset blk unit) s =
        .next (s.after (((s.dev.gRegs u).gInternal blk.toNat unit.toNat).st uSYS .ok))) ∧
    (s.dev.awake = true → s.dev.sys.appHeld = true → s.dev.mode ≠ .muster → exec .appDomainRelease s =
      .next (s.after (s.dev.setSys fun y =>
        { y with appHeld := false, released := true, reassertDue := s.dev.holding }))) ∧
    (s.dev.awake = true → s.dev.sys.appHeld = false → s.dev.holding = true → exec (.holdReassert 0xC3#32) s =
      .next (s.after ((s.dev.closeHold.up SYS_EVT_HOLDE).st uSYS .ok))) ∧
    (∀ key : Word, s.dev.awake = true → s.dev.sys.appHeld = false → key ≠ 0xC3#32 ∨ s.dev.holding = false →
      exec (.holdReassert key) s = .next (s.after (s.dev.st uSYS .reject))) ∧
    (s.dev.awake = true → s.dev.holding = true → s.dev.isActive = false → s.dev.get PRL_ST_ROLE ≠ 2 →
      s.dev.mode.live = true → s.dev.mode ≠ .tripped →
      exec .holdWindowExpiry s = .next (s.after (((((s.dev.closeHold.up SYS_RSTCAUSE_HEXP).openFirstStage 1).motorsHoldExpired).setSys
        fun y => { y with holdStage2 := true }).put SYS_MODE_BUSY 1))) ∧
    (s.dev.awake = true → s.dev.holding = false → exec .holdWindowExpiry s = .next (s.after s.dev)) ∧
    (s.dev.awake = true → s.dev.sys.holdStage2 = true → exec .holdExpirySecondStage s =
      .next (s.after ((s.dev.setSys fun y => { y with holdStage2 := false }).openSecondStage.raiseAll 18)))

/-- R36, R37, R40, R49, R256: mode requests, each accepted in the modes that R36 lists and refused elsewhere. Readings and
choices of the model that it rests on: log entry 39. -/
def Obligations.ModeRequests : Prop :=
  ∀ s : State, s.dev.awake = true → s.dev.sys.appHeld = false → s.dev.sys.reassertDue = false →
    s.dev.on SYS_MODE_BUSY = false → s.dev.follower = false →
    (s.dev.mode = .ready → s.dev.banksOpen = true →
      exec .modeRequestWatch s = .next (s.after ((s.dev.enter .watch).st uSYS .ok))) ∧
    (s.dev.mode ≠ .ready ∨ s.dev.banksOpen = false → exec .modeRequestWatch s = .next (s.after (s.dev.st uSYS .reject))) ∧
    (s.dev.mode = .watch → exec .modeRequestDormant s =
      .next (s.after ((((s.dev.enter .dormant).st uSYS .ok).motorsCoast.loadsOff).powerOff .dormant))) ∧
    (s.dev.mode ≠ .watch → s.dev.mode ≠ .ready ∨ s.dev.banksOpen = false →
      exec .modeRequestDormant s = .next (s.after (s.dev.st uSYS .reject))) ∧
    (s.dev.mode = .watch → exec .modeRequestMuster s = .next (s.after (((s.dev.enter .muster).startMuster).st uSYS .ok))) ∧
    (s.dev.mode ≠ .watch → exec .modeRequestMuster s = .next (s.after (s.dev.st uSYS .reject))) ∧
    (s.dev.mode = .muster → s.dev.sys.mustSeen = false → exec .modeRequestReady s = .next (s.after (s.dev.st uSYS .busy))) ∧
    (s.dev.mode = .muster → s.dev.sys.mustSeen = true → s.dev.on PRL_CTL_EN = false →
      exec .modeRequestReady s = .next (s.after ((s.dev.enter .ready).st uSYS .ok))) ∧
    (s.dev.mode = .online ∨ s.dev.mode = .degraded → s.dev.anyClosed = false → s.dev.anyPrecharging = false →
      exec .modeRequestReady s = .next (s.after ((s.dev.enter .ready).st uSYS .ok))) ∧
    (∀ (b : Fin 4) (st : Status) (r : Nat), s.dev.connectRefusal b.val true = some (st, r) →
      exec (.modeRequestPrecharge b) s = .next (s.after ((s.dev.put (CTD_BST_REJR b.val) r).st uSYS st))) ∧
    (∀ b : Fin 4, s.dev.connectRefusal b.val true = none → exec (.modeRequestPrecharge b) s =
      .next (s.after ((((s.dev.startConnect b.val).enter .precharge).judgeInputs).st uSYS .ok))) ∧
    (s.dev.mode.live = true → exec .modeRequestTripped s = .next (s.after ((s.dev.raiseAll 19).st uSYS .ok))) ∧
    (s.dev.mode.live = false → exec .modeRequestTripped s = .next (s.after (s.dev.st uSYS .reject)))

/-- R36, R39, R40, R337, R338, R389: wakes, sleep, the qualified trip reset and the end of muster's self-tests. Readings and
choices of the model that it rests on: log entries 62, 81. -/
def Obligations.WakeSleepTripResetMuster : Prop :=
  ∀ s : State,
    (s.dev.fd.ctl = .running → s.dev.mode = .watch → s.dev.fd.sleep = .awake →
      exec .wakePin s = .next (s.after (((s.dev.recordWake 0).enter .muster).startMuster)) ∧
      exec .rtcAlarm s = .next (s.after (((s.dev.recordWake 3).enter .muster).startMuster)) ∧
      (s.dev.on (CAN_WKCFG_WKEN 0) = true →
        exec .canWake s = .next (s.after (((s.dev.recordWake 1).enter .muster).startMuster))) ∧
      (∀ p : Fin 128, s.dev.isDrive p.val = true →
        exec (.toneAbsent p) s = .next (s.after (((s.dev.recordWake 2).enter .muster).startMuster)))) ∧
    exec .tripAckAssert s = .next (s.after (s.dev.setSys fun y =>
      { y with ackLowAt := if s.dev.tripGone then some s.dev.now else none, ackRelAt := none, key1At := none })) ∧
    (∀ t : Nat, s.dev.sys.ackLowAt = some t → t + 100000000 ≤ s.dev.now → exec .tripAckRelease s =
      .next (s.after (s.dev.setSys fun y => { y with ackLowAt := none, ackRelAt := some s.dev.now }))) ∧
    (∀ t : Nat, s.dev.sys.ackLowAt = some t → s.dev.now < t + 100000000 →
      exec .tripAckRelease s = .next (s.after s.dev.restartAck)) ∧
    (s.dev.awake = true → s.dev.sys.appHeld = false → s.dev.mode = .tripped → s.dev.tripGone = true → s.dev.sys.key1At = none →
      s.dev.within s.dev.sys.ackRelAt 5000000000 = true → exec (.tripClearKey 0xA5#32) s =
        .next (s.after ((s.dev.setSys fun y => { y with key1At := some s.dev.now }).st uSYS .ok))) ∧
    (s.dev.awake = true → s.dev.sys.appHeld = false → s.dev.mode = .tripped → s.dev.tripGone = true →
      s.dev.within s.dev.sys.ackRelAt 5000000000 = true → s.dev.within s.dev.sys.key1At 10000000 = true →
      exec (.tripClearKey 0x5A#32) s = .next (s.after (s.dev.clearTrip.st uSYS .ok))) ∧
    (∀ key : Word, s.dev.awake = true → s.dev.sys.appHeld = false → s.dev.mode ≠ .tripped →
      exec (.tripClearKey key) s = .next (s.after (s.dev.restartAck.st uSYS .reject))) ∧
    (s.dev.awake = true → exec .tripClearWindowExpiry s =
      .next (s.after (s.dev.setSys fun y => { y with ackLowAt := none, ackRelAt := none, key1At := none }))) ∧
    (∀ r : MusterResult, s.dev.awake = true → s.dev.mode ≠ .muster ∨ s.dev.sys.musterRuns = false →
      exec (.musterSelftestsDone r) s = .next (s.after s.dev)) ∧
    (∀ r : MusterResult, s.dev.awake = true → s.dev.mode = .muster → s.dev.sys.musterRuns = true →
      ∃ t, exec (.musterSelftestsDone r) s = .next t ∧ t.dev.sys.musterRuns = false ∧ t.dev.sys.mustSeen = true ∧
        t.dev.rget SYS_MST = BitVec.ofNat 32 (s.dev.musterWord r) ∧
        (r.cpxA = false ∨ s.dev.memPassed r = false ∨ r.ref = false → t.dev.mode = .tripped)) ∧
    (∀ n : Fin 5, s.dev.fd.sleep = .entering n → n = 1 ∨ n = 2 → s.dev.fd.wakePending = none →
      exec .sleepEntryComplete s = .next (s.after (s.dev.setFd fun f => { f with sleep := .asleep n, ctl := .gated }))) ∧
    (∀ n : Nat, s.dev.awake = true → s.dev.sys.appHeld = false → s.dev.mode = .watch → s.dev.on BUD_SLCTL_EN = true →
      s.dev.sleepChoice = some n → exec .sleepRequest s =
        .next (s.after (((((s.dev.put BUD_SLST_STATE n).put BUD_WKR_IDX 7).haltPairs true).setFd fun f =>
          { f with sleep := .entering (Fin.ofNat 5 n), wakeIdx := none }).st 0x60020000 .ok))) ∧
    (s.dev.awake = true → s.dev.sys.appHeld = false → s.dev.mode = .watch → s.dev.on BUD_SLCTL_EN = true →
      s.dev.sleepChoice = none → exec .sleepRequest s =
        .next (s.after (((s.dev.put BUD_SLST_STATE 0).up BUD_EVT_NOFIT).st 0x60020000 .ok))) ∧
    (∀ k : Nat, s.dev.earliest = some k → s.dev.fd.sleep = .asleep 2 → s.dev.fd.ctl = .gated →
      exec .sleepDeadlineWake s = .next (s.after (((((s.dev.put BUD_WKR_IDX k).setFd fun f =>
        { f with wakeIdx := some (Fin.ofNat 4 k) }).up BUD_EVT_WAKE).resume))))

/-- R303, R305, R307, R310, R313, R315, R316: lockstep, scrubber, test slots, watchdogs and the software interrupts. Readings
and choices of the model that it rests on: log entries 85, 86. -/
def Obligations.CoreSupervision : Prop :=
  ∀ (s : State) (p : Pair), s.dev.awake = true →
    (∀ g : Fin 16, s.dev.pairUp (pairIx p) = true →
      exec (.lockstepMismatch p g) s = .next (s.after (s.dev.restartPair (pairIx p) (CPX_RCAUSE_MISM (pairIx p)) (some g.val))) ∧
      exec (.comparatorFault p g) s = .next (s.after (s.dev.restartPair (pairIx p) (CPX_RCAUSE_CMPF (pairIx p)) (some g.val)))) ∧
    (s.dev.pairUp (pairIx p) = true → s.dev.get (CPX_SCRB_LINE (pairIx p)) < 1023 → exec (.scrubLine p .agree) s =
      .next (s.after (s.dev.put (CPX_SCRB_LINE (pairIx p)) (s.dev.get (CPX_SCRB_LINE (pairIx p)) + 1)))) ∧
    (s.dev.pairUp (pairIx p) = true → exec (.testSlot p .pass) s = .next (s.after (s.dev.put (CPX_PST_TSOK (pairIx p)) 1))) ∧
    (s.dev.pairUp (pairIx p) = true → exec (.testSlot p .stateDiffers) s =
      .next (s.after ((s.dev.put (CPX_PST_TSOK (pairIx p)) 0).restartPair (pairIx p) (CPX_RCAUSE_LATR (pairIx p)) none))) ∧
    (s.dev.watchdogDue 0 = true → exec (.watchdogExpiry .a) s = .next (s.after (s.dev.wReset SYS_RSTCAUSE_WDOG))) ∧
    (s.dev.watchdogDue 1 = true → exec (.watchdogExpiry .b) s = .next (s.after (s.dev.restartPair 1 (CPX_RCAUSE_WDOG 1) none))) ∧
    (s.dev.watchdogDue (pairIx p) = false → exec (.watchdogExpiry p) s = .next (s.after s.dev)) ∧
    (s.dev.pairUp (pairIx p) = true →
      exec (.watchdogKick p 0x5C#32) s = .next (s.after ((s.dev.watchdogStart (pairIx p)).st uINT .ok))) ∧
    (∀ key : Word, s.dev.pairUp (pairIx p) = true → key ≠ 0x5C#32 →
      exec (.watchdogKick p key) s = .next (s.after (s.dev.st uINT .reject))) ∧
    (s.dev.pairUp (pairIx p) = true →
      exec (.softwareInterruptSet p) s = .next (s.after ((s.dev.put (INT_SWI_SET (pairIx p)) 1).st uINT .ok)) ∧
      exec (.softwareInterruptClear p) s = .next (s.after ((s.dev.put (INT_SWI_SET (pairIx p)) 0).st uINT .ok)))

/-- R170, R434, R435, R339: kernel loads, NVM requests, a row's start and end, the journal scan. Readings and choices of the
model that it rests on: log entries 87, 113. -/
def Obligations.KernelAndNvmRequests : Prop :=
  ∀ s : State, s.dev.awake = true → s.dev.sys.appHeld = false →
    (∀ (k : Fin 8) (g : Byte), g.toNat ≠ s.dev.gen 0x60120000 →
      exec (.kernelLoad k g) s = .next (s.after (s.dev.st 0x60120000 .reset))) ∧
    (∀ (k : Fin 8) (g : Byte), g.toNat = s.dev.gen 0x60120000 → s.dev.scr.load.isSome = true →
      exec (.kernelLoad k g) s = .next (s.after (s.dev.st 0x60120000 .busy))) ∧
    (∀ (k : Fin 8) (g : Byte), g.toNat = s.dev.gen 0x60120000 → s.dev.scr.load = none → s.dev.scr.sweep = none →
      s.dev.scr.job = none → k.val ≠ s.dev.get SCR_KSEL_SLOT → imageSource (s.dev.get SCR_KSRC_ADDR) = true →
      exec (.kernelLoad k g) s = .next (s.after
        (({ s.dev with scr := { s.dev.scr with load := some ⟨k.val, s.dev.get SCR_KSRC_ADDR, g.toNat, s.dev.rgen 0, false⟩ } }.put
          SCR_KLST_BUSY 1).st 0x60120000 .ok))) ∧
    (∀ l : KLoad, s.dev.scr.load = some l → l.rom = false →
      let rd : Nat → Byte := fun i => memGet s.dev.mem (l.src + i)
      exec .kernelLoadDone s = .next (s.after (
        if s.dev.judgeImage rd 2 = .ok ∧ kernelOk rd = true then (s.dev.installKernel l.slot rd).kernelLoadEnd l .ok
        else (s.dev.invalidate l.slot).kernelLoadEnd l
          (if s.dev.judgeImage rd 2 = .ok then .range else s.dev.judgeImage rd 2)))) ∧
    (∀ g : Byte, g.toNat ≠ s.dev.gen uNVC →
      exec (.nvmWrite g) s = .next (s.after (s.dev.st uNVC .reset)) ∧
      exec (.nvmAppend g) s = .next (s.after (s.dev.st uNVC .reset))) ∧
    (∀ g : Byte, g.toNat = s.dev.gen uNVC → s.dev.nvc.queue.length < 16 → s.dev.get NVC_CNT_CNT = 1 →
      s.dev.get NVC_SRC_ADDR = 0x20000000 → s.dev.rowWritable (s.dev.get NVC_DST_ROW) = true → exec (.nvmWrite g) s =
        .next (s.after ((s.dev.queueNvm ⟨.write (s.dev.get NVC_DST_ROW), 0x20000000, 1, g.toNat, s.dev.rgen 0, false⟩).st uNVC .ok))) ∧
    (∀ g : Byte, g.toNat = s.dev.gen uNVC → s.dev.nvc.queue.length < 16 → s.dev.on NVC_ST_JRDY = true →
      s.dev.get NVC_CNT_CNT = 1 → s.dev.get NVC_SRC_ADDR = 0x20000000 → exec (.nvmAppend g) s =
        .next (s.after ((s.dev.queueNvm ⟨.append, 0x20000000, 1, g.toNat, s.dev.rgen 0, false⟩).st uNVC .ok))) ∧
    (∀ (q : NvmReq) (rest : List NvmReq), s.dev.nvc.row = none → s.dev.nvc.queue = q :: rest →
      s.dev.nvmTempOk q.temp = true → exec .nvmRowStart s =
        .next (s.after ((s.dev.setNvc fun n => { n with row := some (s.dev.nvmRow q) }).put NVC_ST_BUSY 1))) ∧
    (∀ (q : NvmReq) (rest : List NvmReq) (r : Nat × List Byte), s.dev.nvc.row = some r → s.dev.nvc.queue = q :: rest →
      s.dev.nvc.orphan = false → s.dev.nvc.resetDue = none → exec .nvmRowDone s =
        .next (s.after ((s.dev.finishRow.put NVC_ST_BUSY 0).nvmAdvance q rest))) ∧
    (s.dev.on NVC_ST_JRDY = true → exec .journalScanDone s = .next (s.after s.dev)) ∧
    (s.dev.on NVC_ST_JRDY = false → s.dev.journal = [] → exec .journalScanDone s =
      .next (s.after (((s.dev.put NVC_JHEAD_ROW 65536).setNvc fun n => { n with seq := 0 }).put NVC_ST_JRDY 1)))

/-- R427 to R432, R436 to R439, R308: images, boot, keys, lifecycle, debug unlock, release tests and operation timeouts.
Readings and choices of the model that it rests on: log entries 87, 88, 89, 90. -/
def Obligations.SecurityOperations : Prop :=
  ∀ s : State, s.dev.awake = true → s.dev.sys.appHeld = false →
    (∀ (key : BitVec 24) (g : Byte), g.toNat ≠ s.dev.gen uSEC →
      exec (.bootConfirm key g) s = .next (s.after ((s.dev.opst .reset (s.dev.gen uSEC)).st uSEC .reset))) ∧
    (∀ g : Byte, g.toNat = s.dev.gen uSEC → s.dev.nvc.queue.length < 16 →
      (s.dev.on SEC_BST_TRIAL = true → exec (.bootConfirm 0xE1#24 g) s =
        .next (s.after ((((((s.dev.put SEC_BST_TRIAL 0).put SEC_OPST_BUSY 1).put SEC_OPST_GEN g.toNat).queueNvm
          ⟨.sec (.confirm (s.dev.on SEC_BST_BANK)), 0, 1, g.toNat, s.dev.rgen 0, false⟩).st uSEC .ok)))) ∧
      (∀ fw krn : Byte, s.dev.on SEC_BST_TRIAL = false → fw.toNat ≤ s.dev.sec.fwSvn → krn.toNat ≤ s.dev.topKrnSvn →
        exec (.rollbackAdvance fw krn g) s = .next (s.after (((((s.dev.put SEC_OPST_BUSY 1).put SEC_OPST_GEN g.toNat).queueNvm
          ⟨.sec (.advance fw.toNat krn.toNat), 0, 1, g.toNat, s.dev.rgen 0, false⟩).st uSEC .ok)))) ∧
      (s.dev.on SEC_LC_STATE = false → s.dev.within s.dev.sec.key1At 10000000 = true → exec (.lifecycleKey 0x0F#24 g) s =
        .next (s.after ((((((s.dev.setSec fun x => { x with key1At := none }).put SEC_OPST_BUSY 1).put SEC_OPST_GEN g.toNat).queueNvm
          ⟨.sec .lock, 0, 1, g.toNat, s.dev.rgen 0, false⟩).st uSEC .ok)))) ∧
      (∀ (k : Fin 8) (u : BitVec 2), u ≠ 3 → s.dev.get SEC_KSRC_ADDR = 0x20000000 → (s.dev.keySlot k.val).valid = false →
        exec (.keyProgram k u g) s = .next (s.after (((((s.dev.put SEC_OPST_BUSY 1).put SEC_OPST_GEN g.toNat).queueNvm
          ⟨.sec (.program k.val u.toNat (beNat ((List.range 48).map fun i => memGet s.dev.mem (0x20000000 + i)))), 0, 1,
            g.toNat, s.dev.rgen 0, false⟩).st uSEC .ok)))) ∧
      (∀ k : Fin 8, s.dev.sec.fwSlot ≠ some k.val → exec (.keyRevoke k g) s =
        .next (s.after (((((s.dev.put SEC_OPST_BUSY 1).put SEC_OPST_GEN g.toNat).queueNvm
          ⟨.sec (.revoke k.val), 0, 1, g.toNat, s.dev.rgen 0, false⟩).st uSEC .ok))))) ∧
    (∀ (bytes : List Byte), s.dev.sec.recovery = false → exec (.recoveryImage bytes) s = .next (s.after s.dev)) ∧
    (∀ (bytes : List Byte), s.dev.sec.recovery = true → (s.dev.corePair 0).up = true →
      let good := s.dev.judgeImage (fun i => (bytes[i]?).getD 0#8) 1 = .ok ∧ s.dev.nvmTempOk false = true
      exec (.recoveryImage bytes) s = .next (s.after (if good then s.dev.recover bytes else s.dev)) ∧
      (good → (s.dev.recover bytes).sys.appHeld = true)) ∧
    (∀ k : ImageKind, s.dev.sec.trying = [] → exec (.imageVerifyDone k) s = .next (s.after s.dev)) ∧
    (∀ (rest : List Bool), s.dev.sec.trying = false :: rest → ∃ t, exec (.imageVerifyDone .bankA) s = .next t ∧
      if s.dev.judgeImage (s.dev.bankImg false) 1 = .ok then
        t.dev.sec.trying = [] ∧ t.dev.sec.fwSvn = imgNat (s.dev.bankImg false) 8 4 ∧ t.dev.sec.bootRec.isSome = true ∧
          t.dev.get SEC_BST_VOK = 1 ∧ t.dev.get SEC_BST_BANK = 0
      else t.dev.sec.trying = rest ∧ t.dev.get SEC_BST_FAILA = 1 ∧
        (rest = [] → t.dev.mode = .tripped ∧ t.dev.sec.recovery = true)) ∧
    (∀ p : Pair, (s.dev.corePair (pairIx p)).up = false → s.dev.get (CPX_PST_STATE (pairIx p)) ≠ 3 →
      (s.dev.cpx.restart[pairIx p]?).getD false = false → exec (.releaseTestComplete p false) s =
        .next (s.after ((s.dev.put (CPX_PST_RTOK (pairIx p)) 0).fencePair (pairIx p)))) ∧
    (∀ p : Pair, (s.dev.corePair (pairIx p)).up = false → s.dev.get (CPX_PST_STATE (pairIx p)) ≠ 3 →
      ∃ t, exec (.releaseTestComplete p true) s = .next t ∧ (t.dev.corePair (pairIx p)).up = true) ∧
    (∀ (l : BitVec 2) (k : Fin 8), l ≠ 0 → exec (.debugChallenge l k) s = .next (s.after (s.dev.dbgChallenge l.toNat)) ∧
      (s.dev.dbgChallenge l.toNat).sec.nonce = true) ∧
    (∀ k : Fin 8, exec (.debugChallenge 0#2 k) s = .next (s.after (s.dev.dbgSt .range)) ∧
      exec (.debugCheck 0#2 k) s = .next (s.after (s.dev.dbgSt .range))) ∧
    (∀ (l : BitVec 2) (k : Fin 8), l ≠ 0 → s.dev.sec.nonce = false →
      exec (.debugCheck l k) s = .next (s.after (s.dev.dbgSt .reject))) ∧
    (∀ (l : BitVec 2) (k : Fin 8), l ≠ 0 → s.dev.sec.nonce = true →
      let key := s.dev.keySlot k.val
      let signed := signedByHash key.hash (sha384 (s.dev.dbgMessage l.toNat)) (s.dev.dbgNum 0) (s.dev.dbgNum 12)
      let d := s.dev.setSec fun x => { x with nonce := false }
      exec (.debugCheck l k) s = .next (s.after
        (if key.valid = true ∧ key.revoked = false ∧ key.use = 2 ∧ signed = true
          then (d.put DBG_UST_LEVEL (max l.toNat (s.dev.get DBG_UST_LEVEL))).dbgSt .ok else d.dbgSt .integrity))) ∧
    (∀ p : Pair, s.dev.on SEC_LC_STATE = true → s.dev.get DBG_UST_LEVEL < 2 →
      exec (.debugHalt p false) s = .next (s.after (s.dev.dbgSt .locked))) ∧
    (∀ p : Pair, s.dev.on SEC_LC_STATE = false → s.dev.get (CPX_PST_STATE (pairIx p)) ≠ 1 → s.dev.banksOpen = true →
      exec (.debugHalt p false) s =
        .next (s.after ((s.dev.setCore (pairIx p) fun c => { c with halted := true }).dbgSt .ok))) ∧
    (s.dev.on SEC_LC_STATE = false → exec .scanExtest s =
      .next (s.after ((s.dev.outputsOff.setSec fun x => { x with scan := true }).dbgSt .ok))) ∧
    (s.dev.prl.join.isSome = true → exec (.operationTimeout .prlJoin) s = .next (s.after (s.dev.joinEnd .timeout))) ∧
    (∀ l : KLoad, s.dev.scr.load = some l → l.rom = false → exec (.operationTimeout .kernelLoad) s =
      .next (s.after ((s.dev.invalidate l.slot).kernelLoadEnd l .timeout)))

/-- R21, R70, R90, R235, R323, R464: the epoch time, the line schedule, BELL and MARKER, breaks. Readings and choices of the
model that it rests on: log entries 24, 29, 102, 111. -/
def Obligations.LineSchedule : Prop :=
  ∀ s : State, s.dev.awake = true →
    (∀ ones, s.dev.mode.live = false → exec (.epochTime ones) s = .next (s.after s.dev)) ∧
    (∀ ones, s.dev.sequencing = true → ∃ t, exec (.epochTime ones) s = .next t ∧ s.dev.now ≤ t.dev.now ∧
      t.dev.flk.lastT = t.dev.now ∧
      (s.dev.follower = false → t.dev.get FLK_EPNUM_EPOCH = (s.dev.epoch + 1) % 4294967296)) ∧
    (∀ (e : OpenEpoch) (l : List OpenEpoch), s.dev.acq.opens = e :: l → s.dev.on ACQ_CTL_EN = true →
      (s.dev.delivered e.epoch = true → s.dev.on PRL_CTL_EN = false →
        exec .epochClose s = .next (s.after ((s.dev.closeEpoch e).closeStrings e.epoch))) ∧
      (s.dev.delivered e.epoch = false → s.dev.closeAt e ≤ max s.dev.now s.dev.nextEpochAt →
        exec .epochClose s = .next (s.after (s.dev.runTo (s.dev.closeAt e)).closeOldest)) ∧
      (s.dev.delivered e.epoch = false → max s.dev.now s.dev.nextEpochAt < s.dev.closeAt e →
        exec .epochClose s = .next (s.after s.dev))) ∧
    (s.dev.acq.opens = [] → exec .epochClose s = .next (s.after s.dev)) ∧
    (∀ a : BitVec 128, s.dev.rings = false → exec (.bellRing a) s = .next (s.after s.dev)) ∧
    (∀ a : BitVec 128, s.dev.mode.live = true → s.dev.on REF_ST_CHOK = true → s.dev.clockDead = false →
      s.dev.ref.failed ≠ 3#2 →
      exec (.bellRing a) s = .next (s.after (s.dev.ringBell a))) ∧
    (∀ p : Fin 128, s.dev.isListen p = true → (s.dev.pt p).bellIn = false → s.dev.canBreak p = false →
      exec (.bellCheck p) s = .next (s.after (s.dev.put (FLK_PSTAT_CONT p) 0))) ∧
    (∀ p : Fin 128, s.dev.isListen p = false ∨ (s.dev.pt p).bellIn = true →
      exec (.bellCheck p) s = .next (s.after s.dev)) ∧
    (∀ p : Fin 128, s.dev.isListen p = true → (s.dev.pt p).markIn = false → (s.dev.pt p).bellIn = false →
      exec (.markerCheck p) s = .next (s.after (s.dev.put (FLK_PSTAT_CONT p) 0))) ∧
    (s.dev.mode.live = true → s.dev.clockDead = false → exec .markerInject s = .next (s.after s.dev.injectMarker) ∧
      s.dev.injectMarker.flk.marker = s.dev.epoch + 1 ∧ s.dev.injectMarker.flk.cmdOpen = false) ∧
    (s.dev.mode.live = false ∨ s.dev.clockDead = true → exec .markerInject s = .next (s.after s.dev)) ∧
    (∃ t, exec .recordPhaseLinkTake s = .next t ∧ ∀ p < s.dev.portCount, s.dev.portEnabled p = true →
      (s.dev.pt p).setper = true → (t.dev.pt p).phase = true ∧ (t.dev.pt p).phEpoch = s.dev.epoch ∧
        (t.dev.pt p).phT = s.dev.flk.lastT ∧ (t.dev.pt p).accepted = [] ∧ (t.dev.pt p).missing = []) ∧
    (∀ p : Fin 128, (s.dev.pt p).phase = true → exec (.recordPhaseEnd p) s = .next (s.after (s.dev.recordPhaseEnd p))) ∧
    (s.dev.mode.live = true → s.dev.follower = false → exec .commandIntervalStart s =
      .next (s.after (({ s.dev with flk := { s.dev.flk with cmdOpen := true } }).autoFrames.acqFrames.refreshPings)))

/-- R51, R71, R74, R93, R184, R323: commands of pair A at a port end, their frames, replies and deadlines, LOSS and fencing.
Readings and choices of the model that it rests on: log entries 98, 99, 102, 104, 111. -/
def Obligations.PortCommands : Prop :=
  ∀ (s : State) (p : Fin 128), s.dev.awake = true →
    (s.dev.sys.appHeld = false → p.val < s.dev.portCount → ∀ g : Byte,
      (g.toNat ≠ s.dev.gen uFLK → (s.dev.pt p).out = none → exec (.commandQueue p g) s =
        .next (s.after ((s.dev.prsp p Status.reset.code (s.dev.gen uFLK)).st uFLK .reset))) ∧
      (g.toNat = s.dev.gen uFLK → (s.dev.pt p).queued.isSome = true →
        exec (.commandQueue p g) s = .next (s.after (s.dev.st uFLK .busy))) ∧
      (g.toNat = s.dev.gen uFLK → (s.dev.pt p).queued = none → (s.dev.pt p).out = none →
        252 < (s.dev.pfrmByte p 3).toNat → exec (.commandQueue p g) s = .next (s.after (s.dev.st uFLK .range))) ∧
      (g.toNat = s.dev.gen uFLK → (s.dev.pt p).queued = none → (s.dev.pt p).out = none →
        (s.dev.pfrmByte p 3).toNat ≤ 252 → s.dev.on (FLK_PFEN_FEN p) = false → s.dev.follower = false →
        s.dev.closesHeld p (s.dev.pfrmCmd p g.toNat) = false → exec (.commandQueue p g) s =
          .next (s.after (((s.dev.setPt p fun v =>
            { v with queued := some (s.dev.pfrmCmd p g.toNat), rgen := s.dev.rgen 0 }).put
            (FLK_PRSP_DONE p) 0).st uFLK .ok)))) ∧
    (s.dev.flk.cmdOpen = false → exec (.commandFrameStart p) s = .next (s.after s.dev)) ∧
    (∀ (c : FlkCmd) (d' : Device), s.dev.portEnabled p = true → (s.dev.pt p).out = none → (s.dev.pt p).phase = false →
      s.dev.flk.cmdOpen = true → s.dev.nextFrame p = some (c, d') →
      (c.src = .firmware → (s.dev.pt p).used + 4 + replyMax c.opc.toNat ≤ 6144 ∧ s.dev.closesHeld p c = false) →
      (s.dev.fits p c = true → c.addr ≠ 0xFF#8 → exec (.commandFrameStart p) s =
        .next (s.after ((((d'.noteSent p c).sendAt p c (s.dev.frameAt p)).setPt p fun v =>
          { v with tag := v.tag + 1#8, retried := false }).setPt p fun v => { v with out := some c }))) ∧
      (s.dev.fits p c = false → exec (.commandFrameStart p) s = .next (s.after s.dev))) ∧
    (∀ (f : Frame) (q : Nat),
      let l := (s.dev.linkUp p).countCv p (f.violations + if s.dev.contends p then 0 else f.stray)
      (f.codeViolation = true → exec (.replyFrame p f q) s = .next (s.after l)) ∧
      (f.codeViolation = false → f.eof = false ∨ f.len.toNat ≠ f.payload.length ∨ frameCrcOk f = false →
        exec (.replyFrame p f q) s = .next (s.after (l.count16 (FLK_PCRC p)))) ∧
      (∀ c : FlkCmd, f.codeViolation = false → f.eof = true → f.len.toNat = f.payload.length → frameCrcOk f = true →
        f.opc ≠ 0x01#8 ∨ f.addr ≠ 0#8 → (s.dev.pt p).out = some c → s.dev.answers p c f = true → c.gen = s.dev.gen uFLK →
        let u := l.setPt p fun v => { v with
          out := none, retried := false
          lineAt := max s.dev.now (v.txUntil - 500 + q / 4 + frameNs f.payload.length + 2000) }
        (c.src = .firmware → s.dev.rgen 0 = (s.dev.pt p).rgen → exec (.replyFrame p f q) s =
          .next (s.after ((u.storeReply p f).prsp p ((f.payload[0]?).getD 0#8).toNat c.gen))) ∧
        (c.src = .flk → exec (.replyFrame p f q) s = .next (s.after (u.ownReply p c f q))) ∧
        (c.src = .acq → exec (.replyFrame p f q) s =
          .next (s.after (u.acqReply ⟨u.nodeIndex (u.aEnd p) c.addr.toNat, c.opc.toNat, some f.payload⟩))))) ∧
    (∀ c : FlkCmd, (s.dev.pt p).out = some c → c.gen = s.dev.gen uFLK → (s.dev.pt p).retried = false →
      exec (.retryDeadline p) s = .next (s.after ((s.dev.sendAt p c (max s.dev.now (s.dev.pt p).lineAt)).setPt p fun v =>
        { v with retried := true }))) ∧
    (∀ c : FlkCmd, (s.dev.pt p).out = some c → c.gen = s.dev.gen uFLK → (s.dev.pt p).rgen = s.dev.rgen 0 →
      (s.dev.pt p).retried = true → c.src = .firmware →
      exec (.retryDeadline p) s = .next (s.after ((s.dev.setPt p fun v =>
        { v with out := none, retried := false, cut := false }).prsp p Status.timeout.code c.gen))) ∧
    (∀ c : FlkCmd, (s.dev.pt p).out = some c → c.gen ≠ s.dev.gen uFLK → c.src = .firmware →
      exec (.retryDeadline p) s = .next (s.after ((s.dev.setPt p fun v =>
        { v with out := none, retried := false, cut := false }).prsp p Status.reset.code (s.dev.gen uFLK)))) ∧
    (s.dev.on (FLK_PSTAT_LINK p) = true → s.dev.headStrings p = [] → exec (.linkLoss p) s =
      .next (s.after ((s.dev.put (FLK_PSTAT_LINK p) 0).up (FLK_PEVT_LOSS p)))) ∧
    (s.dev.sys.appHeld = false → p.val < s.dev.portCount → exec (.replySpaceRelease p) s =
      .next (s.after ((s.dev.setPt p fun v => { v with used := v.used - v.lastLen, lastLen := 0 }).st uFLK .ok))) ∧
    (s.dev.sys.appHeld = false → p.val < s.dev.portCount → s.dev.on (FLK_PFEN_FEN p) = false →
      exec (.portFence p) s = .next (s.after (((((s.dev.put (FLK_PFEN_FEN p) 1).put (FLK_PFEN_CAUSE p) 0).loseLink p).put
        (FLK_PCTL_ROLE p) 0).st uFLK .ok))) ∧
    (∀ a : Byte, s.dev.portEnabled p = true →
      let l := (s.dev.linkUp p).yieldTo p
      let i := l.nodeIndex (l.aEnd p) (a.toNat % 128 + 1)
      let d : Device := { l with ref := { l.ref with dirtyNow := i :: l.ref.dirtyNow } }
      exec (.alarmReceived p a) s =
        .next (s.after (d.raiseBoth [⟨if a.toNat < 128 then 5 else 6, 0, 0⟩] (d.namedNode .a i) d.epoch)))

/-- R51, R81, R85, R92, R94, R109, R462, R466, R467: operations of FLK_OPS, TRACE, the period and the node timers. Readings
and choices of the model that it rests on: log entries 28, 33, 76, 102, 103, 105. -/
def Obligations.FlockOperations : Prop :=
  ∀ s : State, s.dev.awake = true →
    (s.dev.sys.appHeld = false → ∀ (k : Fin 64) (all : Bool) (g : Byte),
      (g.toNat ≠ s.dev.gen uFLK →
        exec (.enumerate k all g) s = .next (s.after ((s.dev.put FLK_OPST_ST Status.reset.code).st uFLK .reset)) ∧
        exec (.calibrate k all g) s = .next (s.after ((s.dev.put FLK_OPST_ST Status.reset.code).st uFLK .reset)) ∧
        exec (.enumerateAndCalibrate k all g) s =
          .next (s.after ((s.dev.put FLK_OPST_ST Status.reset.code).st uFLK .reset))) ∧
      (g.toNat = s.dev.gen uFLK → s.dev.on FLK_OPST_BUSY = true →
        exec (.enumerate k all g) s = .next (s.after (s.dev.st uFLK .busy))) ∧
      (g.toNat = s.dev.gen uFLK → s.dev.on FLK_OPST_BUSY = false → s.dev.on REF_ST_ARMED = true →
        exec (.enumerate k all g) s = .next (s.after ((s.dev.put FLK_OPST_ST Status.reject.code).st uFLK .reject)) ∧
        exec (.enumerateAndCalibrate k all g) s =
          .next (s.after ((s.dev.put FLK_OPST_ST Status.reject.code).st uFLK .reject))) ∧
      (g.toNat = s.dev.gen uFLK → s.dev.on FLK_OPST_BUSY = false →
        (∃ t, exec (.calibrate k all g) s = .next t ∧ t.dev.flk.op = some .calibrate ∧ t.dev.flk.opGen = g.toNat ∧
          t.dev.flk.opEnds = s.dev.opFlocks k all ∧ t.dev.get FLK_OPST_BUSY = 1) ∧
        (s.dev.on REF_ST_ARMED = false → s.dev.follower = false →
          (∃ t, exec (.enumerate k all g) s = .next t ∧ t.dev.flk.op = some (.enumerate false) ∧
            t.dev.flk.opGen = g.toNat ∧ t.dev.flk.opEnds = s.dev.opFlocks k all ∧ t.dev.get FLK_OPST_BUSY = 1) ∧
          (∃ t, exec (.enumerateAndCalibrate k all g) s = .next t ∧ t.dev.flk.op = some (.enumerate true) ∧
            t.dev.flk.opGen = g.toNat ∧ t.dev.flk.opEnds = s.dev.opFlocks k all ∧ t.dev.get FLK_OPST_BUSY = 1)))) ∧
    (s.dev.flk.op = some .calibrate → s.dev.calibrated = false → exec .calibrationDone s = .next (s.after s.dev)) ∧
    (s.dev.flk.op = some .calibrate → s.dev.calibrated = true → s.dev.flk.opGen = s.dev.gen uFLK →
      s.dev.flk.opRgen = s.dev.rgen 0 → ∃ t, exec .calibrationDone s = .next t ∧ t.dev.flk.op = none ∧
      t.dev.get FLK_OPST_BUSY = 0 ∧ t.dev.get FLK_OPST_ST = 0) ∧
    (∀ b : Bool, s.dev.flk.op = some (.enumerate b) → exec .enumerationDone s =
      .next (s.after (s.dev.flk.opEnds.foldl (fun (d : Device) a => d.readFlock a) s.dev.enumerationDone))) ∧
    (∀ (k : Fin 64) (q : Nat), s.dev.isRing (2 * k.val) = true → (s.dev.pt (2 * k.val + 1)).traceOut = true →
      s.dev.on (FLK_PSTAT_FOLD (2 * k.val)) = false →
      let own := s.dev.isDrive (2 * k.val) || s.dev.isDrive (2 * k.val + 1)
      let d := s.dev.setPt (2 * k.val + 1) fun v =>
        { v with traceOut := false, traceRun := min 16 (v.traceRun + 1), measure := v.measure - 1
                 traces := ((if own then q else q + s.dev.get PRL_LDLY_DLY) :: v.traces).take 16 }
      (1 < (s.dev.pt (2 * k.val + 1)).measure → exec (.traceArrival k q) s = .next (s.after d)) ∧
      ((s.dev.pt (2 * k.val + 1)).measure ≤ 1 → 15 ≤ (s.dev.pt (2 * k.val + 1)).traces.length →
        exec (.traceArrival k q) s = .next (s.after (d.takeRing (2 * k.val))))) ∧
    (s.dev.sys.appHeld = false → ∀ per : BitVec 7,
      (per.toNat < 2 ∨ 100 < per.toNat → s.dev.follower = false →
        exec (.periodWrite per) s = .next (s.after (s.dev.st uFLK .range))) ∧
      (2 ≤ per.toNat → per.toNat ≤ 100 → s.dev.follower = false → s.dev.allAdmit per.toNat = true →
        timersOk (s.dev.get FLK_NTIM_TSTR) (s.dev.get FLK_NTIM_TBAL) per.toNat (s.dev.on ACQ_LCE_EN) = true →
        ∃ t, exec (.periodWrite per) s = .next t ∧ t.dev.get FLK_EPER_PER = per.toNat ∧
          (s.dev.flk.lce = false → t.dev.flk.perWanted = some per.toNat))) ∧
    (s.dev.sys.appHeld = false → ∀ (ts : BitVec 9) (tb : BitVec 7),
      (ts.toNat < 10 ∨ 500 < ts.toNat ∨ tb.toNat < 5 ∨ 100 < tb.toNat →
        exec (.nodeTimerWrite ts tb) s = .next (s.after (s.dev.st uFLK .range))) ∧
      (10 ≤ ts.toNat → ts.toNat ≤ 500 → 5 ≤ tb.toNat → tb.toNat ≤ 100 → s.dev.on FLK_LOCK_LOCK = false →
        timersOk ts.toNat tb.toNat (s.dev.get FLK_EPER_PER) (s.dev.on ACQ_LCE_EN) = true →
        ∃ t, exec (.nodeTimerWrite ts tb) s = .next t ∧ t.dev.get FLK_NTIM_TSTR = ts.toNat ∧
          t.dev.get FLK_NTIM_TBAL = tb.toNat))

/-- R79, R134, R139, R143, R154, R215: records, missing positions, scoreboard writes, MODID loads and the low-current epoch.
Readings and choices of the model that it rests on: log entries 25, 26, 106, 107. -/
def Obligations.AcquisitionEvents : Prop :=
  ∀ s : State, s.dev.awake = true →
    (∀ (p : Fin 128) (r : Record), s.dev.portEnabled p.val = true → r.codeViolation = true →
      exec (.recordReceived p r) s = .next (s.after ((s.dev.linkUp p).countCv p
        (r.violations + if s.dev.contends p then 0 else r.stray)))) ∧
    (∀ (p : Fin 128) (r : Record), s.dev.portEnabled p.val = true → r.codeViolation = false → recordCrcOk r = false →
      exec (.recordReceived p r) s = .next (s.after (((s.dev.linkUp p).countCv p
        (r.violations + if s.dev.contends p then 0 else r.stray)).count16 (FLK_PCRC p)))) ∧
    (∀ (p : Fin 128) (r : Record), s.dev.portEnabled p.val = true → r.codeViolation = false → recordCrcOk r = true →
      let l := (s.dev.linkUp p).countCv p (r.violations + if s.dev.contends p then 0 else r.stray)
      l.accepts p r = false → exec (.recordReceived p r) s = .next (s.after (l.count16 (FLK_PDISC p)))) ∧
    (∀ (p : Fin 128) (r : Record), s.dev.portEnabled p.val = true → r.codeViolation = false → recordCrcOk r = true →
      let l := (s.dev.linkUp p).countCv p (r.violations + if s.dev.contends p then 0 else r.stray)
      l.accepts p r = true →
      let i := l.nodeIndex (l.aEnd p) (l.aPos p r.pos.toNat)
      let e := (l.pt p).phEpoch
      let d := (l.bufferRecord p r).evalRecord i r e (l.pt p).phT
      exec (.recordReceived p r) s = .next (s.after (if d.on ACQ_CTL_EN then
        (d.setPt p fun v => { v with uncopied := v.uncopied.filter (· != r.pos.toNat) }).acquire i e r else d))) ∧
    (∀ p q : Fin 128, (s.dev.pt p).phEpoch = 0 ∨ s.dev.population p < q.val + 1 → s.dev.portEnabled p.val = true →
      exec (.positionMissing p q) s = .next (s.after s.dev)) ∧
    (∀ p q : Fin 128, s.dev.portEnabled p.val = true → (s.dev.pt p).phEpoch ≠ 0 → q.val + 1 ≤ s.dev.population p →
      (q.val + 1) ∉ (s.dev.pt p).accepted → (q.val + 1) ∉ (s.dev.pt p).missing → s.dev.epochOpen (s.dev.pt p).phEpoch = false →
      ∃ t, exec (.positionMissing p q) s = .next t ∧ (t.dev.pt p).missing = (q.val + 1) :: (s.dev.pt p).missing) ∧
    (s.dev.flk.op = none → exec .enumerationDone s = .next (s.after s.dev)) ∧
    (∀ (i : Fin 8192) (w : Fin 25), s.dev.wireSuspect i.val w.val = true → exec (.wireSuspectTimeout i w) s =
      .next (s.after (s.dev.sendNode .acq i.val 0x0E (leBytes (w.val % 5) 1 ++ leBytes ((s.dev.epoch + 2) % 65536) 2)))) ∧
    (s.dev.sweepHolds = true → exec .acqScoreboardWrite s = .next (s.after s.dev)) ∧
    (s.dev.acq.pend = [] → s.dev.acq.ops = [] → exec .acqScoreboardWrite s = .next (s.after s.dev)) ∧
    (∀ (p : EpochPend) (ps : List EpochPend), s.dev.sweepHolds = false → s.dev.acq.pend = p :: ps →
      let d := p.ops.foldl (fun (d : Device) o => d.applyOp o) ((inNodeOrder p.writes).foldl (fun (d : Device) w => d.applyWrite w)
        (s.dev.acq.ops.foldl (fun (d : Device) o => d.applyOp o) s.dev))
      let e : Device := { d with acq := { s.dev.acq with pend := ps, ops := [] } }
      (p.closed = false → exec .acqScoreboardWrite s = .next (s.after
        { d with acq := { s.dev.acq with pend := { p with writes := [], ops := [] } :: ps, ops := [] } })) ∧
      (p.closed = true → exec .acqScoreboardWrite s = .next (s.after (if e.scorerReady then
        { e with scr := { e.scr with due := some (p.epoch, p.per, p.ms) } } else e)))) ∧
    (∀ i : BitVec 13, s.dev.sys.appHeld = false → s.dev.mode ≠ .muster → s.dev.mode ≠ .ready →
      exec (.modidLoad i) s = .next (s.after (s.dev.st uACQ .reject))) ∧
    (∀ i : BitVec 13, s.dev.sys.appHeld = false → s.dev.mode = .ready → i.toNat < s.dev.nodeLimit → s.dev.rowsFree = true →
      exec (.modidLoad i) s = .next (s.after (((List.range 24).foldl (fun (d : Device) c =>
        d.setSlot (24 * i.toNat + c) 13 (s.dev.rget ACQ_MIDVAL).toNat) s.dev).st uACQ .ok))) ∧
    (∀ h : Half, s.dev.sys.appHeld = false → s.dev.currentInputs = [] →
      exec (.lceWrite true h) s = .next (s.after (s.dev.st uACQ .range))) ∧
    (∀ h : Half, s.dev.sys.appHeld = false → s.dev.currentInputs ≠ [] →
      timersOk (s.dev.get FLK_NTIM_TSTR) (s.dev.get FLK_NTIM_TBAL) (s.dev.get FLK_EPER_PER) true = true →
      exec (.lceWrite true h) s = .next (s.after (((s.dev.putB ACQ_LCE_EN true).put ACQ_LCE_LCTH h.toNat).st uACQ .ok)))

/-- R147 to R153, R156 to R158, R256: filters, comparators, stuck inputs, the insulation cycle and CTD_BCMD connect. Readings
and choices of the model that it rests on: log entries 12, 13, 31. -/
def Obligations.BankMeasurement : Prop :=
  ∀ s : State, s.dev.awake = true →
    (∀ (i : Fin 16) (n : Nat), s.dev.on BMI_CTL_CLKEN = false →
      exec (.bmiFilterOutput i n) s = .next (s.after s.dev) ∧ exec (.fastFilterOutput i n) s = .next (s.after s.dev)) ∧
    (∀ (i : Fin 16) (n : Nat), s.dev.on BMI_CTL_CLKEN = true → s.dev.on (BMI_ICFG_EN i.val) = true →
      (rawValue n (s.dev.osr i.val ^ 3)).natAbs ≤ 26214 → s.dev.on (BMI_IST_STUCK i.val) = false →
      s.dev.get (BMI_ICFG_FUNC i.val) ≠ 1 →
      ∃ t, exec (.bmiFilterOutput i n) s = .next t ∧
        t.dev.rget (BMI_LSMP i.val) = (s.dev.put (BMI_LSMP_X i.val)
          (s.dev.physical i.val (rawValue n (s.dev.osr i.val ^ 3)))).rget (BMI_LSMP i.val)) ∧
    (∀ (i : Fin 16) (n : Nat), s.dev.on BMI_CTL_CLKEN = true → s.dev.on (BMI_ICFG_EN i.val) = true →
      s.dev.on (BMI_FCFG_FEN i.val) = true → (s.dev.bmi.comp[i.val]?).getD false = false →
      s.dev.gets (BMI_FCMP_LO i.val) ≤ rawValue n 4096 → rawValue n 4096 ≤ s.dev.gets (BMI_FCMP_HI i.val) →
      ∃ t, exec (.fastFilterOutput i n) s = .next t ∧ t.dev.bmi.fastOut = s.dev.bmi.fastOut.setIfInBounds i.val 0 ∧
        t.dev.regs = s.dev.settle.regs) ∧
    (∀ i : Fin 16, s.dev.on (BMI_ICFG_EN i.val) = true →
      exec (.stuckTimeout i) s = .next (s.after ((s.dev.up (BMI_IST_STUCK i.val)).judgeInputs))) ∧
    (∀ i : Fin 16, s.dev.on (BMI_ICFG_EN i.val) = false → exec (.stuckTimeout i) s = .next (s.after s.dev)) ∧
    (∀ (i : Fin 16) (lo hi : Half), s.dev.sys.appHeld = false → s.dev.mode ≠ .ready →
      s.dev.gets (BMI_FCMP_HI i.val) < signed 16 hi.toNat →
      exec (.fastBandWrite i lo hi) s = .next (s.after (s.dev.st uBMI .reject))) ∧
    (∀ (i : Fin 16) (lo hi : Half), s.dev.sys.appHeld = false → s.dev.mode = .ready →
      exec (.fastBandWrite i lo hi) s =
        .next (s.after (((s.dev.put (BMI_FCMP_LO i.val) lo.toNat).put (BMI_FCMP_HI i.val) hi.toNat).st uBMI .ok))) ∧
    (∀ (b : Fin 4) (m : ImdMeans), (s.dev.im b.val).phase = .idle → exec (.imdPhaseTimer b m) s = .next (s.after s.dev)) ∧
    (∀ (b : Fin 4) (m : ImdMeans), (s.dev.im b.val).phase = .gapP → exec (.imdPhaseTimer b m) s =
      .next (s.after ((s.dev.put (BMI_IMDS_PH b.val) 1).setIm b.val fun v => { v with phase := .n }))) ∧
    (∀ (b : Fin 4) (m : ImdMeans), (s.dev.im b.val).phase = .p →
      let ok := decide (100 * (m.aLast - m.aPrev).natAbs ≤ m.uLast.natAbs)
      exec (.imdPhaseTimer b m) s = .next (s.after (s.dev.setIm b.val fun v =>
        { v with phase := .gapP, aP := m.aLast, uP := m.uLast, okP := ok })))

/-- R246 to R263, R265 to R267, R465: bank and driver commands, the connect sequence, quench and checks, driver faults.
Readings and choices of the model that it rests on: log entries 38, 40, 41, 42, 44. -/
def Obligations.ContactorSequences : Prop :=
  ∀ s : State,
    (∀ (b : Fin 4) (g : Byte) (force : Bool), s.dev.awake = true → s.dev.sys.appHeld = false →
      (s.dev.sys.reassertDue = true →
        exec (.bankConnect b g) s = .next (s.after ((s.dev.st uCTD .busy).judgeInputs)) ∧
        exec (.bankOpen b force g) s = .next (s.after (s.dev.st uCTD .busy)) ∧
        exec (.bankAbort b g) s = .next (s.after (s.dev.st uCTD .busy)) ∧
        exec (.clearWeld b g) s = .next (s.after (s.dev.st uCTD .busy))) ∧
      (s.dev.sys.reassertDue = false → g.toNat ≠ s.dev.gen uCTD →
        exec (.bankOpen b force g) s = .next (s.after (s.dev.bcmdSt b .reset (s.dev.gen uCTD))) ∧
        exec (.bankAbort b g) s = .next (s.after (s.dev.bcmdSt b .reset (s.dev.gen uCTD))) ∧
        exec (.clearWeld b g) s = .next (s.after (s.dev.bcmdSt b .reset (s.dev.gen uCTD)))) ∧
      (s.dev.sys.reassertDue = false → g.toNat = s.dev.gen uCTD →
        (∀ st r, s.dev.connectRefusal b false = some (st, r) →
          exec (.bankConnect b g) s = .next (s.after (((s.dev.put (CTD_BST_REJR b) r).bcmdSt b st g.toNat).judgeInputs))) ∧
        (s.dev.connectRefusal b false = none →
          exec (.bankConnect b g) s = .next (s.after (((s.dev.startConnect b).bcmdSt b .ok g.toNat).judgeInputs))) ∧
        exec (.bankOpen b force g) s =
          .next (s.after ((s.dev.bankOpen b force).2.bcmdSt b (s.dev.bankOpen b force).1 g.toNat)) ∧
        exec (.bankAbort b g) s = .next (s.after ((s.dev.bankAbort b).2.bcmdSt b (s.dev.bankAbort b).1 g.toNat)) ∧
        exec (.clearWeld b g) s = .next (s.after ((s.dev.clearWeld b).2.bcmdSt b (s.dev.clearWeld b).1 g.toNat)))) ∧
    (∀ b : Fin 4, s.dev.phase b = .w0 → (s.dev.bk b).uw.isSome = true →
      ((s.dev.bk b).w0Rise = true → exec (.w0End b) s = .next (s.after ((s.dev.weldDriver (3 * b + 1)).endConnect b 2 1))) ∧
      ((s.dev.bk b).w0Rise = false → exec (.w0End b) s = .next (s.after ((s.dev.setPhase b .pre).closeDriver (3 * b + 1))))) ∧
    (∀ b : Fin 4, s.dev.get CTD_CTL_ROLE = 2 → exec (.prechargeEval b) s = .next (s.after s.dev)) ∧
    (∀ (b : Fin 4) (u0 : Int), s.dev.get CTD_CTL_ROLE ≠ 2 → s.dev.phase b = .pre → (s.dev.bk b).u0 = some u0 →
      ((s.dev.judge b u0).1 = .complete → exec (.prechargeEval b) s =
        .next (s.after (((s.dev.judge b u0).2.setPhase b .mainPull).closeDriver (3 * b)))) ∧
      ((s.dev.judge b u0).1 = .slowTime → exec (.prechargeEval b) s =
        .next (s.after ((s.dev.judge b u0).2.endConnect b 3 1))) ∧
      ((s.dev.judge b u0).1 = .none → exec (.prechargeEval b) s = .next (s.after (s.dev.judge b u0).2))) ∧
    (∀ b : Fin 4, s.dev.phase b = .overlap → exec (.prechargeRelease b) s =
      .next (s.after ((s.dev.openDriver (3 * b + 2)).setPhase b .closed))) ∧
    (∀ b : Fin 4, s.dev.phase b = .opening → (s.dev.bk b).gapDue = true → exec (.openGapExpiry b) s =
      .next (s.after ((s.dev.setBk b fun v => { v with gapDue := false }).openOrderly (3 * b + 1)))) ∧
    (∀ b : Fin 4, exec (.coilCurrentZero b) s = .next (s.after
      (let d := ((s.dev.coilZero (3 * b)).coilZero (3 * b + 1)).coilZero (3 * b + 2)
       if d.phase b = .opening ∧ d.bankUndriven b ∧ (d.bk b).gapDue = false then
         (((d.when_ (d.bk b).orderly fun d => d.up (CTD_BEVT_OPND b)).when_ ((d.when_ (d.bk b).orderly fun d =>
           d.up (CTD_BEVT_OPND b)).bankSt b == .closed) fun d => d.setBankSt b .opened).setPhase b
             (if d.get CTD_CTL_ROLE = 2 then .idle else .check)).setBk b fun v =>
               { v with orderly := false, vxSeen := false, weldRun := 0, path := false }
       else d))) ∧
    (∀ b : Fin 4, s.dev.phase b = .check → s.dev.get CTD_CTL_ROLE ≠ 2 → (s.dev.bk b).auxClosed ≠ 0#3 →
      let d := (s.dev.setPhase b .idle).when_ ((s.dev.bk b).auxClosed.getLsbD 0) fun d => d.weldDriver (3 * b)
      let d := d.when_ ((s.dev.bk b).auxClosed.getLsbD 1) fun d => d.weldDriver (3 * b + 1)
      let d := d.when_ ((s.dev.bk b).auxClosed.getLsbD 2) fun d => d.weldDriver (3 * b + 2)
      exec (.openCheckEnd b) s = .next (s.after (d.up (CTD_BEVT_WELD b)))) ∧
    (∀ b : Fin 4, s.dev.phase b = .check → s.dev.get CTD_CTL_ROLE ≠ 2 → (s.dev.bk b).auxClosed = 0#3 →
      (10 ≤ (s.dev.bk b).weldRun → exec (.openCheckEnd b) s = .next (s.after
        ((((s.dev.setPhase b .idle).weldDriver (3 * b)).weldDriver (3 * b + 1)).up (CTD_BEVT_WELD b)))) ∧
      ((s.dev.bk b).weldRun < 10 → (s.dev.bk b).vxSeen = true →
        exec (.openCheckEnd b) s = .next (s.after (s.dev.setPhase b .idle))) ∧
      ((s.dev.bk b).weldRun < 10 → (s.dev.bk b).vxSeen = false →
        exec (.openCheckEnd b) s = .next (s.after ((s.dev.setPhase b .idle).up (CTD_BEVT_INDET b))))) ∧
    exec .resistorModelTick s = .next (s.after ((((s.dev.bankTick 0).bankTick 1).bankTick 2).bankTick 3)) ∧
    (∀ b : Fin 4, (s.dev.dk (3 * b)).waitRel = false → (s.dev.dk (3 * b + 1)).waitRel = false →
      (s.dev.dk (3 * b + 2)).waitRel = false → exec (.shadowReleaseTimeout b) s = .next (s.after s.dev)) ∧
    (∀ b : Fin 4, (s.dev.dk (3 * b)).waitRel = true → ∃ t, exec (.shadowReleaseTimeout b) s = .next t ∧
      (t.dev.dk (3 * b)).waitRel = false ∧ (t.dev.dk (3 * b + 1)).waitRel = false ∧ (t.dev.dk (3 * b + 2)).waitRel = false)

/-- R249 to R255, R266, R267, R418, R465: what one driver does when its armature moves, pull-in ends, a check or a fault
comes. Readings and choices of the model that it rests on: log entry 51. -/
def Obligations.DriverEvents : Prop :=
  ∀ (s : State) (k : Fin 12),
    (∀ t : Half, s.dev.on (CTD_DCFG_ARMEN k) = true → s.dev.drvSt k = .pullIn → (s.dev.dk k).pulling = true →
      (s.dev.dk k).moved = false → exec (.armatureMovement k t) s =
        .next (s.after ((((s.dev.setDk k fun v => { v with moved := true }).put (CTD_DARMT_T k) t.toNat).up
          (CTD_DEVT_ARM k)).armature k))) ∧
    (∀ t : Half, s.dev.on (CTD_DCFG_ARMEN k) = false ∨ s.dev.drvSt k ≠ .pullIn →
      exec (.armatureMovement k t) s = .next (s.after s.dev)) ∧
    ((s.dev.dk k).pulling = false → exec (.pullInEnd k) s = .next (s.after s.dev)) ∧
    (s.dev.get CTD_CTL_ROLE = 2 → exec (.pullInEnd k) s = .next (s.after s.dev)) ∧
    (s.dev.get CTD_CTL_ROLE ≠ 2 → (s.dev.dk k).pulling = true →
      let d := (s.dev.setDk k fun v => { v with pulling := false }).when_
        ((s.dev.setDk k fun v => { v with pulling := false }).drvSt k == .pullIn) fun d => (d.setDrvSt k .hold).askShadow k
      (d.on (CTD_DCFG_ARMEN k) = false → exec (.pullInEnd k) s = .next (s.after (d.armature k))) ∧
      (d.on (CTD_DCFG_ARMEN k) = true → (d.dk k).moved = true → exec (.pullInEnd k) s = .next (s.after d)) ∧
      (d.on (CTD_DCFG_ARMEN k) = true → (d.dk k).moved = false → exec (.pullInEnd k) s = .next (s.after
        (if ((d.up (CTD_DEVT_NOARM k)).phase (k.val / 3)).connecting then
          (d.up (CTD_DEVT_NOARM k)).endConnect (k.val / 3) 3 3
        else d.up (CTD_DEVT_NOARM k))))) ∧
    (∀ l : Bool, s.dev.on (CTD_DCFG_AUXEN k) = true → (s.dev.dk k).auxDue = none → exec (.auxCheck k l) s =
      .next (s.after (s.dev.putB (CTD_DST_AUX k) (l != s.dev.on (CTD_DCFG_AUXPOL k))))) ∧
    (∀ l : Bool, s.dev.on (CTD_DCFG_AUXEN k) = false → exec (.auxCheck k l) s = .next (s.after s.dev)) ∧
    ((s.dev.drvSt k).high = false → exec (.outputCurrentLimit k) s = .next (s.after s.dev)) ∧
    ((s.dev.drvSt k).high = true → (s.dev.dk k).shortAt = none →
      let d := (s.dev.up (CTD_DEVT_SHORT k)).openDriver k
      exec (.outputCurrentLimit k) s =
        .next (s.after ((d.setDk k fun v => { v with shortAt := some d.now }).driverFault k))) ∧
    (s.dev.drvSt k = .pullIn ∨ s.dev.drvSt k = .hold →
      exec (.coilCurrentLow k true) s = .next (s.after ((s.dev.up (CTD_DEVT_OPENC k)).driverFault k)) ∧
      exec (.coilCurrentLow k false) s = .next (s.after ((s.dev.up (CTD_DEVT_LOWI k)).driverFault k)) ∧
      (s.dev.get CTD_CTL_ROLE ≠ 2 →
        exec (.seriesSwitchTest k false) s = .next (s.after ((s.dev.up (CTD_DEVT_SSF k)).fenceDriver k)) ∧
        exec (.seriesSwitchTest k true) s = .next (s.after s.dev))) ∧
    (s.dev.awake = true → s.dev.sys.appHeld = false →
      exec .driversDisable s = .next (s.after (((s.dev.put CTD_CTL_EN 0).disableDrivers).st uCTD .ok))) ∧
    (∃ t, exec (.shadowReleased k) s = .next t ∧ t.dev.prl.shadowed.getLsbD k.val = false)

/-- R216, R217, R227, R231, R233, R234, R237 to R240: the referee's deadlines, faults, keys, releases, arming. Readings and
choices of the model that it rests on: log entries 48, 110. -/
def Obligations.RefereeEvents : Prop :=
  ∀ s : State,
    (∀ x : Fin 512, s.dev.awake = true → (∀ c ∈ s.dev.ref.confs, c.str ≠ x) →
      exec (.penConfirmDeadline x) s = .next (s.after s.dev)) ∧
    (∀ x : Fin 512, s.dev.awake = true → (∃ c ∈ s.dev.ref.confs, c.str = x) →
      exec (.penConfirmDeadline x) s = .next (s.after (s.dev.raisePenf x))) ∧
    (∀ b : Fin 4, s.dev.awake = true → s.dev.ref.ib1[b] = true → s.dev.ref.ib1Raised[b] = false →
      exec (.band1Persistence b) s = .next (s.after
        (({ s.dev with ref := { s.dev.ref with ib1Raised := s.dev.ref.ib1Raised.set b true } }).raiseBank 11 b.val))) ∧
    (s.dev.awake = true → s.dev.copiesAgree = true → exec .channelComparePass s = .next (s.after s.dev)) ∧
    (s.dev.awake = true → s.dev.copiesAgree = false → exec .channelComparePass s = .next (s.after s.dev.chanCause)) ∧
    (s.dev.awake = true → exec .channelDisagree s = .next (s.after s.dev.chanCause)) ∧
    (∃ t, exec .heartbeatTimeout s = .next t ∧ t.dev.fd.hbCause = true ∧ t.dev.fd.tripLatch = true ∧
      (s.dev.mode.live = true → t.dev.mode = .tripped)) ∧
    (s.dev.awake = true → s.dev.on REF_ST_TRIPO = true → exec .tripNSensed s = .next (s.after s.dev)) ∧
    (s.dev.awake = true → s.dev.on REF_ST_TRIPO = false → s.dev.mode.live = true →
      exec .tripNSensed s = .next (s.after
        (({ s.dev.put REF_ST_TRIPI 1 with ref := { s.dev.ref with lowAt := some s.dev.now } }).raiseAll 15))) ∧
    (s.dev.awake = true → s.dev.on REF_ST_TRIPO = false → s.dev.mode.live = false → exec .tripNSensed s = .next (s.after
        { s.dev.put REF_ST_TRIPI 1 with ref := { s.dev.ref with lowAt := some s.dev.now } })) ∧
    (s.dev.awake = true → s.dev.sys.appHeld = false → s.dev.mode = .muster ∨ s.dev.mode = .ready →
      exec .arm s = .next (s.after (({ s.dev.put REF_CTL_ARM 1 with ref := { s.dev.ref with armDue := some true } }).st uREF .ok)) ∧
      exec .disarm s = .next (s.after (({ s.dev.put REF_CTL_ARM 0 with ref := { s.dev.ref with armDue := some false } }).st uREF .ok))) ∧
    (s.dev.awake = true → s.dev.sys.appHeld = false → s.dev.mode ≠ .muster → s.dev.mode ≠ .ready →
      exec .arm s = .next (s.after (s.dev.st uREF .reject)) ∧ exec .disarm s = .next (s.after (s.dev.st uREF .reject))) ∧
    (s.dev.awake = true → exec .loosenWindowExpiry s = .next (s.after (s.dev.put REF_ST_LOOSE 0)))

/-- R219, R233, R234, R239, R240, R51: the table write, the loosen keys, pen and bank releases. Readings and choices of the
model that it rests on: log entries 46, 47, 50. -/
def Obligations.RefereeWrites : Prop :=
  ∀ s : State, s.dev.awake = true → s.dev.sys.appHeld = false →
    (∀ g : Byte, g.toNat ≠ s.dev.gen uREF →
      exec (.tableCompareWrite g) s = .next (s.after ((s.dev.tst .reset 0 (s.dev.gen uREF)).st uREF .reset))) ∧
    (∀ g : Byte, g.toNat = s.dev.gen uREF → s.dev.follower = false → 0x811 < s.dev.get REF_TADDR_IDX →
      ∃ t, exec (.tableCompareWrite g) s = .next t ∧ t.dev.get REF_TST_ST = Status.range.code ∧ t.dev.get REF_TST_WHY = 3 ∧
        t.dev.ref.chB = s.dev.ref.chB) ∧
    (∀ g : Byte, g.toNat = s.dev.gen uREF →
      let d := s.dev.st uREF .ok
      let x := d.get REF_TADDR_IDX
      let a := 0x60148000 + 4 * x
      let new := d.rget REF_TNEW
      d.follower = false → x ≤ 0x811 → d.refWord .a a = d.refWord .b a →
      (d.refWord .a a ≠ d.rget REF_TCMP →
        exec (.tableCompareWrite g) s = .next (s.after (d.tst .reject 1 (s.dev.gen uREF)))) ∧
      (d.refWord .a a = d.rget REF_TCMP → tableWordOk x new = false →
        exec (.tableCompareWrite g) s = .next (s.after (d.tst .range 3 (s.dev.gen uREF)))) ∧
      (d.refWord .a a = d.rget REF_TCMP → tableWordOk x new = true → d.on REF_ST_ARMED = true →
        looserWord x (d.refWord .a a) new = true → d.on REF_ST_LOOSE = false ∨ d.mode ≠ .ready →
        exec (.tableCompareWrite g) s = .next (s.after (d.tst .reject 2 (s.dev.gen uREF)))) ∧
      (d.refWord .a a = d.rget REF_TCMP → tableWordOk x new = true →
        d.on REF_ST_ARMED = false ∨ looserWord x (d.refWord .a a) new = false ∨ (d.on REF_ST_LOOSE = true ∧ d.mode = .ready) →
        exec (.tableCompareWrite g) s = .next (s.after (((d.tableStore x new).tst .ok 0 (s.dev.gen uREF)).when_ d.isActive
          fun e => e.prlSend (.mirror (.tableWrite (BitVec.ofNat 12 x) new)))))) ∧
    (s.dev.on REF_ST_LOOSE = false → s.dev.mode = .ready → s.dev.on REF_ST_ARMED = true → s.dev.ref.key1At = none →
      exec (.loosenKey 0xB4#32) s =
        .next (s.after (({ s.dev with ref := { s.dev.ref with key1At := some s.dev.now } }).st uREF .ok))) ∧
    (∀ t : Nat, s.dev.on REF_ST_LOOSE = false → s.dev.mode = .ready → s.dev.on REF_ST_ARMED = true →
      s.dev.ref.key1At = some t → s.dev.now ≤ t + 10000000 → exec (.loosenKey 0x4B#32) s =
        .next (s.after ((({ s.dev with ref := { s.dev.ref with key1At := none } }).put REF_ST_LOOSE 1).st uREF .ok))) ∧
    (∀ key : Word, s.dev.on REF_ST_LOOSE = false → s.dev.mode ≠ .ready → exec (.loosenKey key) s =
      .next (s.after (({ s.dev with ref := { s.dev.ref with key1At := none } }).st uREF .reject))) ∧
    (∀ (x : Fin 512) (all : Bool), s.dev.follower = true →
      exec (.penRelease x all) s = .next (s.after (s.dev.st uREF .reject))) ∧
    (∀ x : Fin 512, s.dev.follower = false → s.dev.isActive = false → s.dev.penHeld x.val = true →
      s.dev.penReleasable x.val = true → ∃ t, exec (.penRelease x false) s = .next t ∧ t.dev.penHeld x.val = false ∧
        t.dev.get (lastFld uREF) = Status.ok.code) ∧
    (∀ x : Fin 512, s.dev.follower = false → s.dev.penHeld x.val = true → s.dev.penReleasable x.val = false →
      ∃ t, exec (.penRelease x false) s = .next t ∧ t.dev.penHeld x.val = true ∧
        t.dev.get (lastFld uREF) = Status.reject.code) ∧
    (∀ b : Fin 4, s.dev.follower = false → s.dev.isActive = false → s.dev.bankHold b.val = true → s.dev.mode ≠ .tripped →
      s.dev.inputValid 1 b.val = true → (s.dev.ref.bankQuiet[b.val]?).getD 0 = 101 → exec (.bankRelease b) s =
        .next (s.after (((s.dev.put (bankHoldFld b.val) 0).setBankSt b.val .opened).st uREF .ok))) ∧
    (∀ b : Fin 4, s.dev.follower = false → s.dev.bankHold b.val = true → s.dev.mode = .tripped →
      exec (.bankRelease b) s = .next (s.after (s.dev.st uREF .reject)))

/-- R18, R164, R169 to R175: the scorer's runs, jobs, kernel choice, lookup data and lane fences. Readings and choices of the
model that it rests on: log entries 15, 54. -/
def Obligations.ScorerCommands : Prop :=
  ∀ s : State, s.dev.awake = true →
    (s.dev.sys.appHeld = false →
      (s.dev.on SCR_CTL_RUN = true → exec .scorerStart s = .next (s.after (s.dev.st uSCR .ok))) ∧
      (s.dev.on SCR_CTL_RUN = false → ∃ t, exec .scorerStart s = .next t ∧ t.dev.scr.last0 = none ∧ t.dev.scr.last1 = none ∧
        t.dev.scr.due = none) ∧
      (s.dev.scr.job = none → exec .scorerStop s = .next (s.after
        (({ s.dev.put SCR_CTL_RUN 0 with scr := { s.dev.scr with due := none } }).scrState.st uSCR .ok))) ∧
      (∀ k : Fin 8, s.dev.on SCR_LOCK_LOCK = true → k.val ≠ s.dev.get SCR_KSEL_SLOT →
        exec (.kernelSelect k) s = .next (s.after (s.dev.st uSCR .locked))) ∧
      (∀ k : Fin 8, s.dev.on SCR_LOCK_LOCK = false → s.dev.on (SCR_KINFO_VALID k.val) = false →
        exec (.kernelSelect k) s = .next (s.after (s.dev.st uSCR .reject))) ∧
      (∀ k : Fin 8, s.dev.on SCR_LOCK_LOCK = false → s.dev.on (SCR_KINFO_VALID k.val) = true →
        exec (.kernelSelect k) s = .next (s.after ((s.dev.put SCR_KSEL_SLOT k.val).st uSCR .ok))) ∧
      (∀ v : Word, s.dev.scrStopped = false → exec (.lutDataAccess (some v)) s = .next (s.after (s.dev.st uSCR .busy))) ∧
      (∀ v : Word, s.dev.scrStopped = true → v ≠ 0#32 →
        let m := mapSet (1024 * s.dev.get SCR_LUTA_TABLE + s.dev.get SCR_LUTA_POINT) v s.dev.scr.luts
        let d : Device := { s.dev with scr := { s.dev.scr with luts := m } }
        exec (.lutDataAccess (some v)) s = .next (s.after (d.lutStep.st uSCR .ok))) ∧
      (∀ (k : Fin 8) (g : Byte), g.toNat ≠ s.dev.gen uSCR →
        exec (.jobStart k g) s = .next (s.after (s.dev.st uSCR .reset))) ∧
      (∀ (k : Fin 8) (g : Byte), g.toNat = s.dev.gen uSCR → s.dev.on BUD_CTL_EN = false → s.dev.scrStopped = false →
        s.dev.scr.job = none → s.dev.on (SCR_KINFO_VALID k.val) = true → 0 < s.dev.get SCR_JCNT_COUNT →
        s.dev.get SCR_JROW_FIRST + s.dev.get SCR_JCNT_COUNT ≤ s.dev.get SCR_ROWS_ROWS → exec (.jobStart k g) s =
          .next (s.after ((s.dev.beginJob k.val (s.dev.get SCR_JROW_FIRST) (s.dev.get SCR_JCNT_COUNT) g.toNat none).st uSCR .ok))) ∧
      (∀ m : BitVec 8, m.toNat ||| s.dev.get SCR_FENCE_FENCE = s.dev.get SCR_FENCE_FENCE →
        exec (.laneFenceWrite m) s = .next (s.after (s.dev.st uSCR .ok))) ∧
      (∀ m : BitVec 8, m.toNat ||| s.dev.get SCR_FENCE_FENCE ≠ s.dev.get SCR_FENCE_FENCE →
        exec (.laneFenceWrite m) s = .next (s.after ((((s.dev.put SCR_FENCE_FENCE (m.toNat ||| s.dev.get SCR_FENCE_FENCE)).up
          SCR_EVT_FENCE).stopIfFenced).st uSCR .ok)))) ∧
    (exec (.lutDataAccess none) s = .next (s.after s.dev.lutStep)) ∧
    (∀ e per ms : Nat, s.dev.scr.due = some (e, per, ms) → s.dev.scr.sweep = none → s.dev.scorerReady = true →
      (s.dev.lanesInService ≠ [] → exec .sweepStart s = .next (s.after (s.dev.startSweep e per ms))) ∧
      (s.dev.lanesInService = [] → exec .sweepStart s = .next (s.after
        ({ s.dev.suspendJob with scr := { s.dev.suspendJob.scr with due := none } } : Device).stopIfFenced))) ∧
    (s.dev.scr.due = none → exec .sweepStart s = .next (s.after s.dev)) ∧
    (∀ (l : Fin 64) (f : LaneFault), (s.dev.lane l.val).row = none → exec (.invocationRetire l f) s = .next (s.after s.dev)) ∧
    (∀ (l : Fin 64) (f : LaneFault) (r slot : Nat) (w : Sweep), (s.dev.lane l.val).row = some r →
      s.dev.runningSlot = some (slot, false) → s.dev.scr.sweep = some w → 1 < w.left →
      exec (.invocationRetire l f) s = .next (s.after (s.dev.retire l.val f))) ∧
    (∀ j : Job, s.dev.scr.job = some j → j.next = j.count → exec .jobDone s = .next (s.after (s.dev.endJob 0))) ∧
    (∀ j : Job, s.dev.scr.job = some j → j.next ≠ j.count → exec .jobDone s = .next (s.after s.dev))

/-- R19, R179 to R182, R24, R328 to R335: the publish unit, thermal budget and job dispatch. Readings and choices of the model
that it rests on: log entries 56, 57, 59, 60, 61. -/
def Obligations.PublishAndBudget : Prop :=
  ∀ s : State, s.dev.awake = true →
    (∃ t, exec .staleTimeout s = .next t ∧ t.dev.pub.frac = [] ∧
      (∀ x : Fin 512, t.dev.get (PUB_SLIM_ILIMC x.val) = 0 ∧ t.dev.get (PUB_SLIM_ILIMD x.val) = 0) ∧
      (∀ b : Fin 4, t.dev.get (PUB_BLIMC_LIM b.val) = 0 ∧ t.dev.get (PUB_BLIMD_LIM b.val) = 0)) ∧
    (s.dev.pub.initd = true → exec .pubInitDone s = .next (s.after s.dev)) ∧
    (s.dev.pub.initd = false → ∃ t, exec .pubInitDone s = .next t ∧ t.dev.pub.initd = true ∧ ∀ r : Nat, r < 196608 →
      ∀ k < 4, memGet t.dev.mem (0x40000008 + 64 * r + k) = memDefault (0x40000008 + 64 * r + k)) ∧
    (s.dev.pub.commit = none → exec .publishInstant s = .next (s.after s.dev)) ∧
    (∀ e ms : Nat, s.dev.pub.commit = some (e, ms) → ∃ t, exec .publishInstant s = .next t ∧ t.dev.pub.commit = none ∧
      t.dev.pub.lastMs = some ms ∧ 160 ∈ t.dev.pulses ∧ 161 ∈ t.dev.pulses ∧ t.dev.get PUB_CEP_EPOCH = e % 4294967296) ∧
    (exec .throttleStep s = .next (s.after { s.dev with sys := { s.dev.sys with step := s.dev.get THM_ST_STATE } })) ∧
    (∀ v, exec (.thermalSample v) s = .next (s.after (s.dev.thermalSample v)) ∧
      ((s.dev.thermalSample v).settle.now = s.dev.now)) ∧
    (s.dev.mayStepDown = false → exec .budgetStepDown s = .next (s.after s.dev)) ∧
    (s.dev.mayStepDown = true → s.dev.on THM_ST_HOLD = true →
      exec .budgetStepDown s = .next (s.after { s.dev with thm := { s.dev.thm with due := true } })) ∧
    (s.dev.mayStepDown = true → s.dev.on THM_ST_HOLD = false → exec .budgetStepDown s = .next (s.after s.dev.stepDown)) ∧
    (s.dev.thm.due = false → exec .sensorFailHoldExpiry s = .next (s.after (s.dev.put THM_ST_HOLD 0))) ∧
    (s.dev.thm.trip = true → ∃ t, exec .orderlyTripSecondStage s = .next t ∧ t.dev.thm.trip = false) ∧
    (exec .bucketFill s = .next (s.after
      (s.dev.setBucket (s.dev.bud.bucket + s.dev.get BUD_EBUD_EBUD * energyRate (s.dev.get THM_ST_STATE) * 10000)))) ∧
    (s.dev.on BUD_CTL_EN = false → exec .jobDispatch s = .next (s.after s.dev)) ∧
    (∀ j : Nat, s.dev.get SCR_ST_STATE = 1 → s.dev.on BUD_CTL_EN = true → s.dev.scr.job = none → s.dev.scr.due = none →
      ((List.range 16).filter s.dev.eligible).foldl s.dev.betterEntry none = some j →
      let d := ((s.dev.setBucket (s.dev.bud.bucket - s.dev.entryCost j)).put BUD_JST_ENTRY j).put BUD_JST_BUSY 1
      exec .jobDispatch s = .next (s.after (d.beginJob (d.get (BUD_QCFG_SLOT j)) (d.get (BUD_QROW_FIRST j))
        (d.get (BUD_QCNT_COUNT j)) (d.gen uSCR) (some j))))

/-- R49, R363 to R375: commands of the load switches. Readings and choices of the model that it rests on: log entries 42, 67. -/
def Obligations.LoadCommands : Prop :=
  ∀ s : State, s.dev.awake = true → s.dev.sys.appHeld = false →
    (∀ m : BitVec 16, s.dev.sys.reassertDue = true →
      exec (.loadTurnOn m) s = .next (s.after (s.dev.st uLSW .busy)) ∧
      exec (.loadTurnOff m) s = .next (s.after (s.dev.st uLSW .busy)) ∧
      exec (.latchClear m) s = .next (s.after (s.dev.st uLSW .busy))) ∧
    (∀ n : Fin 16, s.dev.sys.reassertDue = false →
      (s.dev.loadSt n = .off → s.dev.on LSW_CTL_EN = true → exec (.loadTurnOn (1#16 <<< n.val)) s =
        .next (s.after (((s.dev.put (loadOut n) 1).setLoadSt n .inrush).st uLSW .ok))) ∧
      (s.dev.loadSt n = .latched ∨ s.dev.loadSt n = .locked →
        exec (.loadTurnOn (1#16 <<< n.val)) s = .next (s.after (s.dev.st uLSW .reject))) ∧
      (s.dev.loadSt n = .fenced → exec (.loadTurnOn (1#16 <<< n.val)) s = .next (s.after (s.dev.st uLSW .fenced))) ∧
      (exec (.loadTurnOff (1#16 <<< n.val)) s = .next (s.after ((s.dev.turnOff n).st uLSW .ok))) ∧
      (s.dev.loadSt n = .latched → exec (.latchClear (1#16 <<< n.val)) s =
        .next (s.after (((s.dev.setLoadSt n .off).put (LSW_CST_CNT n) 0).st uLSW .ok))) ∧
      (s.dev.loadSt n ≠ .latched → exec (.latchClear (1#16 <<< n.val)) s = .next (s.after (s.dev.st uLSW .ok)))) ∧
    (∀ n : Fin 16, exec (.clampEnergyClear n) s = .next (s.after ((s.dev.ceaccClear n).st uLSW .ok))) ∧
    (∀ m : BitVec 16, exec (.loadFence m) s = .next (s.after ((s.dev.fenceLoads m.toNat).st uLSW .ok)))

/-- R363, R366, R367, R369 to R372, R374: what a load channel does on currents, voltages, retries and supply faults. Readings
and choices of the model that it rests on: log entry 67. -/
def Obligations.LoadEvents : Prop :=
  ∀ (s : State) (n : Fin 16),
    (s.dev.fd.outputsOff = false →
      (∀ a : Bool, s.dev.loadSt n = .inrush → exec (.inrushEnd n a) s = .next (s.after (s.dev.setLoadSt n .on_))) ∧
      (∀ a : Bool, s.dev.loadSt n ≠ .inrush → exec (.inrushEnd n a) s = .next (s.after s.dev)) ∧
      (s.dev.loadSt n = .off → exec (.loadOverCurrent n) s = .next (s.after s.dev)) ∧
      (s.dev.loadSt n = .inrush ∨ s.dev.loadSt n = .on_ →
        let c := min 15 (s.dev.get (LSW_CST_CNT n) + 1)
        let d := ((s.dev.put (LSW_CST_CNT n) c).count16 (LSW_OCCNT n)).up (LSW_CEVT_OC n)
        (d.get (LSW_CCFG_RETRY n) ≤ c → exec (.loadOverCurrent n) s =
          .next (s.after (((d.setLoadSt n .latched).put (loadOut n) 0).up (LSW_CEVT_LATCH n)))) ∧
        (c < d.get (LSW_CCFG_RETRY n) → exec (.loadOverCurrent n) s =
          .next (s.after ((d.setLoadSt n .pause).setLoad n fun v => { v with pauseMs := retryPause c })))) ∧
      (s.dev.loadSt n = .pause → s.dev.on (LSW_CST_DEF n) = false →
        (s.dev.neighbourInrush n = false → exec (.retryDue n) s = .next (s.after (s.dev.setLoadSt n .inrush))) ∧
        (s.dev.neighbourInrush n = true → exec (.retryDue n) s =
          .next (s.after ((s.dev.setLoadSt n .pause).put (LSW_CST_DEF n) 1)))) ∧
      (s.dev.loadSt n = .on_ →
        exec (.overCurrentCountReset n) s = .next (s.after (s.dev.put (LSW_CST_CNT n) 0)) ∧
        (s.dev.on (LSW_CCFG_OLR n) = true →
          exec (.openLoadDetect n false) s = .next (s.after (s.dev.put (LSW_CST_OPENL n) 0)) ∧
          (s.dev.on (LSW_CST_OPENL n) = false → exec (.openLoadDetect n true) s =
            .next (s.after ((s.dev.put (LSW_CST_OPENL n) 1).up (LSW_CEVT_OPENL n)))))) ∧
      (∀ mv : Int, s.dev.loadSt n ≠ .off → exec (.offStateDiag n mv) s = .next (s.after s.dev)) ∧
      (∀ mv : Int, s.dev.loadSt n = .off → s.dev.on (LSW_CCFG_OFFD n) = true → 6000 < mv → mv ≤ 7000 →
        exec (.offStateDiag n mv) s = .next (s.after (s.dev.setLoad n fun v =>
          { v with openRun := 0, stbRun := 0, lowRun := 0 }))) ∧
      (∀ j : Fin 4, ((segChannels j).any fun k => s.dev.loadSt k == .inrush) = true →
        exec (.deferredRetry j) s = .next (s.after s.dev)) ∧
      (∀ j : Fin 4, ((segChannels j).any fun k => s.dev.loadSt k == .inrush) = false →
        ((segChannels j).find? fun k => s.dev.loadSt k == .pause && s.dev.on (LSW_CST_DEF k)) = some n.val →
        exec (.deferredRetry j) s = .next (s.after (s.dev.setLoadSt n .inrush)))) ∧
    (∀ e : Nat, e ≤ 1000 → s.dev.on (LSW_CCFG_CLM n) = false →
      ∃ t, exec (.clampPulseEnd n e) s = .next t ∧ t.dev.get (LSW_CLE_E n) = e) ∧
    (∀ (j : Fin 4) (f : SegFault), exec (.segmentSupplyFault j f) s = .next (s.after
      ((segChannels j).foldl (fun d k => d.intoSupply k (LSW_CEVT_SUP k))
        (s.dev.put (segFld j) (match f with | .underVoltage => 1 | .surge => 2 | .reverse => 3))))) ∧
    (exec .groundLoss s = .next (s.after ((List.range 16).foldl (fun d k => d.intoSupply k (LSW_CEVT_GNDL k))
      (s.dev.put LSW_SUP_GNDL 1)))) ∧
    (∀ j : Fin 4, exec (.supplyRestored (.segment j)) s =
      .next (s.after ((List.range 16).foldl (fun d k => d.outOfSupply k) (s.dev.put (segFld j) 0)))) ∧
    (exec (.supplyRestored .ground) s =
      .next (s.after ((List.range 16).foldl (fun d k => d.outOfSupply k) (s.dev.put LSW_SUP_GNDL 0)))) ∧
    (s.dev.loadSt n = .off ∨ s.dev.loadSt n = .pause →
      exec (.stuckOn n) s = .next (s.after ((s.dev.up (LSW_CEVT_STUCK n)).fenceLoad n))) ∧
    (s.dev.loadSt n = .on_ ∨ s.dev.loadSt n = .fenced → exec (.stuckOn n) s = .next (s.after s.dev))

/-- R49, R51, R351, R355, R357, R358: commands of the motor units. Readings and choices of the model that it rests on: log
entry 42. -/
def Obligations.MotorCommands : Prop :=
  ∀ (s : State) (u : Fin 4), s.dev.awake = true → s.dev.sys.appHeld = false →
    (∀ g : Byte, s.dev.sys.reassertDue = true →
      exec (.motorStart u g) s = .next (s.after (s.dev.st uMTR .busy)) ∧
      exec (.motorStop u g) s = .next (s.after (s.dev.st uMTR .busy)) ∧
      exec (.motorCoast u g) s = .next (s.after (s.dev.st uMTR .busy)) ∧
      exec (.motorClear u g) s = .next (s.after (s.dev.st uMTR .busy))) ∧
    (∀ g : Byte, s.dev.sys.reassertDue = false → g.toNat ≠ s.dev.gen uMTR →
      exec (.motorStart u g) s = .next (s.after (s.dev.st uMTR .reset)) ∧
      exec (.motorStop u g) s = .next (s.after (s.dev.st uMTR .reset)) ∧
      exec (.motorCoast u g) s = .next (s.after (s.dev.st uMTR .reset)) ∧
      exec (.motorClear u g) s = .next (s.after (s.dev.st uMTR .reset))) ∧
    (∀ g : Byte, s.dev.sys.reassertDue = false → g.toNat = s.dev.gen uMTR →
      (s.dev.startStatus u = .ok → exec (.motorStart u g) s =
        .next (s.after (((s.dev.put (MTR_ST_FAILS u) 0).motCatch u false false).st uMTR .ok))) ∧
      (s.dev.startStatus u ≠ .ok → exec (.motorStart u g) s = .next (s.after (s.dev.st uMTR (s.dev.startStatus u)))) ∧
      (s.dev.motSt u = .run → exec (.motorStop u g) s = .next (s.after ((s.dev.setMotSt u .stopping).st uMTR .ok))) ∧
      ((s.dev.motSt u).active = true → exec (.motorCoast u g) s = .next (s.after (((s.dev.setMotSt u .coast).setMot u fun m =>
        { m with measuring := false, resync := false, uvWait := false, uvCatch := false }).st uMTR .ok))) ∧
      (s.dev.motSt u ≠ .fault → exec (.motorClear u g) s = .next (s.after (s.dev.st uMTR .reject))) ∧
      (s.dev.motSt u = .fault → exec (.motorClear u g) s =
        .next (s.after ((((s.dev.put (MTR_ST_FLT u) 0).put (MTR_ST_FAILS u) 0).motStop u).st uMTR .ok)))) ∧
    (∀ v : Half, s.dev.sys.reassertDue = false → s.dev.get (MTR_LIM_SMAX u) < (signed 16 v.toNat).natAbs →
      exec (.speedReferenceWrite u v) s = .next (s.after (s.dev.st uMTR .range))) ∧
    (∀ v : Half, s.dev.sys.reassertDue = false → (signed 16 v.toNat).natAbs ≤ s.dev.get (MTR_LIM_SMAX u) → v ≠ 0#16 →
      exec (.speedReferenceWrite u v) s = .next (s.after ((s.dev.put (MTR_SREF_SREF u) v.toNat).st uMTR .ok))) ∧
    (exec (.motorDisable u) s =
      .next (s.after ((s.dev.motEnWrite (s.dev.get MTR_CTL_EN &&& (15 - 2 ^ u.val))).st uMTR .ok))) ∧
    (∀ m : BitVec 4, exec (.motorFence m) s = .next (s.after ((s.dev.fenceMotors m.toNat).st uMTR .ok)))

/-- R343 to R357: what a motor unit does at its control period, its catch-spin and timers, and on its faults. Readings and
choices of the model that it rests on: log entries 64, 65. -/
def Obligations.MotorEvents : Prop :=
  ∀ (s : State) (u : Fin 4), s.dev.awake = true →
    (∀ m : MotorSample, exec (.currentLoopPeriod u m) s = .next (s.after (s.dev.loopPeriod u m)) ∧
      (s.dev.motSt u = .fenced → s.dev.loopPeriod u m = s.dev)) ∧
    (s.dev.motSt u = .catch_ → exec (.catchDecayDone u) s = .next (s.after (s.dev.setMot u fun m => { m with measuring := true }))) ∧
    (∀ r : Int, s.dev.motSt u = .catch_ → (s.dev.mot u).measuring = true →
      exec (.catchMeasureDone u r) s = .next (s.after (s.dev.catchDone u r))) ∧
    (∀ r : Int, s.dev.motSt u ≠ .catch_ → exec (.catchDecayDone u) s = .next (s.after s.dev) ∧
      exec (.catchMeasureDone u r) s = .next (s.after s.dev)) ∧
    (s.dev.motSt u = .align → exec (.alignDone u) s =
      .next (s.after ((s.dev.setMot u fun m => { m with ifq := 0 }).setMotSt u .ifRamp))) ∧
    (s.dev.motSt u = .ifRamp → (s.dev.mot u).ifq = s.dev.hovAs u (s.dev.sref u) → (s.dev.mot u).good < 64 →
      exec (.noHandoverTimeout u) s = .next (s.after (s.dev.motFault u 4))) ∧
    (s.dev.motSt u = .waitRt → exec (.reverseRetryTimer u) s = .next (s.after (s.dev.motCatch u false false))) ∧
    (s.dev.motSt u = .run → (s.dev.mot u).good = 0 →
      s.dev.get (MTR_HOV_HOV u) ≤ (s.dev.gets (MTR_SPD_SPD u)).natAbs → (s.dev.mot u).synced = false →
      exec (.observerLoss u) s = .next (s.after (
        let d := (((s.dev.count16 (MTR_LOSSC u)).up (MTR_UEVT_LOSS u)).setMot u fun m => { m with synced := false })
        if (s.dev.mot u).pendSync then d.resyncFailed u else d.motCatch u true false))) ∧
    (s.dev.motSt u = .run → (s.dev.mot u).pendSync = true → exec (.resyncTimeout u) s = .next (s.after (s.dev.resyncFailed u))) ∧
    (exec (.phaseOverCurrent u) s = .next (s.after (s.dev.motFault u 1))) ∧
    (exec (.stageFault u) s = .next (s.after (s.dev.motFault u 2))) ∧
    (exec (.motorLaneFault u) s = .next (s.after (s.dev.motFault u 6))) ∧
    (exec (.converterSelfCheck u true) s = .next (s.after s.dev)) ∧
    (exec (.converterSelfCheck u false) s = .next (s.after (s.dev.motFault u 7))) ∧
    (s.dev.motSt u = .coast → (s.dev.mot u).uvWait = true →
      exec (.busUvRecovery u) s = .next (s.after (s.dev.motCatch u false true))) ∧
    (∀ c : Nat, s.dev.motSt u = .fault ∨ s.dev.motSt u = .fenced → s.dev.motFault u c = s.dev) ∧
    ((s.dev.motSt u).driven = false → s.dev.gates u = [(0, 0), (0, 0), (0, 0)]) ∧
    (∀ top dt cmp : Nat, cmp ≤ top → 0 < dt → dt ≤ top →
      (gateTimes top dt cmp).1 + (gateTimes top dt cmp).2 ≤ 2 * top ∧
      (dt ≤ 2 * cmp → dt ≤ 2 * (top - cmp) → (gateTimes top dt cmp).1 + dt = 2 * cmp ∧
        (gateTimes top dt cmp).2 + dt = 2 * (top - cmp)))

/-- R377, R378, R381 to R388: the CAN controllers. Readings and choices of the model that it rests on: log entries 16, 68, 69. -/
def Obligations.CanControllers : Prop :=
  ∀ (s : State) (c : Fin 4), s.dev.awake = true →
    (s.dev.sys.appHeld = false →
      (∀ o : Bool, exec (.canOfflineWrite c o) s = .next (s.after ((s.dev.offlWrite c o).st (uCAN c) .ok))) ∧
      (∀ (j : Fin 4) (b : Fin 32), s.dev.on (CAN_OCFG_EN c (32 * j + b)) = true →
        s.dev.on (CAN_OCFG_DIR c (32 * j + b)) = true → exec (.canTxRequest c j (1#32 <<< b.val)) s =
          .next (s.after ((s.dev.put (txReqFld c (32 * j + b)) 1).st (uCAN c) .ok))) ∧
      (∀ (j : Fin 4) (b : Fin 32), s.dev.on (CAN_OCFG_EN c (32 * j + b)) = false →
        exec (.canTxRequest c j (1#32 <<< b.val)) s = .next (s.after (s.dev.st (uCAN c) .reject))) ∧
      (∀ (j : Fin 4) (b : Fin 32), s.dev.txPending c (32 * j + b) = false →
        exec (.canTxAbort c j (1#32 <<< b.val)) s = .next (s.after (s.dev.st (uCAN c) .ok))) ∧
      (∀ (j : Fin 4) (b : Fin 32), s.dev.txPending c (32 * j + b) = true → (s.dev.cn c).cur = none →
        exec (.canTxAbort c j (1#32 <<< b.val)) s = .next (s.after ((s.dev.txAborted c (32 * j + b)).st (uCAN c) .ok)))) ∧
    (s.dev.canSt c = canJoining → exec (.canIntegrated c) s = .next (s.after (s.dev.setCanSt c canIdle))) ∧
    (s.dev.canSt c ≠ canJoining → exec (.canIntegrated c) s = .next (s.after s.dev)) ∧
    (∀ (m : Fin 128), s.dev.canSt c = canIdle → s.dev.on (CAN_CTL_LISTEN c) = false → s.dev.on (CAN_CTL_ACKONLY c) = false →
      s.dev.txChoice c = some m → s.dev.on (CAN_BST_PASSIVE c) = false → exec (.canArbitrationStart c false) s =
        .next (s.after ((s.dev.setCur c (some m)).setCanSt c canSending))) ∧
    (∀ (m : Fin 128), s.dev.canSt c = canIdle → s.dev.on (CAN_CTL_LISTEN c) = false → s.dev.on (CAN_CTL_ACKONLY c) = false →
      s.dev.txChoice c = some m → exec (.canArbitrationStart c true) s =
        .next (s.after (((s.dev.txAborted c m).put (CAN_OSTAT_INTG c m) 1).up (CAN_EVT_INTG c)))) ∧
    (∀ (m : Fin 128) (e : CanTxEnd), (s.dev.cn c).cur = some m →
      exec (.canTxComplete c e) s = .next (s.after (s.dev.txEnd c m e))) ∧
    (∀ e : CanTxEnd, (s.dev.cn c).cur = none → exec (.canTxComplete c e) s = .next (s.after s.dev)) ∧
    (∀ f : CanFrame, s.dev.canSt c = canIdle → f.fdf = false →
      exec (.canFrameReceived c f) s = .next (s.after (s.dev.canReceive c f))) ∧
    (∀ f : CanFrame, s.dev.canSt c = canOffline → exec (.canFrameReceived c f) s = .next (s.after s.dev)) ∧
    (∀ e : CanErr, s.dev.onBus c = true → exec (.canError c e) s = .next (s.after (s.dev.canError c e))) ∧
    (s.dev.canSt c = canRecovering → exec (.canRecoveryDone c) s = .next (s.after
      ((((((((s.dev.put (CAN_ERRC_TXE c) 0).put (CAN_ERRC_RXE c) 0).put (CAN_ERRC_RXPASS c) 0).put (CAN_BST_PASSIVE c) 0).put
        (CAN_BST_WARN c) 0).put (CAN_BST_BUSOFF c) 0).up (CAN_EVT_RCVD c)).setCanSt c canIdle))) ∧
    (exec (.canStatusRead c) s = .next (s.after ((s.dev.put (CAN_BST_NERR c) 0).put (CAN_BST_DERR c) 0)))

/-- R51, R391 to R393, R397, R400: the Ethernet MACs. Readings and choices of the model that it rests on: log entries 17, 70,
71. -/
def Obligations.EthernetMacs : Prop :=
  ∀ (s : State) (m : Fin 2), s.dev.awake = true →
    (∀ f : EthFrame, s.dev.on (ETH_CTL_RXEN m) = false →
      exec (.ethFrameReceived m f) s = .next (s.after s.dev)) ∧
    (∀ f : EthFrame, s.dev.on (ETH_CTL_RXEN m) = true → s.dev.ethAccepts m f.bytes = true → f.crcErr = false →
      65536 < s.dev.rxFill m + f.bytes.length → exec (.ethFrameReceived m f) s =
        .next (s.after ((s.dev.count32 (ETH_RXDROP m) 2).up (ETH_EVT_RXOVF m)))) ∧
    (∀ f : EthFrame, s.dev.on (ETH_CTL_RXEN m) = true → s.dev.ethAccepts m f.bytes = true → f.crcErr = false →
      s.dev.rxFill m + f.bytes.length ≤ 65536 → ∃ t, exec (.ethFrameReceived m f) s = .next t ∧
        t.dev.free = s.dev.free + 1) ∧
    ((s.dev.mac m).xoff = true → s.dev.rxFill m < 256 * s.dev.get (ETH_FC_XON m) → s.dev.mayPause m = true →
      exec (.ethXon m) s = .next (s.after (s.dev.sendPause m 0))) ∧
    ((s.dev.mac m).xoff = false → exec (.ethXon m) s = .next (s.after s.dev) ∧
      exec (.pauseRefresh m) s = .next (s.after s.dev)) ∧
    ((s.dev.mac m).xoff = true → 256 * s.dev.get (ETH_FC_XON m) < s.dev.rxFill m → s.dev.mayPause m = true →
      exec (.pauseRefresh m) s = .next (s.after (s.dev.sendPause m (s.dev.get (ETH_FC_PQ m))))) ∧
    (∀ q : Half, s.dev.on (ETH_CTL_RXEN m) = true → s.dev.on (ETH_CTL_PEN m) = true →
      exec (.ethPauseReceived m q) s = .next (s.after (s.dev.putB (ETH_ST_PAUSED m) (q != 0#16)))) ∧
    (∀ q : Half, s.dev.on (ETH_CTL_PEN m) = false → exec (.ethPauseReceived m q) s = .next (s.after s.dev)) ∧
    (exec (.pauseExpiry m) s = .next (s.after (s.dev.put (ETH_ST_PAUSED m) 0))) ∧
    (∀ e : EthTxEnd, s.dev.on (ETH_CTL_TXEN m) = false → exec (.ethFrameTransmit m e) s = .next (s.after s.dev)) ∧
    (∀ e : EthTxEnd, exec (.ethFrameTransmit m e) s = .next (s.after (s.dev.ethTransmit m e.ok))) ∧
    (∀ (l : Bool) (v : BitVec 2) (fd : Bool), s.dev.on (ETH_CTL_IF m) = true →
      exec (.ethLinkChange m l v fd) s = .next (s.after (s.dev.setLink m l v.toNat fd))) ∧
    (∀ (l : Bool) (v : BitVec 2) (fd : Bool), s.dev.on (ETH_CTL_IF m) = false →
      exec (.ethLinkChange m l v fd) s = .next (s.after s.dev)) ∧
    (s.dev.sys.appHeld = false → ∀ (reg phy : BitVec 5) (c45 : Bool) (g : Byte),
      (g.toNat ≠ s.dev.gen (uETH m) →
        let d := ((s.dev.put (ETH_MDST_ST m) Status.reset.code).put (ETH_MDST_GEN m) (s.dev.gen (uETH m))).st (uETH m) .reset
        exec (.mdioWrite m reg phy c45 g) s = .next (s.after d) ∧ exec (.mdioRead m reg phy c45 g) s = .next (s.after d) ∧
        exec (.mdioAddress m reg phy c45 g) s = .next (s.after d)) ∧
      (g.toNat = s.dev.gen (uETH m) → (s.dev.mac m).mdio = none →
        let d (op : Nat) := ((s.dev.setMac m fun v => { v with mdio := some ⟨op, reg.toNat, phy.toNat, c45, g.toNat, s.dev.rgen 1⟩ }).put
          (ETH_MDST_BUSY m) 1).st (uETH m) .ok
        exec (.mdioWrite m reg phy c45 g) s = .next (s.after (d 1)) ∧
        exec (.mdioRead m reg phy c45 g) s = .next (s.after (d 2)) ∧
        (c45 = true → exec (.mdioAddress m reg phy c45 g) s = .next (s.after (d 0))))) ∧
    (∀ (o : MdioOp) (v : Half), (s.dev.mac m).mdio = some o → o.op = 2 →
      ∃ t, exec (.mdioDone m v) s = .next t ∧ (t.dev.mac m).mdio = none ∧
        (s.dev.answer (uETH m) o.gen 1 o.rgen .ok = .ok → t.dev.get (ETH_MDWD_RDATA m) = v.toNat) ∧
        (s.dev.answer (uETH m) o.gen 1 o.rgen .ok ≠ .ok → t.dev.get (ETH_MDWD_RDATA m) = s.dev.get (ETH_MDWD_RDATA m)) ∧
        t.dev.get (ETH_MDST_ST m) = (s.dev.answer (uETH m) o.gen 1 o.rgen .ok).code ∧
        t.dev.get (ETH_MDST_BUSY m) = 0 ∧ t.dev.get (ETH_MDST_GEN m) = o.gen % 256) ∧
    (s.dev.sys.appHeld = false → exec (.timestampPop m) s =
      .next (s.after (((s.dev.setMac m fun v => { v with tsq := v.tsq.drop 1 }).showTsq m).st (uETH m) .ok))) ∧
    (s.dev.sys.appHeld = false → ∀ (q : Half) (y : BitVec 4),
      ((s.dev.mac m).tsq.find? fun t => t.seqId == q.toNat && t.mtype == y.toNat) = none →
      exec (.timestampKeySeek m q y) s = .next (s.after (s.dev.st (uETH m) .range))) ∧
    (s.dev.sys.appHeld = false → ∀ (q : Half) (y : BitVec 4) (x : TxStamp),
      ((s.dev.mac m).tsq.find? fun t => t.seqId == q.toNat && t.mtype == y.toNat) = some x →
      exec (.timestampKeySeek m q y) s = .next (s.after
        (((s.dev.setMac m fun v => { v with tsq := x :: (s.dev.mac m).tsq.erase x }).showTsq m).st (uETH m) .ok)))

/-- R22, R51, R55, R394 to R402: the time base, its steps, rate, outputs and captures. Readings and choices of the model that
it rests on: log entries 1, 17, 50, 72. -/
def Obligations.TimeBaseCommands : Prop :=
  ∀ s : State, s.dev.awake = true →
    (exec (.timeCounterCarry .budStime) s = .next (s.after (s.dev.elapse s.dev.cyclesToMsWrap))) ∧
    (exec (.timeCounterCarry .timNs) s = .next (s.after (s.dev.elapse s.dev.cyclesToSecond))) ∧
    (exec (.latchingLowWordRead .timNs) s = .next (s.after
      ((s.dev.put TIM_SECL_SECL (s.dev.tbNs / 1000000000)).put TIM_SECH_SECH (s.dev.tbNs / 1000000000 / 4294967296)))) ∧
    (∀ k : Fin 8, exec (.latchingLowWordRead (.capture k)) s = .next (s.after (s.dev.rset (TIM_CSEC k.val) s.dev.tim.capSec[k]))) ∧
    (∀ i : Fin 16, exec (.latchingLowWordRead (.bmiSample i)) s = .next (s.after (s.dev.rset (BMI_LTS i.val) s.dev.bmi.stamp[i]))) ∧
    (s.dev.sys.appHeld = false → ∀ g : Byte,
      (g.toNat ≠ s.dev.gen uTIM → exec (.timeStepAbsolute g) s = .next (s.after (s.dev.st uTIM .reset)) ∧
        exec (.timeStepRelative g) s = .next (s.after (s.dev.st uTIM .reset))) ∧
      (g.toNat = s.dev.gen uTIM → s.dev.on TIM_ST_INIT = true →
        exec (.timeStepAbsolute g) s = .next (s.after (s.dev.st uTIM .reject)) ∧
        exec (.timeStepRelative g) s = .next (s.after (s.dev.st uTIM .reject))) ∧
      (g.toNat = s.dev.gen uTIM → s.dev.on TIM_ST_INIT = false →
        (s.dev.get TIM_SETN_SETN < 1000000000 → exec (.timeStepAbsolute g) s = .next (s.after ((s.dev.stepTo
          (((s.dev.get TIM_SETSH_SETSH * 4294967296 + s.dev.get TIM_SETSL_SETSL) * 1000000000 + s.dev.get TIM_SETN_SETN : Nat) : Int)).st
            uTIM .ok))) ∧
        (1000000000 ≤ s.dev.get TIM_SETN_SETN → exec (.timeStepAbsolute g) s = .next (s.after (s.dev.st uTIM .range))) ∧
        exec (.timeStepRelative g) s = .next (s.after ((s.dev.stepTo ((s.dev.tbNs : Int) +
          signed 64 (s.dev.get TIM_OFSH_OFSH * 4294967296 + s.dev.get TIM_OFSL_OFSL))).st uTIM .ok)))) ∧
    (s.dev.sys.appHeld = false → s.dev.tim.key1At = none →
      exec (.timeReinitKey 0xD2#32) s = .next (s.after (({ s.dev with tim := { s.dev.tim with key1At := some s.dev.now } } : Device).st
        uTIM .ok)) ∧
      exec (.timeReinitKey 0x2D#32) s =
        .next (s.after (({ s.dev with tim := { s.dev.tim with key1At := none } } : Device).st uTIM .reject))) ∧
    (∀ x : Nat, s.dev.sys.appHeld = false → s.dev.tim.key1At = some x → s.dev.now ≤ x + 10000000 →
      exec (.timeReinitKey 0x2D#32) s = .next (s.after
        (((({ s.dev with tim := { s.dev.tim with key1At := none } } : Device).put TIM_ST_INIT 0).discontinuity).st uTIM .ok))) ∧
    (∀ v : Word, s.dev.sys.appHeld = false → v.toInt < -8589934 ∨ 8589934 < v.toInt →
      exec (.rateAdjust v) s = .next (s.after (s.dev.st uTIM .range))) ∧
    (∀ v : Word, s.dev.sys.appHeld = false → -8589934 ≤ v.toInt → v.toInt ≤ 8589934 →
      exec (.rateAdjust v) s = .next (s.after ((s.dev.rset TIM_RATE v).st uTIM .ok))) ∧
    (∀ (k : Fin 8) (pol : Bool), s.dev.sys.appHeld = false → s.dev.on (TIM_TOCTL_ARM k.val) = false →
      s.dev.get (TIM_TOWID_WID k.val) < 8 →
      exec (.outputArm k pol) s = .next (s.after (s.dev.st uTIM .range))) ∧
    (∀ (k : Fin 8) (pol : Bool), s.dev.sys.appHeld = false → s.dev.on (TIM_TOCTL_ARM k.val) = false →
      8 ≤ s.dev.get (TIM_TOWID_WID k.val) → s.dev.get (TIM_TOPER_PER k.val) = 0 → s.dev.outStart k.val < s.dev.tbNs + 1000 →
      exec (.outputArm k pol) s = .next (s.after (s.dev.st uTIM .reject))) ∧
    (∀ (k : Fin 8) (pol : Bool), s.dev.sys.appHeld = false → s.dev.on (TIM_TOCTL_ARM k.val) = false →
      8 ≤ s.dev.get (TIM_TOWID_WID k.val) → s.dev.get (TIM_TOPER_PER k.val) = 0 → s.dev.tbNs + 1000 ≤ s.dev.outStart k.val → exec (.outputArm k pol) s =
        .next (s.after ((((s.dev.putB (TIM_TOCTL_POL k.val) pol).put (TIM_TOCTL_ARM k.val) 1).setOut k.val
          ⟨s.dev.outStart k.val, false⟩).st uTIM .ok))) ∧
    (∀ (k : Fin 8) (pol : Bool), s.dev.sys.appHeld = false → s.dev.on (TIM_TOCTL_ARM k.val) = true →
      exec (.outputArm k pol) s = .next (s.after ((s.dev.putB (TIM_TOCTL_POL k.val) pol).st uTIM .ok))) ∧
    (∀ k : Fin 8, exec (.outputEdge k) s = .next (s.after (s.dev.outEdge k.val)) ∧
      (s.dev.on (TIM_TOCTL_ARM k.val) = false → s.dev.outEdge k.val = s.dev)) ∧
    (∀ (k : Fin 8) (r : Bool), s.dev.on (TIM_CCTL_EN k.val) = false → exec (.captureEdge k r) s = .next (s.after s.dev)) ∧
    (∀ k : Fin 8, s.dev.on (TIM_CCTL_EN k.val) = true → s.dev.get (TIM_CCTL_EDGE k.val) = 1 →
      ∃ t, exec (.captureEdge k true) s = .next t ∧ t.dev.get (TIM_CCTL_NEW k.val) = 1 ∧ t.dev.free = s.dev.free + 1)

/-- R408 to R416, R419, R420, R423: the partner's alive signal, lanes of the pair link, and messages received. Readings and
choices of the model that it rests on: log entries 20, 73, 74. -/
def Obligations.PairLinkEvents : Prop :=
  ∀ s : State, s.dev.awake = true →
    (exec (.partnerAliveChange .activeRate) s = .next (s.after (s.dev.put PRL_ST_PALV 2))) ∧
    (exec (.partnerAliveChange .standbyRate) s = .next (s.after (s.dev.put PRL_ST_PALV 1).askShadows)) ∧
    (s.dev.get PRL_ST_PALV = 0 → s.dev.on PRL_CTL_EN = false →
      exec (.partnerAliveChange .absent) s = .next (s.after (s.dev.put PRL_ST_PALV 0).takeTrigger)) ∧
    (s.dev.get PRL_ST_PALV = 1 → exec .partnerStandbyRateTimeout s = .next (s.after s.dev.takeTrigger)) ∧
    (s.dev.get PRL_ST_PALV ≠ 1 → exec .partnerStandbyRateTimeout s = .next (s.after s.dev)) ∧
    (s.dev.isActive = true → s.dev.get PRL_ST_PALV = 2 →
      exec .yieldTimeout s = .next (s.after (s.dev.withdraw.up PRL_EVT_YIELD))) ∧
    (s.dev.isActive = false → exec .yieldTimeout s = .next (s.after s.dev)) ∧
    (s.dev.on PRL_CTL_EN = true → s.dev.get PRL_ST_ROLE = 0 → s.dev.get PRL_ST_PALV = 0 →
      s.dev.on PRL_ST_UP = false → s.dev.mode ≠ .muster → s.dev.mode.live = true → exec .secondaryActiveTimeout s =
        .next (s.after (if Config.pairSel then s.dev else s.dev.becomeActive.listenToDrive))) ∧
    (∀ (l : Fin 2) (v : BitVec 12), s.dev.on PRL_CTL_EN = false → exec (.laneTrained l v) s = .next (s.after s.dev)) ∧
    (∀ (l : Fin 2) (v : BitVec 12), s.dev.on PRL_CTL_EN = true → s.dev.prl.laneOff.getLsbD l.val = false →
      s.dev.on PRL_ST_UP = false → exec (.laneTrained l v) s = .next (s.after
        (((((s.dev.put PRL_ST_LANES (s.dev.get PRL_ST_LANES ||| 2 ^ l.val)).put PRL_LDLY_DLY v.toNat).put PRL_ST_UP 1).up
          PRL_EVT_LUP).askShadows))) ∧
    (∀ l : Fin 2, (s.dev.get PRL_ST_LANES).testBit l.val = false → exec (.laneDown l) s = .next (s.after s.dev)) ∧
    (∀ l : Fin 2, (s.dev.get PRL_ST_LANES).testBit l.val = true → ∃ t, exec (.laneDown l) s = .next t ∧
      t.dev.get PRL_ST_LANES = s.dev.get PRL_ST_LANES - 2 ^ l.val ∧
      (s.dev.get PRL_ST_LANES = 2 ^ l.val → t.dev.on PRL_ST_UP = false ∧ t.dev.on PRL_EVT_LDOWN = true)) ∧
    (s.dev.on PRL_ST_UP = false →
      (∀ m, exec (.actionMessage m) s = .next (s.after s.dev)) ∧
      (∀ m, exec (.epochSummaryReceived m) s = .next (s.after s.dev)) ∧
      (∀ e, exec (.epochMessage e) s = .next (s.after s.dev)) ∧
      (∀ m, exec (.sharedStateMirror m) s = .next (s.after s.dev)) ∧
      exec .withdrawMessage s = .next (s.after s.dev)) ∧
    (s.dev.on PRL_ST_UP = true →
      (∀ m, exec (.actionMessage m) s = .next (s.after (s.dev.mirrorAction m))) ∧
      (∀ m, exec (.epochSummaryReceived m) s = .next (s.after (s.dev.summaryIn m))) ∧
      (∀ e : EpochMsg, exec (.epochMessage e) s =
        .next (s.after ((s.dev.setPrl fun p =>
          { p with epochMsg := some (e.epoch.toNat, s.dev.now - s.dev.get PRL_LDLY_DLY / 4) }).followPeriod e.per.toNat).synced)) ∧
      (∀ x : Fin 512, s.dev.follower = true → exec (.sharedStateMirror (.penRelease x)) s =
        .next (s.after (s.dev.releasePen x false).2)) ∧
      (∀ b : Fin 4, s.dev.follower = true → exec (.sharedStateMirror (.bankRelease b)) s =
        .next (s.after (s.dev.releaseBank b.val).2)) ∧
      (∀ m, s.dev.follower = false → exec (.sharedStateMirror m) s = .next (s.after s.dev)) ∧
      (s.dev.on PRL_CTL_EN = false → exec .withdrawMessage s = .next (s.after (s.dev.up PRL_EVT_PWDR).takeTrigger)))

/-- R51, R266, R411 to R413, R417 to R419, R422, R424, R425: shadows, markers, the standby slot, join, hand-over, checkpoints.
Readings and choices of the model that it rests on: log entries 20, 76, 77. -/
def Obligations.PairCommands : Prop :=
  ∀ s : State, s.dev.awake = true →
    (∀ k : Fin 12, s.dev.on PRL_CTL_EN = true → s.dev.get PRL_ST_ROLE = 2 → k.val % 3 ≠ 2 → exec (.shadowSet k) s =
      .next (s.after ((s.dev.put CTD_SHD_MASK (s.dev.get CTD_SHD_MASK ||| 2 ^ k.val)).startShadow k.val))) ∧
    (∀ k : Fin 12, s.dev.get PRL_ST_ROLE ≠ 2 → exec (.shadowSet k) s = .next (s.after s.dev)) ∧
    (∀ m : BitVec 12, s.dev.get PRL_ST_ROLE ≠ 2 → exec (.shadowReleaseReceived m) s = .next (s.after s.dev)) ∧
    (∀ m : BitVec 12, s.dev.on PRL_CTL_EN = true → s.dev.get PRL_ST_ROLE = 2 → (∀ k < 12, s.dev.drvSt k ≠ .shadow) →
      exec (.shadowReleaseReceived m) s =
        .next (s.after (s.dev.put CTD_SHD_MASK (s.dev.get CTD_SHD_MASK &&& (~~~m).toNat)))) ∧
    (let d := ({ s.dev with flk := { s.dev.flk with cmdOpen := true } } : Device).acqFrames;
      s.dev.follower = true ∨ s.dev.prl.join = some .calibrate → s.dev.mode.live = true →
        exec .standbySlotStart s = .next (s.after d.refreshPings)) ∧
    (s.dev.mode.live = false → exec .standbySlotStart s = .next (s.after s.dev)) ∧
    (∀ (p : Fin 128) (m : LineMark), s.dev.isListen p.val = false ∨ s.dev.contends p.val = true →
      exec (.markerAtListenEnd p m) s = .next (s.after s.dev)) ∧
    (∀ (p : Fin 128) (c : Byte), s.dev.isListen p.val = true → s.dev.contends p.val = false → s.dev.follower = false →
      ∃ t, exec (.markerAtListenEnd p (.bell c)) s = .next t ∧ (t.dev.pt p.val).bellIn = true ∧
        t.dev.get (FLK_PSTAT_LINK p.val) = 1) ∧
    (∀ (p : Fin 128) (a : Byte), s.dev.isListen p.val = true → s.dev.contends p.val = false →
      ∃ t, exec (.markerAtListenEnd p (.marker a)) s = .next t ∧ (t.dev.pt p.val).markIn = true) ∧
    (s.dev.prl.join = some .image → exec .configImageReceived s =
      .next (s.after (s.dev.setPrl fun p => { p with join := some .load }))) ∧
    (s.dev.prl.join = none → exec .configImageReceived s = .next (s.after s.dev)) ∧
    (s.dev.sys.appHeld = false → ∀ g : Byte,
      (g.toNat ≠ s.dev.gen uPRL →
        exec (.pairJoin g) s = .next (s.after (s.dev.st uPRL .reset)) ∧
        exec (.pairHand g) s = .next (s.after (s.dev.st uPRL .reset)) ∧
        exec (.checkpointSend g) s = .next (s.after (s.dev.st uPRL .reset))) ∧
      (g.toNat = s.dev.gen uPRL →
        (s.dev.prl.join = some .load → exec (.pairJoin g) s = .next (s.after
          (((s.dev.joinListen.setPrl fun p =>
            { p with join := some .calibrate, joinGen := g.toNat, rgen := s.dev.rgen 0 }).joinFinish).st uPRL .ok))) ∧
        (s.dev.prl.join = some .sync → exec (.pairJoin g) s = .next (s.after (s.dev.st uPRL .busy))) ∧
        (s.dev.prl.join = none → s.dev.on PRL_CKST_BUSY = false → s.dev.on PRL_CTL_EN = false →
          exec (.pairJoin g) s = .next (s.after (s.dev.st uPRL .reject))) ∧
        (s.dev.isActive = false → exec (.pairHand g) s = .next (s.after (s.dev.st uPRL .reject)) ∧
          exec (.checkpointSend g) s = .next (s.after (s.dev.st uPRL .reject))) ∧
        (s.dev.isActive = true → s.dev.anyPrecharging = true → exec (.pairHand g) s = .next (s.after (s.dev.st uPRL .busy))) ∧
        (let d : Device := { s.dev with free := s.dev.free + 1 };
          s.dev.isActive = true → s.dev.anyPrecharging = false → s.dev.on PRL_ST_UP = true → s.dev.get PRL_ST_PALV = 1 →
            exec (.pairHand g) s = .next (s.after (if Config.partnerSync s.dev.free then d.withdraw.st uPRL .ok
              else d.st uPRL .reject))) ∧
        (s.dev.isActive = true → s.dev.on PRL_ST_UP = true → s.dev.on PRL_CKST_BUSY = false →
          s.dev.get PRL_CKLEN_LEN = 8 → s.dev.get PRL_CKSRC_ADDR = 0x20000000 → ∃ t, exec (.checkpointSend g) s = .next t ∧
            t.dev.prl.ckpt = some g.toNat ∧ t.dev.get PRL_CKST_BUSY = 1 ∧ t.dev.get PRL_CKST_GEN = g.toNat))) ∧
    (∀ (b : List Byte) (e : Word) (g : Nat), s.dev.prl.ckpt = some g → exec (.checkpointReceived b e) s =
      .next (s.after (((((s.dev.put PRL_CKST_ST (s.dev.answer uPRL g 0 s.dev.prl.rgen .ok).code).put PRL_CKST_BUSY 0).put
        PRL_CKST_GEN g).setPrl fun p =>
        { p with ckpt := none }).up PRL_EVT_CKTX))) ∧
    (∀ (b : List Byte) (e : Word), s.dev.prl.ckpt = none → s.dev.on PRL_CTL_EN = true →
      0x20000000 ≤ s.dev.get PRL_CKRB_BASE → s.dev.get PRL_CKRB_BASE + b.length ≤ s.dev.split →
      ∃ t, exec (.checkpointReceived b e) s = .next t ∧ t.dev.rget PRL_CKREP = e ∧
        ∀ (i : Nat) (hi : i < b.length), memGet t.dev.mem (s.dev.get PRL_CKRB_BASE + i) = b[i])

/-- R64, R66 to R70, R76, R89, R97, R100, R101, R108 to R119, R121 to R128: what a node does by itself, on symbols and on
events. Readings and choices of the model that it rests on: log entries 32, 108, 109. -/
def Obligations.NodeEvents : Prop :=
  ∀ (s : State) (k : NodeKey) (n : Node),
    (∀ id : NodeIdent, exec (.nodePowerUp k id) s = .next (s.putNode k (Node.powerUp id))) ∧
    (s.dev.node k = some n →
      (exec (.nodeInternalFault k) s = .next (s.putNode k (Node.powerUp ⟨n.cls, n.ver, n.uid⟩))) ∧
      (∀ (d : Side) (a : Byte), exec (.nodeMarker k d a) s = .next (s.putNode k (n.marker d a.toNat s.dev.now))) ∧
      (∀ (d : Side) (a : Byte), n.forwards = false ∨ n.contends d s.dev.now = true →
        exec (.nodeMarker k d a) s = .next (s.putNode k n) ∧ exec (.nodeBell k d a) s = .next (s.putNode k n) ∧
        exec (.nodeWhistle k d a) s = .next (s.putNode k n)) ∧
      (∀ x : Int, n.st ≠ .data → exec (.nodeMarkerLost ⟨k, x⟩) s = .next (s.putNode k n)) ∧
      (∀ x : Int, n.st = .data → exec (.nodeMarkerLost ⟨k, x⟩) s =
        .next (s.putNode k (n.openWindow (n.marked.getD ((n.epoch + 1) % 65536)) true x))) ∧
      (∀ (e : Nat) (x : Int), n.st = .data → n.marked = some e → (n.delay n.timing).isSome = true →
        exec (.nodeWindowOpen k x) s = .next (s.putNode k (n.openWindow e false x))) ∧
      (n.inWin = true → exec (.nodeWindowEnd k) s =
        .next (s.putNode k ({ n with inWin := false, paused := false, left := n.left - 1 }).resume)) ∧
      (∀ m : NodeMeasure, n.st = .data →
        let n' : Node := { n.conclude m with record := some ((n.conclude m).mkRecord m false), far := true,
                                             txUntil := s.dev.now + 40000 }
        let d : Device := { s.dev with nodes := mapSet (nodeIdx k) n' s.dev.nodes }
        exec (.nodeRecordSend k m false) s = .next (s.after
          (d.relay k (n'.timing == .a) (s.dev.now + 30) (Node.passRecord (n'.mkRecord m false))))) ∧
      (n.st = .data → exec (.nodeBalancePause k) s = .next (s.putNode k { n with on_ := 0#24, paused := true })) ∧
      (∀ (d : Side) (c : Byte), n.st = .data → n.contends d s.dev.now = false → ∃ n', exec (.nodeBell k d c) s = .next (s.putNode k n') ∧
        n'.bell = some (c.toNat, s.dev.now) ∧ n'.whistled = false ∧ n'.bellLost = false ∧ n'.sw = n.sw ∧ n'.on_ = n.on_) ∧
      (n.st = .data → n.cls = .head →
        exec (.nodeBellAbsentTstr k) s = .next (s.putNode k { n with sw := false, swf := n.swf && n.fb, penned := true })) ∧
      (n.st = .data → n.cls = .cell → exec (.nodeBellAbsentTstr k) s = .next (s.putNode k n)) ∧
      (n.st = .data → exec (.nodeBellAbsentTbal k) s =
        .next (s.putNode k { n with plan := 0#24, left := 0, on_ := 0#24, bellLost := true })) ∧
      (n.st = .data → exec (.nodeBellAbsentSleep k) s =
        .next (s.putNode k { n.quiet with st := .sleep, inWin := false, chkFail := false, toneIn := none })) ∧
      (∀ (d : Side), n.st = .data → n.cls = .head → n.contends d s.dev.now = false → ∃ n', exec (.nodeWhistle k d 0xFF#8) s = .next (s.putNode k n') ∧
        n'.sw = false ∧ n'.penned = true ∧ n'.whistled = true) ∧
      (∀ (d : Side) (a : Byte), n.st = .data → n.cls = .cell → ∃ n', exec (.nodeWhistle k d a) s = .next (s.putNode k n') ∧
        n'.sw = n.sw ∧ n'.penned = n.penned) ∧
      (∀ (c : Vector Half 24) (x : Vector Half 8), n.st = .data → exec (.nodeComparatorSample k c x) s = .next (s.after
        (({ s.dev with nodes := mapSet (nodeIdx k) (n.sample c x) s.dev.nodes } : Device).sendAlarms k))) ∧
      (n.st = .data → n.cmpAct = [] → exec (.nodeAlarmResend k) s = .next (s.putNode k { n with alarms := [] })) ∧
      (n.st = .data → exec (.nodeAlarmResend k) s = .next (s.after
        (({ s.dev with nodes := mapSet (nodeIdx k) { n with alarms := n.alarmArgs n.cmpAct } s.dev.nodes } : Device).sendAlarms k))) ∧
      (n.st = .data → exec (.nodeAlarmRetry k) s = .next (s.putNode k (n.retryAlarms s.dev.now))) ∧
      (∀ f ∈ (n.retryAlarms s.dev.now).fwd, f.sym = 2 → f.out = n.timing ∧ f.at_ = s.dev.now) ∧
      (∀ c : Bool, n.cls = .head → exec (.nodeSwitchFeedback k c) s = .next (s.putNode k { n with fb := c, swf := c != n.sw })) ∧
      (n.left = 0 → exec (.nodeBalancePlanEnd k) s = .next (s.putNode k { n with plan := 0#24, left := 0, on_ := 0#24 })) ∧
      (exec (.nodeOverTemperature k) s = .next (s.putNode k { n with on_ := 0#24, hot := true })) ∧
      (exec (.nodeTemperatureRecovered k) s = .next (s.putNode k ({ n with hot := false }).resume)) ∧
      (∀ (c : Fin 24) (x y : Nat), n.hot = true ∨ n.inWin = true ∨ n.paused = true ∨ n.nextTest ≠ some c.val →
        exec (.nodeBswTestSlot k c x y) s = .next (s.putNode k n)) ∧
      (∀ (c : Fin 24) (x y : Nat), n.st = .data → n.hot = false → n.inWin = false → n.paused = false → n.nextTest = some c.val →
        ∃ n', exec (.nodeBswTestSlot k c x y) s = .next (s.putNode k n') ∧ n'.bswTest = n.bswTest &&& ~~~(1#24 <<< c.val) ∧
          (x ≤ 1000 → 300 < y → n'.bswo = n.bswo ||| (1#24 <<< c.val) ∧ n'.bswc = n.bswc) ∧
          (x ≤ 1000 → y ≤ 300 → n'.bswo = n.bswo &&& ~~~(1#24 <<< c.val) ∧ n'.bswc = n.bswc &&& ~~~(1#24 <<< c.val))) ∧
      (∀ (m : NodeMeasure) (f : Bool), n.st = .sleep → exec (.nodeSleepCheck k m f) s =
        .next (s.putNode k { n with refv := m.refv, chkFail := n.chkFail || n.checkFails m f })) ∧
      (n.st = .sleep → n.isLast = true → n.chkFail = false →
        exec (.nodeToneBurst k) s = .next (s.putNode k { n with tones := n.tones + 1 })) ∧
      (n.st = .sleep → n.chkFail = true → exec (.nodeToneBurst k) s = .next (s.putNode k n) ∧
        exec (.nodeToneReceived k .b) s = .next (s.putNode k { n with toneIn := some s.dev.now })) ∧
      (n.st = .sleep → n.chkFail = false → n.isLast = false → exec (.nodeToneReceived k .b) s =
        .next (s.putNode k { n with toneIn := some s.dev.now, tones := n.tones + 1 })) ∧
      (n.st = .sleep → exec (.nodeWakeIdle k .a) s =
        .next (s.putNode k { n with st := .assigned, chkFail := false, marked := none })) ∧
      (n.st = .data → exec (.nodeWakeIdle k .a) s = .next (s.putNode k n)))

/-- R72, R74, R83 to R88, R98, R99, R104 to R106, R109, R110, R112, R124 to R128: the commands of a node, carried out with
their reply; a frame that was not received whole is counted, and a frame that a node does not take passes on. Readings and
choices of the model that it rests on: log entries 32, 108, 109. -/
def Obligations.NodeCommands : Prop :=
  ∀ (s : State) (k : NodeKey) (n : Node) (h : CmdHead), s.dev.node k = some n →
    (n.st ≠ .unassigned → badFrame h = true → exec (.ping k h) s = .next (s.putNode k ((n.relayFrame h).discard h))) ∧
    (n.st ≠ .unassigned → badFrame h = false → h.addr ≠ 0xFF#8 → n.apos ≠ some h.addr.toNat →
      exec (.ping k h) s = .next (s.putNode k (n.relayFrame h))) ∧
    (∀ opc len : Nat, n.Addressed h opc len → opc ≠ 3 →
      exec (.ping k h) s = .next (s.putNode k { n.relayFrame h with reply := replied h [2#8] })) ∧
    (∀ pos : Byte, n.st = .unassigned → badFrame h = false → h.addr = 0#8 → h.opc = 1#8 → h.len = 1#8 → 1 ≤ pos.toNat →
      pos.toNat ≤ 128 → ∃ n' r, exec (.assign k h pos) s = .next (s.putNode k n') ∧ n'.st = .assigned ∧ n'.pos = pos.toNat ∧
        n'.from_ = h.side ∧ n'.reply = some ⟨pos.toNat, 0x81, h.tag, 0#8 :: r⟩) ∧
    (∀ c f : Byte, n.Broadcast h 2 2 → n.up = true → 1 ≤ c.toNat → c.toNat ≤ 128 → f.toNat ≤ 3 →
      exec (.setring k h c f) s = .next (s.putNode k { n.relayFrame h with ring := some (c.toNat, f.getLsbD 0, f.getLsbD 1) })) ∧
    (n.Addressed h 3 0 → n.up = true → exec (.ping k h) s = .next (s.putNode k { n.relayFrame h with reply := replied h [0#8] })) ∧
    (∀ a b : Word, n.Addressed h 4 9 → n.up = true → exec (.setdelay k h a b 3#8) s = .next (s.putNode k
      { n.relayFrame h with da := some (a.toNat % 2 ^ 20), db := some (b.toNat % 2 ^ 20), reply := replied h [0#8] })) ∧
    (∀ q : Half, n.Broadcast h 5 2 → n.up = true → exec (.trace k h q) s = .next (s.putNode k (n.relayFrame h))) ∧
    (∀ (p : Byte) (e : Half), n.Broadcast h 6 3 → n.up = true → 2 ≤ p.toNat → p.toNat ≤ 100 →
      exec (.setper k h p e) s = .next (s.putNode k
        { n.relayFrame h with hasPer := true, perNext := some (p.toNat, e.toNat), effDue := some e.toNat })) ∧
    (∀ (a : Half) (b c : Byte), n.Addressed h 7 4 → n.up = true → 10 ≤ a.toNat → a.toNat ≤ 500 → 5 ≤ b.toNat →
      b.toNat ≤ 100 → 1 ≤ c.toNat → c.toNat ≤ 100 → exec (.settim k h a b c) s = .next (s.putNode k
        { n.relayFrame h with tstr := a.toNat, tbal := b.toNat, tone := c.toNat, reply := replied h [0#8] })) ∧
    (∀ (c : BitVec 24) (m : Byte), n.Addressed h 8 4 → n.up = true → exec (.config k h c m) s = .next (s.putNode k
      { n.relayFrame h with cellm := c, tempm := m, reply := replied h [0#8] })) ∧
    (∀ a b c : Half, n.Addressed h 9 6 → n.up = true → exec (.setcmp k h a b c) s = .next (s.putNode k
      { n.relayFrame h with ov := a.toNat, uv := b.toNat, ot := signed 16 c.toNat, reply := replied h [0#8] })) ∧
    (∀ (m : BitVec 24) (w : Half), n.Addressed h 10 5 → n.st = .data → n.bellLost = false → w ≠ 0#16 →
      ∃ n', exec (.balance k h m w) s = .next (s.putNode k n') ∧ n'.plan = m &&& n.cellm &&& ~~~(n.bswo ||| n.bswc) ∧
        n'.left = w.toNat) ∧
    (n.Broadcast h 11 0 → n.up = true → exec (.stopbal k h) s =
      .next (s.putNode k { n.relayFrame h with plan := 0#24, left := 0, on_ := 0#24 })) ∧
    (∀ b : Byte, n.Addressed h 12 2 → n.st = .data → n.cls = .head → ∃ n' r, exec (.switch k h 0#8 b) s =
      .next (s.putNode k n') ∧ n'.sw = false ∧ n'.reply = replied h (0#8 :: r)) ∧
    (∀ b : Byte, n.Addressed h 12 2 → n.st = .data → n.cls = .head → n.mayClose b.toNat s.dev.now = false →
      exec (.switch k h 1#8 b) s = .next (s.putNode k { n.relayFrame h with reply := replied h [2#8] })) ∧
    (∀ b : Byte, n.Addressed h 12 2 → n.st = .data → n.cls = .head → n.mayClose b.toNat s.dev.now = true →
      ∃ n' r, exec (.switch k h 1#8 b) s = .next (s.putNode k n') ∧ n'.sw = true ∧ n'.penned = false ∧
        n'.reply = replied h (0#8 :: r)) ∧
    (∀ a c : Half, n.Broadcast h 13 7 → n.st = .data → exec (.setdiag k h a 0#16 0#8 c) s = .next (s.putNode k
      { n.relayFrame h with rotNext := n.rotNext ++ [(⟨a.toNat, 0, 0, c.toNat⟩, (n.epoch + 2) % 65536)] })) ∧
    (∀ (g : Byte) (e : Half), n.Addressed h 14 3 → n.st = .data → g.toNat ≤ 4 → exec (.owtest k h g e) s =
      .next (s.putNode k { n.relayFrame h with owReq := some (g.toNat, e.toNat), reply := replied h [0#8] })) ∧
    (∀ m : BitVec 24, n.Addressed h 15 3 → n.st = .data → n.bswTest = 0#24 → exec (.bswtest k h m) s =
      .next (s.putNode k { n.relayFrame h with bswTest := m, bswRot := 0#24, reply := replied h [0#8] })) ∧
    (∀ m : BitVec 24, n.Addressed h 15 3 → n.st = .data → n.bswTest ≠ 0#24 →
      exec (.bswtest k h m) s = .next (s.putNode k { n.relayFrame h with reply := replied h [1#8] })) ∧
    (n.Addressed h 16 0 → n.st = .data → exec (.diagrd k h) s = .next (s.putNode k { n.relayFrame h with reply := replied h (0#8 ::
      (leBytes n.owg 1 ++ leBytes n.owe 2 ++ leBytes n.owm 4 ++ leBytes n.bswo.toNat 3 ++ leBytes n.bswc.toNat 3 ++
        leBytes n.refv.toNat 2 ++ leBytes n.ntj.toNat 2 ++ leBytes n.dcnt 4)) })) ∧
    (∀ v : Word, n.Addressed h 17 0 → n.up = true → n.cls = .head → exec (.readid k h (some v) true) s =
      .next (s.putNode k { n.relayFrame h with reply := replied h (0#8 :: 1#8 :: (leBytes n.ver.toNat 2 ++ leBytes n.uid.toNat 8 ++
        leBytes v.toNat 4)) })) ∧
    (∀ c a b x y : Half, n.Broadcast h 18 10 → n.st = .data → 1 ≤ c.toNat → c.toNat ≤ 3600 →
      ∃ n', exec (.sleep k h c a b x y) s = .next (s.putNode k n') ∧ n'.st = .sleep ∧ n'.chk = c.toNat ∧ n'.sw = false ∧
        n'.on_ = 0#24 ∧ n'.slp = some ⟨a.toNat, b.toNat, signed 16 x.toNat, signed 16 y.toNat⟩) ∧
    (n.Broadcast h 19 0 → n.up = true → exec (.release k h) s = .next (s.putNode k (Node.powerUp ⟨n.cls, n.ver, n.uid⟩)))

/-- R273, R295: every register operation of OP 0x00, at 64 bits and in its W form on bits [31:0] with a sign-extended result,
on a core and on a lane, for all operands, and the cycles it takes in a lane. The word of each is defined by both profiles;
the agent's other registers, its memory and the rest of the device stay. Readings and choices of the model that it rests on:
log entries 3, 96. -/
def Obligations.IntegerRegisterResults : Prop :=
  ∀ (s : State) (x : Ctx) (rd rs1 rs2 : RegNo), s.dev.Ready x →
    let res (n : Nat) (v : DWord → DWord → DWord) : Host.Outcome State Fault Refusal :=
      .next (s.ran x n fun r => r.setG rd (v (r.gv rs1) (r.gv rs2)))
    exec (.add x rd rs1 rs2) s = res 1 (fun a b => a + b) ∧
    exec (.sub x rd rs1 rs2) s = res 1 (fun a b => a - b) ∧
    exec (.and x rd rs1 rs2) s = res 1 (fun a b => a &&& b) ∧
    exec (.or x rd rs1 rs2) s = res 1 (fun a b => a ||| b) ∧
    exec (.xor x rd rs1 rs2) s = res 1 (fun a b => a ^^^ b) ∧
    exec (.andn x rd rs1 rs2) s = res 1 (fun a b => a &&& ~~~b) ∧
    exec (.sll x rd rs1 rs2) s = res 1 (fun a b => a <<< (b.toNat % 64)) ∧
    exec (.srl x rd rs1 rs2) s = res 1 (fun a b => a >>> (b.toNat % 64)) ∧
    exec (.sra x rd rs1 rs2) s = res 1 (fun a b => a.sshiftRight (b.toNat % 64)) ∧
    exec (.rol x rd rs1 rs2) s = res 1 (fun a b => a.rotateLeft (b.toNat % 64)) ∧
    exec (.min x rd rs1 rs2) s = res 1 (fun a b => if a.toInt ≤ b.toInt then a else b) ∧
    exec (.max x rd rs1 rs2) s = res 1 (fun a b => if a.toInt ≤ b.toInt then b else a) ∧
    exec (.minu x rd rs1 rs2) s = res 1 (fun a b => if a.toNat ≤ b.toNat then a else b) ∧
    exec (.maxu x rd rs1 rs2) s = res 1 (fun a b => if a.toNat ≤ b.toNat then b else a) ∧
    exec (.clz x rd rs1) s = res 1 (fun a _ => clz64 a) ∧
    exec (.popc x rd rs1) s = res 1 (fun a _ => popc64 a) ∧
    exec (.mul x rd rs1 rs2) s = res 2 (fun a b => a * b) ∧
    exec (.mulh x rd rs1 rs2) s = res 2 (fun a b => BitVec.ofInt 64 (a.toInt * b.toInt / 2 ^ 64)) ∧
    exec (.mulhu x rd rs1 rs2) s = res 2 (fun a b => BitVec.ofNat 64 (a.toNat * b.toNat / 2 ^ 64)) ∧
    exec (.div x rd rs1 rs2) s =
      res 10 (fun a b => if b = 0#64 then BitVec.allOnes 64 else BitVec.ofInt 64 (a.toInt.tdiv b.toInt)) ∧
    exec (.divu x rd rs1 rs2) s = res 10 (fun a b => if b = 0#64 then BitVec.allOnes 64 else BitVec.ofNat 64 (a.toNat / b.toNat)) ∧
    exec (.rem x rd rs1 rs2) s = res 10 (fun a b => if b = 0#64 then a else BitVec.ofInt 64 (a.toInt.tmod b.toInt)) ∧
    exec (.remu x rd rs1 rs2) s = res 10 (fun a b => if b = 0#64 then a else BitVec.ofNat 64 (a.toNat % b.toNat)) ∧
    exec (.adds x rd rs1 rs2) s = res 1 (fun a b => BitVec.ofInt 64 (clampI (-2 ^ 63) (2 ^ 63 - 1) (a.toInt + b.toInt))) ∧
    exec (.subs x rd rs1 rs2) s = res 1 (fun a b => BitVec.ofInt 64 (clampI (-2 ^ 63) (2 ^ 63 - 1) (a.toInt - b.toInt))) ∧
    (∀ p : PredNo, exec (.sel x rd rs1 rs2 p) s =
      .next (s.ran x 1 fun r => r.setG rd (if predAt r.p p.val then r.gv rs1 else r.gv rs2))) ∧
    let low (n : Nat) (v : Word → Word → Word) : Host.Outcome State Fault Refusal :=
      .next (s.ran x n fun r => r.setG rd ((v ((r.gv rs1).setWidth 32) ((r.gv rs2).setWidth 32)).signExtend 64))
    exec (.addw x rd rs1 rs2) s = low 1 (fun a b => a + b) ∧
    exec (.subw x rd rs1 rs2) s = low 1 (fun a b => a - b) ∧
    exec (.sllw x rd rs1 rs2) s = low 1 (fun a b => a <<< (b.toNat % 32)) ∧
    exec (.srlw x rd rs1 rs2) s = low 1 (fun a b => a >>> (b.toNat % 32)) ∧
    exec (.sraw x rd rs1 rs2) s = low 1 (fun a b => a.sshiftRight (b.toNat % 32)) ∧
    exec (.mulw x rd rs1 rs2) s = low 2 (fun a b => a * b) ∧
    exec (.divw x rd rs1 rs2) s =
      low 6 (fun a b => if b = 0#32 then BitVec.allOnes 32 else BitVec.ofInt 32 (a.toInt.tdiv b.toInt)) ∧
    exec (.divuw x rd rs1 rs2) s = low 6 (fun a b => if b = 0#32 then BitVec.allOnes 32 else BitVec.ofNat 32 (a.toNat / b.toNat)) ∧
    exec (.remw x rd rs1 rs2) s = low 6 (fun a b => if b = 0#32 then a else BitVec.ofInt 32 (a.toInt.tmod b.toInt)) ∧
    exec (.remuw x rd rs1 rs2) s = low 6 (fun a b => if b = 0#32 then a else BitVec.ofNat 32 (a.toNat % b.toNat))

/-- R274: immediates are sign-extended from 12 bits; a W shift takes an amount below 32. Readings and choices of the model
that it rests on: log entries 3, 96. -/
def Obligations.ImmediateResults : Prop :=
  ∀ (s : State) (x : Ctx) (rd rs1 : RegNo) (imm : BitVec 12) (sh : BitVec 6) (v : Half), s.dev.Ready x →
    let res (f : DWord → DWord) : Host.Outcome State Fault Refusal := .next (s.ran x 1 fun r => r.setG rd (f (r.gv rs1)))
    exec (.addi x rd rs1 imm) s = res (fun a => a + imm.signExtend 64) ∧
    exec (.andi x rd rs1 imm) s = res (fun a => a &&& imm.signExtend 64) ∧
    exec (.ori x rd rs1 imm) s = res (fun a => a ||| imm.signExtend 64) ∧
    exec (.xori x rd rs1 imm) s = res (fun a => a ^^^ imm.signExtend 64) ∧
    exec (.slli x rd rs1 false sh) s = res (fun a => a <<< sh.toNat) ∧
    exec (.srli x rd rs1 false sh) s = res (fun a => a >>> sh.toNat) ∧
    exec (.srai x rd rs1 false sh) s = res (fun a => a.sshiftRight sh.toNat) ∧
    exec (.roli x rd rs1 false sh) s = res (fun a => a.rotateLeft sh.toNat) ∧
    (sh.toNat < 32 →
      exec (.slli x rd rs1 true sh) s = res (fun a => (a.setWidth 32 <<< sh.toNat).signExtend 64) ∧
      exec (.srli x rd rs1 true sh) s = res (fun a => (a.setWidth 32 >>> sh.toNat).signExtend 64) ∧
      exec (.srai x rd rs1 true sh) s = res (fun a => ((a.setWidth 32).sshiftRight sh.toNat).signExtend 64) ∧
      exec (.roli x rd rs1 true sh) s = res (fun a => ((a.setWidth 32).rotateLeft sh.toNat).signExtend 64)) ∧
    exec (.moviL x rd v) s = .next (s.ran x 1 fun r => r.setG rd (v.setWidth 64)) ∧
    exec (.moviH x rd v) s =
      .next (s.ran x 1 fun r => r.setG rd (((v ++ (r.gv rd).setWidth 16 : BitVec 32)).signExtend 64))

/-- R269, R275: comparisons and predicate logic write one predicate; p0 takes no write. Readings and choices of the model that
it rests on: log entries 3, 96. -/
def Obligations.PredicateResults : Prop :=
  ∀ (s : State) (x : Ctx) (pd a b : PredNo) (rs1 rs2 : RegNo) (imm : BitVec 12), s.dev.Ready x →
    let res (v : Files → Bool) : Host.Outcome State Fault Refusal := .next (s.ran x 1 fun r => r.setP pd (v r))
    exec (.cmp x pd .eq rs1 rs2) s = res (fun r => r.gv rs1 == r.gv rs2) ∧
    exec (.cmp x pd .ne rs1 rs2) s = res (fun r => r.gv rs1 != r.gv rs2) ∧
    exec (.cmp x pd .lt rs1 rs2) s = res (fun r => decide ((r.gv rs1).toInt < (r.gv rs2).toInt)) ∧
    exec (.cmp x pd .ge rs1 rs2) s = res (fun r => decide ((r.gv rs2).toInt ≤ (r.gv rs1).toInt)) ∧
    exec (.cmp x pd .ltu rs1 rs2) s = res (fun r => decide ((r.gv rs1).toNat < (r.gv rs2).toNat)) ∧
    exec (.cmp x pd .geu rs1 rs2) s = res (fun r => decide ((r.gv rs2).toNat ≤ (r.gv rs1).toNat)) ∧
    exec (.cmpi x pd .eq rs1 imm) s = res (fun r => r.gv rs1 == imm.signExtend 64) ∧
    exec (.cmpi x pd .ne rs1 imm) s = res (fun r => r.gv rs1 != imm.signExtend 64) ∧
    exec (.cmpi x pd .lt rs1 imm) s = res (fun r => decide ((r.gv rs1).toInt < (imm.signExtend 64).toInt)) ∧
    exec (.cmpi x pd .ge rs1 imm) s = res (fun r => decide ((imm.signExtend 64).toInt ≤ (r.gv rs1).toInt)) ∧
    exec (.cmpiu x pd .lt rs1 imm) s = res (fun r => decide ((r.gv rs1).toNat < imm.toNat)) ∧
    exec (.cmpiu x pd .ge rs1 imm) s = res (fun r => decide (imm.toNat ≤ (r.gv rs1).toNat)) ∧
    exec (.cmpiu x pd .eq rs1 imm) s = res (fun r => r.gv rs1 == imm.setWidth 64) ∧
    exec (.cmpiu x pd .ne rs1 imm) s = res (fun r => r.gv rs1 != imm.setWidth 64) ∧
    exec (.plogAnd x pd a b) s = res (fun r => predAt r.p a.val && predAt r.p b.val) ∧
    exec (.plogOr x pd a b) s = res (fun r => predAt r.p a.val || predAt r.p b.val) ∧
    exec (.plogXor x pd a b) s = res (fun r => predAt r.p a.val != predAt r.p b.val) ∧
    exec (.plogAndn x pd a b) s = res (fun r => predAt r.p a.val && !predAt r.p b.val) ∧
    exec (.plogSet x pd) s = res (fun _ => true) ∧
    exec (.plogClr x pd) s = res (fun _ => false) ∧
    exec (.plogTst x pd rs1) s = res (fun r => r.gv rs1 != 0#64) ∧
    ∀ fn : FcmpFn, exec (.fcmp x pd fn rs1 rs2) s = .next (s.ran x 1 fun r =>
      { r.setP pd (fCmp fn (r.fv rs1) (r.fv rs2)).1 with fl := (fCmp fn (r.fv rs1) (r.fv rs2)).2 })

/-- R276: floating-point operations write f[rd] (or g[rd]) and accrue their conditions; the moves and sign operations accrue
none; a lane spends the cycles of R295. Readings and choices of the model that it rests on: log entries 3, 14, 96. -/
def Obligations.FloatingResults : Prop :=
  ∀ (s : State) (x : Ctx) (rd rs1 rs2 : RegNo), s.dev.Ready x →
    let res (n : Nat) (v : Files → FRes) : Host.Outcome State Fault Refusal :=
      .next (s.ran x n fun r => { r with f := r.f.set rd.val (v r).bits, fl := (v r).flags })
    let int (m : Rnd) : Host.Outcome State Fault Refusal :=
      .next (s.ran x 1 fun r => { r.setG rd (BitVec.ofInt 64 (fToInt m (r.fv rs1)).1) with fl := (fToInt m (r.fv rs1)).2 })
    exec (.fadd x rd rs1 rs2) s = res 2 (fun r => fAdd (r.fv rs1) (r.fv rs2)) ∧
    exec (.fsub x rd rs1 rs2) s = res 2 (fun r => fSub (r.fv rs1) (r.fv rs2)) ∧
    exec (.fmul x rd rs1 rs2) s = res 2 (fun r => fMul (r.fv rs1) (r.fv rs2)) ∧
    exec (.fdiv x rd rs1 rs2) s = res 8 (fun r => fDiv (r.fv rs1) (r.fv rs2)) ∧
    exec (.fsqrt x rd rs1) s = res 10 (fun r => fSqrt (r.fv rs1)) ∧
    exec (.fmin x rd rs1 rs2) s = res 2 (fun r => fMinMax false (r.fv rs1) (r.fv rs2)) ∧
    exec (.fmax x rd rs1 rs2) s = res 2 (fun r => fMinMax true (r.fv rs1) (r.fv rs2)) ∧
    exec (.fmac x rd rs1 rs2) s = res 2 (fun r => fMac (r.fv rd) (r.fv rs1) (r.fv rs2)) ∧
    exec (.fabs x rd rs1) s = res 1 (fun r => ⟨fAbs (r.fv rs1), 0⟩) ∧
    exec (.fneg x rd rs1) s = res 1 (fun r => ⟨fNeg (r.fv rs1), 0⟩) ∧
    exec (.fmvFg x rd rs1) s = res 1 (fun r => ⟨r.gv rs1, 0⟩) ∧
    exec (.fmvGf x rd rs1) s = .next (s.ran x 1 fun r => r.setG rd (r.fv rs1)) ∧
    exec (.fcvtFg x rd rs1) s = res 1 (fun r => fOfInt (r.gv rs1).toInt) ∧
    exec (.fcvtFgu x rd rs1) s = res 1 (fun r => fOfInt (r.gv rs1).toNat) ∧
    exec (.fcvtGfRne x rd rs1) s = int .rne ∧
    exec (.fcvtGfRtz x rd rs1) s = int .rtz ∧
    exec (.fcvtGfRdn x rd rs1) s = int .rdn ∧
    exec (.fcvtGfRup x rd rs1) s = int .rup ∧
    exec (.fcvtGfRna x rd rs1) s = int .rna ∧
    ∀ p : PredNo, exec (.fsel x rd rs1 rs2 p) s =
      .next (s.ran x 1 fun r => r.setF rd (if predAt r.p p.val then r.fv rs1 else r.fv rs2))

/-- R7, R277, R299: a load of pair h from memory completes with the bytes at g[rs1] + sext(imm), least significant first, when
the address is a multiple of the access size, the MPU admits it, the pair reads it as memory, and no bit error is met (R30).
Readings and choices of the model that it rests on: log entries 3, 97, 114. -/
def Obligations.LoadsComplete : Prop :=
  ∀ (s : State) (p : Pair) (g : Guard) (rd rs1 : RegNo) (imm : BitVec 12), CoreReady s.dev (pairIx p) g →
    let h := pairIx p
    let a := (gAt (s.dev.corePair h).g rs1 + imm.signExtend 64).toNat
    let at_ (n : Nat) : Prop := a % n = 0 ∧ (s.dev.corePair h).mpuAdmits .read a = true ∧ readsMemory h a = true ∧
      s.dev.soundAt a n = true
    let got (n : Nat) (ext : Nat → DWord) : Host.Outcome State Fault Refusal :=
      .next (s.after (s.dev.coreDone h fun c => { c with g := gSet c.g rd (ext (s.dev.memWord a n)) }))
    (at_ 1 → exec (.lb ⟨.core p, g⟩ rd rs1 imm) s = got 1 (fun v => (BitVec.ofNat 8 v).signExtend 64)) ∧
    (at_ 1 → exec (.lbu ⟨.core p, g⟩ rd rs1 imm) s = got 1 (fun v => BitVec.ofNat 64 v)) ∧
    (at_ 2 → exec (.lh ⟨.core p, g⟩ rd rs1 imm) s = got 2 (fun v => (BitVec.ofNat 16 v).signExtend 64)) ∧
    (at_ 2 → exec (.lhu ⟨.core p, g⟩ rd rs1 imm) s = got 2 (fun v => BitVec.ofNat 64 v)) ∧
    (at_ 4 → exec (.lw ⟨.core p, g⟩ rd rs1 imm) s = got 4 (fun v => (BitVec.ofNat 32 v).signExtend 64)) ∧
    (at_ 4 → exec (.lwu ⟨.core p, g⟩ rd rs1 imm) s = got 4 (fun v => BitVec.ofNat 64 v)) ∧
    (at_ 8 → exec (.ld ⟨.core p, g⟩ rd rs1 imm) s = got 8 (fun v => BitVec.ofNat 64 v)) ∧
    (at_ 8 → exec (.fld ⟨.core p, g⟩ rd rs1 imm) s = .next (s.after (s.dev.coreDone h fun c =>
      { c with f := c.f.set rd.val (BitVec.ofNat 64 (s.dev.memWord a 8)) })))

/-- R7, R277, R299, R286: a store of pair h to its own TCM writes the low bytes of its register at g[rs1] + sext(imm), least
significant first; a CAS there returns the old value and writes only when it equals g[rd]. Every byte of memory outside the
bytes stored to stays. Readings and choices of the model that it rests on: log entries 3, 97, 114. -/
def Obligations.StoresComplete : Prop :=
  ∀ (s : State) (p : Pair) (g : Guard) (rs2 rs1 : RegNo) (imm : BitVec 12), CoreReady s.dev (pairIx p) g →
    let h := pairIx p
    let c := s.dev.corePair h
    let a := (gAt c.g rs1 + imm.signExtend 64).toNat
    let at_ (n : Nat) : Prop := a % n = 0 ∧ c.mpuAdmits .write a = true ∧ regionOf a = .tcm p
    let put (a n v : Nat) (f : CorePair → CorePair) (o : Host.Outcome State Fault Refusal) : Prop :=
      let e := s.dev.mwrite a n v
      o = .next (s.after (e.coreDone h f)) ∧ e = { s.dev with mem := e.mem, upsets := e.upsets } ∧ memRead e.mem a n = v % 256 ^ n ∧
        ∀ b, b < a ∨ a + n ≤ b → memGet e.mem b = memGet s.dev.mem b
    (at_ 1 → put a 1 (gAt c.g rs2).toNat id (exec (.sb ⟨.core p, g⟩ rs2 rs1 imm) s)) ∧
    (at_ 2 → put a 2 (gAt c.g rs2).toNat id (exec (.sh ⟨.core p, g⟩ rs2 rs1 imm) s)) ∧
    (at_ 4 → put a 4 (gAt c.g rs2).toNat id (exec (.sw ⟨.core p, g⟩ rs2 rs1 imm) s)) ∧
    (at_ 8 → put a 8 (gAt c.g rs2).toNat id (exec (.sd ⟨.core p, g⟩ rs2 rs1 imm) s)) ∧
    (at_ 8 → put a 8 c.f[rs2.val].toNat id (exec (.fsd ⟨.core p, g⟩ rs2 rs1 imm) s)) ∧
    ∀ (rd : RegNo) (n : Nat), n = 4 ∨ n = 8 →
      let b := (gAt c.g rs1).toNat
      let old := s.dev.memWord b n
      let new := if old = (gAt c.g rd).toNat % 256 ^ n then (gAt c.g rs2).toNat % 256 ^ n else old
      b % n = 0 → s.dev.soundAt b n = true → c.mpuAdmits .read b = true → c.mpuAdmits .write b = true → regionOf b = .tcm p →
      (n = 4 → put b 4 new (fun c => { c with g := gSet c.g rd ((BitVec.ofNat 32 old).signExtend 64) })
        (exec (.casW ⟨.core p, g⟩ rd rs1 rs2) s)) ∧
      (n = 8 → put b 8 new (fun c => { c with g := gSet c.g rd (BitVec.ofNat 64 old) })
        (exec (.casD ⟨.core p, g⟩ rd rs1 rs2) s))

/-- R279 to R282, R287, R297: control registers, fences and waits of a core pair; g[rd] is written before g[rs1] is read, as
R282 orders the two. Readings and choices of the model that it rests on: log entries 3, 95. -/
def Obligations.SystemInstructions : Prop :=
  ∀ (s : State) (p : Pair) (g : Guard), CoreReady s.dev (pairIx p) g →
    let h := pairIx p
    let prv := (s.dev.corePair h).prv
    (∀ (rd rs1 : RegNo) (k : Fin 64), csrListed k.val = true →
      let old := s.dev.csrValue h k.val
      (csrMayRead k.val prv = true → exec (.csrr ⟨.core p, g⟩ rd k) s =
        .next (s.after (s.dev.coreDone h fun c => { c with g := gSet c.g rd old }))) ∧
      (csrMayRead k.val prv = true → csrMayWrite k.val prv = true → exec (.csrw ⟨.core p, g⟩ rd k rs1) s =
        .next (s.after (s.dev.coreDone h fun c =>
          ({ c with g := gSet c.g rd old } : CorePair).setCsr k.val (gAt (gSet c.g rd old) rs1)))) ∧
      (csrMayRead k.val prv = true → csrMayWrite k.val prv = true → rs1 ≠ 0 →
        exec (.csrs ⟨.core p, g⟩ rd k rs1) s = .next (s.after (s.dev.coreDone h fun c =>
          ({ c with g := gSet c.g rd old } : CorePair).setCsr k.val (old ||| gAt (gSet c.g rd old) rs1))) ∧
        exec (.csrc ⟨.core p, g⟩ rd k rs1) s = .next (s.after (s.dev.coreDone h fun c =>
          ({ c with g := gSet c.g rd old } : CorePair).setCsr k.val (old &&& ~~~gAt (gSet c.g rd old) rs1)))) ∧
      (csrMayRead k.val prv = true →
        exec (.csrs ⟨.core p, g⟩ rd k 0) s = .next (s.after (s.dev.coreDone h fun c => { c with g := gSet c.g rd old })) ∧
        exec (.csrc ⟨.core p, g⟩ rd k 0) s = .next (s.after (s.dev.coreDone h fun c => { c with g := gSet c.g rd old })))) ∧
    (exec (.fence ⟨.core p, g⟩) s = .next (s.after (s.dev.coreDone h id))) ∧
    (exec (.fenceI ⟨.core p, g⟩) s = .next (s.after (s.dev.coreDone h id))) ∧
    (exec (.nop ⟨.core p, g⟩) s = .next (s.ran ⟨.core p, g⟩ 1 id)) ∧
    (exec (.fenceIo ⟨.core p, g⟩) s = .next (s.after (s.dev.setCore h fun c => { c with step := false, wait := .fenceIo }))) ∧
    (prv ≠ 0 → s.dev.pendingSource h = none →
      exec (.wfi ⟨.core p, g⟩) s = .next (s.after (s.dev.setCore h fun c => { c with step := false, wait := .wfi }))) ∧
    (prv ≠ 0 → (s.dev.pendingSource h).isSome = true →
      exec (.wfi ⟨.core p, g⟩) s = .next (s.after (s.dev.coreDone h id))) ∧
    (∀ (rd rs1 : RegNo) (ev : Fin 3),
      let run : Fin 3 → Host.Outcome State Fault Refusal := fun ev =>
        if ev = 0 then exec (.epwE ⟨.core p, g⟩ rd rs1) s else if ev = 1 then exec (.epwC ⟨.core p, g⟩ rd rs1) s
        else exec (.epwP ⟨.core p, g⟩ rd rs1) s
      let than := (gAt (s.dev.corePair h).g rs1).setWidth 32
      (newer (s.dev.latest ev) than = true → run ev =
        .next (s.after (s.dev.coreDone h fun c => { c with g := gSet c.g rd ((s.dev.latest ev).setWidth 64) }))) ∧
      (newer (s.dev.latest ev) than = false → run ev =
        .next (s.after (s.dev.setCore h fun c => { c with step := false, wait := .epochs ev rd than }))))

/-- R283, R284, R297: an exception of pair h: EPC, CAUSE and TVAL are written, IE and PRV are saved, the pair continues at
VBASE in M with IE = 0; in M with IE = 0 it is a double fault, no handler is entered, and the pair restarts. Readings and
choices of the model that it rests on: log entry 3. -/
def Obligations.ExceptionEntry : Prop :=
  ∀ (s : State) (p : Pair) (g : Guard), CoreReady s.dev (pairIx p) g →
    let h := pairIx p
    let c := s.dev.corePair h
    ((c.prv = 3 → c.ie = true) →
      let traps (code : Nat) (tval : DWord) : Host.Outcome State Fault Refusal := .next (s.after (s.dev.setCore h fun c =>
        { c with epc := c.pc, cause := BitVec.ofNat 64 code, tval := tval, pc := c.vbase, wait := .none, step := false,
                 status := BitVec.ofNat 64 (2 * Bool.bit c.ie + 4 * 3 + 16 * c.prv) }))
      (c.prv = 3 → exec (.ecall ⟨.core p, g⟩) s = traps 0x0A 0#64) ∧
      (c.prv = 1 → exec (.ecall ⟨.core p, g⟩) s = traps 0x09 0#64) ∧
      (c.prv = 0 → exec (.ecall ⟨.core p, g⟩) s = traps 0x08 0#64) ∧
      exec (.brk ⟨.core p, g⟩) s = traps 0x0B c.pc ∧
      (c.prv ≠ 3 → exec (.eret ⟨.core p, g⟩) s = traps 3 ((sysWord ⟨.core p, g⟩ 0x01).setWidth 64)) ∧
      (c.prv = 0 → exec (.wfi ⟨.core p, g⟩) s = traps 3 ((sysWord ⟨.core p, g⟩ 0x02).setWidth 64)) ∧
      (∀ w : Word, islorDefined false w = false → exec (.illegalInstruction (.core p) w) s = traps 2 (w.setWidth 64)) ∧
      (∀ (rd rs1 : RegNo) (imm : BitVec 12),
        let a := gAt c.g rs1 + imm.signExtend 64
        (a.toNat % 8 ≠ 0 → exec (.ld ⟨.core p, g⟩ rd rs1 imm) s = traps 4 a ∧ exec (.sd ⟨.core p, g⟩ rd rs1 imm) s = traps 4 a) ∧
        (a.toNat % 4 ≠ 0 → exec (.lw ⟨.core p, g⟩ rd rs1 imm) s = traps 4 a ∧ exec (.sw ⟨.core p, g⟩ rd rs1 imm) s = traps 4 a) ∧
        (a.toNat % 4 = 0 → c.mpuAdmits .read a.toNat = false → exec (.lw ⟨.core p, g⟩ rd rs1 imm) s = traps 5 a) ∧
        (a.toNat % 4 = 0 → c.mpuAdmits .write a.toNat = false → exec (.sw ⟨.core p, g⟩ rd rs1 imm) s = traps 6 a)) ∧
      (∀ (rd : RegNo) (k : Fin 64), csrListed k.val = true → csrMayRead k.val c.prv = false →
        exec (.csrr ⟨.core p, g⟩ rd k) s = traps 3 ((encI g 0x24 rd.val 0 k.val).setWidth 64))) ∧
    (c.prv = 3 → c.ie = false →
      let restarts : Host.Outcome State Fault Refusal :=
        .next (s.after ((s.dev.setCore h fun c => { c with step := false }).restartPair h (CPX_RCAUSE_DBLF h) none))
      exec (.ecall ⟨.core p, g⟩) s = restarts ∧ exec (.brk ⟨.core p, g⟩) s = restarts ∧
      (∀ w : Word, islorDefined false w = false → exec (.illegalInstruction (.core p) w) s = restarts) ∧
      (∀ (rd rs1 : RegNo) (imm : BitVec 12), (gAt c.g rs1 + imm.signExtend 64).toNat % 8 ≠ 0 →
        exec (.ld ⟨.core p, g⟩ rd rs1 imm) s = restarts ∧ exec (.sd ⟨.core p, g⟩ rd rs1 imm) s = restarts))

/-- R284: ERET in M continues at EPC with the level and IE that the entry saved. Readings and choices of the model that it
rests on: log entry 3. -/
def Obligations.ReturnFromException : Prop :=
  ∀ (s : State) (p : Pair) (g : Guard), CoreReady s.dev (pairIx p) g → (s.dev.corePair (pairIx p)).prv = 3 →
    ∃ t, exec (.eret ⟨.core p, g⟩) s = .next t ∧
      let c := s.dev.corePair (pairIx p)
      let c' := t.dev.corePair (pairIx p)
      c'.pc = c.epc ∧ c'.ie = c.status.getLsbD 1 ∧ c'.status.getLsbD 1 = true ∧
      c'.prv = (if c.status.toNat / 16 % 4 = 2 then 0 else c.status.toNat / 16 % 4) ∧
      c'.g = c.g ∧ c'.f = c.f ∧ c'.p = c.p ∧ c'.epc = c.epc ∧ c'.cause = c.cause ∧ c'.tval = c.tval ∧ c'.vbase = c.vbase ∧
      t.dev.mem = s.dev.mem

/-- R280, R283, R284, R287: what ends a wait, and interrupt entry. Readings and choices of the model that it rests on: log
entry 95. -/
def Obligations.InterruptsAndWaits : Prop :=
  ∀ (s : State) (p : Pair), s.dev.awake = true → s.dev.coreActs (pairIx p) = true →
    let h := pairIx p
    let c := s.dev.corePair h
    let enters (n : Nat) (pc : DWord) (k : DWord) : Host.Outcome State Fault Refusal :=
      .next (s.after ({ s.dev with pulses := s.dev.pulses.filter fun x => x != n }.setCore h fun c =>
        { c with epc := pc, cause := BitVec.ofNat 64 (2 ^ 63 + n), tval := 0#64, pc := c.vbase + 0x100#64, wait := .none,
                 instret := c.instret + k, status := BitVec.ofNat 64 (2 * Bool.bit c.ie + 4 * 3 + 16 * c.prv) }))
    (∀ n, c.ie = true → s.dev.pendingSource h = some n → c.wait = .none → exec (.interruptEntry p) s = enters n c.pc 0#64) ∧
    (∀ n, c.ie = true → s.dev.pendingSource h = some n → c.wait = .wfi →
      exec (.interruptEntry p) s = enters n (c.pc + 4#64) 1#64) ∧
    (c.ie = false → exec (.interruptEntry p) s = .next (s.after s.dev)) ∧
    (c.wait = .fenceIo → exec (.fenceIoComplete p) s = .next (s.after (s.dev.retireAt h (c.pc + 4#64))) ∧
      exec (.interruptEntry p) s = .next (s.after s.dev)) ∧
    (c.wait = .wfi → (s.dev.pendingSource h).isSome = true →
      exec (.wfiWake p) s = .next (s.after (s.dev.retireAt h (c.pc + 4#64)))) ∧
    (∀ (ev : Fin 3) (rd : RegNo) (than : Word), c.wait = .epochs ev rd than → (c.ie = true → s.dev.pendingSource h = none) →
      let ends := Host.Outcome.next (φ := Fault) (ρ := Refusal)
        (s.after ((s.dev.setGv h rd ((s.dev.latest ev).setWidth 64)).retireAt h (c.pc + 4#64)))
      exec (.epochWaitTimeout p) s = ends ∧
      (newer (s.dev.latest ev) than = true → exec (.epochWaitEnd p) s = ends) ∧
      (newer (s.dev.latest ev) than = false → exec (.epochWaitEnd p) s = .next (s.after s.dev)))

/-- R172, R176, R289 to R294: instructions of Islor-S act on their lane only; a lane's forward branch within its kernel, and
its bounded loop. Readings and choices of the model that it rests on: log entries 3, 96. -/
def Obligations.LaneInstructions : Prop :=
  (∀ s : State,
    (∀ (l : Fin 64) (g : Guard) (off : BitVec 22) (slot : Nat) (job : Bool), LaneReady s.dev l.val g →
      s.dev.runningSlot = some (slot, job) → 1 ≤ off.toInt → (s.dev.lane l.val).pc + off.toNat < s.dev.get (SCR_KINFO_LEN slot) →
      exec (.br ⟨.lane l, g⟩ off) s = .next (s.after (s.dev.setLane l.val fun v =>
        (v.begun 1).goTo (v.pc + off.toNat)))) ∧
    (∀ (l : Fin 64) (g : Guard) (rs : RegNo) (max : Fin 64) (len : Fin 512) (slot : Nat) (job : Bool),
      LaneReady s.dev l.val g → s.dev.runningSlot = some (slot, job) → (s.dev.lane l.val).loop = none →
      (s.dev.lane l.val).pc + 1 + (len.val + 1) ≤ s.dev.get (SCR_KINFO_LEN slot) →
      let n := if rs.val = 0 then max.val + 1 else Min.min (max.val + 1) (gAt (s.dev.lane l.val).g rs).toInt.toNat
      (n = 0 → exec (.loopn ⟨.lane l, g⟩ rs max len) s =
        .next (s.after (s.dev.setLane l.val fun v => { v.begun 1 with pc := v.pc + 1 + (len.val + 1) }))) ∧
      (n ≠ 0 → exec (.loopn ⟨.lane l, g⟩ rs max len) s = .next (s.after (s.dev.setLane l.val fun v =>
        { v.begun 1 with pc := v.pc + 1, loop := some ⟨v.pc + 1, v.pc + (len.val + 1), n - 1⟩ }))))) ∧
  ∀ (s : State) (l : Fin 64) (g : Guard) (rd rs1 : RegNo) (k : Fin 16), LaneReady s.dev l.val g →
    let x : Ctx := ⟨.lane l, g⟩
    let loads (n : Nat) (f : Lane → DWord) : Host.Outcome State Fault Refusal :=
      .next (s.after (s.dev.laneDone l.val n fun v => { v with g := gSet v.g rd (f v) }))
    let stores (f : Lane → DWord → Word) : Host.Outcome State Fault Refusal :=
      .next (s.after (s.dev.laneDone l.val 1 fun v => { v with k := v.k.set k.val (f v (gAt v.g rs1)) }))
    exec (.kldW x rd k) s = loads 1 (fun v => v.k[k].setWidth 64) ∧
    exec (.kldWs x rd k) s = loads 1 (fun v => v.k[k].signExtend 64) ∧
    exec (.kldL x rd k) s = loads 1 (fun v => (v.k[k].extractLsb' 0 16).setWidth 64) ∧
    exec (.kldLs x rd k) s = loads 1 (fun v => (v.k[k].extractLsb' 0 16).signExtend 64) ∧
    exec (.kldH x rd k) s = loads 1 (fun v => (v.k[k].extractLsb' 16 16).setWidth 64) ∧
    exec (.kldHs x rd k) s = loads 1 (fun v => (v.k[k].extractLsb' 16 16).signExtend 64) ∧
    (∀ (hk : k.val + 1 < 16), k.val % 2 = 0 →
      exec (.kldD x rd k) s = loads 1 (fun v => v.k[k.val + 1] ++ v.k[k]) ∧
      exec (.kstD x k rs1) s = .next (s.after (s.dev.laneDone l.val 1 fun v =>
        { v with k := (v.k.set k.val ((gAt v.g rs1).extractLsb' 0 32)).set (k.val + 1) ((gAt v.g rs1).extractLsb' 32 32) }))) ∧
    exec (.kstW x k rs1) s = stores (fun _ a => a.extractLsb' 0 32) ∧
    exec (.kstL x k rs1) s = stores (fun v a => v.k[k].extractLsb' 16 16 ++ a.extractLsb' 0 16) ∧
    exec (.kstH x k rs1) s = stores (fun v a => a.extractLsb' 0 16 ++ v.k[k].extractLsb' 0 16) ∧
    (∀ t : Fin 64, exec (.lut x rd rs1 t) s =
      loads 2 (fun v => BitVec.ofInt 64 (s.dev.lut t.val ((gAt v.g rs1).extractLsb' 0 32).toInt))) ∧
    (∀ q : BitVec 2, (s.dev.lane l.val).queue.length < 4 → exec (.pubq x q rs1) s =
      .next (s.after (s.dev.laneDone l.val 1 fun v =>
        { v with queue := v.queue ++ [⟨q.toNat, (gAt v.g rs1).extractLsb' 0 32⟩] }))) ∧
    (∀ q : BitVec 2, 4 ≤ (s.dev.lane l.val).queue.length → exec (.pubq x q rs1) s =
      .next (s.after (s.dev.laneDone l.val 1 fun v => { v with badq := true }))) ∧
    exec (.end_ x) s = .next (s.after (s.dev.setLane l.val fun v => { v.begun 1 with ended := true })) ∧
    (∀ c : Fin 64, exec (.csrr x rd c) s = loads 1 (fun v => (v.c[c.val]?).getD 0#64)) ∧
    (∀ w : Word, islorDefined true w = false → exec (.illegalInstruction (.lane l) w) s = .next (s.after (s.dev.laneAbort l.val)))

/-- A step carries out the command at the front of the queue, with the rest of the queue waiting. Readings and choices of the
model that it rests on: log entry 2. -/
def Obligations.StepRunsFront : Prop :=
  ∀ (s : State) (c : Instr) (rest : List Instr),
    step { s with pending := c :: rest } = exec c { s with pending := rest }

/-- R22, R42 and log entry 1 (the model's choice): on an empty queue a step lets one FAB cycle of 4 ns pass: the model's clock
moves, the queue stays empty, and no memory, node, referee count or lane changes, nor a driver or bank in which nothing is
left to follow; a bit error can come at that instant (R30, log 114). -/
def Obligations.IdlePassesTime : Prop :=
  ∀ s : State, s.pending = [] → ∃ t, step s = .next t ∧ t.pending = [] ∧ t.dev.now = s.dev.now + 4 ∧ t.dev.mem = s.dev.mem ∧
    t.dev.nodes = s.dev.nodes ∧ (SafeState s → t.dev.drv = s.dev.drv ∧ t.dev.bank = s.dev.bank) ∧
    t.dev.upsets = (match Config.upset (s.dev.now + 4) with
      | none => s.dev.upsets
      | some (w, dbl) =>
        if regionOf (8 * w) = .none ∨ regionOf (8 * w) = .periph ∨ regionOf (8 * w) = .rom then s.dev.upsets
        else (w, dbl) :: s.dev.upsets.filter fun e => e.1 != w) ∧
    t.dev.ref = s.dev.ref ∧ t.dev.scr = s.dev.scr ∧ t.dev.fd.ctl = s.dev.fd.ctl ∧
    (s.dev.awake = false → t.dev.tim = s.dev.tim ∧ t.dev.cpx = s.dev.cpx) ∧
    (s.dev.awake = true → ∀ h, h < 2 → (t.dev.corePair h).pc = (s.dev.corePair h).pc ∧ (t.dev.corePair h).g = (s.dev.corePair h).g ∧
      (t.dev.corePair h).instret = (s.dev.corePair h).instret)

/-- R38, R53, R238, R281, R282 and R345: what a P reset leaves, where the spec's tables give it: the values of mode,
generation, referee, drivers, cores and memory; the queue is empty and the state is safe. Readings and choices of the model
that it rests on: log entries 5, 7. -/
def Obligations.ResetValues : Prop :=
  let d := State.reset.dev
  State.reset.pending = [] ∧ SafeState State.reset ∧ Memory.wf d.mem = true ∧ d.mode = .muster ∧ d.fd.tripLatch = false ∧
  (∀ b < 4, d.bankSt b = .opened) ∧ (∀ k < 12, d.get (CTD_DST_SS k) = 0) ∧
  d.on REF_ST_ARMED = false ∧
  (∀ h < 2, (d.corePair h).prv = 3 ∧ (d.corePair h).ie = false ∧ (d.corePair h).mpuctl = 0#64)

/-- R38, R247, R465: in every state after a step, TRIPPED implies the trip latch, the series switches of a bank conduct
exactly while the conditions of R247 hold, no driver or bank counts as closing or closed where they do not, and nothing of
R35, R38, R247 and R465 is left to follow. Readings and choices of the model that it rests on: log entry 5. -/
def Obligations.StepKeepsSafe : Prop :=
  ∀ s t : State, step s = .next t → SafeState t ∧ t.dev.Still

/-- R38, R247: while the trip latch is set, the series switches of all twelve drivers are off after every step, whatever was
commanded; every driver is off or in fast quench, and no bank is CLOSED or PRECHARGING. Readings and choices of the model that
it rests on: log entry 5. -/
def Obligations.TripLatchHoldsSwitchesOff : Prop :=
  ∀ s t : State, step s = .next t → t.dev.fd.tripLatch = true →
    ∀ k < 12, t.dev.get (CTD_DST_SS k) = 0 ∧
      (t.dev.drvSt k = .off ∨ t.dev.drvSt k = .fastQuench) ∧
      ∀ b < 4, t.dev.bankSt b ≠ .closed ∧ t.dev.bankSt b ≠ .precharging

/-- No command stops this machine, and a command changes nothing of the queue: its effect is on the device alone. Readings and
choices of the model that it rests on: log entry 4. -/
def Obligations.EveryCommandAnswers : Prop :=
  ∀ (c : Instr) (s : State), ∃ d : Device, exec c s = .next (s.after d)

/-- R54: event counters, of 16 bits with SAT in bit 31 of their own register and of 32 bits with SAT in xxx_SATF, and writes
to a counter register. -/
def Obligations.CountersSaturate : Prop :=
  ∀ (d : Device) (a : Nat),
    (bitsOf (d.rget a) 0 16 < 0xFFFF → bitsOf ((d.count16 a).rget a) 0 16 = bitsOf (d.rget a) 0 16 + 1) ∧
    (bitsOf (d.rget a) 0 16 = 0xFFFF → d.count16 a = d) ∧
    (bitsOf (d.rget a) 0 16 = 0xFFFE → ((d.count16 a).rget a).getLsbD 31 = true) ∧
    (∀ b, b ≠ a → (d.count16 a).rget b = d.rget b) ∧
    (∀ k < 32, a ≠ unitOf a + 8 →
      ((d.rget a).toNat < 0xFFFFFFFF → ((d.count32 a k).rget a).toNat = (d.rget a).toNat + 1) ∧
      ((d.rget a).toNat = 0xFFFFFFFF → d.count32 a k = d) ∧
      ((d.rget a).toNat = 0xFFFFFFFE → (d.count32 a k).on ⟨unitOf a + 8, k, 1⟩ = true) ∧
      (∀ b, b ≠ a → b ≠ unitOf a + 8 → (d.count32 a k).rget b = d.rget b)) ∧
    (∀ r, regDef? a = some r → r.fields.all (fun f => f.accepts 0#32) = true → a ≠ unitOf a + 4 → a ≠ unitOf a + 8 →
      (r.cnt = .c16 → (d.typed a 0#32).rget a = 0#32 ∧ bitsOf (((d.typed a 0#32).count16 a).rget a) 0 16 = 1) ∧
      (∀ k < 32, r.cnt = .c32 k → (d.typed a 0#32).rget a = 0#32 ∧ (d.typed a 0#32).on ⟨unitOf a + 8, k, 1⟩ = false ∧
        (((d.typed a 0#32).count32 a k).rget a).toNat = 1) ∧
      (r.cnt ≠ .plain → ∀ w, w ≠ 0#32 → ∀ b, b ≠ unitOf a + 4 → (d.typed a w).rget b = d.rget b))

/-- R8, R9, R10, R27, R28, R462, R463: a write to a register that has no effect beyond its field types, and what a write does
in a field of each type. Readings and choices of the model that it rests on: log entries 91, 92. -/
def Obligations.RegisterWrites : Prop :=
  (∀ (f : FieldDef) (w old : Word) (locked : Bool), 0 < f.w → f.lo + f.w ≤ 32 →
    let new := f.write locked w old
    (f.ty = .rw ∨ f.ty = .lk ∧ locked = false → bitsOf new f.lo f.w = bitsOf w f.lo f.w) ∧
    (f.ty = .w1c → ∀ i < f.w, new.getLsbD (f.lo + i) = (old.getLsbD (f.lo + i) && !w.getLsbD (f.lo + i))) ∧
    (f.ty = .w1s → ∀ i < f.w, new.getLsbD (f.lo + i) = (old.getLsbD (f.lo + i) || w.getLsbD (f.lo + i))) ∧
    (f.ty = .ro ∨ f.ty = .rc ∨ f.ty = .lk ∧ locked = true → new = old) ∧
    ∀ i < 32, i < f.lo ∨ f.lo + f.w ≤ i → new.getLsbD i = old.getLsbD i) ∧
  ∀ (s : State) (ini : Initiator) (addr val : Word), s.dev.awake = true → s.dev.sys.appHeld = false →
    let d := s.dev
    let a := addr.toNat
    (mayWrite ini a = true → a % 4 = 0 → d.writeBarred a = false → d.regWrite a val = d.typed a val →
      (∀ r, regDef? a = some r → a ≠ unitOf a + 4 →
        (r.fields.all (fun f => f.accepts val) = true → r.cnt = .plain →
          ∃ e, exec (.registerWrite ini addr val) s = .next (s.after e) ∧
            e.rget a = r.fields.foldl (fun acc f => f.write (d.lockedAt a) val acc) (d.rget a) ∧
            (∀ b, b ≠ a → b ≠ unitOf a + 4 → e.rget b = d.rget b) ∧
            e.get (lastFld (unitOf a)) =
              if d.lockedAt a = true ∧ ∃ f ∈ r.fields, f.ty = .lk ∧ bitsOf val f.lo f.w ≠ bitsOf (d.rget a) f.lo f.w
              then Status.code .locked else Status.code .ok) ∧
        (r.fields.all (fun f => f.accepts val) = false →
          exec (.registerWrite ini addr val) s = .next (s.after (d.st (unitOf a) .range)))) ∧
      (regDef? a = none → isHeader a = true →
        exec (.registerWrite ini addr val) s = .next (s.after (d.st (unitOf a) .ok))) ∧
      (regDef? a = none → isHeader a = false → exec (.registerWrite ini addr val) s = .next (s.after d))) ∧
    (∀ p, ini = .core p → (blockOf a).isSome = true → a % 4 = 0 → mayWrite ini a = false →
      ∃ e, exec (.registerWrite ini addr val) s = .next (s.after e) ∧ e.get CPX_OWNVA_ADDR = a ∧ e.on CPX_EVT_OWNV = true ∧
        e.mem = d.mem ∧ e.cpx = d.cpx ∧ ∀ b, b < 0x60050000 ∨ 0x60060000 ≤ b → e.rget b = d.rget b) ∧
    (a % 4 ≠ 0 ∨ blockOf a = none → exec (.registerWrite ini addr val) s = .next (s.after d))

/-- R10: LOCK_SET by a pair that may write the block leaves its lock bit set, whatever it was; a pair that may not changes no
register of the block. Readings and choices of the model that it rests on: log entry 92. -/
def Obligations.LockSetSetsLock : Prop :=
  ∀ (s : State) (p : Pair) (blk : LockBlock), s.dev.awake = true → s.dev.sys.appHeld = false →
    (mayWrite (.core p) (lockAddr blk) = true →
      ∃ e, exec (.lockSet (.core p) blk) s = .next (s.after e) ∧ e.get ⟨lockAddr blk, 0, 1⟩ = 1 ∧ e.mem = s.dev.mem ∧
        (blk ≠ .bmi → ∀ b, b ≠ lockAddr blk → b ≠ unitOf (lockAddr blk) + 4 → e.rget b = s.dev.rget b)) ∧
    (mayWrite (.core p) (lockAddr blk) = false →
      ∃ e, exec (.lockSet (.core p) blk) s = .next (s.after e) ∧ e.get ⟨lockAddr blk, 0, 1⟩ = s.dev.get ⟨lockAddr blk, 0, 1⟩)

/-- R59, R316: the source that interrupts pair h is, among those that are asserted, enabled and at or above the threshold, of
the highest level, and of these the lowest number. -/
def Obligations.InterruptChoice : Prop :=
  ∀ (d : Device) (h n : Nat),
    (d.pendingSource h = some n ↔
      n < 256 ∧ d.aboveThr h n = true ∧ ∀ m < 256, d.aboveThr h m = true →
        d.srcLevel h m < d.srcLevel h n ∨ d.srcLevel h m = d.srcLevel h n ∧ n ≤ m) ∧
    (d.aboveThr h n = true ↔
      d.bitAt (INT_EN h (n / 32)) (n % 32) = true ∧ d.get (INT_THR_THR h) ≤ d.srcLevel h n ∧ d.source n = true)

/-- R285: what the MPU admits, and the lock of a region. -/
def Obligations.MemoryProtection : Prop :=
  ∀ (c : CorePair) (k : Access) (a : Nat),
    (c.prv = 3 → c.mpuAdmits k a = true) ∧
    (∀ n < 16, c.prv ≠ 3 → c.mpuHit n a = true → (∀ m, n < m → m < 16 → c.mpuHit m a = false) →
      c.mpuAdmits k a = ((c.mpul[n]?).getD 0#64).getLsbD (k.attr (c.prv != 1))) ∧
    (c.prv = 1 → (∀ m < 16, c.mpuHit m a = false) → c.mpuAdmits k a = (k != .fetch && c.mpuctl.getLsbD 0)) ∧
    (c.prv ≠ 3 → c.prv ≠ 1 → (∀ m < 16, c.mpuHit m a = false) → c.mpuAdmits k a = false) ∧
    (∀ (n : Nat) (v : DWord), ((c.mpul[n]?).getD 0#64).getLsbD 33 = true → c.setMpu n false v = c ∧ c.setMpu n true v = c)

/-- R7: an access of another size than 32 bits to peripheral space ends in a bus error, which a pair takes as an access fault,
and an access of 32 bits that is not aligned takes the alignment exception before it reaches the device or, from the bus, ends
in the same error; no register of the peripherals changes, but for the ownership counts where the block is the other pair's
(R28). Readings and choices of the model that it rests on: log entry 3. -/
def Obligations.PeripheralAccessSize : Prop :=
  ∀ (s : State) (p : Pair) (g : Guard) (r rs1 : RegNo) (imm : BitVec 12), CoreReady s.dev (pairIx p) g →
    let h := pairIx p
    let c := s.dev.corePair h
    let a := gAt c.g rs1 + imm.signExtend 64
    (c.prv = 3 → c.ie = true) → regionOf a.toNat = .periph →
    let traps (code : Nat) : Host.Outcome State Fault Refusal := .next (s.after (s.dev.setCore h fun c =>
      { c with epc := c.pc, cause := BitVec.ofNat 64 code, tval := a, pc := c.vbase, wait := .none, step := false,
               status := BitVec.ofNat 64 (2 * Bool.bit c.ie + 4 * 3 + 16 * c.prv) }))
    (∀ (ini : Initiator) (addr val : Word), s.dev.sys.appHeld = false → addr.toNat % 4 ≠ 0 →
      exec (.registerWrite ini addr val) s = .next (s.after s.dev)) ∧
    (a.toNat % 4 ≠ 0 → exec (.lw ⟨.core p, g⟩ r rs1 imm) s = traps 4 ∧ exec (.sw ⟨.core p, g⟩ r rs1 imm) s = traps 4) ∧
    (c.mpuAdmits .read a.toNat = true →
      exec (.lb ⟨.core p, g⟩ r rs1 imm) s = traps 5 ∧ exec (.lbu ⟨.core p, g⟩ r rs1 imm) s = traps 5 ∧
      (a.toNat % 2 = 0 → exec (.lh ⟨.core p, g⟩ r rs1 imm) s = traps 5 ∧ exec (.lhu ⟨.core p, g⟩ r rs1 imm) s = traps 5) ∧
      (a.toNat % 8 = 0 → exec (.ld ⟨.core p, g⟩ r rs1 imm) s = traps 5 ∧ exec (.fld ⟨.core p, g⟩ r rs1 imm) s = traps 5)) ∧
    (c.mpuAdmits .write a.toNat = true →
      let foreign (size : Nat) : Host.Outcome State Fault Refusal :=
        let e := if (blockOf a.toNat).isSome = true ∧ mayWrite (.core p) a.toNat = false
          then s.dev.violation p a.toNat 0 size true else s.dev
        .next (s.after (e.setCore h fun c =>
          { c with epc := c.pc, cause := 6#64, tval := a, pc := c.vbase, wait := .none, step := false,
                   status := BitVec.ofNat 64 (2 * Bool.bit c.ie + 4 * 3 + 16 * c.prv) }))
      exec (.sb ⟨.core p, g⟩ r rs1 imm) s = foreign 0 ∧
      (a.toNat % 2 = 0 → exec (.sh ⟨.core p, g⟩ r rs1 imm) s = foreign 1) ∧
      (a.toNat % 8 = 0 → exec (.sd ⟨.core p, g⟩ r rs1 imm) s = foreign 3 ∧ exec (.fsd ⟨.core p, g⟩ r rs1 imm) s = foreign 3))

/-- R278: BR, CALL and JR on a core pair; a branch under a false guard falls through, and an instruction whose fetch fails
raises the instruction access fault at its address, one whose fetch meets a double-bit error the integrity fault (R30, R283). -/
def Obligations.BranchesCallsJumps : Prop :=
  ∀ (s : State) (p : Pair) (g : Guard) (off : BitVec 22) (rd rs1 : RegNo),
    let h := pairIx p
    let c := s.dev.corePair h
    (CoreReady s.dev h g →
      exec (.br ⟨.core p, g⟩ off) s = .next (s.after (s.dev.coreTo h (c.pc + off.signExtend 64 * 4#64) id)) ∧
      exec (.call ⟨.core p, g⟩ off) s = .next (s.after (s.dev.coreTo h (c.pc + off.signExtend 64 * 4#64) fun c =>
        { c with g := gSet c.g 31 (c.pc + 4#64) })) ∧
      exec (.jr ⟨.core p, g⟩ rd rs1) s =
        .next (s.after (s.dev.coreTo h (gAt (gSet c.g rd (c.pc + 4#64)) rs1 &&& ~~~3#64) fun c =>
          { c with g := gSet c.g rd (c.pc + 4#64) }))) ∧
    (s.dev.awake = true → s.dev.coreActs h = true → c.wait = .none → (c.ie = true → s.dev.pendingSource h = none) →
      (g.pg = 0 → g.pn = false) →
      ((s.dev.fetch h).1 = none → (regionOf c.pc.toNat = .nvm → s.dev.upsetAt c.pc.toNat 4 false = false) →
        guardHolds g c.p = false → exec (.br ⟨.core p, g⟩ off) s = .next (s.after (s.dev.coreDone h id))) ∧
      (∀ code, (s.dev.fetch h).1 = some code → (c.prv = 3 → c.ie = true) → ∃ t, exec (.br ⟨.core p, g⟩ off) s = .next t ∧
        (code = 1 ∨ code = 7) ∧
        let c' := t.dev.corePair h
        c'.pc = c.vbase ∧ c'.epc = c.pc ∧ c'.cause = BitVec.ofNat 64 code ∧ c'.tval = c.pc ∧ c'.prv = 3 ∧ c'.ie = false ∧
        c'.g = c.g ∧ c'.f = c.f ∧ c'.p = c.p ∧ c'.instret = c.instret ∧ t.dev.mem = s.dev.mem))

/-- R288: control-flow signatures. SIG is 32 bits wide and reads so as c10; SIGA folds its constant, SIGS loads, and SIGC
compares and clears, raising 0x0C with TVAL := SIG on a difference; SIGA with IMM17[16] or RD set is no instruction. -/
def Obligations.ControlFlowSignatures : Prop :=
  (∀ (d : Device) (h : Nat), (d.csrValue h 10).toNat < 2 ^ 32 ∧ d.csrValue h 10 = (d.corePair h).sig.setWidth 64) ∧
  (∀ (g : Guard) (rd : RegNo) (imm : Fin 131072), rd ≠ 0 ∨ 65536 ≤ imm.val → islorDefined false (encU g 0x27 rd.val imm.val) = false) ∧
  ∀ (s : State) (p : Pair) (g : Guard), CoreReady s.dev (pairIx p) g →
    let h := pairIx p
    let c := s.dev.corePair h
    (∀ v : Half, exec (.siga ⟨.core p, g⟩ v) s = .next (s.after (s.dev.coreDone h fun c =>
      { c with sig := c.sig.rotateLeft 3 ^^^ v.setWidth 32 }))) ∧
    (∀ r : RegNo, exec (.sigs ⟨.core p, g⟩ r) s =
      .next (s.after (s.dev.coreDone h fun c => { c with sig := (gAt c.g r).setWidth 32 }))) ∧
    (∀ r : RegNo, c.sig = (gAt c.g r).setWidth 32 →
      exec (.sigc ⟨.core p, g⟩ r) s = .next (s.after (s.dev.coreDone h fun c => { c with sig := 0#32 }))) ∧
    (∀ r : RegNo, (c.prv = 3 → c.ie = true) → c.sig ≠ (gAt c.g r).setWidth 32 →
      exec (.sigc ⟨.core p, g⟩ r) s = .next (s.after (s.dev.setCore h fun c =>
        { c with sig := 0#32, epc := c.pc, cause := 0x0C#64, tval := c.sig.setWidth 64, pc := c.vbase, wait := .none, step := false,
                 status := BitVec.ofNat 64 (2 * Bool.bit c.ie + 4 * 3 + 16 * c.prv) })))

/-- R271: an instruction executes when p[PG] XOR PN is 1; under a false guard it changes only where its agent stands; an
illegal word is judged by its encoding whatever its guard, and PG = 0 with PN = 1 is illegal in both profiles. -/
def Obligations.GuardedOff : Prop :=
  (∀ (g : Guard) (p : Byte), guardHolds g p = (predAt p g.pg.val != g.pn)) ∧
  (∀ (d : Device) (p : Pair) (g : Guard) (w : Word) (body : Device → CoreEnd),
    let h := pairIx p
    d.coreActs h = true → (d.corePair h).wait = .none → ((d.corePair h).ie = true → d.pendingSource h = none) →
    (d.fetch h).1 = none → (regionOf (d.corePair h).pc.toNat = .nvm → d.upsetAt (d.corePair h).pc.toNat 4 false = false) →
    (islorDefined false w = true → guardHolds g (d.corePair h).p = true →
      (∀ e, body (d.setCore h CorePair.stepped) = .retire e → d.runCore h g w body = e.retireAt h ((d.corePair h).pc + 4#64)) ∧
      (∀ e pc, body (d.setCore h CorePair.stepped) = .jump e pc → d.runCore h g w body = e.retireAt h pc)) ∧
    (islorDefined false w = true → guardHolds g (d.corePair h).p = false → d.runCore h g w body = d.coreDone h id) ∧
    (islorDefined false w = false →
      d.runCore h g w body = (d.setCore h fun c => { c with step := false }).trap h 2 (w.setWidth 64))) ∧
  (∀ (d : Device) (l : Nat) (g : Guard) (w : Word) (bad : Lane → Nat → Bool) (body : Device → Lane → Lane) (slot : Nat) (job : Bool),
    (d.lane l).row.isSome = true → d.runningSlot = some (slot, job) → (d.lane l).ended = false → (d.lane l).abort = none →
    (d.lane l).pc < d.get (SCR_KINFO_LEN slot) → bad (d.lane l) (d.get (SCR_KINFO_LEN slot)) = false →
    (islorDefined true w = true → guardHolds g (d.lane l).p = true →
      d.runLane l g w bad body = d.setLane l fun v => body d (v.begun (laneCycles w))) ∧
    (islorDefined true w = true → guardHolds g (d.lane l).p = false → d.runLane l g w bad body = d.laneDone l (laneCycles w) id) ∧
    (islorDefined true w = false → d.runLane l g w bad body = d.laneAbort l)) ∧
  (∀ (lane : Bool) (w : Word), fieldOf w 29 3 = 0 → fieldOf w 28 1 = 1 → islorDefined lane w = false)

/-- R270 to R273, R276: words written out from the encodings, and what the profiles define. -/
def Obligations.InstructionWords : Prop :=
  encR ⟨0, false⟩ 0x00 1 2 3 0x00 = 0x00022180#32 ∧
  encR ⟨3, true⟩ 0x00 4 5 6 0x01 = 0x70085301#32 ∧
  encI ⟨0, false⟩ 0x01 1 2 0xFFF = 0x00422FFF#32 ∧
  encI ⟨0, false⟩ 0x0C 7 8 4 = 0x030E8004#32 ∧
  encB ⟨1, false⟩ 0x18 (-2#22) = 0x263FFFFE#32 ∧
  encI ⟨1, false⟩ 0x01 5 6 0xFFD = 0x204A6FFD#32 ∧
  sysWord ⟨.core .a, ⟨0, false⟩⟩ 0x01 = 0x09400001#32 ∧
  islorDefined false 0x030E8004#32 = true ∧ islorDefined true 0x030E8004#32 = false ∧
  islorDefined false 0x0A000000#32 = false ∧ islorDefined true 0x0A000000#32 = true ∧
  islorDefined false 0xFFFFFFFF#32 = false ∧ islorDefined true 0xFFFFFFFF#32 = false

/-- R281, R282: control registers are closed to the levels that the table of R281 does not name: a CSR write from a level that
may not write the register is the exception 0x03, and changes no register but those of the entry. -/
def Obligations.ControlRegisterLevels : Prop :=
  (∀ k : Fin 64, csrListed k.val = true →
    csrMayRead k.val 3 = true ∧
    (csrMayWrite k.val 3 = false ↔ k = 7 ∨ k = 8 ∨ k = 9 ∨ k = 11) ∧
    (csrMayRead k.val 0 = true ↔ 7 ≤ k.val ∧ k.val ≤ 12) ∧ (csrMayWrite k.val 0 = true ↔ k = 10 ∨ k = 12) ∧
    (csrMayRead k.val 1 = true ↔ k = 0 ∨ k = 6 ∨ 7 ≤ k.val ∧ k.val ≤ 12) ∧
    (csrMayWrite k.val 1 = true ↔ k = 6 ∨ k = 10 ∨ k = 12)) ∧
  ∀ (s : State) (p : Pair) (g : Guard) (rd rs1 : RegNo) (k : Fin 64), CoreReady s.dev (pairIx p) g →
    let h := pairIx p
    let c := s.dev.corePair h
    (c.prv = 3 → c.ie = true) → csrListed k.val = true → csrMayRead k.val c.prv = false ∨ csrMayWrite k.val c.prv = false →
    let traps (kind : Nat) : Host.Outcome State Fault Refusal := .next (s.after (s.dev.setCore h fun c =>
      { c with epc := c.pc, cause := 3#64, tval := (encI g 0x24 rd.val rs1.val (kind * 64 + k.val)).setWidth 64, pc := c.vbase,
               wait := .none, step := false, status := BitVec.ofNat 64 (2 * Bool.bit c.ie + 4 * 3 + 16 * c.prv) }))
    exec (.csrw ⟨.core p, g⟩ rd k rs1) s = traps 1 ∧
    (rs1 ≠ 0 → exec (.csrs ⟨.core p, g⟩ rd k rs1) s = traps 2 ∧ exec (.csrc ⟨.core p, g⟩ rd k rs1) s = traps 3)

/-- R300: a pair's store to its own SRAM write region takes effect; one outside it is an ownership violation and the store
access fault, and changes no byte of memory. Readings and choices of the model that it rests on: log entry 71. -/
def Obligations.SramWriteRegions : Prop :=
  ∀ (s : State) (p : Pair) (g : Guard) (rs2 rs1 : RegNo) (imm : BitVec 12), CoreReady s.dev (pairIx p) g →
    let h := pairIx p
    let c := s.dev.corePair h
    let a := (gAt c.g rs1 + imm.signExtend 64).toNat
    (c.prv = 3 → c.ie = true) → regionOf a = .sram → a % 8 = 0 → c.mpuAdmits .write a = true →
    (s.dev.ownSram h a 8 = true ↔ if h = 0 then a + 8 ≤ s.dev.split else s.dev.split ≤ a ∧ a + 8 ≤ 0x20180000) ∧
    (s.dev.ownSram h a 8 = true → exec (.sd ⟨.core p, g⟩ rs2 rs1 imm) s =
      .next (s.after ((((((s.dev.setCore h fun c => { c with step := false }).mwrite a 8 (gAt c.g rs2).toNat).ethServe 0).ethServe 1)
        ).retireAt h (c.pc + 4#64)))) ∧
    (s.dev.ownSram h a 8 = false → ∃ t, exec (.sd ⟨.core p, g⟩ rs2 rs1 imm) s = .next t ∧ t.dev.mem = s.dev.mem ∧
      t.dev.on CPX_EVT_OWNV = true)

/-- R167, R268, R290, R297: an instruction that a lane executes changes that lane, SCR_EVT, and nothing else of the device. -/
def Obligations.LaneIsolation : Prop :=
  ∀ (s : State) (l : Fin 64) (g : Guard) (rd rs1 rs2 : RegNo) (imm : BitVec 12) (off : BitVec 22) (k : Fin 16) (c : Fin 64)
      (m : Fin 64) (len : Fin 512) (q : BitVec 2) (w : Word),
    let x : Ctx := ⟨.lane l, g⟩
    let own (o : Host.Outcome State Fault Refusal) : Prop :=
      ∃ r lanes, o = .next (s.after { s.dev with regs := r, scr := { s.dev.scr with lanes := lanes } }) ∧
        (∀ j, j ≠ l.val → mapGetD j Lane.idle lanes = s.dev.lane j) ∧
        ∀ a, a ≠ SCR_EVT → ({ s.dev with regs := r } : Device).rget a = s.dev.rget a
    own (exec (.add x rd rs1 rs2) s) ∧ own (exec (.fmac x rd rs1 rs2) s) ∧ own (exec (.ld x rd rs1 imm) s) ∧
    own (exec (.sd x rs2 rs1 imm) s) ∧ own (exec (.casW x rd rs1 rs2) s) ∧ own (exec (.br x off) s) ∧ own (exec (.call x off) s) ∧
    own (exec (.jr x rd rs1) s) ∧ own (exec (.loopn x rs1 m len) s) ∧ own (exec (.csrr x rd c) s) ∧ own (exec (.csrw x rd c rs1) s) ∧
    own (exec (.ecall x) s) ∧ own (exec (.eret x) s) ∧ own (exec (.wfi x) s) ∧ own (exec (.siga x (w.setWidth 16)) s) ∧
    own (exec (.epwP x rd rs1) s) ∧ own (exec (.kldD x rd k) s) ∧ own (exec (.kstD x k rs1) s) ∧ own (exec (.lut x rd rs1 c) s) ∧
    own (exec (.pubq x q rs1) s) ∧ own (exec (.end_ x) s) ∧ own (exec (.nop x) s) ∧ own (exec (.illegalInstruction (.lane l) w) s)

end
end

