-- ==== Sys2Proof/Laws/Maps.lean ====
section
/-! SUPPORT. Laws of maps with one entry a key: reading after writing, and the canonical order of keys. -/

namespace Sys2Proof.Machine

theorem mapGet_mapSet_same {α : Type} (k : Nat) (v : α) (m : List (Nat × α)) : mapGet k (mapSet k v m) = some v := by
  induction m with
  | nil => simp [mapSet, mapGet]
  | cons e m ih =>
    obtain ⟨a, w⟩ := e
    simp only [mapSet]
    split
    · simp [mapGet]
    · split
      · simp [mapGet]
      · rename_i h _; simp [mapGet, h, ih]

theorem mapGet_mapSet_ne {α : Type} {k j : Nat} (h : j ≠ k) (v : α) (m : List (Nat × α)) :
    mapGet j (mapSet k v m) = mapGet j m := by
  induction m with
  | nil => simp [mapSet, mapGet, Ne.symm h]
  | cons e m ih =>
    obtain ⟨a, w⟩ := e
    simp only [mapSet]
    split
    · rename_i e; subst e; simp [mapGet, Ne.symm h]
    · split
      · simp [mapGet, Ne.symm h]
      · simp [mapGet, ih]

theorem mapGet_mapDrop_ne {α : Type} {k j : Nat} (h : j ≠ k) (m : List (Nat × α)) :
    mapGet j (mapDrop k m) = mapGet j m := by
  induction m with
  | nil => rfl
  | cons e m ih =>
    obtain ⟨a, w⟩ := e
    by_cases ha : a = k
    · subst ha; simpa [mapDrop, mapGet, Ne.symm h] using ih
    · simp only [mapDrop] at ih; simp [mapDrop, mapGet, ha, ih]

theorem mapGet_mapDrop_same {α : Type} (k : Nat) (m : List (Nat × α)) : mapGet k (mapDrop k m) = none := by
  induction m with
  | nil => rfl
  | cons e m ih =>
    obtain ⟨a, w⟩ := e
    by_cases ha : a = k
    · subst ha; simpa [mapDrop] using ih
    · simp only [mapDrop] at ih; simp [mapDrop, mapGet, ha, ih]

@[simp] theorem mapGetD_mapSet_same {α : Type} (k : Nat) (x v : α) (m : List (Nat × α)) :
    mapGetD k x (mapSet k v m) = v := by simp [mapGetD, mapGet_mapSet_same]

theorem mapGetD_mapSet_ne {α : Type} {k j : Nat} (h : j ≠ k) (x v : α) (m : List (Nat × α)) :
    mapGetD j x (mapSet k v m) = mapGetD j x m := by simp [mapGetD, mapGet_mapSet_ne h]

/-- Every key of `m` lies above `b`. -/
theorem keysRise_cons {α : Type} (b : Nat) (w : α) (m : List (Nat × α)) :
    keysRise ((b, w) :: m) = true ↔ (∀ e ∈ m, b < e.1) ∧ keysRise m = true := by
  induction m generalizing b w with
  | nil => simp [keysRise]
  | cons e m ih =>
    obtain ⟨a, v⟩ := e
    simp only [keysRise, Bool.and_eq_true, decide_eq_true_eq, List.mem_cons, forall_eq_or_imp]
    constructor
    · rintro ⟨h1, h2⟩
      exact ⟨⟨h1, fun e he => lt_trans h1 (((ih a v).1 h2).1 e he)⟩, h2⟩
    · rintro ⟨⟨h1, _⟩, h2⟩; exact ⟨h1, h2⟩

theorem mem_mapSet {α : Type} {k : Nat} {v : α} {m : List (Nat × α)} {e : Nat × α} (h : e ∈ mapSet k v m) :
    e = (k, v) ∨ e ∈ m := by
  induction m with
  | nil => simpa [mapSet] using h
  | cons x m ih =>
    obtain ⟨a, w⟩ := x
    simp only [mapSet] at h
    split at h
    · rcases List.mem_cons.1 h with h | h
      · exact .inl h
      · exact .inr (List.mem_cons_of_mem _ h)
    · split at h
      · rcases List.mem_cons.1 h with h | h
        · exact .inl h
        · exact .inr h
      · rcases List.mem_cons.1 h with h | h
        · exact .inr (h ▸ List.mem_cons_self)
        · exact (ih h).imp id (List.mem_cons_of_mem _)

theorem keysRise_mapSet {α : Type} (k : Nat) (v : α) {m : List (Nat × α)} (h : keysRise m = true) :
    keysRise (mapSet k v m) = true := by
  induction m with
  | nil => simp [mapSet, keysRise]
  | cons x m ih =>
    obtain ⟨a, w⟩ := x
    obtain ⟨h1, h2⟩ := (keysRise_cons a w m).1 h
    simp only [mapSet]
    split
    · rename_i e; subst e; exact (keysRise_cons _ _ _).2 ⟨h1, h2⟩
    · split
      · rename_i hlt
        refine (keysRise_cons _ _ _).2 ⟨?_, h⟩
        intro e he
        rcases List.mem_cons.1 he with rfl | he
        · exact hlt
        · exact lt_trans hlt (h1 e he)
      · rename_i hne hlt
        refine (keysRise_cons _ _ _).2 ⟨?_, ih h2⟩
        intro e he
        rcases mem_mapSet he with rfl | he
        · show a < k; omega
        · exact h1 e he

theorem keysRise_filter {α : Type} (p : Nat × α → Bool) {m : List (Nat × α)} (h : keysRise m = true) :
    keysRise (m.filter p) = true := by
  induction m with
  | nil => rfl
  | cons x m ih =>
    obtain ⟨a, w⟩ := x
    obtain ⟨h1, h2⟩ := (keysRise_cons a w m).1 h
    by_cases hp : p (a, w) = true
    · simp only [List.filter, hp]
      exact (keysRise_cons _ _ _).2 ⟨fun e he => h1 e (List.mem_of_mem_filter he), ih h2⟩
    · simp only [List.filter, Bool.not_eq_true] at hp ⊢
      simp only [hp]; exact ih h2

end Sys2Proof.Machine
end

