-- ==== Sys2Proof/Laws/Memory.lean ====
section
/-! SUPPORT. Laws of the memory: a byte read after a write, bytes outside a write, and the canonical form that every operation
keeps. -/

namespace Sys2Proof.Machine

theorem memGet_memSet_same (m : List Host.Cell) (a : Nat) (v : Byte) : memGet (memSet m a v) a = v := by
  unfold memGet memSet
  split
  · simp [mapGetD, mapGet_mapDrop_same, *]
  · simp

theorem memGet_memSet_ne (m : List Host.Cell) {a b : Nat} (h : b ≠ a) (v : Byte) :
    memGet (memSet m a v) b = memGet m b := by
  unfold memGet memSet
  split
  · simp [mapGetD, mapGet_mapDrop_ne h]
  · simp [mapGetD_mapSet_ne h]

theorem memGet_memWrite_outside (n : Nat) (m : List Host.Cell) (a v b : Nat) (h : b < a ∨ a + n ≤ b) :
    memGet (memWrite m a v n) b = memGet m b := by
  induction n generalizing m a v with
  | zero => rfl
  | succ n ih =>
    rw [memWrite, ih _ _ _ (by omega), memGet_memSet_ne _ (by omega)]

theorem memRead_memWrite (n : Nat) (m : List Host.Cell) (a v : Nat) :
    memRead (memWrite m a v n) a n = v % 256 ^ n := by
  induction n generalizing m a v with
  | zero => simp [memRead, Nat.mod_one]
  | succ n ih =>
    rw [memWrite, memRead, ih, memGet_memWrite_outside n _ _ _ a (by omega), memGet_memSet_same]
    have h : (BitVec.ofNat 8 v).toNat = v % 256 := by simp
    rw [h, Nat.pow_succ', Nat.mod_mul]

theorem memRead_memWrite_outside (k n : Nat) (m : List Host.Cell) (a v b : Nat) (h : b + k ≤ a ∨ a + n ≤ b) :
    memRead (memWrite m a v n) b k = memRead m b k := by
  induction k generalizing b with
  | zero => rfl
  | succ k ih => simp only [memRead]; rw [ih (b + 1) (by omega), memGet_memWrite_outside n m a v b (by omega)]

theorem memGet_memClear_outside (m : List Host.Cell) (lo hi b : Nat) (h : b < lo ∨ hi ≤ b) :
    memGet (memClear m lo hi) b = memGet m b := by
  unfold memGet mapGetD memClear
  congr 1
  induction m with
  | nil => rfl
  | cons e m ih =>
    obtain ⟨a, w⟩ := e
    by_cases hp : lo ≤ a ∧ a < hi
    · have hb : a ≠ b := by omega
      simpa [List.filter, hp.1, hp.2, mapGet, hb] using ih
    · have : (!(decide (lo ≤ a) && decide (a < hi))) = true := by simp; omega
      simp only [List.filter, this, mapGet, ih]

theorem memGet_memClear_inside (m : List Host.Cell) (lo hi b : Nat) (h : lo ≤ b ∧ b < hi) :
    memGet (memClear m lo hi) b = memDefault b := by
  have : mapGet b (memClear m lo hi) = none := by
    unfold memClear
    induction m with
    | nil => rfl
    | cons e m ih =>
      obtain ⟨a, w⟩ := e
      by_cases hp : lo ≤ a ∧ a < hi
      · simpa [List.filter, hp.1, hp.2] using ih
      · have hd : (!(decide (lo ≤ a) && decide (a < hi))) = true := by simp; omega
        have hb : a ≠ b := by rintro rfl; exact hp h
        simp only [List.filter, hd, mapGet, hb, if_false, ih]
  simp [memGet, mapGetD, this]

/-! ### The canonical form -/

theorem Memory.wf_iff (m : List Host.Cell) :
    Memory.wf m = true ↔ keysRise m = true ∧ ∀ e ∈ m, e.2 ≠ memDefault e.1 := by
  simp [Memory.wf, List.all_eq_true]

theorem Memory.wf_filter (p : Host.Cell → Bool) {m : List Host.Cell} (h : Memory.wf m = true) :
    Memory.wf (m.filter p) = true := by
  obtain ⟨h1, h2⟩ := (Memory.wf_iff m).1 h
  exact (Memory.wf_iff _).2 ⟨keysRise_filter p h1, fun e he => h2 e (List.mem_of_mem_filter he)⟩

theorem Memory.wf_memSet {m : List Host.Cell} (h : Memory.wf m = true) (a : Nat) (v : Byte) :
    Memory.wf (memSet m a v) = true := by
  unfold memSet
  split
  · exact Memory.wf_filter _ h
  · rename_i hv
    obtain ⟨h1, h2⟩ := (Memory.wf_iff m).1 h
    refine (Memory.wf_iff _).2 ⟨keysRise_mapSet _ _ h1, fun e he => ?_⟩
    rcases mem_mapSet he with rfl | he
    · exact hv
    · exact h2 e he

theorem Memory.wf_memWrite {m : List Host.Cell} (h : Memory.wf m = true) (a v n : Nat) :
    Memory.wf (memWrite m a v n) = true := by
  induction n generalizing m a v with
  | zero => exact h
  | succ n ih => exact ih (Memory.wf_memSet h _ _) _ _

theorem Memory.wf_memClear {m : List Host.Cell} (h : Memory.wf m = true) (lo hi : Nat) :
    Memory.wf (memClear m lo hi) = true := Memory.wf_filter _ h

theorem Memory.wf_mwrite {d : Device} (h : Memory.wf d.mem = true) (a n v : Nat) :
    Memory.wf (d.mwrite a n v).mem = true := Memory.wf_memWrite h a v n

theorem Memory.wf_reset : Memory.wf State.reset.dev.mem = true := by decide

end Sys2Proof.Machine
end

