-- ==== Sys2Proof/Laws/Operands.lean ====
section
/-! SUPPORT. The fields of an encoded Islor word read back (R270), so that the legality of a word is decided on its operands. -/

namespace Sys2Proof.Machine

/-- A head and an operand part below 2^22 make a word of that value. -/
theorem encHead_lt (g : Guard) {op r : Nat} (h : op < 64) (hr : r < 2 ^ 22) : encHead g op + r < 2 ^ 32 := by
  have := g.pg.isLt
  unfold encHead; split <;> omega

/-- The fields of the head, read back from a word of head and operand part. -/
theorem fieldOf_head (g : Guard) {op r : Nat} (h : op < 64) (hr : r < 2 ^ 22) :
    fieldOf (BitVec.ofNat 32 (encHead g op + r)) 29 3 = g.pg.val ∧
    fieldOf (BitVec.ofNat 32 (encHead g op + r)) 28 1 = (if g.pn then 1 else 0) ∧
    fieldOf (BitVec.ofNat 32 (encHead g op + r)) 22 6 = op := by
  have := encHead_lt g h hr
  have := g.pg.isLt
  simp only [fieldOf, BitVec.toNat_ofNat, Nat.shiftRight_eq_div_pow]
  rw [Nat.mod_eq_of_lt ‹encHead g op + r < 2 ^ 32›]
  unfold encHead; split <;> omega

/-- A field of the operand part does not see the head. -/
theorem fieldOf_tail (g : Guard) {op r lo n : Nat} (h : op < 64) (hr : r < 2 ^ 22) (hl : lo + n ≤ 22) :
    fieldOf (BitVec.ofNat 32 (encHead g op + r)) lo n = r / 2 ^ lo % 2 ^ n := by
  have hlt := encHead_lt g h hr
  simp only [fieldOf, BitVec.toNat_ofNat, Nat.shiftRight_eq_div_pow]
  rw [Nat.mod_eq_of_lt hlt]
  obtain ⟨k, hk⟩ : ∃ k, encHead g op = 2 ^ lo * (2 ^ n * k) := by
    refine ⟨(g.pg.val * 2 ^ 7 + (if g.pn then 2 ^ 6 else 0) + op) * 2 ^ (22 - lo - n), ?_⟩
    have : (2 : Nat) ^ 22 = 2 ^ lo * (2 ^ n * 2 ^ (22 - lo - n)) := by
      rw [← Nat.pow_add, ← Nat.pow_add]; congr 1; omega
    have e : encHead g op = (g.pg.val * 2 ^ 7 + (if g.pn then 2 ^ 6 else 0) + op) * 2 ^ 22 := by
      unfold encHead; split <;> omega
    rw [e, this]; ac_rfl
  rw [hk, Nat.mul_add_div (Nat.two_pow_pos lo), Nat.mul_add_mod]

/-- Format R: the operand fields. -/
theorem fieldOf_encR (g : Guard) {op rd rs1 rs2 fn : Nat} (ho : op < 64) (hd : rd < 32) (h1 : rs1 < 32) (h2 : rs2 < 32)
    (hf : fn < 128) :
    fieldOf (encR g op rd rs1 rs2 fn) 29 3 = g.pg.val ∧
    fieldOf (encR g op rd rs1 rs2 fn) 28 1 = (if g.pn then 1 else 0) ∧
    fieldOf (encR g op rd rs1 rs2 fn) 22 6 = op ∧ fieldOf (encR g op rd rs1 rs2 fn) 17 5 = rd ∧
    fieldOf (encR g op rd rs1 rs2 fn) 12 5 = rs1 ∧ fieldOf (encR g op rd rs1 rs2 fn) 7 5 = rs2 ∧
    fieldOf (encR g op rd rs1 rs2 fn) 0 7 = fn := by
  have e : encR g op rd rs1 rs2 fn = BitVec.ofNat 32 (encHead g op + (rd * 2 ^ 17 + rs1 * 2 ^ 12 + rs2 * 2 ^ 7 + fn)) := by
    simp only [encR, Nat.add_assoc]
  have hr : rd * 2 ^ 17 + rs1 * 2 ^ 12 + rs2 * 2 ^ 7 + fn < 2 ^ 22 := by omega
  rw [e]
  obtain ⟨a, b, c⟩ := fieldOf_head g ho hr
  refine ⟨a, b, c, ?_⟩
  simp only [fieldOf_tail g ho hr (show 17 + 5 ≤ 22 by omega), fieldOf_tail g ho hr (show 12 + 5 ≤ 22 by omega),
    fieldOf_tail g ho hr (show 7 + 5 ≤ 22 by omega), fieldOf_tail g ho hr (show 0 + 7 ≤ 22 by omega)]
  omega

/-- Formats I and St: the operand fields. -/
theorem fieldOf_encI (g : Guard) {op rd rs1 imm : Nat} (ho : op < 64) (hd : rd < 32) (h1 : rs1 < 32) (hi : imm < 4096) :
    fieldOf (encI g op rd rs1 imm) 29 3 = g.pg.val ∧
    fieldOf (encI g op rd rs1 imm) 28 1 = (if g.pn then 1 else 0) ∧
    fieldOf (encI g op rd rs1 imm) 22 6 = op ∧ fieldOf (encI g op rd rs1 imm) 17 5 = rd ∧
    fieldOf (encI g op rd rs1 imm) 12 5 = rs1 ∧ fieldOf (encI g op rd rs1 imm) 0 12 = imm := by
  have e : encI g op rd rs1 imm = BitVec.ofNat 32 (encHead g op + (rd * 2 ^ 17 + rs1 * 2 ^ 12 + imm)) := by
    simp only [encI, Nat.add_assoc]
  have hr : rd * 2 ^ 17 + rs1 * 2 ^ 12 + imm < 2 ^ 22 := by omega
  rw [e]
  obtain ⟨a, b, c⟩ := fieldOf_head g ho hr
  refine ⟨a, b, c, ?_⟩
  simp only [fieldOf_tail g ho hr (show 17 + 5 ≤ 22 by omega), fieldOf_tail g ho hr (show 12 + 5 ≤ 22 by omega),
    fieldOf_tail g ho hr (show 0 + 12 ≤ 22 by omega)]
  omega

/-- Format U: the operand fields. -/
theorem fieldOf_encU (g : Guard) {op rd imm : Nat} (ho : op < 64) (hd : rd < 32) (hi : imm < 131072) :
    fieldOf (encU g op rd imm) 29 3 = g.pg.val ∧
    fieldOf (encU g op rd imm) 28 1 = (if g.pn then 1 else 0) ∧
    fieldOf (encU g op rd imm) 22 6 = op ∧ fieldOf (encU g op rd imm) 17 5 = rd ∧
    fieldOf (encU g op rd imm) 16 1 = imm / 65536 := by
  have e : encU g op rd imm = BitVec.ofNat 32 (encHead g op + (rd * 2 ^ 17 + imm)) := by
    simp only [encU, Nat.add_assoc]
  have hr : rd * 2 ^ 17 + imm < 2 ^ 22 := by omega
  rw [e]
  obtain ⟨a, b, c⟩ := fieldOf_head g ho hr
  refine ⟨a, b, c, ?_⟩
  simp only [fieldOf_tail g ho hr (show 17 + 5 ≤ 22 by omega), fieldOf_tail g ho hr (show 16 + 1 ≤ 22 by omega)]
  omega

/-- Format B: head fields. -/
theorem fieldOf_encB (g : Guard) {op : Nat} (ho : op < 64) (off : BitVec 22) :
    fieldOf (encB g op off) 29 3 = g.pg.val ∧
    fieldOf (encB g op off) 28 1 = (if g.pn then 1 else 0) ∧
    fieldOf (encB g op off) 22 6 = op := fieldOf_head g ho off.isLt

/-- Format L: head fields, and the zero field. -/
theorem fieldOf_encL (g : Guard) {op rs max len : Nat} (ho : op < 64) (hs : rs < 32) (hm : max < 64) (hl : len < 512) :
    fieldOf (encL g op rs max len) 29 3 = g.pg.val ∧
    fieldOf (encL g op rs max len) 28 1 = (if g.pn then 1 else 0) ∧
    fieldOf (encL g op rs max len) 22 6 = op ∧ fieldOf (encL g op rs max len) 0 2 = 0 := by
  have e : encL g op rs max len = BitVec.ofNat 32 (encHead g op + (rs * 2 ^ 17 + max * 2 ^ 11 + len * 2 ^ 2)) := by
    simp only [encL, Nat.add_assoc]
  have hr : rs * 2 ^ 17 + max * 2 ^ 11 + len * 2 ^ 2 < 2 ^ 22 := by omega
  rw [e]
  obtain ⟨a, b, c⟩ := fieldOf_head g ho hr
  refine ⟨a, b, c, ?_⟩
  simp only [fieldOf_tail g ho hr (show 0 + 2 ≤ 22 by omega)]
  omega

/-- A guard that the profiles define (R271). -/
theorem guard_legal {g : Guard} (h : g.pg = 0 → g.pn = false) :
    (!(g.pg.val == 0 && (if g.pn then 1 else 0) == 1)) = true := by
  by_cases e : g.pg = 0
  · simp [h e]
  · have : g.pg.val ≠ 0 := fun q => e (Fin.ext q)
    simp [this]

end Sys2Proof.Machine
end

