-- ==== Sys2Proof/Laws/Registers.lean ====
section
/-! SUPPORT. Laws of registers and fields: a field read after a write of it, and what a write of a field leaves. -/

namespace Sys2Proof.Machine

@[simp] theorem Device.rget_rset_same (d : Device) (a : Nat) (v : Word) : (d.rset a v).rget a = v := by
  simp [Device.rget, Device.rset]

theorem Device.rget_rset_ne (d : Device) {a b : Nat} (h : b ≠ a) (v : Word) : (d.rset a v).rget b = d.rget b := by
  simp [Device.rget, Device.rset, mapGetD_mapSet_ne h]

@[simp] theorem Device.rget_put_same (d : Device) (f : Fld) (v : Nat) :
    (d.put f v).rget f.addr = withBits (d.rget f.addr) f.lo f.w v := by
  simp [Device.put]

theorem Device.rget_put_ne (d : Device) {f : Fld} {a : Nat} (h : a ≠ f.addr) (v : Nat) : (d.put f v).rget a = d.rget a :=
  Device.rget_rset_ne d h _

/-! ### Bits of a word -/

theorem testBit_withBits (w : Word) (lo n v i : Nat) :
    (withBits w lo n v).toNat.testBit i =
      (decide (i < 32) && if i < lo then w.toNat.testBit i
        else if i < lo + n then v.testBit (i - lo) else w.toNat.testBit i) := by
  have key : w.toNat % 2 ^ lo + (v % 2 ^ n) * 2 ^ lo + (w.toNat >>> (lo + n)) * 2 ^ (lo + n) =
      2 ^ lo * ((w.toNat >>> (lo + n)) * 2 ^ n + v % 2 ^ n) + w.toNat % 2 ^ lo := by ring
  have h1 : w.toNat % 2 ^ lo < 2 ^ lo := Nat.mod_lt _ (by positivity)
  have h2 : v % 2 ^ n < 2 ^ n := Nat.mod_lt _ (by positivity)
  rw [withBits, BitVec.toNat_ofNat, Nat.testBit_mod_two_pow, key, Nat.testBit_two_pow_mul_add _ h1,
    Nat.mul_comm (w.toNat >>> (lo + n)), Nat.testBit_two_pow_mul_add _ h2]
  congr 1
  by_cases hi : i < lo
  · simp [hi, Nat.testBit_mod_two_pow]
  · by_cases hj : i < lo + n
    · have : i - lo < n := by omega
      simp [hi, hj, this, Nat.testBit_mod_two_pow]
    · have : ¬ i - lo < n := by omega
      simp only [hi, hj, this, if_false, Nat.testBit_shiftRight]
      congr 1; omega

theorem testBit_bitsOf (w : Word) (lo n i : Nat) :
    (bitsOf w lo n).testBit i = (decide (i < n) && w.toNat.testBit (lo + i)) := by
  simp [bitsOf, Nat.testBit_mod_two_pow, Nat.testBit_shiftRight]

theorem bitsOf_withBits_same (w : Word) {lo n : Nat} (v : Nat) (h : lo + n ≤ 32) : bitsOf (withBits w lo n v) lo n = v % 2 ^ n := by
  apply Nat.eq_of_testBit_eq
  intro i
  rw [testBit_bitsOf, testBit_withBits, Nat.testBit_mod_two_pow]
  by_cases hi : i < n
  · have h1 : lo + i < 32 := by omega
    have h2 : ¬ lo + i < lo := by omega
    have h3 : lo + i < lo + n := by omega
    simp [hi, h1]
  · simp [hi]

theorem bitsOf_withBits_apart (w : Word) {lo n lo' n' : Nat} (v : Nat) (h : lo' + n' ≤ lo ∨ lo + n ≤ lo') :
    bitsOf (withBits w lo n v) lo' n' = bitsOf w lo' n' := by
  apply Nat.eq_of_testBit_eq
  intro i
  rw [testBit_bitsOf, testBit_bitsOf, testBit_withBits]
  by_cases hi : i < n'
  · by_cases h32 : lo' + i < 32
    · rcases h with h | h
      · have : lo' + i < lo := by omega
        simp [this, h32]
      · have h1 : ¬ lo' + i < lo + n := by omega
        have h2 : ¬ lo' + i < lo := by omega
        simp [h1, h2, h32]
    · have : w.toNat.testBit (lo' + i) = false :=
        Nat.testBit_lt_two_pow (lt_of_lt_of_le w.isLt (Nat.pow_le_pow_right (by omega) (by omega)))
      simp [h32, this]
  · simp [hi]

theorem bitsOf_lt (w : Word) (lo n : Nat) : bitsOf w lo n < 2 ^ n := Nat.mod_lt _ (by positivity)

/-! ### Fields -/

theorem Device.get_lt (d : Device) (f : Fld) : d.get f < 2 ^ f.w := bitsOf_lt _ _ _

theorem Device.get_put_same (d : Device) {f : Fld} (v : Nat) (h : f.lo + f.w ≤ 32) : (d.put f v).get f = v % 2 ^ f.w := by
  simp [Device.get, bitsOf_withBits_same _ _ h]

theorem Device.get_put_addr (d : Device) {f g : Fld} (v : Nat) (h : g.addr ≠ f.addr) : (d.put f v).get g = d.get g := by
  simp [Device.get, Device.rget_put_ne d h]

theorem Device.get_put_bits (d : Device) {f g : Fld} (v : Nat) (h : g.lo + g.w ≤ f.lo ∨ f.lo + f.w ≤ g.lo) :
    (d.put f v).get g = d.get g := by
  by_cases ha : g.addr = f.addr
  · simp [Device.get, ha, bitsOf_withBits_apart _ _ h]
  · exact Device.get_put_addr d v ha

theorem Device.get_rset_ne (d : Device) {f : Fld} {a : Nat} (v : Word) (h : f.addr ≠ a) : (d.rset a v).get f = d.get f := by
  simp [Device.get, Device.rget_rset_ne d h]

theorem Device.get_up_same (d : Device) {f : Fld} (h : f.lo + f.w ≤ 32) : (d.up f).get f = 2 ^ f.w - 1 := by
  have : 2 ^ f.w - 1 < 2 ^ f.w := by have : 0 < 2 ^ f.w := by positivity
                                     omega
  rw [Device.up, Device.get_put_same d _ h, Nat.mod_eq_of_lt this]

/-- A field reads the same in two devices whose register words agree. -/
theorem Device.get_congr {d e : Device} {f : Fld} (h : d.rget f.addr = e.rget f.addr) : d.get f = e.get f := by
  simp [Device.get, h]

end Sys2Proof.Machine
end

