-- ==== Sys2Proof/Laws/State.lean ====
section
/-! SUPPORT. What each update of the device leaves as it was: one law per update, a clause per field of Device. -/

namespace Sys2Proof.Machine

@[simp] theorem Device.rset_leaves (d : Device) (a : Nat) (v : Word) :
    (d.rset a v).part = d.part ∧ (d.rset a v).now = d.now ∧ (d.rset a v).free = d.free ∧ (d.rset a v).mem = d.mem ∧
    (d.rset a v).upsets = d.upsets ∧ (d.rset a v).fd = d.fd ∧ (d.rset a v).sys = d.sys ∧ (d.rset a v).drv = d.drv ∧
    (d.rset a v).bank = d.bank ∧ (d.rset a v).ref = d.ref ∧ (d.rset a v).flk = d.flk ∧ (d.rset a v).acq = d.acq ∧
    (d.rset a v).bmi = d.bmi ∧ (d.rset a v).scr = d.scr ∧ (d.rset a v).pub = d.pub ∧ (d.rset a v).nodes = d.nodes ∧
    (d.rset a v).pulses = d.pulses ∧ (d.rset a v).thm = d.thm ∧ (d.rset a v).bud = d.bud ∧ (d.rset a v).mtr = d.mtr ∧
    (d.rset a v).lsw = d.lsw ∧ (d.rset a v).can = d.can ∧ (d.rset a v).eth = d.eth ∧ (d.rset a v).tim = d.tim ∧
    (d.rset a v).prl = d.prl ∧ (d.rset a v).cpx = d.cpx ∧ (d.rset a v).nvc = d.nvc ∧ (d.rset a v).sec = d.sec :=
  ⟨rfl, rfl, rfl, rfl, rfl, rfl, rfl, rfl, rfl, rfl, rfl, rfl, rfl, rfl, rfl, rfl, rfl, rfl, rfl, rfl, rfl, rfl, rfl, rfl, rfl, rfl, rfl, rfl⟩

@[simp] theorem Device.put_leaves (d : Device) (f : Fld) (v : Nat) :
    (d.put f v).part = d.part ∧ (d.put f v).now = d.now ∧ (d.put f v).free = d.free ∧ (d.put f v).mem = d.mem ∧
    (d.put f v).upsets = d.upsets ∧ (d.put f v).fd = d.fd ∧ (d.put f v).sys = d.sys ∧ (d.put f v).drv = d.drv ∧
    (d.put f v).bank = d.bank ∧ (d.put f v).ref = d.ref ∧ (d.put f v).flk = d.flk ∧ (d.put f v).acq = d.acq ∧
    (d.put f v).bmi = d.bmi ∧ (d.put f v).scr = d.scr ∧ (d.put f v).pub = d.pub ∧ (d.put f v).nodes = d.nodes ∧
    (d.put f v).pulses = d.pulses ∧ (d.put f v).thm = d.thm ∧ (d.put f v).bud = d.bud ∧ (d.put f v).mtr = d.mtr ∧
    (d.put f v).lsw = d.lsw ∧ (d.put f v).can = d.can ∧ (d.put f v).eth = d.eth ∧ (d.put f v).tim = d.tim ∧
    (d.put f v).prl = d.prl ∧ (d.put f v).cpx = d.cpx ∧ (d.put f v).nvc = d.nvc ∧ (d.put f v).sec = d.sec :=
  ⟨rfl, rfl, rfl, rfl, rfl, rfl, rfl, rfl, rfl, rfl, rfl, rfl, rfl, rfl, rfl, rfl, rfl, rfl, rfl, rfl, rfl, rfl, rfl, rfl, rfl, rfl, rfl, rfl⟩

@[simp] theorem Device.puts_leaves (d : Device) (f : Fld) (v : Int) :
    (d.puts f v).part = d.part ∧ (d.puts f v).now = d.now ∧ (d.puts f v).free = d.free ∧ (d.puts f v).mem = d.mem ∧
    (d.puts f v).upsets = d.upsets ∧ (d.puts f v).fd = d.fd ∧ (d.puts f v).sys = d.sys ∧ (d.puts f v).drv = d.drv ∧
    (d.puts f v).bank = d.bank ∧ (d.puts f v).ref = d.ref ∧ (d.puts f v).flk = d.flk ∧ (d.puts f v).acq = d.acq ∧
    (d.puts f v).bmi = d.bmi ∧ (d.puts f v).scr = d.scr ∧ (d.puts f v).pub = d.pub ∧ (d.puts f v).nodes = d.nodes ∧
    (d.puts f v).pulses = d.pulses ∧ (d.puts f v).thm = d.thm ∧ (d.puts f v).bud = d.bud ∧ (d.puts f v).mtr = d.mtr ∧
    (d.puts f v).lsw = d.lsw ∧ (d.puts f v).can = d.can ∧ (d.puts f v).eth = d.eth ∧ (d.puts f v).tim = d.tim ∧
    (d.puts f v).prl = d.prl ∧ (d.puts f v).cpx = d.cpx ∧ (d.puts f v).nvc = d.nvc ∧ (d.puts f v).sec = d.sec :=
  ⟨rfl, rfl, rfl, rfl, rfl, rfl, rfl, rfl, rfl, rfl, rfl, rfl, rfl, rfl, rfl, rfl, rfl, rfl, rfl, rfl, rfl, rfl, rfl, rfl, rfl, rfl, rfl, rfl⟩

@[simp] theorem Device.up_leaves (d : Device) (f : Fld) :
    (d.up f).part = d.part ∧ (d.up f).now = d.now ∧ (d.up f).free = d.free ∧ (d.up f).mem = d.mem ∧
    (d.up f).upsets = d.upsets ∧ (d.up f).fd = d.fd ∧ (d.up f).sys = d.sys ∧ (d.up f).drv = d.drv ∧ (d.up f).bank = d.bank ∧
    (d.up f).ref = d.ref ∧ (d.up f).flk = d.flk ∧ (d.up f).acq = d.acq ∧ (d.up f).bmi = d.bmi ∧ (d.up f).scr = d.scr ∧
    (d.up f).pub = d.pub ∧ (d.up f).nodes = d.nodes ∧ (d.up f).pulses = d.pulses ∧ (d.up f).thm = d.thm ∧
    (d.up f).bud = d.bud ∧ (d.up f).mtr = d.mtr ∧ (d.up f).lsw = d.lsw ∧ (d.up f).can = d.can ∧ (d.up f).eth = d.eth ∧
    (d.up f).tim = d.tim ∧ (d.up f).prl = d.prl ∧ (d.up f).cpx = d.cpx ∧ (d.up f).nvc = d.nvc ∧ (d.up f).sec = d.sec :=
  ⟨rfl, rfl, rfl, rfl, rfl, rfl, rfl, rfl, rfl, rfl, rfl, rfl, rfl, rfl, rfl, rfl, rfl, rfl, rfl, rfl, rfl, rfl, rfl, rfl, rfl, rfl, rfl, rfl⟩

@[simp] theorem Device.down_leaves (d : Device) (f : Fld) :
    (d.down f).part = d.part ∧ (d.down f).now = d.now ∧ (d.down f).free = d.free ∧ (d.down f).mem = d.mem ∧
    (d.down f).upsets = d.upsets ∧ (d.down f).fd = d.fd ∧ (d.down f).sys = d.sys ∧ (d.down f).drv = d.drv ∧
    (d.down f).bank = d.bank ∧ (d.down f).ref = d.ref ∧ (d.down f).flk = d.flk ∧ (d.down f).acq = d.acq ∧
    (d.down f).bmi = d.bmi ∧ (d.down f).scr = d.scr ∧ (d.down f).pub = d.pub ∧ (d.down f).nodes = d.nodes ∧
    (d.down f).pulses = d.pulses ∧ (d.down f).thm = d.thm ∧ (d.down f).bud = d.bud ∧ (d.down f).mtr = d.mtr ∧
    (d.down f).lsw = d.lsw ∧ (d.down f).can = d.can ∧ (d.down f).eth = d.eth ∧ (d.down f).tim = d.tim ∧
    (d.down f).prl = d.prl ∧ (d.down f).cpx = d.cpx ∧ (d.down f).nvc = d.nvc ∧ (d.down f).sec = d.sec :=
  ⟨rfl, rfl, rfl, rfl, rfl, rfl, rfl, rfl, rfl, rfl, rfl, rfl, rfl, rfl, rfl, rfl, rfl, rfl, rfl, rfl, rfl, rfl, rfl, rfl, rfl, rfl, rfl, rfl⟩

@[simp] theorem Device.putB_leaves (d : Device) (f : Fld) (b : Bool) :
    (d.putB f b).part = d.part ∧ (d.putB f b).now = d.now ∧ (d.putB f b).free = d.free ∧ (d.putB f b).mem = d.mem ∧
    (d.putB f b).upsets = d.upsets ∧ (d.putB f b).fd = d.fd ∧ (d.putB f b).sys = d.sys ∧ (d.putB f b).drv = d.drv ∧
    (d.putB f b).bank = d.bank ∧ (d.putB f b).ref = d.ref ∧ (d.putB f b).flk = d.flk ∧ (d.putB f b).acq = d.acq ∧
    (d.putB f b).bmi = d.bmi ∧ (d.putB f b).scr = d.scr ∧ (d.putB f b).pub = d.pub ∧ (d.putB f b).nodes = d.nodes ∧
    (d.putB f b).pulses = d.pulses ∧ (d.putB f b).thm = d.thm ∧ (d.putB f b).bud = d.bud ∧ (d.putB f b).mtr = d.mtr ∧
    (d.putB f b).lsw = d.lsw ∧ (d.putB f b).can = d.can ∧ (d.putB f b).eth = d.eth ∧ (d.putB f b).tim = d.tim ∧
    (d.putB f b).prl = d.prl ∧ (d.putB f b).cpx = d.cpx ∧ (d.putB f b).nvc = d.nvc ∧ (d.putB f b).sec = d.sec :=
  ⟨rfl, rfl, rfl, rfl, rfl, rfl, rfl, rfl, rfl, rfl, rfl, rfl, rfl, rfl, rfl, rfl, rfl, rfl, rfl, rfl, rfl, rfl, rfl, rfl, rfl, rfl, rfl, rfl⟩

@[simp] theorem Device.st_leaves (d : Device) (u : Nat) (s : Status) :
    (d.st u s).part = d.part ∧ (d.st u s).now = d.now ∧ (d.st u s).free = d.free ∧ (d.st u s).mem = d.mem ∧
    (d.st u s).upsets = d.upsets ∧ (d.st u s).fd = d.fd ∧ (d.st u s).sys = d.sys ∧ (d.st u s).drv = d.drv ∧
    (d.st u s).bank = d.bank ∧ (d.st u s).ref = d.ref ∧ (d.st u s).flk = d.flk ∧ (d.st u s).acq = d.acq ∧
    (d.st u s).bmi = d.bmi ∧ (d.st u s).scr = d.scr ∧ (d.st u s).pub = d.pub ∧ (d.st u s).nodes = d.nodes ∧
    (d.st u s).pulses = d.pulses ∧ (d.st u s).thm = d.thm ∧ (d.st u s).bud = d.bud ∧ (d.st u s).mtr = d.mtr ∧
    (d.st u s).lsw = d.lsw ∧ (d.st u s).can = d.can ∧ (d.st u s).eth = d.eth ∧ (d.st u s).tim = d.tim ∧
    (d.st u s).prl = d.prl ∧ (d.st u s).cpx = d.cpx ∧ (d.st u s).nvc = d.nvc ∧ (d.st u s).sec = d.sec :=
  ⟨rfl, rfl, rfl, rfl, rfl, rfl, rfl, rfl, rfl, rfl, rfl, rfl, rfl, rfl, rfl, rfl, rfl, rfl, rfl, rfl, rfl, rfl, rfl, rfl, rfl, rfl, rfl, rfl⟩

@[simp] theorem Device.setBankSt_leaves (d : Device) (b : Nat) (s : BankState) :
    (d.setBankSt b s).part = d.part ∧ (d.setBankSt b s).now = d.now ∧ (d.setBankSt b s).free = d.free ∧
    (d.setBankSt b s).mem = d.mem ∧ (d.setBankSt b s).upsets = d.upsets ∧ (d.setBankSt b s).fd = d.fd ∧
    (d.setBankSt b s).sys = d.sys ∧ (d.setBankSt b s).drv = d.drv ∧ (d.setBankSt b s).bank = d.bank ∧
    (d.setBankSt b s).ref = d.ref ∧ (d.setBankSt b s).flk = d.flk ∧ (d.setBankSt b s).acq = d.acq ∧
    (d.setBankSt b s).bmi = d.bmi ∧ (d.setBankSt b s).scr = d.scr ∧ (d.setBankSt b s).pub = d.pub ∧
    (d.setBankSt b s).nodes = d.nodes ∧ (d.setBankSt b s).pulses = d.pulses ∧ (d.setBankSt b s).thm = d.thm ∧
    (d.setBankSt b s).bud = d.bud ∧ (d.setBankSt b s).mtr = d.mtr ∧ (d.setBankSt b s).lsw = d.lsw ∧
    (d.setBankSt b s).can = d.can ∧ (d.setBankSt b s).eth = d.eth ∧ (d.setBankSt b s).tim = d.tim ∧
    (d.setBankSt b s).prl = d.prl ∧ (d.setBankSt b s).cpx = d.cpx ∧ (d.setBankSt b s).nvc = d.nvc ∧
    (d.setBankSt b s).sec = d.sec :=
  ⟨rfl, rfl, rfl, rfl, rfl, rfl, rfl, rfl, rfl, rfl, rfl, rfl, rfl, rfl, rfl, rfl, rfl, rfl, rfl, rfl, rfl, rfl, rfl, rfl, rfl, rfl, rfl, rfl⟩

@[simp] theorem Device.setDrvSt_leaves (d : Device) (k : Nat) (s : DrvState) :
    (d.setDrvSt k s).part = d.part ∧ (d.setDrvSt k s).now = d.now ∧ (d.setDrvSt k s).free = d.free ∧
    (d.setDrvSt k s).mem = d.mem ∧ (d.setDrvSt k s).upsets = d.upsets ∧ (d.setDrvSt k s).fd = d.fd ∧
    (d.setDrvSt k s).sys = d.sys ∧ (d.setDrvSt k s).drv = d.drv ∧ (d.setDrvSt k s).bank = d.bank ∧
    (d.setDrvSt k s).ref = d.ref ∧ (d.setDrvSt k s).flk = d.flk ∧ (d.setDrvSt k s).acq = d.acq ∧
    (d.setDrvSt k s).bmi = d.bmi ∧ (d.setDrvSt k s).scr = d.scr ∧ (d.setDrvSt k s).pub = d.pub ∧
    (d.setDrvSt k s).nodes = d.nodes ∧ (d.setDrvSt k s).pulses = d.pulses ∧ (d.setDrvSt k s).thm = d.thm ∧
    (d.setDrvSt k s).bud = d.bud ∧ (d.setDrvSt k s).mtr = d.mtr ∧ (d.setDrvSt k s).lsw = d.lsw ∧
    (d.setDrvSt k s).can = d.can ∧ (d.setDrvSt k s).eth = d.eth ∧ (d.setDrvSt k s).tim = d.tim ∧
    (d.setDrvSt k s).prl = d.prl ∧ (d.setDrvSt k s).cpx = d.cpx ∧ (d.setDrvSt k s).nvc = d.nvc ∧
    (d.setDrvSt k s).sec = d.sec :=
  ⟨rfl, rfl, rfl, rfl, rfl, rfl, rfl, rfl, rfl, rfl, rfl, rfl, rfl, rfl, rfl, rfl, rfl, rfl, rfl, rfl, rfl, rfl, rfl, rfl, rfl, rfl, rfl, rfl⟩

@[simp] theorem Device.setPhase_leaves (d : Device) (b : Nat) (p : BankPhase) :
    (d.setPhase b p).part = d.part ∧ (d.setPhase b p).now = d.now ∧ (d.setPhase b p).free = d.free ∧
    (d.setPhase b p).mem = d.mem ∧ (d.setPhase b p).upsets = d.upsets ∧ (d.setPhase b p).fd = d.fd ∧
    (d.setPhase b p).sys = d.sys ∧ (d.setPhase b p).drv = d.drv ∧ (d.setPhase b p).bank = d.bank ∧
    (d.setPhase b p).ref = d.ref ∧ (d.setPhase b p).flk = d.flk ∧ (d.setPhase b p).acq = d.acq ∧
    (d.setPhase b p).bmi = d.bmi ∧ (d.setPhase b p).scr = d.scr ∧ (d.setPhase b p).pub = d.pub ∧
    (d.setPhase b p).nodes = d.nodes ∧ (d.setPhase b p).pulses = d.pulses ∧ (d.setPhase b p).thm = d.thm ∧
    (d.setPhase b p).bud = d.bud ∧ (d.setPhase b p).mtr = d.mtr ∧ (d.setPhase b p).lsw = d.lsw ∧
    (d.setPhase b p).can = d.can ∧ (d.setPhase b p).eth = d.eth ∧ (d.setPhase b p).tim = d.tim ∧
    (d.setPhase b p).prl = d.prl ∧ (d.setPhase b p).cpx = d.cpx ∧ (d.setPhase b p).nvc = d.nvc ∧
    (d.setPhase b p).sec = d.sec :=
  ⟨rfl, rfl, rfl, rfl, rfl, rfl, rfl, rfl, rfl, rfl, rfl, rfl, rfl, rfl, rfl, rfl, rfl, rfl, rfl, rfl, rfl, rfl, rfl, rfl, rfl, rfl, rfl, rfl⟩

@[simp] theorem Device.bcmdSt_leaves (d : Device) (b : Nat) (s : Status) (g : Nat) :
    (d.bcmdSt b s g).part = d.part ∧ (d.bcmdSt b s g).now = d.now ∧ (d.bcmdSt b s g).free = d.free ∧
    (d.bcmdSt b s g).mem = d.mem ∧ (d.bcmdSt b s g).upsets = d.upsets ∧ (d.bcmdSt b s g).fd = d.fd ∧
    (d.bcmdSt b s g).sys = d.sys ∧ (d.bcmdSt b s g).drv = d.drv ∧ (d.bcmdSt b s g).bank = d.bank ∧
    (d.bcmdSt b s g).ref = d.ref ∧ (d.bcmdSt b s g).flk = d.flk ∧ (d.bcmdSt b s g).acq = d.acq ∧
    (d.bcmdSt b s g).bmi = d.bmi ∧ (d.bcmdSt b s g).scr = d.scr ∧ (d.bcmdSt b s g).pub = d.pub ∧
    (d.bcmdSt b s g).nodes = d.nodes ∧ (d.bcmdSt b s g).pulses = d.pulses ∧ (d.bcmdSt b s g).thm = d.thm ∧
    (d.bcmdSt b s g).bud = d.bud ∧ (d.bcmdSt b s g).mtr = d.mtr ∧ (d.bcmdSt b s g).lsw = d.lsw ∧
    (d.bcmdSt b s g).can = d.can ∧ (d.bcmdSt b s g).eth = d.eth ∧ (d.bcmdSt b s g).tim = d.tim ∧
    (d.bcmdSt b s g).prl = d.prl ∧ (d.bcmdSt b s g).cpx = d.cpx ∧ (d.bcmdSt b s g).nvc = d.nvc ∧
    (d.bcmdSt b s g).sec = d.sec :=
  ⟨rfl, rfl, rfl, rfl, rfl, rfl, rfl, rfl, rfl, rfl, rfl, rfl, rfl, rfl, rfl, rfl, rfl, rfl, rfl, rfl, rfl, rfl, rfl, rfl, rfl, rfl, rfl, rfl⟩

@[simp] theorem Device.tst_leaves (d : Device) (s : Status) (w g : Nat) :
    (d.tst s w g).part = d.part ∧ (d.tst s w g).now = d.now ∧ (d.tst s w g).free = d.free ∧ (d.tst s w g).mem = d.mem ∧
    (d.tst s w g).upsets = d.upsets ∧ (d.tst s w g).fd = d.fd ∧ (d.tst s w g).sys = d.sys ∧ (d.tst s w g).drv = d.drv ∧
    (d.tst s w g).bank = d.bank ∧ (d.tst s w g).ref = d.ref ∧ (d.tst s w g).flk = d.flk ∧ (d.tst s w g).acq = d.acq ∧
    (d.tst s w g).bmi = d.bmi ∧ (d.tst s w g).scr = d.scr ∧ (d.tst s w g).pub = d.pub ∧ (d.tst s w g).nodes = d.nodes ∧
    (d.tst s w g).pulses = d.pulses ∧ (d.tst s w g).thm = d.thm ∧ (d.tst s w g).bud = d.bud ∧ (d.tst s w g).mtr = d.mtr ∧
    (d.tst s w g).lsw = d.lsw ∧ (d.tst s w g).can = d.can ∧ (d.tst s w g).eth = d.eth ∧ (d.tst s w g).tim = d.tim ∧
    (d.tst s w g).prl = d.prl ∧ (d.tst s w g).cpx = d.cpx ∧ (d.tst s w g).nvc = d.nvc ∧ (d.tst s w g).sec = d.sec :=
  ⟨rfl, rfl, rfl, rfl, rfl, rfl, rfl, rfl, rfl, rfl, rfl, rfl, rfl, rfl, rfl, rfl, rfl, rfl, rfl, rfl, rfl, rfl, rfl, rfl, rfl, rfl, rfl, rfl⟩

@[simp] theorem Device.prsp_leaves (d : Device) (p s g : Nat) :
    (d.prsp p s g).part = d.part ∧ (d.prsp p s g).now = d.now ∧ (d.prsp p s g).free = d.free ∧ (d.prsp p s g).mem = d.mem ∧
    (d.prsp p s g).upsets = d.upsets ∧ (d.prsp p s g).fd = d.fd ∧ (d.prsp p s g).sys = d.sys ∧ (d.prsp p s g).drv = d.drv ∧
    (d.prsp p s g).bank = d.bank ∧ (d.prsp p s g).ref = d.ref ∧ (d.prsp p s g).flk = d.flk ∧ (d.prsp p s g).acq = d.acq ∧
    (d.prsp p s g).bmi = d.bmi ∧ (d.prsp p s g).scr = d.scr ∧ (d.prsp p s g).pub = d.pub ∧ (d.prsp p s g).nodes = d.nodes ∧
    (d.prsp p s g).pulses = d.pulses ∧ (d.prsp p s g).thm = d.thm ∧ (d.prsp p s g).bud = d.bud ∧ (d.prsp p s g).mtr = d.mtr ∧
    (d.prsp p s g).lsw = d.lsw ∧ (d.prsp p s g).can = d.can ∧ (d.prsp p s g).eth = d.eth ∧ (d.prsp p s g).tim = d.tim ∧
    (d.prsp p s g).prl = d.prl ∧ (d.prsp p s g).cpx = d.cpx ∧ (d.prsp p s g).nvc = d.nvc ∧ (d.prsp p s g).sec = d.sec :=
  ⟨rfl, rfl, rfl, rfl, rfl, rfl, rfl, rfl, rfl, rfl, rfl, rfl, rfl, rfl, rfl, rfl, rfl, rfl, rfl, rfl, rfl, rfl, rfl, rfl, rfl, rfl, rfl, rfl⟩

@[simp] theorem Device.opst_leaves (d : Device) (s : Status) (g : Nat) :
    (d.opst s g).part = d.part ∧ (d.opst s g).now = d.now ∧ (d.opst s g).free = d.free ∧ (d.opst s g).mem = d.mem ∧
    (d.opst s g).upsets = d.upsets ∧ (d.opst s g).fd = d.fd ∧ (d.opst s g).sys = d.sys ∧ (d.opst s g).drv = d.drv ∧
    (d.opst s g).bank = d.bank ∧ (d.opst s g).ref = d.ref ∧ (d.opst s g).flk = d.flk ∧ (d.opst s g).acq = d.acq ∧
    (d.opst s g).bmi = d.bmi ∧ (d.opst s g).scr = d.scr ∧ (d.opst s g).pub = d.pub ∧ (d.opst s g).nodes = d.nodes ∧
    (d.opst s g).pulses = d.pulses ∧ (d.opst s g).thm = d.thm ∧ (d.opst s g).bud = d.bud ∧ (d.opst s g).mtr = d.mtr ∧
    (d.opst s g).lsw = d.lsw ∧ (d.opst s g).can = d.can ∧ (d.opst s g).eth = d.eth ∧ (d.opst s g).tim = d.tim ∧
    (d.opst s g).prl = d.prl ∧ (d.opst s g).cpx = d.cpx ∧ (d.opst s g).nvc = d.nvc ∧ (d.opst s g).sec = d.sec :=
  ⟨rfl, rfl, rfl, rfl, rfl, rfl, rfl, rfl, rfl, rfl, rfl, rfl, rfl, rfl, rfl, rfl, rfl, rfl, rfl, rfl, rfl, rfl, rfl, rfl, rfl, rfl, rfl, rfl⟩

@[simp] theorem Device.dbgSt_leaves (d : Device) (s : Status) :
    (d.dbgSt s).part = d.part ∧ (d.dbgSt s).now = d.now ∧ (d.dbgSt s).free = d.free ∧ (d.dbgSt s).mem = d.mem ∧
    (d.dbgSt s).upsets = d.upsets ∧ (d.dbgSt s).fd = d.fd ∧ (d.dbgSt s).sys = d.sys ∧ (d.dbgSt s).drv = d.drv ∧
    (d.dbgSt s).bank = d.bank ∧ (d.dbgSt s).ref = d.ref ∧ (d.dbgSt s).flk = d.flk ∧ (d.dbgSt s).acq = d.acq ∧
    (d.dbgSt s).bmi = d.bmi ∧ (d.dbgSt s).scr = d.scr ∧ (d.dbgSt s).pub = d.pub ∧ (d.dbgSt s).nodes = d.nodes ∧
    (d.dbgSt s).pulses = d.pulses ∧ (d.dbgSt s).thm = d.thm ∧ (d.dbgSt s).bud = d.bud ∧ (d.dbgSt s).mtr = d.mtr ∧
    (d.dbgSt s).lsw = d.lsw ∧ (d.dbgSt s).can = d.can ∧ (d.dbgSt s).eth = d.eth ∧ (d.dbgSt s).tim = d.tim ∧
    (d.dbgSt s).prl = d.prl ∧ (d.dbgSt s).cpx = d.cpx ∧ (d.dbgSt s).nvc = d.nvc ∧ (d.dbgSt s).sec = d.sec :=
  ⟨rfl, rfl, rfl, rfl, rfl, rfl, rfl, rfl, rfl, rfl, rfl, rfl, rfl, rfl, rfl, rfl, rfl, rfl, rfl, rfl, rfl, rfl, rfl, rfl, rfl, rfl, rfl, rfl⟩

@[simp] theorem Device.setRole_leaves (d : Device) (r c : Nat) :
    (d.setRole r c).part = d.part ∧ (d.setRole r c).now = d.now ∧ (d.setRole r c).free = d.free ∧
    (d.setRole r c).mem = d.mem ∧ (d.setRole r c).upsets = d.upsets ∧ (d.setRole r c).fd = d.fd ∧
    (d.setRole r c).sys = d.sys ∧ (d.setRole r c).drv = d.drv ∧ (d.setRole r c).bank = d.bank ∧ (d.setRole r c).ref = d.ref ∧
    (d.setRole r c).flk = d.flk ∧ (d.setRole r c).acq = d.acq ∧ (d.setRole r c).bmi = d.bmi ∧ (d.setRole r c).scr = d.scr ∧
    (d.setRole r c).pub = d.pub ∧ (d.setRole r c).nodes = d.nodes ∧ (d.setRole r c).pulses = d.pulses ∧
    (d.setRole r c).thm = d.thm ∧ (d.setRole r c).bud = d.bud ∧ (d.setRole r c).mtr = d.mtr ∧ (d.setRole r c).lsw = d.lsw ∧
    (d.setRole r c).can = d.can ∧ (d.setRole r c).eth = d.eth ∧ (d.setRole r c).tim = d.tim ∧ (d.setRole r c).prl = d.prl ∧
    (d.setRole r c).cpx = d.cpx ∧ (d.setRole r c).nvc = d.nvc ∧ (d.setRole r c).sec = d.sec :=
  ⟨rfl, rfl, rfl, rfl, rfl, rfl, rfl, rfl, rfl, rfl, rfl, rfl, rfl, rfl, rfl, rfl, rfl, rfl, rfl, rfl, rfl, rfl, rfl, rfl, rfl, rfl, rfl, rfl⟩

@[simp] theorem Device.setCanSt_leaves (d : Device) (c v : Nat) :
    (d.setCanSt c v).part = d.part ∧ (d.setCanSt c v).now = d.now ∧ (d.setCanSt c v).free = d.free ∧
    (d.setCanSt c v).mem = d.mem ∧ (d.setCanSt c v).upsets = d.upsets ∧ (d.setCanSt c v).fd = d.fd ∧
    (d.setCanSt c v).sys = d.sys ∧ (d.setCanSt c v).drv = d.drv ∧ (d.setCanSt c v).bank = d.bank ∧
    (d.setCanSt c v).ref = d.ref ∧ (d.setCanSt c v).flk = d.flk ∧ (d.setCanSt c v).acq = d.acq ∧
    (d.setCanSt c v).bmi = d.bmi ∧ (d.setCanSt c v).scr = d.scr ∧ (d.setCanSt c v).pub = d.pub ∧
    (d.setCanSt c v).nodes = d.nodes ∧ (d.setCanSt c v).pulses = d.pulses ∧ (d.setCanSt c v).thm = d.thm ∧
    (d.setCanSt c v).bud = d.bud ∧ (d.setCanSt c v).mtr = d.mtr ∧ (d.setCanSt c v).lsw = d.lsw ∧
    (d.setCanSt c v).can = d.can ∧ (d.setCanSt c v).eth = d.eth ∧ (d.setCanSt c v).tim = d.tim ∧
    (d.setCanSt c v).prl = d.prl ∧ (d.setCanSt c v).cpx = d.cpx ∧ (d.setCanSt c v).nvc = d.nvc ∧
    (d.setCanSt c v).sec = d.sec :=
  ⟨rfl, rfl, rfl, rfl, rfl, rfl, rfl, rfl, rfl, rfl, rfl, rfl, rfl, rfl, rfl, rfl, rfl, rfl, rfl, rfl, rfl, rfl, rfl, rfl, rfl, rfl, rfl, rfl⟩

@[simp] theorem Device.mwrite_leaves (d : Device) (a n v : Nat) :
    (d.mwrite a n v).part = d.part ∧ (d.mwrite a n v).now = d.now ∧ (d.mwrite a n v).free = d.free ∧
    (d.mwrite a n v).regs = d.regs ∧ (d.mwrite a n v).fd = d.fd ∧ (d.mwrite a n v).sys = d.sys ∧
    (d.mwrite a n v).drv = d.drv ∧ (d.mwrite a n v).bank = d.bank ∧ (d.mwrite a n v).ref = d.ref ∧
    (d.mwrite a n v).flk = d.flk ∧ (d.mwrite a n v).acq = d.acq ∧ (d.mwrite a n v).bmi = d.bmi ∧
    (d.mwrite a n v).scr = d.scr ∧ (d.mwrite a n v).pub = d.pub ∧ (d.mwrite a n v).nodes = d.nodes ∧
    (d.mwrite a n v).pulses = d.pulses ∧ (d.mwrite a n v).thm = d.thm ∧ (d.mwrite a n v).bud = d.bud ∧
    (d.mwrite a n v).mtr = d.mtr ∧ (d.mwrite a n v).lsw = d.lsw ∧ (d.mwrite a n v).can = d.can ∧
    (d.mwrite a n v).eth = d.eth ∧ (d.mwrite a n v).tim = d.tim ∧ (d.mwrite a n v).prl = d.prl ∧
    (d.mwrite a n v).cpx = d.cpx ∧ (d.mwrite a n v).nvc = d.nvc ∧ (d.mwrite a n v).sec = d.sec :=
  ⟨rfl, rfl, rfl, rfl, rfl, rfl, rfl, rfl, rfl, rfl, rfl, rfl, rfl, rfl, rfl, rfl, rfl, rfl, rfl, rfl, rfl, rfl, rfl, rfl, rfl, rfl, rfl⟩

@[simp] theorem Device.mwrite_reads (d : Device) (a n v : Nat) (r : Nat) (g : Fld) :
    (d.mwrite a n v).rget r = d.rget r ∧ (d.mwrite a n v).get g = d.get g ∧ (d.mwrite a n v).on g = d.on g := ⟨rfl, rfl, rfl⟩

@[simp] theorem Device.setFd_leaves (d : Device) (f : FieldDie → FieldDie) :
    (d.setFd f).part = d.part ∧ (d.setFd f).now = d.now ∧ (d.setFd f).free = d.free ∧ (d.setFd f).regs = d.regs ∧
    (d.setFd f).mem = d.mem ∧ (d.setFd f).upsets = d.upsets ∧ (d.setFd f).sys = d.sys ∧ (d.setFd f).drv = d.drv ∧
    (d.setFd f).bank = d.bank ∧ (d.setFd f).ref = d.ref ∧ (d.setFd f).flk = d.flk ∧ (d.setFd f).acq = d.acq ∧
    (d.setFd f).bmi = d.bmi ∧ (d.setFd f).scr = d.scr ∧ (d.setFd f).pub = d.pub ∧ (d.setFd f).nodes = d.nodes ∧
    (d.setFd f).pulses = d.pulses ∧ (d.setFd f).thm = d.thm ∧ (d.setFd f).bud = d.bud ∧ (d.setFd f).mtr = d.mtr ∧
    (d.setFd f).lsw = d.lsw ∧ (d.setFd f).can = d.can ∧ (d.setFd f).eth = d.eth ∧ (d.setFd f).tim = d.tim ∧
    (d.setFd f).prl = d.prl ∧ (d.setFd f).cpx = d.cpx ∧ (d.setFd f).nvc = d.nvc ∧ (d.setFd f).sec = d.sec :=
  ⟨rfl, rfl, rfl, rfl, rfl, rfl, rfl, rfl, rfl, rfl, rfl, rfl, rfl, rfl, rfl, rfl, rfl, rfl, rfl, rfl, rfl, rfl, rfl, rfl, rfl, rfl, rfl, rfl⟩

@[simp] theorem Device.setFd_reads (d : Device) (f : FieldDie → FieldDie) (r : Nat) (g : Fld) :
    (d.setFd f).rget r = d.rget r ∧ (d.setFd f).get g = d.get g ∧ (d.setFd f).on g = d.on g := ⟨rfl, rfl, rfl⟩

@[simp] theorem Device.setSys_leaves (d : Device) (f : Sys → Sys) :
    (d.setSys f).part = d.part ∧ (d.setSys f).now = d.now ∧ (d.setSys f).free = d.free ∧ (d.setSys f).regs = d.regs ∧
    (d.setSys f).mem = d.mem ∧ (d.setSys f).upsets = d.upsets ∧ (d.setSys f).fd = d.fd ∧ (d.setSys f).drv = d.drv ∧
    (d.setSys f).bank = d.bank ∧ (d.setSys f).ref = d.ref ∧ (d.setSys f).flk = d.flk ∧ (d.setSys f).acq = d.acq ∧
    (d.setSys f).bmi = d.bmi ∧ (d.setSys f).scr = d.scr ∧ (d.setSys f).pub = d.pub ∧ (d.setSys f).nodes = d.nodes ∧
    (d.setSys f).pulses = d.pulses ∧ (d.setSys f).thm = d.thm ∧ (d.setSys f).bud = d.bud ∧ (d.setSys f).mtr = d.mtr ∧
    (d.setSys f).lsw = d.lsw ∧ (d.setSys f).can = d.can ∧ (d.setSys f).eth = d.eth ∧ (d.setSys f).tim = d.tim ∧
    (d.setSys f).prl = d.prl ∧ (d.setSys f).cpx = d.cpx ∧ (d.setSys f).nvc = d.nvc ∧ (d.setSys f).sec = d.sec :=
  ⟨rfl, rfl, rfl, rfl, rfl, rfl, rfl, rfl, rfl, rfl, rfl, rfl, rfl, rfl, rfl, rfl, rfl, rfl, rfl, rfl, rfl, rfl, rfl, rfl, rfl, rfl, rfl, rfl⟩

@[simp] theorem Device.setSys_reads (d : Device) (f : Sys → Sys) (r : Nat) (g : Fld) :
    (d.setSys f).rget r = d.rget r ∧ (d.setSys f).get g = d.get g ∧ (d.setSys f).on g = d.on g := ⟨rfl, rfl, rfl⟩

@[simp] theorem Device.setPrl_leaves (d : Device) (f : Prl → Prl) :
    (d.setPrl f).part = d.part ∧ (d.setPrl f).now = d.now ∧ (d.setPrl f).free = d.free ∧ (d.setPrl f).regs = d.regs ∧
    (d.setPrl f).mem = d.mem ∧ (d.setPrl f).upsets = d.upsets ∧ (d.setPrl f).fd = d.fd ∧ (d.setPrl f).sys = d.sys ∧
    (d.setPrl f).drv = d.drv ∧ (d.setPrl f).bank = d.bank ∧ (d.setPrl f).ref = d.ref ∧ (d.setPrl f).flk = d.flk ∧
    (d.setPrl f).acq = d.acq ∧ (d.setPrl f).bmi = d.bmi ∧ (d.setPrl f).scr = d.scr ∧ (d.setPrl f).pub = d.pub ∧
    (d.setPrl f).nodes = d.nodes ∧ (d.setPrl f).pulses = d.pulses ∧ (d.setPrl f).thm = d.thm ∧ (d.setPrl f).bud = d.bud ∧
    (d.setPrl f).mtr = d.mtr ∧ (d.setPrl f).lsw = d.lsw ∧ (d.setPrl f).can = d.can ∧ (d.setPrl f).eth = d.eth ∧
    (d.setPrl f).tim = d.tim ∧ (d.setPrl f).cpx = d.cpx ∧ (d.setPrl f).nvc = d.nvc ∧ (d.setPrl f).sec = d.sec :=
  ⟨rfl, rfl, rfl, rfl, rfl, rfl, rfl, rfl, rfl, rfl, rfl, rfl, rfl, rfl, rfl, rfl, rfl, rfl, rfl, rfl, rfl, rfl, rfl, rfl, rfl, rfl, rfl, rfl⟩

@[simp] theorem Device.setPrl_reads (d : Device) (f : Prl → Prl) (r : Nat) (g : Fld) :
    (d.setPrl f).rget r = d.rget r ∧ (d.setPrl f).get g = d.get g ∧ (d.setPrl f).on g = d.on g := ⟨rfl, rfl, rfl⟩

@[simp] theorem Device.setSec_leaves (d : Device) (f : Sec → Sec) :
    (d.setSec f).part = d.part ∧ (d.setSec f).now = d.now ∧ (d.setSec f).free = d.free ∧ (d.setSec f).regs = d.regs ∧
    (d.setSec f).mem = d.mem ∧ (d.setSec f).upsets = d.upsets ∧ (d.setSec f).fd = d.fd ∧ (d.setSec f).sys = d.sys ∧
    (d.setSec f).drv = d.drv ∧ (d.setSec f).bank = d.bank ∧ (d.setSec f).ref = d.ref ∧ (d.setSec f).flk = d.flk ∧
    (d.setSec f).acq = d.acq ∧ (d.setSec f).bmi = d.bmi ∧ (d.setSec f).scr = d.scr ∧ (d.setSec f).pub = d.pub ∧
    (d.setSec f).nodes = d.nodes ∧ (d.setSec f).pulses = d.pulses ∧ (d.setSec f).thm = d.thm ∧ (d.setSec f).bud = d.bud ∧
    (d.setSec f).mtr = d.mtr ∧ (d.setSec f).lsw = d.lsw ∧ (d.setSec f).can = d.can ∧ (d.setSec f).eth = d.eth ∧
    (d.setSec f).tim = d.tim ∧ (d.setSec f).prl = d.prl ∧ (d.setSec f).cpx = d.cpx ∧ (d.setSec f).nvc = d.nvc :=
  ⟨rfl, rfl, rfl, rfl, rfl, rfl, rfl, rfl, rfl, rfl, rfl, rfl, rfl, rfl, rfl, rfl, rfl, rfl, rfl, rfl, rfl, rfl, rfl, rfl, rfl, rfl, rfl, rfl⟩

@[simp] theorem Device.setSec_reads (d : Device) (f : Sec → Sec) (r : Nat) (g : Fld) :
    (d.setSec f).rget r = d.rget r ∧ (d.setSec f).get g = d.get g ∧ (d.setSec f).on g = d.on g := ⟨rfl, rfl, rfl⟩

@[simp] theorem Device.setNvc_leaves (d : Device) (f : Nvc → Nvc) :
    (d.setNvc f).part = d.part ∧ (d.setNvc f).now = d.now ∧ (d.setNvc f).free = d.free ∧ (d.setNvc f).regs = d.regs ∧
    (d.setNvc f).mem = d.mem ∧ (d.setNvc f).upsets = d.upsets ∧ (d.setNvc f).fd = d.fd ∧ (d.setNvc f).sys = d.sys ∧
    (d.setNvc f).drv = d.drv ∧ (d.setNvc f).bank = d.bank ∧ (d.setNvc f).ref = d.ref ∧ (d.setNvc f).flk = d.flk ∧
    (d.setNvc f).acq = d.acq ∧ (d.setNvc f).bmi = d.bmi ∧ (d.setNvc f).scr = d.scr ∧ (d.setNvc f).pub = d.pub ∧
    (d.setNvc f).nodes = d.nodes ∧ (d.setNvc f).pulses = d.pulses ∧ (d.setNvc f).thm = d.thm ∧ (d.setNvc f).bud = d.bud ∧
    (d.setNvc f).mtr = d.mtr ∧ (d.setNvc f).lsw = d.lsw ∧ (d.setNvc f).can = d.can ∧ (d.setNvc f).eth = d.eth ∧
    (d.setNvc f).tim = d.tim ∧ (d.setNvc f).prl = d.prl ∧ (d.setNvc f).cpx = d.cpx ∧ (d.setNvc f).sec = d.sec :=
  ⟨rfl, rfl, rfl, rfl, rfl, rfl, rfl, rfl, rfl, rfl, rfl, rfl, rfl, rfl, rfl, rfl, rfl, rfl, rfl, rfl, rfl, rfl, rfl, rfl, rfl, rfl, rfl, rfl⟩

@[simp] theorem Device.setNvc_reads (d : Device) (f : Nvc → Nvc) (r : Nat) (g : Fld) :
    (d.setNvc f).rget r = d.rget r ∧ (d.setNvc f).get g = d.get g ∧ (d.setNvc f).on g = d.on g := ⟨rfl, rfl, rfl⟩

@[simp] theorem Device.setBk_leaves (d : Device) (b : Nat) (f : Bank → Bank) :
    (d.setBk b f).part = d.part ∧ (d.setBk b f).now = d.now ∧ (d.setBk b f).free = d.free ∧ (d.setBk b f).regs = d.regs ∧
    (d.setBk b f).mem = d.mem ∧ (d.setBk b f).upsets = d.upsets ∧ (d.setBk b f).fd = d.fd ∧ (d.setBk b f).sys = d.sys ∧
    (d.setBk b f).drv = d.drv ∧ (d.setBk b f).ref = d.ref ∧ (d.setBk b f).flk = d.flk ∧ (d.setBk b f).acq = d.acq ∧
    (d.setBk b f).bmi = d.bmi ∧ (d.setBk b f).scr = d.scr ∧ (d.setBk b f).pub = d.pub ∧ (d.setBk b f).nodes = d.nodes ∧
    (d.setBk b f).pulses = d.pulses ∧ (d.setBk b f).thm = d.thm ∧ (d.setBk b f).bud = d.bud ∧ (d.setBk b f).mtr = d.mtr ∧
    (d.setBk b f).lsw = d.lsw ∧ (d.setBk b f).can = d.can ∧ (d.setBk b f).eth = d.eth ∧ (d.setBk b f).tim = d.tim ∧
    (d.setBk b f).prl = d.prl ∧ (d.setBk b f).cpx = d.cpx ∧ (d.setBk b f).nvc = d.nvc ∧ (d.setBk b f).sec = d.sec :=
  ⟨rfl, rfl, rfl, rfl, rfl, rfl, rfl, rfl, rfl, rfl, rfl, rfl, rfl, rfl, rfl, rfl, rfl, rfl, rfl, rfl, rfl, rfl, rfl, rfl, rfl, rfl, rfl, rfl⟩

@[simp] theorem Device.setBk_reads (d : Device) (b : Nat) (f : Bank → Bank) (r : Nat) (g : Fld) :
    (d.setBk b f).rget r = d.rget r ∧ (d.setBk b f).get g = d.get g ∧ (d.setBk b f).on g = d.on g := ⟨rfl, rfl, rfl⟩

@[simp] theorem Device.setDk_leaves (d : Device) (k : Nat) (f : Driver → Driver) :
    (d.setDk k f).part = d.part ∧ (d.setDk k f).now = d.now ∧ (d.setDk k f).free = d.free ∧ (d.setDk k f).regs = d.regs ∧
    (d.setDk k f).mem = d.mem ∧ (d.setDk k f).upsets = d.upsets ∧ (d.setDk k f).fd = d.fd ∧ (d.setDk k f).sys = d.sys ∧
    (d.setDk k f).bank = d.bank ∧ (d.setDk k f).ref = d.ref ∧ (d.setDk k f).flk = d.flk ∧ (d.setDk k f).acq = d.acq ∧
    (d.setDk k f).bmi = d.bmi ∧ (d.setDk k f).scr = d.scr ∧ (d.setDk k f).pub = d.pub ∧ (d.setDk k f).nodes = d.nodes ∧
    (d.setDk k f).pulses = d.pulses ∧ (d.setDk k f).thm = d.thm ∧ (d.setDk k f).bud = d.bud ∧ (d.setDk k f).mtr = d.mtr ∧
    (d.setDk k f).lsw = d.lsw ∧ (d.setDk k f).can = d.can ∧ (d.setDk k f).eth = d.eth ∧ (d.setDk k f).tim = d.tim ∧
    (d.setDk k f).prl = d.prl ∧ (d.setDk k f).cpx = d.cpx ∧ (d.setDk k f).nvc = d.nvc ∧ (d.setDk k f).sec = d.sec :=
  ⟨rfl, rfl, rfl, rfl, rfl, rfl, rfl, rfl, rfl, rfl, rfl, rfl, rfl, rfl, rfl, rfl, rfl, rfl, rfl, rfl, rfl, rfl, rfl, rfl, rfl, rfl, rfl, rfl⟩

@[simp] theorem Device.setDk_reads (d : Device) (k : Nat) (f : Driver → Driver) (r : Nat) (g : Fld) :
    (d.setDk k f).rget r = d.rget r ∧ (d.setDk k f).get g = d.get g ∧ (d.setDk k f).on g = d.on g := ⟨rfl, rfl, rfl⟩

@[simp] theorem Device.setPt_leaves (d : Device) (p : Nat) (f : PortState → PortState) :
    (d.setPt p f).part = d.part ∧ (d.setPt p f).now = d.now ∧ (d.setPt p f).free = d.free ∧ (d.setPt p f).regs = d.regs ∧
    (d.setPt p f).mem = d.mem ∧ (d.setPt p f).upsets = d.upsets ∧ (d.setPt p f).fd = d.fd ∧ (d.setPt p f).sys = d.sys ∧
    (d.setPt p f).drv = d.drv ∧ (d.setPt p f).bank = d.bank ∧ (d.setPt p f).ref = d.ref ∧ (d.setPt p f).acq = d.acq ∧
    (d.setPt p f).bmi = d.bmi ∧ (d.setPt p f).scr = d.scr ∧ (d.setPt p f).pub = d.pub ∧ (d.setPt p f).nodes = d.nodes ∧
    (d.setPt p f).pulses = d.pulses ∧ (d.setPt p f).thm = d.thm ∧ (d.setPt p f).bud = d.bud ∧ (d.setPt p f).mtr = d.mtr ∧
    (d.setPt p f).lsw = d.lsw ∧ (d.setPt p f).can = d.can ∧ (d.setPt p f).eth = d.eth ∧ (d.setPt p f).tim = d.tim ∧
    (d.setPt p f).prl = d.prl ∧ (d.setPt p f).cpx = d.cpx ∧ (d.setPt p f).nvc = d.nvc ∧ (d.setPt p f).sec = d.sec :=
  ⟨rfl, rfl, rfl, rfl, rfl, rfl, rfl, rfl, rfl, rfl, rfl, rfl, rfl, rfl, rfl, rfl, rfl, rfl, rfl, rfl, rfl, rfl, rfl, rfl, rfl, rfl, rfl, rfl⟩

@[simp] theorem Device.setPt_reads (d : Device) (p : Nat) (f : PortState → PortState) (r : Nat) (g : Fld) :
    (d.setPt p f).rget r = d.rget r ∧ (d.setPt p f).get g = d.get g ∧ (d.setPt p f).on g = d.on g := ⟨rfl, rfl, rfl⟩

@[simp] theorem Device.setIm_leaves (d : Device) (b : Nat) (f : Imd → Imd) :
    (d.setIm b f).part = d.part ∧ (d.setIm b f).now = d.now ∧ (d.setIm b f).free = d.free ∧ (d.setIm b f).regs = d.regs ∧
    (d.setIm b f).mem = d.mem ∧ (d.setIm b f).upsets = d.upsets ∧ (d.setIm b f).fd = d.fd ∧ (d.setIm b f).sys = d.sys ∧
    (d.setIm b f).drv = d.drv ∧ (d.setIm b f).bank = d.bank ∧ (d.setIm b f).ref = d.ref ∧ (d.setIm b f).flk = d.flk ∧
    (d.setIm b f).acq = d.acq ∧ (d.setIm b f).scr = d.scr ∧ (d.setIm b f).pub = d.pub ∧ (d.setIm b f).nodes = d.nodes ∧
    (d.setIm b f).pulses = d.pulses ∧ (d.setIm b f).thm = d.thm ∧ (d.setIm b f).bud = d.bud ∧ (d.setIm b f).mtr = d.mtr ∧
    (d.setIm b f).lsw = d.lsw ∧ (d.setIm b f).can = d.can ∧ (d.setIm b f).eth = d.eth ∧ (d.setIm b f).tim = d.tim ∧
    (d.setIm b f).prl = d.prl ∧ (d.setIm b f).cpx = d.cpx ∧ (d.setIm b f).nvc = d.nvc ∧ (d.setIm b f).sec = d.sec :=
  ⟨rfl, rfl, rfl, rfl, rfl, rfl, rfl, rfl, rfl, rfl, rfl, rfl, rfl, rfl, rfl, rfl, rfl, rfl, rfl, rfl, rfl, rfl, rfl, rfl, rfl, rfl, rfl, rfl⟩

@[simp] theorem Device.setIm_reads (d : Device) (b : Nat) (f : Imd → Imd) (r : Nat) (g : Fld) :
    (d.setIm b f).rget r = d.rget r ∧ (d.setIm b f).get g = d.get g ∧ (d.setIm b f).on g = d.on g := ⟨rfl, rfl, rfl⟩

@[simp] theorem Device.setCore_leaves (d : Device) (h : Nat) (f : CorePair → CorePair) :
    (d.setCore h f).part = d.part ∧ (d.setCore h f).now = d.now ∧ (d.setCore h f).free = d.free ∧
    (d.setCore h f).regs = d.regs ∧ (d.setCore h f).mem = d.mem ∧ (d.setCore h f).upsets = d.upsets ∧
    (d.setCore h f).fd = d.fd ∧ (d.setCore h f).sys = d.sys ∧ (d.setCore h f).drv = d.drv ∧ (d.setCore h f).bank = d.bank ∧
    (d.setCore h f).ref = d.ref ∧ (d.setCore h f).flk = d.flk ∧ (d.setCore h f).acq = d.acq ∧ (d.setCore h f).bmi = d.bmi ∧
    (d.setCore h f).scr = d.scr ∧ (d.setCore h f).pub = d.pub ∧ (d.setCore h f).nodes = d.nodes ∧
    (d.setCore h f).pulses = d.pulses ∧ (d.setCore h f).thm = d.thm ∧ (d.setCore h f).bud = d.bud ∧
    (d.setCore h f).mtr = d.mtr ∧ (d.setCore h f).lsw = d.lsw ∧ (d.setCore h f).can = d.can ∧ (d.setCore h f).eth = d.eth ∧
    (d.setCore h f).tim = d.tim ∧ (d.setCore h f).prl = d.prl ∧ (d.setCore h f).nvc = d.nvc ∧ (d.setCore h f).sec = d.sec :=
  ⟨rfl, rfl, rfl, rfl, rfl, rfl, rfl, rfl, rfl, rfl, rfl, rfl, rfl, rfl, rfl, rfl, rfl, rfl, rfl, rfl, rfl, rfl, rfl, rfl, rfl, rfl, rfl, rfl⟩

@[simp] theorem Device.setCore_reads (d : Device) (h : Nat) (f : CorePair → CorePair) (r : Nat) (g : Fld) :
    (d.setCore h f).rget r = d.rget r ∧ (d.setCore h f).get g = d.get g ∧ (d.setCore h f).on g = d.on g := ⟨rfl, rfl, rfl⟩

@[simp] theorem Device.setGv_leaves (d : Device) (h : Nat) (i : RegNo) (v : DWord) :
    (d.setGv h i v).part = d.part ∧ (d.setGv h i v).now = d.now ∧ (d.setGv h i v).free = d.free ∧
    (d.setGv h i v).regs = d.regs ∧ (d.setGv h i v).mem = d.mem ∧ (d.setGv h i v).upsets = d.upsets ∧
    (d.setGv h i v).fd = d.fd ∧ (d.setGv h i v).sys = d.sys ∧ (d.setGv h i v).drv = d.drv ∧ (d.setGv h i v).bank = d.bank ∧
    (d.setGv h i v).ref = d.ref ∧ (d.setGv h i v).flk = d.flk ∧ (d.setGv h i v).acq = d.acq ∧ (d.setGv h i v).bmi = d.bmi ∧
    (d.setGv h i v).scr = d.scr ∧ (d.setGv h i v).pub = d.pub ∧ (d.setGv h i v).nodes = d.nodes ∧
    (d.setGv h i v).pulses = d.pulses ∧ (d.setGv h i v).thm = d.thm ∧ (d.setGv h i v).bud = d.bud ∧
    (d.setGv h i v).mtr = d.mtr ∧ (d.setGv h i v).lsw = d.lsw ∧ (d.setGv h i v).can = d.can ∧ (d.setGv h i v).eth = d.eth ∧
    (d.setGv h i v).tim = d.tim ∧ (d.setGv h i v).prl = d.prl ∧ (d.setGv h i v).nvc = d.nvc ∧ (d.setGv h i v).sec = d.sec :=
  ⟨rfl, rfl, rfl, rfl, rfl, rfl, rfl, rfl, rfl, rfl, rfl, rfl, rfl, rfl, rfl, rfl, rfl, rfl, rfl, rfl, rfl, rfl, rfl, rfl, rfl, rfl, rfl, rfl⟩

@[simp] theorem Device.setGv_reads (d : Device) (h : Nat) (i : RegNo) (v : DWord) (r : Nat) (g : Fld) :
    (d.setGv h i v).rget r = d.rget r ∧ (d.setGv h i v).get g = d.get g ∧ (d.setGv h i v).on g = d.on g := ⟨rfl, rfl, rfl⟩

@[simp] theorem Device.setLane_leaves (d : Device) (l : Nat) (f : Lane → Lane) :
    (d.setLane l f).part = d.part ∧ (d.setLane l f).now = d.now ∧ (d.setLane l f).free = d.free ∧
    (d.setLane l f).regs = d.regs ∧ (d.setLane l f).mem = d.mem ∧ (d.setLane l f).upsets = d.upsets ∧
    (d.setLane l f).fd = d.fd ∧ (d.setLane l f).sys = d.sys ∧ (d.setLane l f).drv = d.drv ∧ (d.setLane l f).bank = d.bank ∧
    (d.setLane l f).ref = d.ref ∧ (d.setLane l f).flk = d.flk ∧ (d.setLane l f).acq = d.acq ∧ (d.setLane l f).bmi = d.bmi ∧
    (d.setLane l f).pub = d.pub ∧ (d.setLane l f).nodes = d.nodes ∧ (d.setLane l f).pulses = d.pulses ∧
    (d.setLane l f).thm = d.thm ∧ (d.setLane l f).bud = d.bud ∧ (d.setLane l f).mtr = d.mtr ∧ (d.setLane l f).lsw = d.lsw ∧
    (d.setLane l f).can = d.can ∧ (d.setLane l f).eth = d.eth ∧ (d.setLane l f).tim = d.tim ∧ (d.setLane l f).prl = d.prl ∧
    (d.setLane l f).cpx = d.cpx ∧ (d.setLane l f).nvc = d.nvc ∧ (d.setLane l f).sec = d.sec :=
  ⟨rfl, rfl, rfl, rfl, rfl, rfl, rfl, rfl, rfl, rfl, rfl, rfl, rfl, rfl, rfl, rfl, rfl, rfl, rfl, rfl, rfl, rfl, rfl, rfl, rfl, rfl, rfl, rfl⟩

@[simp] theorem Device.setLane_reads (d : Device) (l : Nat) (f : Lane → Lane) (r : Nat) (g : Fld) :
    (d.setLane l f).rget r = d.rget r ∧ (d.setLane l f).get g = d.get g ∧ (d.setLane l f).on g = d.on g := ⟨rfl, rfl, rfl⟩

@[simp] theorem Device.setLoad_leaves (d : Device) (n : Nat) (f : Load → Load) :
    (d.setLoad n f).part = d.part ∧ (d.setLoad n f).now = d.now ∧ (d.setLoad n f).free = d.free ∧
    (d.setLoad n f).regs = d.regs ∧ (d.setLoad n f).mem = d.mem ∧ (d.setLoad n f).upsets = d.upsets ∧
    (d.setLoad n f).fd = d.fd ∧ (d.setLoad n f).sys = d.sys ∧ (d.setLoad n f).drv = d.drv ∧ (d.setLoad n f).bank = d.bank ∧
    (d.setLoad n f).ref = d.ref ∧ (d.setLoad n f).flk = d.flk ∧ (d.setLoad n f).acq = d.acq ∧ (d.setLoad n f).bmi = d.bmi ∧
    (d.setLoad n f).scr = d.scr ∧ (d.setLoad n f).pub = d.pub ∧ (d.setLoad n f).nodes = d.nodes ∧
    (d.setLoad n f).pulses = d.pulses ∧ (d.setLoad n f).thm = d.thm ∧ (d.setLoad n f).bud = d.bud ∧
    (d.setLoad n f).mtr = d.mtr ∧ (d.setLoad n f).can = d.can ∧ (d.setLoad n f).eth = d.eth ∧ (d.setLoad n f).tim = d.tim ∧
    (d.setLoad n f).prl = d.prl ∧ (d.setLoad n f).cpx = d.cpx ∧ (d.setLoad n f).nvc = d.nvc ∧ (d.setLoad n f).sec = d.sec :=
  ⟨rfl, rfl, rfl, rfl, rfl, rfl, rfl, rfl, rfl, rfl, rfl, rfl, rfl, rfl, rfl, rfl, rfl, rfl, rfl, rfl, rfl, rfl, rfl, rfl, rfl, rfl, rfl, rfl⟩

@[simp] theorem Device.setLoad_reads (d : Device) (n : Nat) (f : Load → Load) (r : Nat) (g : Fld) :
    (d.setLoad n f).rget r = d.rget r ∧ (d.setLoad n f).get g = d.get g ∧ (d.setLoad n f).on g = d.on g := ⟨rfl, rfl, rfl⟩

@[simp] theorem Device.setMot_leaves (d : Device) (u : Nat) (f : Motor → Motor) :
    (d.setMot u f).part = d.part ∧ (d.setMot u f).now = d.now ∧ (d.setMot u f).free = d.free ∧ (d.setMot u f).regs = d.regs ∧
    (d.setMot u f).mem = d.mem ∧ (d.setMot u f).upsets = d.upsets ∧ (d.setMot u f).fd = d.fd ∧ (d.setMot u f).sys = d.sys ∧
    (d.setMot u f).drv = d.drv ∧ (d.setMot u f).bank = d.bank ∧ (d.setMot u f).ref = d.ref ∧ (d.setMot u f).flk = d.flk ∧
    (d.setMot u f).acq = d.acq ∧ (d.setMot u f).bmi = d.bmi ∧ (d.setMot u f).scr = d.scr ∧ (d.setMot u f).pub = d.pub ∧
    (d.setMot u f).nodes = d.nodes ∧ (d.setMot u f).pulses = d.pulses ∧ (d.setMot u f).thm = d.thm ∧
    (d.setMot u f).bud = d.bud ∧ (d.setMot u f).lsw = d.lsw ∧ (d.setMot u f).can = d.can ∧ (d.setMot u f).eth = d.eth ∧
    (d.setMot u f).tim = d.tim ∧ (d.setMot u f).prl = d.prl ∧ (d.setMot u f).cpx = d.cpx ∧ (d.setMot u f).nvc = d.nvc ∧
    (d.setMot u f).sec = d.sec :=
  ⟨rfl, rfl, rfl, rfl, rfl, rfl, rfl, rfl, rfl, rfl, rfl, rfl, rfl, rfl, rfl, rfl, rfl, rfl, rfl, rfl, rfl, rfl, rfl, rfl, rfl, rfl, rfl, rfl⟩

@[simp] theorem Device.setMot_reads (d : Device) (u : Nat) (f : Motor → Motor) (r : Nat) (g : Fld) :
    (d.setMot u f).rget r = d.rget r ∧ (d.setMot u f).get g = d.get g ∧ (d.setMot u f).on g = d.on g := ⟨rfl, rfl, rfl⟩

@[simp] theorem Device.setMac_leaves (d : Device) (m : Nat) (f : EthMac → EthMac) :
    (d.setMac m f).part = d.part ∧ (d.setMac m f).now = d.now ∧ (d.setMac m f).free = d.free ∧ (d.setMac m f).regs = d.regs ∧
    (d.setMac m f).mem = d.mem ∧ (d.setMac m f).upsets = d.upsets ∧ (d.setMac m f).fd = d.fd ∧ (d.setMac m f).sys = d.sys ∧
    (d.setMac m f).drv = d.drv ∧ (d.setMac m f).bank = d.bank ∧ (d.setMac m f).ref = d.ref ∧ (d.setMac m f).flk = d.flk ∧
    (d.setMac m f).acq = d.acq ∧ (d.setMac m f).bmi = d.bmi ∧ (d.setMac m f).scr = d.scr ∧ (d.setMac m f).pub = d.pub ∧
    (d.setMac m f).nodes = d.nodes ∧ (d.setMac m f).pulses = d.pulses ∧ (d.setMac m f).thm = d.thm ∧
    (d.setMac m f).bud = d.bud ∧ (d.setMac m f).mtr = d.mtr ∧ (d.setMac m f).lsw = d.lsw ∧ (d.setMac m f).can = d.can ∧
    (d.setMac m f).tim = d.tim ∧ (d.setMac m f).prl = d.prl ∧ (d.setMac m f).cpx = d.cpx ∧ (d.setMac m f).nvc = d.nvc ∧
    (d.setMac m f).sec = d.sec :=
  ⟨rfl, rfl, rfl, rfl, rfl, rfl, rfl, rfl, rfl, rfl, rfl, rfl, rfl, rfl, rfl, rfl, rfl, rfl, rfl, rfl, rfl, rfl, rfl, rfl, rfl, rfl, rfl, rfl⟩

@[simp] theorem Device.setMac_reads (d : Device) (m : Nat) (f : EthMac → EthMac) (r : Nat) (g : Fld) :
    (d.setMac m f).rget r = d.rget r ∧ (d.setMac m f).get g = d.get g ∧ (d.setMac m f).on g = d.on g := ⟨rfl, rfl, rfl⟩

@[simp] theorem Device.setOut_leaves (d : Device) (k : Nat) (o : TimOut) :
    (d.setOut k o).part = d.part ∧ (d.setOut k o).now = d.now ∧ (d.setOut k o).free = d.free ∧ (d.setOut k o).regs = d.regs ∧
    (d.setOut k o).mem = d.mem ∧ (d.setOut k o).upsets = d.upsets ∧ (d.setOut k o).fd = d.fd ∧ (d.setOut k o).sys = d.sys ∧
    (d.setOut k o).drv = d.drv ∧ (d.setOut k o).bank = d.bank ∧ (d.setOut k o).ref = d.ref ∧ (d.setOut k o).flk = d.flk ∧
    (d.setOut k o).acq = d.acq ∧ (d.setOut k o).bmi = d.bmi ∧ (d.setOut k o).scr = d.scr ∧ (d.setOut k o).pub = d.pub ∧
    (d.setOut k o).nodes = d.nodes ∧ (d.setOut k o).pulses = d.pulses ∧ (d.setOut k o).thm = d.thm ∧
    (d.setOut k o).bud = d.bud ∧ (d.setOut k o).mtr = d.mtr ∧ (d.setOut k o).lsw = d.lsw ∧ (d.setOut k o).can = d.can ∧
    (d.setOut k o).eth = d.eth ∧ (d.setOut k o).prl = d.prl ∧ (d.setOut k o).cpx = d.cpx ∧ (d.setOut k o).nvc = d.nvc ∧
    (d.setOut k o).sec = d.sec :=
  ⟨rfl, rfl, rfl, rfl, rfl, rfl, rfl, rfl, rfl, rfl, rfl, rfl, rfl, rfl, rfl, rfl, rfl, rfl, rfl, rfl, rfl, rfl, rfl, rfl, rfl, rfl, rfl, rfl⟩

@[simp] theorem Device.setOut_reads (d : Device) (k : Nat) (o : TimOut) (r : Nat) (g : Fld) :
    (d.setOut k o).rget r = d.rget r ∧ (d.setOut k o).get g = d.get g ∧ (d.setOut k o).on g = d.on g := ⟨rfl, rfl, rfl⟩

@[simp] theorem Device.setCur_leaves (d : Device) (c : Nat) (m : Option (Fin 128)) :
    (d.setCur c m).part = d.part ∧ (d.setCur c m).now = d.now ∧ (d.setCur c m).free = d.free ∧ (d.setCur c m).regs = d.regs ∧
    (d.setCur c m).mem = d.mem ∧ (d.setCur c m).upsets = d.upsets ∧ (d.setCur c m).fd = d.fd ∧ (d.setCur c m).sys = d.sys ∧
    (d.setCur c m).drv = d.drv ∧ (d.setCur c m).bank = d.bank ∧ (d.setCur c m).ref = d.ref ∧ (d.setCur c m).flk = d.flk ∧
    (d.setCur c m).acq = d.acq ∧ (d.setCur c m).bmi = d.bmi ∧ (d.setCur c m).scr = d.scr ∧ (d.setCur c m).pub = d.pub ∧
    (d.setCur c m).nodes = d.nodes ∧ (d.setCur c m).pulses = d.pulses ∧ (d.setCur c m).thm = d.thm ∧
    (d.setCur c m).bud = d.bud ∧ (d.setCur c m).mtr = d.mtr ∧ (d.setCur c m).lsw = d.lsw ∧ (d.setCur c m).eth = d.eth ∧
    (d.setCur c m).tim = d.tim ∧ (d.setCur c m).prl = d.prl ∧ (d.setCur c m).cpx = d.cpx ∧ (d.setCur c m).nvc = d.nvc ∧
    (d.setCur c m).sec = d.sec :=
  ⟨rfl, rfl, rfl, rfl, rfl, rfl, rfl, rfl, rfl, rfl, rfl, rfl, rfl, rfl, rfl, rfl, rfl, rfl, rfl, rfl, rfl, rfl, rfl, rfl, rfl, rfl, rfl, rfl⟩

@[simp] theorem Device.setCur_reads (d : Device) (c : Nat) (m : Option (Fin 128)) (r : Nat) (g : Fld) :
    (d.setCur c m).rget r = d.rget r ∧ (d.setCur c m).get g = d.get g ∧ (d.setCur c m).on g = d.on g := ⟨rfl, rfl, rfl⟩

@[simp] theorem Device.setLoadSt_leaves (d : Device) (n : Nat) (s : LoadSt) :
    (d.setLoadSt n s).part = d.part ∧ (d.setLoadSt n s).now = d.now ∧ (d.setLoadSt n s).free = d.free ∧
    (d.setLoadSt n s).mem = d.mem ∧ (d.setLoadSt n s).upsets = d.upsets ∧ (d.setLoadSt n s).fd = d.fd ∧
    (d.setLoadSt n s).sys = d.sys ∧ (d.setLoadSt n s).drv = d.drv ∧ (d.setLoadSt n s).bank = d.bank ∧
    (d.setLoadSt n s).ref = d.ref ∧ (d.setLoadSt n s).flk = d.flk ∧ (d.setLoadSt n s).acq = d.acq ∧
    (d.setLoadSt n s).bmi = d.bmi ∧ (d.setLoadSt n s).scr = d.scr ∧ (d.setLoadSt n s).pub = d.pub ∧
    (d.setLoadSt n s).nodes = d.nodes ∧ (d.setLoadSt n s).pulses = d.pulses ∧ (d.setLoadSt n s).thm = d.thm ∧
    (d.setLoadSt n s).bud = d.bud ∧ (d.setLoadSt n s).mtr = d.mtr ∧ (d.setLoadSt n s).can = d.can ∧
    (d.setLoadSt n s).eth = d.eth ∧ (d.setLoadSt n s).tim = d.tim ∧ (d.setLoadSt n s).prl = d.prl ∧
    (d.setLoadSt n s).cpx = d.cpx ∧ (d.setLoadSt n s).nvc = d.nvc ∧ (d.setLoadSt n s).sec = d.sec :=
  ⟨rfl, rfl, rfl, rfl, rfl, rfl, rfl, rfl, rfl, rfl, rfl, rfl, rfl, rfl, rfl, rfl, rfl, rfl, rfl, rfl, rfl, rfl, rfl, rfl, rfl, rfl, rfl⟩

@[simp] theorem Device.coreDone_leaves (d : Device) (h : Nat) (f : CorePair → CorePair) :
    (d.coreDone h f).part = d.part ∧ (d.coreDone h f).now = d.now ∧ (d.coreDone h f).free = d.free ∧
    (d.coreDone h f).regs = d.regs ∧ (d.coreDone h f).mem = d.mem ∧ (d.coreDone h f).upsets = d.upsets ∧
    (d.coreDone h f).fd = d.fd ∧ (d.coreDone h f).sys = d.sys ∧ (d.coreDone h f).drv = d.drv ∧
    (d.coreDone h f).bank = d.bank ∧ (d.coreDone h f).ref = d.ref ∧ (d.coreDone h f).flk = d.flk ∧
    (d.coreDone h f).acq = d.acq ∧ (d.coreDone h f).bmi = d.bmi ∧ (d.coreDone h f).scr = d.scr ∧
    (d.coreDone h f).pub = d.pub ∧ (d.coreDone h f).nodes = d.nodes ∧ (d.coreDone h f).pulses = d.pulses ∧
    (d.coreDone h f).thm = d.thm ∧ (d.coreDone h f).bud = d.bud ∧ (d.coreDone h f).mtr = d.mtr ∧
    (d.coreDone h f).lsw = d.lsw ∧ (d.coreDone h f).can = d.can ∧ (d.coreDone h f).eth = d.eth ∧
    (d.coreDone h f).tim = d.tim ∧ (d.coreDone h f).prl = d.prl ∧ (d.coreDone h f).nvc = d.nvc ∧
    (d.coreDone h f).sec = d.sec :=
  ⟨rfl, rfl, rfl, rfl, rfl, rfl, rfl, rfl, rfl, rfl, rfl, rfl, rfl, rfl, rfl, rfl, rfl, rfl, rfl, rfl, rfl, rfl, rfl, rfl, rfl, rfl, rfl, rfl⟩

@[simp] theorem Device.coreDone_reads (d : Device) (h : Nat) (f : CorePair → CorePair) (r : Nat) (g : Fld) :
    (d.coreDone h f).rget r = d.rget r ∧ (d.coreDone h f).get g = d.get g ∧ (d.coreDone h f).on g = d.on g := ⟨rfl, rfl, rfl⟩

@[simp] theorem Device.coreTo_leaves (d : Device) (h : Nat) (pc : DWord) (f : CorePair → CorePair) :
    (d.coreTo h pc f).part = d.part ∧ (d.coreTo h pc f).now = d.now ∧ (d.coreTo h pc f).free = d.free ∧
    (d.coreTo h pc f).regs = d.regs ∧ (d.coreTo h pc f).mem = d.mem ∧ (d.coreTo h pc f).upsets = d.upsets ∧
    (d.coreTo h pc f).fd = d.fd ∧ (d.coreTo h pc f).sys = d.sys ∧ (d.coreTo h pc f).drv = d.drv ∧
    (d.coreTo h pc f).bank = d.bank ∧ (d.coreTo h pc f).ref = d.ref ∧ (d.coreTo h pc f).flk = d.flk ∧
    (d.coreTo h pc f).acq = d.acq ∧ (d.coreTo h pc f).bmi = d.bmi ∧ (d.coreTo h pc f).scr = d.scr ∧
    (d.coreTo h pc f).pub = d.pub ∧ (d.coreTo h pc f).nodes = d.nodes ∧ (d.coreTo h pc f).pulses = d.pulses ∧
    (d.coreTo h pc f).thm = d.thm ∧ (d.coreTo h pc f).bud = d.bud ∧ (d.coreTo h pc f).mtr = d.mtr ∧
    (d.coreTo h pc f).lsw = d.lsw ∧ (d.coreTo h pc f).can = d.can ∧ (d.coreTo h pc f).eth = d.eth ∧
    (d.coreTo h pc f).tim = d.tim ∧ (d.coreTo h pc f).prl = d.prl ∧ (d.coreTo h pc f).nvc = d.nvc ∧
    (d.coreTo h pc f).sec = d.sec :=
  ⟨rfl, rfl, rfl, rfl, rfl, rfl, rfl, rfl, rfl, rfl, rfl, rfl, rfl, rfl, rfl, rfl, rfl, rfl, rfl, rfl, rfl, rfl, rfl, rfl, rfl, rfl, rfl, rfl⟩

@[simp] theorem Device.coreTo_reads (d : Device) (h : Nat) (pc : DWord) (f : CorePair → CorePair) (r : Nat) (g : Fld) :
    (d.coreTo h pc f).rget r = d.rget r ∧ (d.coreTo h pc f).get g = d.get g ∧ (d.coreTo h pc f).on g = d.on g := ⟨rfl, rfl, rfl⟩

@[simp] theorem Device.laneDone_leaves (d : Device) (l n : Nat) (f : Lane → Lane) :
    (d.laneDone l n f).part = d.part ∧ (d.laneDone l n f).now = d.now ∧ (d.laneDone l n f).free = d.free ∧
    (d.laneDone l n f).regs = d.regs ∧ (d.laneDone l n f).mem = d.mem ∧ (d.laneDone l n f).upsets = d.upsets ∧
    (d.laneDone l n f).fd = d.fd ∧ (d.laneDone l n f).sys = d.sys ∧ (d.laneDone l n f).drv = d.drv ∧
    (d.laneDone l n f).bank = d.bank ∧ (d.laneDone l n f).ref = d.ref ∧ (d.laneDone l n f).flk = d.flk ∧
    (d.laneDone l n f).acq = d.acq ∧ (d.laneDone l n f).bmi = d.bmi ∧ (d.laneDone l n f).pub = d.pub ∧
    (d.laneDone l n f).nodes = d.nodes ∧ (d.laneDone l n f).pulses = d.pulses ∧ (d.laneDone l n f).thm = d.thm ∧
    (d.laneDone l n f).bud = d.bud ∧ (d.laneDone l n f).mtr = d.mtr ∧ (d.laneDone l n f).lsw = d.lsw ∧
    (d.laneDone l n f).can = d.can ∧ (d.laneDone l n f).eth = d.eth ∧ (d.laneDone l n f).tim = d.tim ∧
    (d.laneDone l n f).prl = d.prl ∧ (d.laneDone l n f).cpx = d.cpx ∧ (d.laneDone l n f).nvc = d.nvc ∧
    (d.laneDone l n f).sec = d.sec :=
  ⟨rfl, rfl, rfl, rfl, rfl, rfl, rfl, rfl, rfl, rfl, rfl, rfl, rfl, rfl, rfl, rfl, rfl, rfl, rfl, rfl, rfl, rfl, rfl, rfl, rfl, rfl, rfl, rfl⟩

@[simp] theorem Device.laneDone_reads (d : Device) (l n : Nat) (f : Lane → Lane) (r : Nat) (g : Fld) :
    (d.laneDone l n f).rget r = d.rget r ∧ (d.laneDone l n f).get g = d.get g ∧ (d.laneDone l n f).on g = d.on g := ⟨rfl, rfl, rfl⟩

theorem Device.bk_setBk (d : Device) {b : Nat} (hb : b < 4) (f : Bank → Bank) : (d.setBk b f).bk b = f (d.bk b) := by
  simp [Device.setBk, Device.bk, hb]

theorem Device.bk_setBk_ne (d : Device) {b j : Nat} (hj : j ≠ b) (f : Bank → Bank) : (d.setBk b f).bk j = d.bk j := by
  simp [Device.setBk, Device.bk, hj.symm]

theorem Device.dk_setDk (d : Device) {k : Nat} (hk : k < 12) (f : Driver → Driver) : (d.setDk k f).dk k = f (d.dk k) := by
  simp [Device.setDk, Device.dk, hk]

theorem Device.dk_setDk_ne (d : Device) {k j : Nat} (hj : j ≠ k) (f : Driver → Driver) : (d.setDk k f).dk j = d.dk j := by
  simp [Device.setDk, Device.dk, hj.symm]

theorem Device.im_setIm (d : Device) {b : Nat} (hb : b < 4) (f : Imd → Imd) : (d.setIm b f).im b = f (d.im b) := by
  simp [Device.setIm, Device.im, hb]

theorem Device.im_setIm_ne (d : Device) {b j : Nat} (hj : j ≠ b) (f : Imd → Imd) : (d.setIm b f).im j = d.im j := by
  simp [Device.setIm, Device.im, hj.symm]

theorem Device.corePair_setCore (d : Device) {h : Nat} (hh : h < 2) (f : CorePair → CorePair) : (d.setCore h f).corePair h = f (d.corePair h) := by
  simp [Device.setCore, Device.corePair, hh]

theorem Device.corePair_setCore_ne (d : Device) {h j : Nat} (hj : j ≠ h) (f : CorePair → CorePair) : (d.setCore h f).corePair j = d.corePair j := by
  simp [Device.setCore, Device.corePair, hj.symm]

theorem Device.load_setLoad (d : Device) {n : Nat} (hn : n < 16) (f : Load → Load) : (d.setLoad n f).load n = f (d.load n) := by
  simp [Device.setLoad, Device.load, hn]

theorem Device.load_setLoad_ne (d : Device) {n j : Nat} (hj : j ≠ n) (f : Load → Load) : (d.setLoad n f).load j = d.load j := by
  simp [Device.setLoad, Device.load, hj.symm]

theorem Device.mot_setMot (d : Device) {u : Nat} (hu : u < 4) (f : Motor → Motor) : (d.setMot u f).mot u = f (d.mot u) := by
  simp [Device.setMot, Device.mot, hu]

theorem Device.mot_setMot_ne (d : Device) {u j : Nat} (hj : j ≠ u) (f : Motor → Motor) : (d.setMot u f).mot j = d.mot j := by
  simp [Device.setMot, Device.mot, hj.symm]

theorem Device.mac_setMac (d : Device) {m : Nat} (hm : m < 2) (f : EthMac → EthMac) : (d.setMac m f).mac m = f (d.mac m) := by
  simp [Device.setMac, Device.mac, hm]

theorem Device.mac_setMac_ne (d : Device) {m j : Nat} (hj : j ≠ m) (f : EthMac → EthMac) : (d.setMac m f).mac j = d.mac j := by
  simp [Device.setMac, Device.mac, hj.symm]

@[simp] theorem Device.pt_setPt (d : Device) (i : Nat) (f : PortState → PortState) : (d.setPt i f).pt i = f (d.pt i) := by
  simp [Device.setPt, Device.pt]

theorem Device.pt_setPt_ne (d : Device) {i j : Nat} (hj : j ≠ i) (f : PortState → PortState) : (d.setPt i f).pt j = d.pt j := by
  simp only [Device.setPt, Device.pt]; exact mapGetD_mapSet_ne hj _ _ _

@[simp] theorem Device.lane_setLane (d : Device) (i : Nat) (f : Lane → Lane) : (d.setLane i f).lane i = f (d.lane i) := by
  simp [Device.setLane, Device.lane]

theorem Device.lane_setLane_ne (d : Device) {i j : Nat} (hj : j ≠ i) (f : Lane → Lane) : (d.setLane i f).lane j = d.lane j := by
  simp only [Device.setLane, Device.lane]; exact mapGetD_mapSet_ne hj _ _ _

/-- The state after a command keeps its queue. -/
@[simp] theorem State.after_fields (s : State) (d : Device) : (s.after d).pending = s.pending ∧ (s.after d).dev = d.settle :=
  ⟨rfl, rfl⟩

end Sys2Proof.Machine
end

