-- ==== Sys2Proof/Laws/Settle.lean ====
section
/-! SUPPORT. Laws of what settles in the same instant (R38, R247, R465, R35): it touches SYS_MODE, SYS_EVT, REF_ST, the CTD
registers, the state of drivers and banks, and the trip latch, and nothing else. -/

namespace Sys2Proof.Machine

/-- `e` differs from `d` in registers of SYS_MODE, SYS_EVT, REF_ST and of the CTD block, in CTD's own state of drivers and banks,
and in the trip latch, only. -/
def Device.SettleFrame (d e : Device) : Prop :=
  (∃ r l v b, e = { d with regs := r, fd := { d.fd with tripLatch := l }, drv := v, bank := b }) ∧
  (∀ a, a ≠ SYS_MODE → a ≠ SYS_EVT → a ≠ REF_ST → a < 0x60150000 ∨ 0x60160000 ≤ a → e.rget a = d.rget a) ∧
  (d.fd.tripLatch = true → e.fd.tripLatch = true)

theorem Device.SettleFrame.refl (d : Device) : d.SettleFrame d := 
  ⟨⟨d.regs, d.fd.tripLatch, d.drv, d.bank, rfl⟩, fun _ _ _ _ _ => rfl, id⟩

theorem Device.SettleFrame.trans {d e f : Device} (h : d.SettleFrame e) (k : e.SettleFrame f) : d.SettleFrame f := by
  obtain ⟨⟨r, l, v, b, rfl⟩, h2, h3⟩ := h
  obtain ⟨⟨r', l', v', b', rfl⟩, k2, k3⟩ := k
  exact ⟨⟨r', l', v', b', rfl⟩, fun a h1 h4 h5 h6 => (k2 a h1 h4 h5 h6).trans (h2 a h1 h4 h5 h6), fun h => k3 (h3 h)⟩

theorem Device.settleFrame_put (d : Device) (f : Fld) (v : Nat)
    (h : f.addr = SYS_MODE ∨ f.addr = SYS_EVT ∨ f.addr = REF_ST ∨ 0x60150000 ≤ f.addr ∧ f.addr < 0x60160000) :
    d.SettleFrame (d.put f v) := by
  refine ⟨⟨(d.put f v).regs, d.fd.tripLatch, d.drv, d.bank, rfl⟩, fun a h1 h2 h3 h4 => Device.rget_put_ne d ?_ v, id⟩
  rintro rfl
  rcases h with h | h | h | h
  · exact h1 h
  · exact h2 h
  · exact h3 h
  · omega

theorem Device.settleFrame_rset (d : Device) (a : Nat) (v : Word) (h : 0x60150000 ≤ a ∧ a < 0x60160000) :
    d.SettleFrame (d.rset a v) := by
  refine ⟨⟨(d.rset a v).regs, d.fd.tripLatch, d.drv, d.bank, rfl⟩, fun b _ _ _ h4 => Device.rget_rset_ne d ?_ v, id⟩
  rintro rfl; omega

theorem Device.settleFrame_when (d : Device) (c : Bool) {f : Device → Device} (h : d.SettleFrame (f d)) :
    d.SettleFrame (d.when_ c f) := by
  unfold Device.when_; split
  · exact h
  · exact .refl d

theorem Device.settleFrame_setLatch (d : Device) : d.SettleFrame d.setLatch := by
  unfold Device.setLatch
  split
  · exact .refl d
  · obtain ⟨_, h2, _⟩ := Device.settleFrame_put d SYS_EVT_TRIPL (2 ^ SYS_EVT_TRIPL.w - 1) (.inr (.inl rfl))
    exact ⟨⟨(d.up SYS_EVT_TRIPL).regs, true, d.drv, d.bank, rfl⟩, fun a h1 h3 h4 h5 => h2 a h1 h3 h4 h5, fun _ => rfl⟩

theorem Device.settleFrame_setDk (d : Device) (k : Nat) (f : Driver → Driver) : d.SettleFrame (d.setDk k f) :=
  ⟨⟨d.regs, d.fd.tripLatch, (d.setDk k f).drv, d.bank, rfl⟩, fun _ _ _ _ _ => rfl, id⟩

theorem Device.settleFrame_setBk (d : Device) (b : Nat) (f : Bank → Bank) : d.SettleFrame (d.setBk b f) :=
  ⟨⟨d.regs, d.fd.tripLatch, d.drv, (d.setBk b f).bank, rfl⟩, fun _ _ _ _ _ => rfl, id⟩

theorem ctd_dst_range {k : Nat} (h : k < 12) : 0x60150000 ≤ CTD_DST k ∧ CTD_DST k < 0x60160000 := by unfold CTD_DST; omega
theorem ctd_dqcnt_range {k : Nat} (h : k < 12) : 0x60150000 ≤ CTD_DQCNT k ∧ CTD_DQCNT k < 0x60160000 := by
  unfold CTD_DQCNT; omega
theorem ctd_bst_range {b : Nat} (h : b < 4) : 0x60150000 ≤ CTD_BST b ∧ CTD_BST b < 0x60160000 := by unfold CTD_BST; omega
theorem ctd_bevt_range {b : Nat} (h : b < 4) : 0x60150000 ≤ CTD_BEVT b ∧ CTD_BEVT b < 0x60160000 := by
  unfold CTD_BEVT; omega

theorem Device.settleFrame_cutDriver (d : Device) {k : Nat} (hk : k < 12) : d.SettleFrame (d.cutDriver k) := by
  have h1 : d.SettleFrame ((d.put (CTD_DST_SS k) 0).setDk k Driver.released) :=
    (Device.settleFrame_put d (CTD_DST_SS k) 0 (.inr (.inr (.inr (ctd_dst_range hk))))).trans (Device.settleFrame_setDk _ _ _)
  have h2 : ∀ e : Device, e.SettleFrame (e.count16 (CTD_DQCNT k)) := by
    intro e
    unfold Device.count16
    simp only
    split
    · exact .refl e
    · split <;> exact Device.settleFrame_rset e _ _ (ctd_dqcnt_range hk)
  have h3 : ∀ e : Device, e.SettleFrame (e.setDrvSt k .fastQuench) := fun e =>
    Device.settleFrame_put e _ _ (.inr (.inr (.inr (ctd_dst_range hk))))
  unfold Device.cutDriver
  simp only
  split
  · exact h1
  · exact h1
  · exact h1.trans ((h3 _).trans (h2 _))

theorem Device.settleFrame_endSequence (d : Device) {b : Nat} (hb : b < 4) : d.SettleFrame (d.endSequence b) := by
  have st : ∀ (e : Device) (x : BankState), e.SettleFrame (e.setBankSt b x) := fun e x =>
    Device.settleFrame_put e _ _ (.inl rfl)
  have bs : ∀ (e : Device) (f : Fld) (v : Nat), f.addr = CTD_BST b → e.SettleFrame (e.put f v) := fun e f v h =>
    Device.settleFrame_put e f v (.inr (.inr (.inr (h ▸ ctd_bst_range hb))))
  have ev : ∀ (e : Device), e.SettleFrame (e.up (CTD_BEVT_CONN b)) := fun e =>
    Device.settleFrame_put e _ _ (.inr (.inr (.inr (ctd_bevt_range hb))))
  have fin : ∀ e : Device, e.SettleFrame (if e.bankHold b then e.setBankSt b .out
      else if e.bankSt b = .closed ∨ e.bankSt b = .precharging then e.setBankSt b .opened else e) := fun e => by
    split
    · exact st _ _
    · split
      · exact st _ _
      · exact .refl _
  have ph : ∀ e : Device, e.SettleFrame ((e.setPhase b .opening).setBk b fun v =>
      { v with path := false, gapDue := false, orderly := false }) := fun e =>
    (bs e (CTD_BST_PHASE b) _ rfl).trans (Device.settleFrame_setBk _ _ _)
  have oc : ∀ e : Device, e.SettleFrame ((e.put (CTD_BST_OUTC b) 4).put (CTD_BST_REASON b) 2) := fun e =>
    (bs e (CTD_BST_OUTC b) 4 rfl).trans (bs _ (CTD_BST_REASON b) 2 rfl)
  unfold Device.endSequence
  exact (((Device.settleFrame_when _ _ (oc _)).trans (Device.settleFrame_when _ _ (ev _))).trans
    (Device.settleFrame_when _ _ (ph _))).trans (fin _)

theorem Device.settleFrame_joinDriver (d : Device) {k : Nat} (hk : k < 12) : d.SettleFrame (d.joinDriver k) := by
  unfold Device.joinDriver Device.startShadow
  exact (Device.settleFrame_put d (CTD_DST_SS k) 1 (.inr (.inr (.inr (ctd_dst_range hk))))).trans
    (Device.settleFrame_when _ _ (Device.settleFrame_when _ _
      (Device.settleFrame_put _ (CTD_DST_STATE k) _ (.inr (.inr (.inr (ctd_dst_range hk)))))))

theorem Device.settleFrame_gateBank (d : Device) {b : Nat} (hb : b < 4) : d.SettleFrame (d.gateBank b) := by
  have jn : ∀ (e : Device) {k : Nat}, k < 12 → e.SettleFrame (e.joinDriver k) := fun e k hk => e.settleFrame_joinDriver hk
  have ct : ∀ (e : Device) {k : Nat}, k < 12 → e.SettleFrame (e.cutDriver k) := fun e k hk => e.settleFrame_cutDriver hk
  have k0 : 3 * b < 12 := by omega
  have k1 : 3 * b + 1 < 12 := by omega
  have k2 : 3 * b + 2 < 12 := by omega
  unfold Device.gateBank
  split
  · exact ((jn _ k0).trans (jn _ k1)).trans (jn _ k2)
  · exact (((ct _ k0).trans (ct _ k1)).trans (ct _ k2)).trans (Device.settleFrame_endSequence _ hb)

theorem Device.settleFrame_enterDegraded (d : Device) : d.SettleFrame (d.enter .degraded) := by
  have md : ∀ (e : Device) (f : Fld) (v : Nat), f.addr = SYS_MODE → e.SettleFrame (e.put f v) := fun e f v h =>
    Device.settleFrame_put e f v (.inl h)
  have key : ∀ b : Bool, d.SettleFrame
      ((((d.put SYS_MODE_MODE (Mode.code .degraded)).putB SYS_MODE_BUSY b).up SYS_EVT_MODE).down REF_ST_LOOSE) := fun b =>
    (((md d SYS_MODE_MODE _ rfl).trans (md _ SYS_MODE_BUSY _ rfl)).trans
      (Device.settleFrame_put _ SYS_EVT_MODE _ (.inr (.inl rfl)))).trans
        (Device.settleFrame_put _ REF_ST_LOOSE _ (.inr (.inr (.inl rfl))))
  have calm : (!Mode.calm .degraded) = false := rfl
  have live : (!Mode.live .degraded) = false := rfl
  have trip : (Mode.degraded == Mode.tripped) = false := rfl
  unfold Device.enter
  split
  · rw [if_neg (by decide)]; exact .refl d
  · simp only [calm, live, trip, Device.when_, Bool.false_eq_true, if_false]
    exact key _

/-- What settling does to a device: everything of the device but the registers, CTD's drivers and banks, and the trip latch
stays, the registers outside SYS_MODE, SYS_EVT, REF_ST and CTD stay, and a trip latch that is set stays set. -/
theorem Device.settle_frame (d : Device) : d.SettleFrame d.settle := by
  have hd : ∀ e : Device, e.SettleFrame e.degrade := fun e => by
    unfold Device.degrade; split
    · exact Device.settleFrame_enterDegraded e
    · exact .refl e
  unfold Device.settle
  simp only
  refine Device.SettleFrame.trans ?_ (hd _)
  split
  · exact .refl d
  · exact ((((Device.settleFrame_when d _ (Device.settleFrame_setLatch d)).trans
      (Device.settleFrame_gateBank _ (by omega))).trans (Device.settleFrame_gateBank _ (by omega))).trans
        (Device.settleFrame_gateBank _ (by omega))).trans (Device.settleFrame_gateBank _ (by omega))

/-- The parts of a device that settling leaves. -/
@[simp] theorem Device.settle_leaves (d : Device) :
    d.settle.part = d.part ∧ d.settle.now = d.now ∧ d.settle.free = d.free ∧ d.settle.mem = d.mem ∧ d.settle.upsets = d.upsets ∧
    d.settle.sys = d.sys ∧ d.settle.ref = d.ref ∧ d.settle.flk = d.flk ∧ d.settle.acq = d.acq ∧
    d.settle.bmi = d.bmi ∧ d.settle.scr = d.scr ∧ d.settle.pub = d.pub ∧ d.settle.nodes = d.nodes ∧
    d.settle.pulses = d.pulses ∧ d.settle.thm = d.thm ∧ d.settle.bud = d.bud ∧ d.settle.mtr = d.mtr ∧ d.settle.lsw = d.lsw ∧
    d.settle.can = d.can ∧ d.settle.eth = d.eth ∧ d.settle.tim = d.tim ∧ d.settle.prl = d.prl ∧ d.settle.cpx = d.cpx ∧
    d.settle.nvc = d.nvc ∧ d.settle.sec = d.sec := by
  obtain ⟨⟨r, l, v, b, h⟩, -⟩ := d.settle_frame
  rw [h]; simp

/-- Of the field die, settling reaches the trip latch only. -/
@[simp] theorem Device.settle_fd (d : Device) :
    d.settle.fd.clockCause = d.fd.clockCause ∧ d.settle.fd.clockBadPrev = d.fd.clockBadPrev ∧
    d.settle.fd.hbCause = d.fd.hbCause ∧ d.settle.fd.outputsOff = d.fd.outputsOff ∧ d.settle.fd.thermal = d.fd.thermal ∧
    d.settle.fd.grace = d.fd.grace ∧ d.settle.fd.lost = d.fd.lost ∧ d.settle.fd.ctl = d.fd.ctl ∧
    d.settle.fd.down = d.fd.down ∧ d.settle.fd.wakePending = d.fd.wakePending ∧ d.settle.fd.sleep = d.fd.sleep ∧
    d.settle.fd.wakeIdx = d.fd.wakeIdx ∧ d.settle.fd.retained = d.fd.retained := by
  obtain ⟨⟨r, l, v, b, h⟩, -⟩ := d.settle_frame
  rw [h]; simp

/-- The parts of a device that stand in vectors and maps, after settling. -/
@[simp] theorem Device.settle_parts (d : Device) (i : Nat) :
    d.settle.pt i = d.pt i ∧ d.settle.im i = d.im i ∧
    d.settle.corePair i = d.corePair i ∧ d.settle.lane i = d.lane i ∧ d.settle.load i = d.load i ∧
    d.settle.mot i = d.mot i ∧ d.settle.mac i = d.mac i ∧ d.settle.cn i = d.cn i ∧ d.settle.awake = d.awake := by
  obtain ⟨⟨r, l, v, b, h⟩, -⟩ := d.settle_frame
  rw [h]; simp [Device.pt, Device.im, Device.corePair, Device.lane, Device.load, Device.mot,
    Device.mac, Device.cn, Device.awake]

theorem Device.settle_latch {d : Device} (h : d.fd.tripLatch = true) : d.settle.fd.tripLatch = true := d.settle_frame.2.2 h

theorem Device.settle_rget (d : Device) {a : Nat} (h1 : a ≠ SYS_MODE) (h2 : a ≠ SYS_EVT) (h3 : a ≠ REF_ST)
    (h4 : a < 0x60150000 ∨ 0x60160000 ≤ a) : d.settle.rget a = d.rget a := d.settle_frame.2.1 a h1 h2 h3 h4

theorem Device.settle_get (d : Device) {f : Fld} (h1 : f.addr ≠ SYS_MODE) (h2 : f.addr ≠ SYS_EVT) (h3 : f.addr ≠ REF_ST)
    (h4 : f.addr < 0x60150000 ∨ 0x60160000 ≤ f.addr) : d.settle.get f = d.get f :=
  Device.get_congr (d.settle_rget h1 h2 h3 h4)

end Sys2Proof.Machine
end

