-- ==== Sys2Proof/Laws/Islor.lean ====
section
/-! SUPPORT. What the shared operations of Islor do for an agent that executes its next instruction. -/

namespace Sys2Proof.Machine

/-! ### Legal words (R268, R271) -/

/-- A word of format R is defined when its fields are. -/
theorem islorDefined_encR (lane : Bool) {g : Guard} (hg : g.pg = 0 → g.pn = false) (op : Nat) (rd rs1 rs2 : RegNo) (fn : Nat)
    (ok : (match op with
      | 0x00 => intFnOk fn rs2.val
      | 0x1A => !lane
      | 0x1C => decide (fn ≤ 5) && decide (rd.val < 8)
      | 0x1F => decide (fn ≤ 6) && decide (rd.val < 8) && (decide (rs1.val < 8) || fn == 6) && decide (rs2.val < 8)
      | 0x20 => floatFnOk fn rs2.val
      | 0x21 => decide (fn ≤ 3) && decide (rd.val < 8)
      | 0x25 => systemOk lane rd.val rs1.val rs2.val fn
      | 0x26 => !lane && decide (fn ≤ 1)
      | 0x28 => lane && decide (fn ≤ 6) && rs2.val == 0 && decide (rs1.val < 16) && (fn != 6 || rs1.val % 2 == 0)
      | 0x29 => lane && decide (fn ≤ 3) && rs2.val == 0 && decide (rd.val < 16) && (fn != 3 || rd.val % 2 == 0)
      | 0x2B => lane && rd.val == 0 && rs2.val == 0 && decide (fn < 4)
      | 0x2C => !lane && decide (fn ≤ 1)
      | _ => false) = true) (ho : op < 64) (hf : fn < 128) : islorDefined lane (encR g op rd.val rs1.val rs2.val fn) = true := by
  obtain ⟨a, b, c, d, e, f, k⟩ := fieldOf_encR g ho rd.isLt rs1.isLt rs2.isLt hf
  simp only [islorDefined, a, b, c, d, e, f, k, guard_legal hg, Bool.true_and]
  split at ok <;> first | exact ok | exact absurd ok (by decide)

/-- A word of format I or St is defined when its fields are. -/
theorem islorDefined_encI (lane : Bool) {g : Guard} (hg : g.pg = 0 → g.pn = false) (op : Nat) (rd rs1 : Nat) (imm : Nat)
    (ok : (match op with
      | 0x01 => true | 0x02 => true | 0x03 => true | 0x04 => true
      | 0x05 => shiftOk imm
      | 0x08 => !lane | 0x09 => !lane | 0x0A => !lane | 0x0B => !lane | 0x0C => !lane | 0x0D => !lane | 0x0E => !lane
      | 0x10 => !lane | 0x11 => !lane | 0x12 => !lane | 0x13 => !lane | 0x14 => !lane | 0x15 => !lane
      | 0x1D => true | 0x1E => true
      | 0x24 => csrOk lane imm
      | 0x2A => lane && imm / 64 == 0
      | _ => false) = true) (ho : op < 64) (hd : rd < 32) (h1 : rs1 < 32) (hi : imm < 4096) : islorDefined lane (encI g op rd rs1 imm) = true := by
  obtain ⟨a, b, c, d, e, f⟩ := fieldOf_encI g ho hd h1 hi
  simp only [islorDefined, a, b, c, d, e, f, guard_legal hg, Bool.true_and]
  split at ok <;> first | exact ok | rfl | exact absurd ok (by decide)

/-- A word of format U is defined for MOVI.L, MOVI.H, and for SIGA with a constant of 16 bits. -/
theorem islorDefined_encU (lane : Bool) {g : Guard} (hg : g.pg = 0 → g.pn = false) (op rd imm : Nat)
    (ok : (match op with | 0x06 => true | 0x27 => !lane && rd == 0 && imm / 65536 == 0 | _ => false) = true) (ho : op < 64)
    (hd : rd < 32) (hi : imm < 131072) :
    islorDefined lane (encU g op rd imm) = true := by
  obtain ⟨a, b, c, d, e⟩ := fieldOf_encU g ho hd hi
  simp only [islorDefined, a, b, c, d, e, guard_legal hg, Bool.true_and]
  split at ok <;> first | exact ok | rfl | exact absurd ok (by decide)

/-- BR is defined in both profiles, CALL on cores. -/
theorem islorDefined_encB (lane : Bool) {g : Guard} (hg : g.pg = 0 → g.pn = false) (off : BitVec 22) :
    islorDefined lane (encB g 0x18 off) = true ∧ islorDefined lane (encB g 0x19 off) = !lane := by
  obtain ⟨a, b, c⟩ := fieldOf_encB g (show 0x18 < 64 by omega) off
  obtain ⟨a', b', c'⟩ := fieldOf_encB g (show 0x19 < 64 by omega) off
  exact ⟨by simp only [islorDefined, a, b, c, guard_legal hg, Bool.true_and],
    by simp only [islorDefined, a', b', c', guard_legal hg, Bool.true_and]⟩

/-- LOOPN is defined in lanes. -/
theorem islorDefined_encL {g : Guard} (hg : g.pg = 0 → g.pn = false) (rs : RegNo) (max : Fin 64) (len : Fin 512) :
    islorDefined true (encL g 0x1B rs.val max.val len.val) = true := by
  obtain ⟨a, b, c, d⟩ := fieldOf_encL g (show 0x1B < 64 by omega) rs.isLt max.isLt len.isLt
  simp only [islorDefined, a, b, c, d, guard_legal hg, Bool.true_and]
  rfl

/-! ### Core pairs -/

theorem pairIx_lt (p : Pair) : pairIx p < 2 := by cases p <;> decide

theorem Device.setCore_setCore (d : Device) {h : Nat} (hh : h < 2) (f k : CorePair → CorePair) :
    (d.setCore h f).setCore h k = d.setCore h fun c => k (f c) := by
  unfold Device.setCore
  congr 1
  have := Device.corePair_setCore d hh f
  unfold Device.setCore at this
  rw [this]
  simp [Vector.setIfInBounds_setIfInBounds]

theorem Device.setLane_congr (d : Device) (l : Nat) {f k : Lane → Lane} (e : f (d.lane l) = k (d.lane l)) :
    d.setLane l f = d.setLane l k := by
  unfold Device.setLane; rw [e]

theorem Device.setCore_congr (d : Device) (h : Nat) {f k : CorePair → CorePair} (e : f (d.corePair h) = k (d.corePair h)) :
    d.setCore h f = d.setCore h k := by
  unfold Device.setCore; rw [e]

/-- Using up the debug step changes nothing else of a core. -/
@[simp] theorem CorePair.stepped_leaves (c : CorePair) :
    c.stepped.g = c.g ∧ c.stepped.f = c.f ∧ c.stepped.p = c.p ∧ c.stepped.pc = c.pc ∧
    c.stepped.status = c.status ∧ c.stepped.epc = c.epc ∧ c.stepped.cause = c.cause ∧ c.stepped.tval = c.tval ∧
    c.stepped.vbase = c.vbase ∧ c.stepped.mscr = c.mscr ∧ c.stepped.pscr = c.pscr ∧ c.stepped.cycle = c.cycle ∧ c.stepped.instret = c.instret ∧
    c.stepped.sig = c.sig ∧ c.stepped.fflags = c.fflags ∧ c.stepped.mpub = c.mpub ∧ c.stepped.mpul = c.mpul ∧
    c.stepped.mpuctl = c.mpuctl ∧ c.stepped.wait = c.wait ∧ c.stepped.up = c.up ∧ c.stepped.asleep = c.asleep ∧ c.stepped.halted = c.halted ∧
    c.stepped.ie = c.ie ∧ c.stepped.prv = c.prv ∧ (∀ k a, c.stepped.mpuAdmits k a = c.mpuAdmits k a) ∧ c.stepped.step = false :=
  ⟨rfl, rfl, rfl, rfl, rfl, rfl, rfl, rfl, rfl, rfl, rfl, rfl, rfl, rfl, rfl, rfl, rfl, rfl, rfl, rfl, rfl, rfl, rfl, rfl, fun _ _ => rfl, rfl⟩

/-- Setting a core's step flag changes no interrupt. -/
theorem Device.pendingSource_setCore (d : Device) (h k : Nat) (f : CorePair → CorePair) :
    (d.setCore h f).pendingSource k = d.pendingSource k := by
  have a : (fun n => (d.setCore h f).aboveThr k n) = fun n => d.aboveThr k n := by
    funext n
    unfold Device.aboveThr
    have : (d.setCore h f).source n = d.source n := by
      unfold Device.source
      have l : (d.setCore h f).sourceLow n = d.sourceLow n := by
        have e (a b : Nat) : (d.setCore h f).bitAt a b = d.bitAt a b := rfl
        have e' (a b c : Nat) : (d.setCore h f).anyAt a b c = d.anyAt a b c := rfl
        have p : (d.setCore h f).pulses = d.pulses := rfl
        have q : (d.setCore h f).flk = d.flk := rfl
        simp only [Device.sourceLow, e, e', p, q]
      have m : (d.setCore h f).sourceMid n = d.sourceMid n := by
        have e (a b : Nat) : (d.setCore h f).bitAt a b = d.bitAt a b := rfl
        have e' (a b c : Nat) : (d.setCore h f).anyAt a b c = d.anyAt a b c := rfl
        have p : (d.setCore h f).pulses = d.pulses := rfl
        simp only [Device.sourceMid, e, e', p]
      have u : (d.setCore h f).sourceHigh n = d.sourceHigh n := by
        have e (a b c : Nat) : (d.setCore h f).anyAt a b c = d.anyAt a b c := rfl
        have b (a i : Nat) : (d.setCore h f).bitAt a i = d.bitAt a i := rfl
        have o (a : Fld) : (d.setCore h f).on a = d.on a := rfl
        have r (a : Nat) : (d.setCore h f).canRxSource a = d.canRxSource a := rfl
        have t (a : Nat) : (d.setCore h f).canTxSource a = d.canTxSource a := rfl
        simp only [Device.sourceHigh, e, b, o, r, t]
      rw [l, m, u]
    rw [this]; rfl
  have b : (fun n => (d.setCore h f).srcLevel k n) = fun n => d.srcLevel k n := rfl
  unfold Device.pendingSource Device.actSource
  rw [show (d.setCore h f).aboveThr k = d.aboveThr k from a, show (d.setCore h f).srcLevel k = d.srcLevel k from b]

theorem Device.memWord_setCore (d : Device) (h a n : Nat) (f : CorePair → CorePair) :
    (d.setCore h f).memWord a n = d.memWord a n := by
  induction n generalizing a with
  | zero => rfl
  | succ n ih => simp only [Device.memWord, ih]; rfl

/-- The fetch of an instruction on a pair whose debug step is used up, where it raises nothing and corrects nothing. -/
theorem Device.fetch_stepped (d : Device) {h : Nat} (hh : h < 2) (h1 : (d.fetch h).1 = none)
    (h2 : regionOf (d.corePair h).pc.toNat = .nvm → d.upsetAt (d.corePair h).pc.toNat 4 false = false) :
    (d.setCore h CorePair.stepped).fetch h = (none, d.setCore h CorePair.stepped) := by
  have m : (CorePair.stepped (d.corePair h)).mpuAdmits .fetch (CorePair.stepped (d.corePair h)).pc.toNat =
      (d.corePair h).mpuAdmits .fetch (d.corePair h).pc.toNat := rfl
  have c : (CorePair.stepped (d.corePair h)).pc = (d.corePair h).pc := rfl
  have u (b : Bool) : (d.setCore h CorePair.stepped).upsetAt (d.corePair h).pc.toNat 4 b = d.upsetAt (d.corePair h).pc.toNat 4 b := rfl
  generalize hx : regionOf (d.corePair h).pc.toNat = x at *
  cases x <;> cases hm : (d.corePair h).mpuAdmits .fetch (d.corePair h).pc.toNat <;>
    cases hu : d.upsetAt (d.corePair h).pc.toNat 4 true <;>
    simp_all [Device.fetch, Device.corePair_setCore d hh, Device.coreRead, Device.eccRead, Device.when_]
  all_goals (split <;> simp_all)

/-- A core pair that is ready executes the instruction itself: its debug step, if any, is used up. -/
theorem Device.runCore_ready {d : Device} {p : Pair} {g : Guard} (r : CoreReady d (pairIx p) g) {w : Word}
    (hw : islorDefined false w = true) (body : Device → CoreEnd) :
    d.runCore (pairIx p) g w body =
      match body (d.setCore (pairIx p) CorePair.stepped) with
      | .retire d' => d'.retireAt (pairIx p) ((d.corePair (pairIx p)).pc + 4#64)
      | .jump d' pc => d'.retireAt (pairIx p) pc
      | .wait d' x => d'.setCore (pairIx p) fun c => { c with wait := x }
      | .trap d' code tval => d'.trap (pairIx p) code tval := by
  have hp := pairIx_lt p
  have hf := Device.fetch_stepped d hp r.fetched r.clean
  have hi : (CorePair.stepped (d.corePair (pairIx p))).ie = (d.corePair (pairIx p)).ie := rfl
  have hq : (CorePair.stepped (d.corePair (pairIx p))).p = (d.corePair (pairIx p)).p := rfl
  have hc : (CorePair.stepped (d.corePair (pairIx p))).pc = (d.corePair (pairIx p)).pc := rfl
  have hn : (if (d.corePair (pairIx p)).ie = true then d.pendingSource (pairIx p) else none) = none := by
    split
    · exact r.calm ‹_›
    · rfl
  unfold Device.runCore
  simp only [r.acts, r.idle, Device.corePair_setCore d hp, Device.pendingSource_setCore, hi, hq, hc, hn, hf, hw, r.guarded,
    Bool.not_true, Bool.false_or, bne_self_eq_false, Bool.false_eq_true, if_false]
  all_goals cases body (d.setCore (pairIx p) CorePair.stepped) <;> rfl

/-! ### Instructions of both profiles, of cores, and of lanes -/

/-- A lane that is ready executes the instruction itself. -/
theorem Device.runLane_ready {d : Device} {l : Nat} {g : Guard} (r : LaneReady d l g) {w : Word}
    (hw : islorDefined true w = true) {slot : Nat} {job : Bool} (hs : d.runningSlot = some (slot, job)) {bad : Lane → Nat → Bool}
    (hb : bad (d.lane l) (d.get (SCR_KINFO_LEN slot)) = false) (body : Device → Lane → Lane) :
    d.runLane l g w bad body = d.setLane l fun v => body d (v.begun (laneCycles w)) := by
  obtain ⟨slot', job', h1, h2⟩ := r.running
  rw [hs] at h1
  obtain ⟨rfl, rfl⟩ := Prod.mk.inj (Option.some.inj h1)
  obtain ⟨row, hrow⟩ := Option.isSome_iff_exists.mp r.row
  have hlt : ¬ d.get (SCR_KINFO_LEN slot) ≤ (d.lane l).pc := by omega
  unfold Device.runLane
  simp only [hrow, hs, r.going, r.whole, hw, hb, hlt, r.guarded, Option.isSome_none, Bool.or_false, Bool.not_true, decide_false,
    Bool.false_eq_true, if_false, if_true]

theorem Device.Ready.legal {d : Device} {x : Ctx} (r : d.Ready x) : x.guard.pg = 0 → x.guard.pn = false := by
  obtain ⟨a, g⟩ := x
  cases a with
  | core p => exact CoreReady.legal r
  | lane l => exact LaneReady.legal r

/-- An instruction of both agents completes on an agent that is ready. -/
theorem regOp_ready {s : State} {x : Ctx} (r : s.dev.Ready x) {w : Word} (hw : ∀ lane, islorDefined lane w = true)
    (f : Files → Files) : regOp x w f s = .next (s.ran x (laneCycles w) f) := by
  obtain ⟨a, g⟩ := x
  cases a with
  | core p =>
    have r : CoreReady s.dev (pairIx p) g := r
    have hp := pairIx_lt p
    unfold regOp onCtl onDev
    simp only [r.awake, if_true, Device.runCore_ready r (hw false), Device.retireAt, Device.setCore_setCore _ hp]
    rfl
  | lane l =>
    have r : LaneReady s.dev l.val g := r
    obtain ⟨slot, job, h1, -⟩ := r.running
    unfold regOp onCtl onDev
    simp only [r.awake, if_true, Device.runLane_ready r (hw true) h1]
    rfl

/-- The cycles of a word of format R, by its opcode (R295). -/
theorem laneCycles_encR {g : Guard} {op : Nat} (rd rs1 rs2 : RegNo) (fn : Nat) (ho : op < 64) (hf : fn < 128) :
    laneCycles (encR g op rd.val rs1.val rs2.val fn) =
      if op = 0 then intCycles fn else if op = 0x20 then floatCycles fn else if op = 0x2A then 2 else 1 := by
  obtain ⟨-, -, c, -, -, -, k⟩ := fieldOf_encR g ho rd.isLt rs1.isLt rs2.isLt hf
  simp only [laneCycles, c, k]

/-- The cycles of a word of format I (R295). -/
theorem laneCycles_encI {g : Guard} {op rd rs1 imm : Nat} (ho : op < 64) (hd : rd < 32) (h1 : rs1 < 32) (hi : imm < 4096)
    (h0 : op ≠ 0) (h2 : op ≠ 0x20) : laneCycles (encI g op rd rs1 imm) = if op = 0x2A then 2 else 1 := by
  obtain ⟨-, -, c, -, -, -⟩ := fieldOf_encI g ho hd h1 hi
  simp only [laneCycles, c, h0, h2, if_false]

/-- The cycles of MOVI (R295). -/
theorem laneCycles_encU {g : Guard} {op rd imm : Nat} (ho : op < 64) (hd : rd < 32) (hi : imm < 131072)
    (h0 : op ≠ 0) (h2 : op ≠ 0x20) : laneCycles (encU g op rd imm) = if op = 0x2A then 2 else 1 := by
  obtain ⟨-, -, c, -, -⟩ := fieldOf_encU g ho hd hi
  simp only [laneCycles, c, h0, h2, if_false]

/-- An instruction of both agents completes on an agent that is ready, with its cycles in a lane named. -/
theorem regOp_cycles {s : State} {x : Ctx} (r : s.dev.Ready x) {w : Word} (hw : ∀ lane, islorDefined lane w = true) {n : Nat}
    (hn : laneCycles w = n) (f : Files → Files) : regOp x w f s = .next (s.ran x n f) := hn ▸ regOp_ready r hw f

/-- An operation of OP 0x00. -/
theorem intOp_ready {s : State} {x : Ctx} (r : s.dev.Ready x) {fn : Nat} (rd rs1 rs2 : RegNo) (hf : fn < 128)
    (ok : intFnOk fn rs2.val = true) (f : DWord → DWord → DWord) :
    intOp x fn rd rs1 rs2 f s = .next (s.ran x (intCycles fn) fun r => r.setG rd (f (r.gv rs1) (r.gv rs2))) := by
  have e := regOp_ready r (fun lane => islorDefined_encR lane r.legal 0x00 rd rs1 rs2 fn ok (by omega) hf)
    fun r => r.setG rd (f (r.gv rs1) (r.gv rs2))
  rwa [laneCycles_encR rd rs1 rs2 fn (by omega) hf, if_pos rfl] at e

/-- An operation with an immediate: ADDI, ANDI, ORI, XORI. -/
theorem immOp_ready {s : State} {x : Ctx} (r : s.dev.Ready x) {op : Nat} (ho : op = 1 ∨ op = 2 ∨ op = 3 ∨ op = 4) (rd rs1 : RegNo)
    (imm : BitVec 12) (f : DWord → DWord) : immOp x op rd rs1 imm f s = .next (s.ran x 1 fun r => r.setG rd (f (r.gv rs1))) := by
  have e := regOp_ready r (fun lane => islorDefined_encI lane r.legal op rd.val rs1.val imm.toNat
    (by rcases ho with rfl | rfl | rfl | rfl <;> rfl) (by omega) rd.isLt rs1.isLt imm.isLt) fun r => r.setG rd (f (r.gv rs1))
  rwa [laneCycles_encI (by omega) rd.isLt rs1.isLt imm.isLt (by omega) (by omega), if_neg (by omega)] at e

/-- A shift by an immediate; a W form takes an amount below 32. -/
theorem shiOp_ready {s : State} {x : Ctx} (r : s.dev.Ready x) {kind : Nat} (hk : kind < 4) (rd rs1 : RegNo) (w : Bool)
    (sh : BitVec 6) (hw : w = true → sh.toNat < 32) (f : DWord → DWord) :
    shiOp x kind rd rs1 w sh f s = .next (s.ran x 1 fun r => r.setG rd (f (r.gv rs1))) := by
  have := sh.isLt
  have hi : kind * 1024 + (if w then 512 else 0) + sh.toNat < 4096 := by split <;> omega
  have e := regOp_ready r (fun lane => islorDefined_encI lane r.legal 0x05 rd.val rs1.val _ (by
    cases w with
    | false => simp only [shiftOk, Bool.false_eq_true, if_false]; simp; omega
    | true => have := hw rfl; simp only [shiftOk, if_true]; simp; omega) (by omega) rd.isLt rs1.isLt hi)
    fun r => r.setG rd (f (r.gv rs1))
  have c : laneCycles (encI x.guard 0x05 rd.val rs1.val (kind * 1024 + (if w then 512 else 0) + sh.toNat)) = 1 :=
    laneCycles_encI (by decide) rd.isLt rs1.isLt hi (by decide) (by decide)
  rw [c] at e
  exact e

/-- An operation of OP 0x20 with a floating-point result. -/
theorem floatOp_ready {s : State} {x : Ctx} (r : s.dev.Ready x) {fn : Nat} (rd rs1 rs2 : RegNo) (hf : fn < 128)
    (ok : floatFnOk fn rs2.val = true) (f : Files → FRes) :
    floatOp x fn rd rs1 rs2 f s = .next (s.ran x (floatCycles fn) fun r => r.setR rd (f r)) := by
  have e := regOp_ready r (fun lane => islorDefined_encR lane r.legal 0x20 rd rs1 rs2 fn ok (by omega) hf) fun r => r.setR rd (f r)
  rwa [laneCycles_encR rd rs1 rs2 fn (by omega) hf, if_neg (by omega), if_pos rfl] at e

/-- An operation of PLOG on two predicates. -/
theorem plogOp_ready {s : State} {x : Ctx} (r : s.dev.Ready x) {fn : Nat} (hf : fn ≤ 6) (pd a b : PredNo) (f : Bool → Bool → Bool) :
    plogOp x fn pd a b f s = .next (s.ran x 1 fun r => r.setP pd (f (r.pv a) (r.pv b))) := by
  have h (k : PredNo) : k.val < 32 := by omega
  have ok := fun lane => islorDefined_encR lane r.legal 0x1F ⟨pd.val, h pd⟩ ⟨a.val, h a⟩ ⟨b.val, h b⟩ fn
    (by simp [hf]) (by omega) (by omega)
  have e := regOp_ready r ok fun r => r.setP pd (f (r.pv a) (r.pv b))
  rw [laneCycles_encR ⟨pd.val, h pd⟩ ⟨a.val, h a⟩ ⟨b.val, h b⟩ fn (by omega) (by omega), if_neg (by omega), if_neg (by omega),
    if_neg (by omega)] at e
  exact e

/-- An instruction of Islor-C on a pair that is ready. -/
theorem coreOp_ready {s : State} {p : Pair} {g : Guard} (r : CoreReady s.dev (pairIx p) g) {w : Word}
    (hw : islorDefined false w = true) (body : Nat → Device → CoreEnd) :
    coreOp ⟨.core p, g⟩ w body s =
      .next (s.after (match body (pairIx p) (s.dev.setCore (pairIx p) CorePair.stepped) with
        | .retire d' => d'.retireAt (pairIx p) ((s.dev.corePair (pairIx p)).pc + 4#64)
        | .jump d' pc => d'.retireAt (pairIx p) pc
        | .wait d' x => d'.setCore (pairIx p) fun c => { c with wait := x }
        | .trap d' code tval => d'.trap (pairIx p) code tval)) := by
  unfold coreOp onCtl onDev
  simp only [r.awake, if_true, Device.runCore_ready r hw]
  rfl

/-- `n` bytes of memory make a number below 256^n. -/
theorem Device.memWord_lt (d : Device) (a n : Nat) : d.memWord a n < 256 ^ n := by
  induction n generalizing a with
  | zero => simp [Device.memWord]
  | succ n ih =>
    have := ih (a + 1)
    have := (d.memByte a).isLt
    simp only [Device.memWord, Nat.pow_succ]
    omega

/-- The sign extension of a loaded value. -/
theorem sextNat_eq {n v : Nat} (hn : 0 < n) (h : v < 2 ^ n) : sextNat n v = (BitVec.ofNat n v).signExtend 64 := by
  unfold sextNat signed
  rw [BitVec.signExtend]
  congr 1
  rw [BitVec.toInt_eq_toNat_cond, BitVec.toNat_ofNat, Nat.mod_eq_of_lt h]
  have : 2 ^ n = 2 * 2 ^ (n - 1) := by rw [← Nat.pow_succ']; congr 1; omega
  split <;> split <;> first | rfl | omega

/-- A read of memory that meets no bit error gives its bytes and changes nothing. -/
theorem Device.coreRead_memory (d : Device) {h a : Nat} (n : Nat) (hr : readsMemory h a = true) (hs : d.soundAt a n = true) :
    d.coreRead h a n = (.value (d.memWord a n), d) := by
  obtain ⟨u1, u2⟩ : d.upsetAt a n true = false ∧ d.upsetAt a n false = false := by simpa [Device.soundAt] using hs
  unfold readsMemory at hr
  unfold Device.coreRead
  generalize regionOf a = x at *
  cases x <;> simp_all [Device.eccRead, Device.when_]

/-- A write to the pair's own TCM. -/
theorem Device.coreWrite_tcm (d : Device) {p : Pair} {a : Nat} (n v : Nat) (h : regionOf a = .tcm p) :
    d.coreWrite (pairIx p) a n v = (true, d.mwrite a n v) := by
  unfold Device.coreWrite; rw [h]; simp

/-- Words of loads and stores are defined on cores. -/
theorem islorDefined_access {g : Guard} (hg : g.pg = 0 → g.pn = false) {op : Nat} (rd rs1 : RegNo) (imm : BitVec 12)
    (ho : 8 ≤ op ∧ op ≤ 14 ∨ 16 ≤ op ∧ op ≤ 21) : islorDefined false (encI g op rd.val rs1.val imm.toNat) = true := by
  refine islorDefined_encI false hg op rd rs1 imm.toNat ?_ (by omega) rd.isLt rs1.isLt imm.isLt
  obtain rfl | rfl | rfl | rfl | rfl | rfl | rfl | rfl | rfl | rfl | rfl | rfl | rfl :
      op = 8 ∨ op = 9 ∨ op = 10 ∨ op = 11 ∨ op = 12 ∨ op = 13 ∨ op = 14 ∨ op = 16 ∨ op = 17 ∨ op = 18 ∨ op = 19 ∨ op = 20 ∨
      op = 21 := by omega
  all_goals rfl

/-- A load from memory on a pair that is ready. -/
theorem loadOp_ready {s : State} {p : Pair} {g : Guard} (r : CoreReady s.dev (pairIx p) g) {op : Nat} (rd rs1 : RegNo)
    (imm : BitVec 12) (n : Nat) (put : CorePair → Nat → CorePair) (ho : 8 ≤ op ∧ op ≤ 14 ∨ 16 ≤ op ∧ op ≤ 21) {a : Nat}
    (ha : (gAt (s.dev.corePair (pairIx p)).g rs1 + imm.signExtend 64).toNat = a) (h1 : a % n = 0)
    (h2 : (s.dev.corePair (pairIx p)).mpuAdmits .read a = true) (h3 : readsMemory (pairIx p) a = true)
    (h4 : s.dev.soundAt a n = true) :
    loadOp ⟨.core p, g⟩ op rd rs1 imm n put s = .next (s.after (s.dev.setCore (pairIx p) fun c =>
      { put c.stepped (s.dev.memWord a n) with
        pc := (s.dev.corePair (pairIx p)).pc + 4#64, instret := (put c.stepped (s.dev.memWord a n)).instret + 1#64,
        wait := .none })) := by
  have hp := pairIx_lt p
  subst ha
  unfold loadOp
  rw [coreOp_ready r (islorDefined_access r.legal rd rs1 imm ho)]
  simp only [Device.gv, Device.corePair_setCore _ hp, CorePair.stepped_leaves, immS, h1, h2,
    Device.coreRead_memory (s.dev.setCore (pairIx p) CorePair.stepped) n h3 h4, Device.memWord_setCore, ne_eq, not_true_eq_false, if_false, Bool.not_true,
    Bool.false_eq_true, Device.retireAt, Device.setCore_setCore _ hp]

/-- A store to the pair's own TCM, on a pair that is ready. -/
theorem storeOp_ready {s : State} {p : Pair} {g : Guard} (r : CoreReady s.dev (pairIx p) g) {op : Nat} (rs2 rs1 : RegNo)
    (imm : BitVec 12) (n : Nat) (data : CorePair → DWord) (ho : 8 ≤ op ∧ op ≤ 14 ∨ 16 ≤ op ∧ op ≤ 21) {a : Nat}
    (ha : (gAt (s.dev.corePair (pairIx p)).g rs1 + imm.signExtend 64).toNat = a) (h1 : a % n = 0)
    (h2 : (s.dev.corePair (pairIx p)).mpuAdmits .write a = true) (h3 : regionOf a = .tcm p) :
    storeOp ⟨.core p, g⟩ op rs2 rs1 imm n data s = .next (s.after
      ((s.dev.mwrite a n (data (s.dev.corePair (pairIx p)).stepped).toNat).coreDone (pairIx p) id)) := by
  have hp := pairIx_lt p
  subst ha
  unfold storeOp
  rw [coreOp_ready r (islorDefined_access r.legal rs2 rs1 imm ho)]
  simp only [Device.gv, Device.corePair_setCore _ hp, CorePair.stepped_leaves, immS, h1, h2, Device.coreWrite_tcm _ _ _ h3,
    ne_eq, not_true_eq_false, if_false, Bool.not_true, Bool.false_eq_true]
  have q (a n v : Nat) : (s.dev.setCore (pairIx p) CorePair.stepped).mwrite a n v =
      (s.dev.mwrite a n v).setCore (pairIx p) CorePair.stepped := rfl
  rw [q]
  simp only [Device.retireAt, Device.setCore_setCore _ hp, Device.coreDone]
  congr 2

/-- Words of the system operations without operands are defined on cores. -/
theorem islorDefined_sys {g : Guard} (hg : g.pg = 0 → g.pn = false) (x : Agent) {fn : Nat} (h : fn ≤ 6 ∨ fn = 0x11) :
    islorDefined false (sysWord ⟨x, g⟩ fn) = true := by
  refine islorDefined_encR false hg 0x25 0 0 0 fn ?_ (by omega) (by omega)
  obtain rfl | rfl | rfl | rfl | rfl | rfl | rfl | rfl :
      fn = 0 ∨ fn = 1 ∨ fn = 2 ∨ fn = 3 ∨ fn = 4 ∨ fn = 5 ∨ fn = 6 ∨ fn = 0x11 := by omega
  all_goals rfl

/-- Using up a debug step changes no control register's value. -/
theorem Device.csrValue_stepped (d : Device) (p : Pair) (k : Nat) :
    (d.setCore (pairIx p) CorePair.stepped).csrValue (pairIx p) k = d.csrValue (pairIx p) k := by
  unfold Device.csrValue
  simp only [Device.corePair_setCore _ (pairIx_lt p), CorePair.stepped_leaves]
  rfl

/-- A CSR operation that the level allows, on a pair that is ready. -/
theorem csrOp_ready {s : State} {p : Pair} {g : Guard} (r : CoreReady s.dev (pairIx p) g) {kind : Nat} (hk : kind < 4)
    (rd rs1 : RegNo) (k : Fin 64) (hl : csrListed k.val = true) (w : Bool) (new : DWord → DWord → DWord)
    (h1 : csrMayRead k.val (s.dev.corePair (pairIx p)).prv = true)
    (h2 : w = true → csrMayWrite k.val (s.dev.corePair (pairIx p)).prv = true) :
    csrOp ⟨.core p, g⟩ kind rd k rs1 w new s = .next (s.after
      (let old := s.dev.csrValue (pairIx p) k.val
       let d := (s.dev.setCore (pairIx p) CorePair.stepped).setGv (pairIx p) rd old
       Device.retireAt (if w then d.setCore (pairIx p) fun c => c.setCsr k.val (new old (gAt c.g rs1)) else d) (pairIx p)
         ((s.dev.corePair (pairIx p)).pc + 4#64))) := by
  have hp := pairIx_lt p
  have hw : islorDefined false (encI g 0x24 rd.val rs1.val (kind * 64 + k.val)) = true := by
    refine islorDefined_encI false r.legal 0x24 _ _ _ ?_ (by omega) rd.isLt rs1.isLt (by omega)
    have : (kind * 64 + k.val) % 64 = k.val := by omega
    simp [csrOk, this, hl]; omega
  have e : (!csrMayRead k.val (s.dev.corePair (pairIx p)).prv ||
      (w && !csrMayWrite k.val (s.dev.corePair (pairIx p)).prv)) = false := by
    rw [h1]; cases w <;> simp_all
  unfold csrOp
  rw [coreOp_ready r hw]
  simp only [Device.corePair_setCore _ hp, CorePair.stepped_leaves, e, Device.csrValue_stepped, Bool.false_eq_true, if_false]

/-- An instruction of Islor-S on a lane that is ready. -/
theorem laneOp_ready {s : State} {l : Fin 64} {g : Guard} (r : LaneReady s.dev l.val g) {w : Word}
    (hw : islorDefined true w = true) {slot : Nat} {job : Bool} (hs : s.dev.runningSlot = some (slot, job))
    {bad : Lane → Nat → Bool} (hb : bad (s.dev.lane l.val) (s.dev.get (SCR_KINFO_LEN slot)) = false)
    (body : Device → Lane → Lane) :
    laneOp ⟨.lane l, g⟩ w bad body s = .next (s.after (s.dev.setLane l.val fun v => body s.dev (v.begun (laneCycles w)))) := by
  unfold laneOp onCtl onDev
  simp only [r.awake, if_true, Device.runLane_ready r hw hs hb]
  rfl

end Sys2Proof.Machine
end

