-- ==== Sys2Proof/WellFormed.lean ====
section
/-! DEFINITION. Well-formed commands: what the spec asks of a command's operands beyond their types. -/

namespace Sys2Proof

open Machine

/-- The agent executes Islor-S (R268). -/
def isLane : Agent → Bool
  | .core _ => false
  | .lane _ => true

/-- A command is well formed: an Islor instruction is a word that its profile defines (R268, R271), an illegal word is one
that it does not, a frame's LEN counts its payload (R72), a checkpoint is 8 to 262,144 bytes in multiples of 8 (R424).
(DESIGN CHOICE, log 21.) -/
def wellFormed (i : Instr) : Bool :=
  match i with
  | .registerWrite _ _ _ => true
  | .lockSet _ _ => true
  | .epochTime _ => true
  | .throttleStep => true
  | .clockMonitorWindow _ => true
  | .pllLock => true
  | .modeRequestWatch => true
  | .modeRequestDormant => true
  | .modeRequestMuster => true
  | .modeRequestReady => true
  | .modeRequestPrecharge _ => true
  | .modeRequestTripped => true
  | .wakePin => true
  | .canWake => true
  | .toneAbsent _ => true
  | .rtcAlarm => true
  | .tripAckRelease => true
  | .tripClearKey _ => true
  | .tripClearWindowExpiry => true
  | .musterSelftestsDone _ => true
  | .pResetPin => true
  | .vfieldRise => true
  | .wResetPin => true
  | .wResetSoftware _ => true
  | .gReset _ _ => true
  | .appDomainRelease => true
  | .holdReassert _ => true
  | .holdWindowExpiry => true
  | .holdExpirySecondStage => true
  | .operationTimeout _ => true
  | .timeCounterCarry _ => true
  | .latchingLowWordRead _ => true
  | .controlDiePowerUp => true
  | .wakeFromS3 => true
  | .bellRing _ => true
  | .bellCheck _ => true
  | .markerInject => true
  | .recordPhaseLinkTake => true
  | .recordPhaseEnd _ => true
  | .commandIntervalStart => true
  | .commandFrameStart _ => true
  | .replyFrame _ f _ => f.len.toNat == f.payload.length
  | .retryDeadline _ => true
  | .recordReceived _ _ => true
  | .positionMissing _ _ => true
  | .alarmReceived _ _ => true
  | .traceArrival _ _ => true
  | .linkLoss _ => true
  | .enumerate _ _ _ => true
  | .calibrate _ _ _ => true
  | .enumerateAndCalibrate _ _ _ => true
  | .enumerationDone => true
  | .calibrationDone => true
  | .commandQueue _ _ => true
  | .replySpaceRelease _ => true
  | .periodWrite _ => true
  | .nodeTimerWrite _ _ => true
  | .portFence _ => true
  | .nodePowerUp _ _ => true
  | .nodeInternalFault _ => true
  | .nodeMarker _ _ _ => true
  | .nodeMarkerLost _ => true
  | .nodeWindowOpen _ _ => true
  | .nodeWindowEnd _ => true
  | .nodeRecordSend _ _ _ => true
  | .nodeBalancePause _ => true
  | .nodeBell _ _ _ => true
  | .nodeBellAbsentTstr _ => true
  | .nodeBellAbsentTbal _ => true
  | .nodeBellAbsentSleep _ => true
  | .nodeWhistle _ _ _ => true
  | .nodeComparatorSample _ _ _ => true
  | .nodeAlarmResend _ => true
  | .nodeAlarmRetry _ => true
  | .nodeSwitchFeedback _ _ => true
  | .nodeBalancePlanEnd _ => true
  | .nodeOverTemperature _ => true
  | .nodeTemperatureRecovered _ => true
  | .nodeBswTestSlot _ _ _ _ => true
  | .nodeSleepCheck _ _ _ => true
  | .nodeToneBurst _ => true
  | .nodeToneReceived _ _ => true
  | .nodeWakeIdle _ _ => true
  | .assign _ _ _ => true
  | .setring _ _ _ _ => true
  | .ping _ _ => true
  | .setdelay _ _ _ _ _ => true
  | .trace _ _ _ => true
  | .setper _ _ _ _ => true
  | .settim _ _ _ _ _ => true
  | .config _ _ _ _ => true
  | .setcmp _ _ _ _ _ => true
  | .balance _ _ _ _ => true
  | .stopbal _ _ => true
  | .switch _ _ _ _ => true
  | .setdiag _ _ _ _ _ _ => true
  | .owtest _ _ _ _ => true
  | .bswtest _ _ _ => true
  | .diagrd _ _ => true
  | .readid _ _ _ _ => true
  | .sleep _ _ _ _ _ _ _ => true
  | .release _ _ => true
  | .epochClose => true
  | .wireSuspectTimeout _ _ => true
  | .acqScoreboardWrite => true
  | .modidLoad _ => true
  | .lceWrite _ _ => true
  | .bmiFilterOutput _ _ => true
  | .fastFilterOutput _ _ => true
  | .stuckTimeout _ => true
  | .fastBandWrite _ _ _ => true
  | .imdPhaseTimer _ _ => true
  | .scorerStart => true
  | .scorerStop => true
  | .sweepStart => true
  | .invocationRetire _ _ => true
  | .publishInstant => true
  | .staleTimeout => true
  | .pubInitDone => true
  | .kernelLoad _ _ => true
  | .kernelLoadDone => true
  | .kernelSelect _ => true
  | .lutDataAccess _ => true
  | .jobStart _ _ => true
  | .jobDone => true
  | .laneFenceWrite _ => true
  | .penConfirmDeadline _ => true
  | .band1Persistence _ => true
  | .channelComparePass => true
  | .channelDisagree => true
  | .heartbeatTimeout => true
  | .tripNSensed => true
  | .arm => true
  | .disarm => true
  | .tableCompareWrite _ => true
  | .loosenKey _ => true
  | .loosenWindowExpiry => true
  | .penRelease _ _ => true
  | .bankRelease _ => true
  | .bankConnect _ _ => true
  | .bankOpen _ _ _ => true
  | .bankAbort _ _ => true
  | .clearWeld _ _ => true
  | .armatureMovement _ _ => true
  | .pullInEnd _ => true
  | .w0End _ => true
  | .prechargeEval _ => true
  | .prechargeRelease _ => true
  | .openGapExpiry _ => true
  | .coilCurrentZero _ => true
  | .openCheckEnd _ => true
  | .auxCheck _ _ => true
  | .resistorModelTick => true
  | .outputCurrentLimit _ => true
  | .coilCurrentLow _ _ => true
  | .seriesSwitchTest _ _ => true
  | .driversDisable => true
  | .shadowReleased _ => true
  | .shadowReleaseTimeout _ => true
  | .lockstepMismatch _ _ => true
  | .comparatorFault _ _ => true
  | .scrubLine _ _ => true
  | .testSlot _ _ => true
  | .watchdogExpiry _ => true
  | .watchdogKick _ _ => true
  | .softwareInterruptSet _ => true
  | .softwareInterruptClear _ => true
  | .interruptEntry _ => true
  | .thermalSample _ => true
  | .budgetStepDown => true
  | .sensorFailHoldExpiry => true
  | .orderlyTripSecondStage => true
  | .shutdownComparator _ => true
  | .shutdownGraceExpiry => true
  | .thermalRecoveryPowerUp => true
  | .bucketFill => true
  | .jobDispatch => true
  | .sleepRequest => true
  | .sleepDeadlineWake => true
  | .nvmWrite _ => true
  | .nvmAppend _ => true
  | .nvmRowStart => true
  | .nvmRowDone => true
  | .journalScanDone => true
  | .motorStart _ _ => true
  | .motorStop _ _ => true
  | .motorCoast _ _ => true
  | .motorClear _ _ => true
  | .speedReferenceWrite _ _ => true
  | .motorDisable _ => true
  | .motorFence _ => true
  | .currentLoopPeriod _ _ => true
  | .catchDecayDone _ => true
  | .catchMeasureDone _ _ => true
  | .alignDone _ => true
  | .noHandoverTimeout _ => true
  | .reverseRetryTimer _ => true
  | .observerLoss _ => true
  | .resyncTimeout _ => true
  | .phaseOverCurrent _ => true
  | .stageFault _ => true
  | .converterSelfCheck _ _ => true
  | .busUvRecovery _ => true
  | .motorLaneFault _ => true
  | .loadTurnOn _ => true
  | .loadTurnOff _ => true
  | .latchClear _ => true
  | .inrushEnd _ _ => true
  | .loadOverCurrent _ => true
  | .retryDue _ => true
  | .deferredRetry _ => true
  | .overCurrentCountReset _ => true
  | .openLoadDetect _ _ => true
  | .offStateDiag _ _ => true
  | .clampPulseEnd _ _ => true
  | .clampEnergyClear _ => true
  | .segmentSupplyFault _ _ => true
  | .groundLoss => true
  | .supplyRestored _ => true
  | .stuckOn _ => true
  | .loadFence _ => true
  | .canOfflineWrite _ _ => true
  | .canIntegrated _ => true
  | .canTxRequest _ _ _ => true
  | .canTxAbort _ _ _ => true
  | .canArbitrationStart _ _ => true
  | .canTxComplete _ _ => true
  | .canFrameReceived _ _ => true
  | .canError _ _ => true
  | .canRecoveryDone _ => true
  | .canStatusRead _ => true
  | .ethFrameReceived _ _ => true
  | .ethXon _ => true
  | .pauseRefresh _ => true
  | .ethPauseReceived _ _ => true
  | .ethFrameTransmit _ _ => true
  | .ethLinkChange _ _ _ _ => true
  | .mdioAddress _ _ _ _ _ => true
  | .mdioWrite _ _ _ _ _ => true
  | .mdioRead _ _ _ _ _ => true
  | .mdioDone _ _ => true
  | .timestampPop _ => true
  | .timestampKeySeek _ _ _ => true
  | .timeStepAbsolute _ => true
  | .timeStepRelative _ => true
  | .timeReinitKey _ => true
  | .rateAdjust _ => true
  | .outputArm _ _ => true
  | .outputEdge _ => true
  | .captureEdge _ _ => true
  | .partnerAliveChange _ => true
  | .partnerStandbyRateTimeout => true
  | .yieldTimeout => true
  | .secondaryActiveTimeout => true
  | .laneTrained _ _ => true
  | .laneDown _ => true
  | .actionMessage _ => true
  | .epochSummaryReceived _ => true
  | .epochMessage _ => true
  | .withdrawMessage => true
  | .sharedStateMirror _ => true
  | .shadowSet _ => true
  | .standbySlotStart => true
  | .pairJoin _ => true
  | .configImageReceived => true
  | .pairHand _ => true
  | .checkpointSend _ => true
  | .checkpointReceived bytes _ => decide (8 ≤ bytes.length) && decide (bytes.length ≤ 262144) && bytes.length % 8 == 0
  | .imageVerifyDone _ => true
  | .bootConfirm _ _ => true
  | .rollbackAdvance _ _ _ => true
  | .lifecycleKey _ _ => true
  | .keyProgram _ _ _ => true
  | .keyRevoke _ _ => true
  | .recoveryImage _ => true
  | .debugChallenge _ _ => true
  | .debugCheck _ _ => true
  | .supplyFault _ => true
  | .supplyQualified => true
  | .cpwrRetry => true
  | .vfieldLow => true
  | .vfieldLoss => true
  | .illegalInstruction a word => !islorDefined (isLane a) word
  | .add x rd rs1 rs2 => islorDefined (isLane x.agent) (encR x.guard 0x00 rd.val rs1.val rs2.val 0x00)
  | .sub x rd rs1 rs2 => islorDefined (isLane x.agent) (encR x.guard 0x00 rd.val rs1.val rs2.val 0x01)
  | .and x rd rs1 rs2 => islorDefined (isLane x.agent) (encR x.guard 0x00 rd.val rs1.val rs2.val 0x02)
  | .or x rd rs1 rs2 => islorDefined (isLane x.agent) (encR x.guard 0x00 rd.val rs1.val rs2.val 0x03)
  | .xor x rd rs1 rs2 => islorDefined (isLane x.agent) (encR x.guard 0x00 rd.val rs1.val rs2.val 0x04)
  | .andn x rd rs1 rs2 => islorDefined (isLane x.agent) (encR x.guard 0x00 rd.val rs1.val rs2.val 0x05)
  | .sll x rd rs1 rs2 => islorDefined (isLane x.agent) (encR x.guard 0x00 rd.val rs1.val rs2.val 0x06)
  | .srl x rd rs1 rs2 => islorDefined (isLane x.agent) (encR x.guard 0x00 rd.val rs1.val rs2.val 0x07)
  | .sra x rd rs1 rs2 => islorDefined (isLane x.agent) (encR x.guard 0x00 rd.val rs1.val rs2.val 0x08)
  | .rol x rd rs1 rs2 => islorDefined (isLane x.agent) (encR x.guard 0x00 rd.val rs1.val rs2.val 0x09)
  | .min x rd rs1 rs2 => islorDefined (isLane x.agent) (encR x.guard 0x00 rd.val rs1.val rs2.val 0x0A)
  | .max x rd rs1 rs2 => islorDefined (isLane x.agent) (encR x.guard 0x00 rd.val rs1.val rs2.val 0x0B)
  | .minu x rd rs1 rs2 => islorDefined (isLane x.agent) (encR x.guard 0x00 rd.val rs1.val rs2.val 0x0C)
  | .maxu x rd rs1 rs2 => islorDefined (isLane x.agent) (encR x.guard 0x00 rd.val rs1.val rs2.val 0x0D)
  | .clz x rd rs1 => islorDefined (isLane x.agent) (encR x.guard 0x00 rd.val rs1.val 0 0x0E)
  | .popc x rd rs1 => islorDefined (isLane x.agent) (encR x.guard 0x00 rd.val rs1.val 0 0x0F)
  | .addw x rd rs1 rs2 => islorDefined (isLane x.agent) (encR x.guard 0x00 rd.val rs1.val rs2.val 0x10)
  | .subw x rd rs1 rs2 => islorDefined (isLane x.agent) (encR x.guard 0x00 rd.val rs1.val rs2.val 0x11)
  | .sllw x rd rs1 rs2 => islorDefined (isLane x.agent) (encR x.guard 0x00 rd.val rs1.val rs2.val 0x16)
  | .srlw x rd rs1 rs2 => islorDefined (isLane x.agent) (encR x.guard 0x00 rd.val rs1.val rs2.val 0x17)
  | .sraw x rd rs1 rs2 => islorDefined (isLane x.agent) (encR x.guard 0x00 rd.val rs1.val rs2.val 0x18)
  | .mul x rd rs1 rs2 => islorDefined (isLane x.agent) (encR x.guard 0x00 rd.val rs1.val rs2.val 0x20)
  | .mulh x rd rs1 rs2 => islorDefined (isLane x.agent) (encR x.guard 0x00 rd.val rs1.val rs2.val 0x21)
  | .mulhu x rd rs1 rs2 => islorDefined (isLane x.agent) (encR x.guard 0x00 rd.val rs1.val rs2.val 0x22)
  | .mulw x rd rs1 rs2 => islorDefined (isLane x.agent) (encR x.guard 0x00 rd.val rs1.val rs2.val 0x23)
  | .div x rd rs1 rs2 => islorDefined (isLane x.agent) (encR x.guard 0x00 rd.val rs1.val rs2.val 0x28)
  | .divu x rd rs1 rs2 => islorDefined (isLane x.agent) (encR x.guard 0x00 rd.val rs1.val rs2.val 0x29)
  | .rem x rd rs1 rs2 => islorDefined (isLane x.agent) (encR x.guard 0x00 rd.val rs1.val rs2.val 0x2A)
  | .remu x rd rs1 rs2 => islorDefined (isLane x.agent) (encR x.guard 0x00 rd.val rs1.val rs2.val 0x2B)
  | .divw x rd rs1 rs2 => islorDefined (isLane x.agent) (encR x.guard 0x00 rd.val rs1.val rs2.val 0x2C)
  | .divuw x rd rs1 rs2 => islorDefined (isLane x.agent) (encR x.guard 0x00 rd.val rs1.val rs2.val 0x2D)
  | .remw x rd rs1 rs2 => islorDefined (isLane x.agent) (encR x.guard 0x00 rd.val rs1.val rs2.val 0x2E)
  | .remuw x rd rs1 rs2 => islorDefined (isLane x.agent) (encR x.guard 0x00 rd.val rs1.val rs2.val 0x2F)
  | .adds x rd rs1 rs2 => islorDefined (isLane x.agent) (encR x.guard 0x00 rd.val rs1.val rs2.val 0x30)
  | .subs x rd rs1 rs2 => islorDefined (isLane x.agent) (encR x.guard 0x00 rd.val rs1.val rs2.val 0x31)
  | .sel x rd rs1 rs2 p => islorDefined (isLane x.agent) (encR x.guard 0x00 rd.val rs1.val rs2.val (0x38 + p.val))
  | .addi x rd rs1 imm => islorDefined (isLane x.agent) (encI x.guard 0x01 rd.val rs1.val imm.toNat)
  | .andi x rd rs1 imm => islorDefined (isLane x.agent) (encI x.guard 0x02 rd.val rs1.val imm.toNat)
  | .ori x rd rs1 imm => islorDefined (isLane x.agent) (encI x.guard 0x03 rd.val rs1.val imm.toNat)
  | .xori x rd rs1 imm => islorDefined (isLane x.agent) (encI x.guard 0x04 rd.val rs1.val imm.toNat)
  | .slli x rd rs1 w sh => islorDefined (isLane x.agent) (encI x.guard 0x05 rd.val rs1.val (0 + (if w then 512 else 0) + sh.toNat))
  | .srli x rd rs1 w sh => islorDefined (isLane x.agent) (encI x.guard 0x05 rd.val rs1.val (1024 + (if w then 512 else 0) + sh.toNat))
  | .srai x rd rs1 w sh => islorDefined (isLane x.agent) (encI x.guard 0x05 rd.val rs1.val (2048 + (if w then 512 else 0) + sh.toNat))
  | .roli x rd rs1 w sh => islorDefined (isLane x.agent) (encI x.guard 0x05 rd.val rs1.val (3072 + (if w then 512 else 0) + sh.toNat))
  | .moviL x rd v => islorDefined (isLane x.agent) (encU x.guard 0x06 rd.val v.toNat)
  | .moviH x rd v => islorDefined (isLane x.agent) (encU x.guard 0x06 rd.val (65536 + v.toNat))
  | .lb x rd rs1 imm => islorDefined (isLane x.agent) (encI x.guard 0x08 rd.val rs1.val imm.toNat)
  | .lbu x rd rs1 imm => islorDefined (isLane x.agent) (encI x.guard 0x09 rd.val rs1.val imm.toNat)
  | .lh x rd rs1 imm => islorDefined (isLane x.agent) (encI x.guard 0x0A rd.val rs1.val imm.toNat)
  | .lhu x rd rs1 imm => islorDefined (isLane x.agent) (encI x.guard 0x0B rd.val rs1.val imm.toNat)
  | .lw x rd rs1 imm => islorDefined (isLane x.agent) (encI x.guard 0x0C rd.val rs1.val imm.toNat)
  | .lwu x rd rs1 imm => islorDefined (isLane x.agent) (encI x.guard 0x0D rd.val rs1.val imm.toNat)
  | .ld x rd rs1 imm => islorDefined (isLane x.agent) (encI x.guard 0x0E rd.val rs1.val imm.toNat)
  | .sb x rd rs1 imm => islorDefined (isLane x.agent) (encI x.guard 0x10 rd.val rs1.val imm.toNat)
  | .sh x rd rs1 imm => islorDefined (isLane x.agent) (encI x.guard 0x11 rd.val rs1.val imm.toNat)
  | .sw x rd rs1 imm => islorDefined (isLane x.agent) (encI x.guard 0x12 rd.val rs1.val imm.toNat)
  | .sd x rd rs1 imm => islorDefined (isLane x.agent) (encI x.guard 0x13 rd.val rs1.val imm.toNat)
  | .fld x rd rs1 imm => islorDefined (isLane x.agent) (encI x.guard 0x14 rd.val rs1.val imm.toNat)
  | .fsd x rd rs1 imm => islorDefined (isLane x.agent) (encI x.guard 0x15 rd.val rs1.val imm.toNat)
  | .br x off => islorDefined (isLane x.agent) (encB x.guard 0x18 off)
  | .call x off => islorDefined (isLane x.agent) (encB x.guard 0x19 off)
  | .jr x rd rs1 => islorDefined (isLane x.agent) (encR x.guard 0x1A rd.val rs1.val 0 0)
  | .loopn x rs mx len => islorDefined (isLane x.agent) (encL x.guard 0x1B rs.val mx.val len.val)
  | .cmp x pd fn rs1 rs2 => islorDefined (isLane x.agent) (encR x.guard 0x1C pd.val rs1.val rs2.val (cmpCode fn))
  | .cmpi x pd fn rs1 imm => islorDefined (isLane x.agent) (encI x.guard 0x1D (cmpICode fn * 8 + pd.val) rs1.val imm.toNat)
  | .cmpiu x pd fn rs1 imm => islorDefined (isLane x.agent) (encI x.guard 0x1E (cmpICode fn * 8 + pd.val) rs1.val imm.toNat)
  | .fcmp x pd fn rs1 rs2 => islorDefined (isLane x.agent) (encR x.guard 0x21 pd.val rs1.val rs2.val (fcmpCode fn))
  | .plogAnd x pd a b => islorDefined (isLane x.agent) (encR x.guard 0x1F pd.val a.val b.val 0)
  | .plogOr x pd a b => islorDefined (isLane x.agent) (encR x.guard 0x1F pd.val a.val b.val 1)
  | .plogXor x pd a b => islorDefined (isLane x.agent) (encR x.guard 0x1F pd.val a.val b.val 2)
  | .plogAndn x pd a b => islorDefined (isLane x.agent) (encR x.guard 0x1F pd.val a.val b.val 3)
  | .plogSet x pd => islorDefined (isLane x.agent) (encR x.guard 0x1F pd.val 0 0 4)
  | .plogClr x pd => islorDefined (isLane x.agent) (encR x.guard 0x1F pd.val 0 0 5)
  | .plogTst x pd rs1 => islorDefined (isLane x.agent) (encR x.guard 0x1F pd.val rs1.val 0 6)
  | .fadd x rd rs1 rs2 => islorDefined (isLane x.agent) (encR x.guard 0x20 rd.val rs1.val rs2.val 0x00)
  | .fsub x rd rs1 rs2 => islorDefined (isLane x.agent) (encR x.guard 0x20 rd.val rs1.val rs2.val 0x01)
  | .fmul x rd rs1 rs2 => islorDefined (isLane x.agent) (encR x.guard 0x20 rd.val rs1.val rs2.val 0x02)
  | .fdiv x rd rs1 rs2 => islorDefined (isLane x.agent) (encR x.guard 0x20 rd.val rs1.val rs2.val 0x03)
  | .fsqrt x rd rs1 => islorDefined (isLane x.agent) (encR x.guard 0x20 rd.val rs1.val 0 0x04)
  | .fmin x rd rs1 rs2 => islorDefined (isLane x.agent) (encR x.guard 0x20 rd.val rs1.val rs2.val 0x05)
  | .fmax x rd rs1 rs2 => islorDefined (isLane x.agent) (encR x.guard 0x20 rd.val rs1.val rs2.val 0x06)
  | .fabs x rd rs1 => islorDefined (isLane x.agent) (encR x.guard 0x20 rd.val rs1.val 0 0x07)
  | .fneg x rd rs1 => islorDefined (isLane x.agent) (encR x.guard 0x20 rd.val rs1.val 0 0x08)
  | .fmac x rd rs1 rs2 => islorDefined (isLane x.agent) (encR x.guard 0x20 rd.val rs1.val rs2.val 0x09)
  | .fmvFg x rd rs1 => islorDefined (isLane x.agent) (encR x.guard 0x20 rd.val rs1.val 0 0x0A)
  | .fmvGf x rd rs1 => islorDefined (isLane x.agent) (encR x.guard 0x20 rd.val rs1.val 0 0x0B)
  | .fcvtFg x rd rs1 => islorDefined (isLane x.agent) (encR x.guard 0x20 rd.val rs1.val 0 0x0C)
  | .fcvtFgu x rd rs1 => islorDefined (isLane x.agent) (encR x.guard 0x20 rd.val rs1.val 0 0x0D)
  | .fcvtGfRne x rd rs1 => islorDefined (isLane x.agent) (encR x.guard 0x20 rd.val rs1.val 0 0x10)
  | .fcvtGfRtz x rd rs1 => islorDefined (isLane x.agent) (encR x.guard 0x20 rd.val rs1.val 0 0x11)
  | .fcvtGfRdn x rd rs1 => islorDefined (isLane x.agent) (encR x.guard 0x20 rd.val rs1.val 0 0x12)
  | .fcvtGfRup x rd rs1 => islorDefined (isLane x.agent) (encR x.guard 0x20 rd.val rs1.val 0 0x13)
  | .fcvtGfRna x rd rs1 => islorDefined (isLane x.agent) (encR x.guard 0x20 rd.val rs1.val 0 0x14)
  | .fsel x rd rs1 rs2 p => islorDefined (isLane x.agent) (encR x.guard 0x20 rd.val rs1.val rs2.val (0x38 + p.val))
  | .csrr x rd c => islorDefined (isLane x.agent) (encI x.guard 0x24 rd.val 0 c.val)
  | .csrw x rd c rs1 => islorDefined (isLane x.agent) (encI x.guard 0x24 rd.val rs1.val (64 + c.val))
  | .csrs x rd c rs1 => islorDefined (isLane x.agent) (encI x.guard 0x24 rd.val rs1.val (128 + c.val))
  | .csrc x rd c rs1 => islorDefined (isLane x.agent) (encI x.guard 0x24 rd.val rs1.val (192 + c.val))
  | .ecall x => islorDefined (isLane x.agent) (encR x.guard 0x25 0 0 0 0x00)
  | .eret x => islorDefined (isLane x.agent) (encR x.guard 0x25 0 0 0 0x01)
  | .wfi x => islorDefined (isLane x.agent) (encR x.guard 0x25 0 0 0 0x02)
  | .wfiWake _ => true
  | .brk x => islorDefined (isLane x.agent) (encR x.guard 0x25 0 0 0 0x03)
  | .fence x => islorDefined (isLane x.agent) (encR x.guard 0x25 0 0 0 0x04)
  | .fenceIo x => islorDefined (isLane x.agent) (encR x.guard 0x25 0 0 0 0x05)
  | .fenceIoComplete _ => true
  | .fenceI x => islorDefined (isLane x.agent) (encR x.guard 0x25 0 0 0 0x06)
  | .epwE x rd rs1 => islorDefined (isLane x.agent) (encR x.guard 0x25 rd.val rs1.val 0 0x08)
  | .epwC x rd rs1 => islorDefined (isLane x.agent) (encR x.guard 0x25 rd.val rs1.val 0 0x09)
  | .epwP x rd rs1 => islorDefined (isLane x.agent) (encR x.guard 0x25 rd.val rs1.val 0 0x0A)
  | .epochWaitEnd _ => true
  | .epochWaitTimeout _ => true
  | .end_ x => islorDefined (isLane x.agent) (encR x.guard 0x25 0 0 0 0x10)
  | .nop x => islorDefined (isLane x.agent) (encR x.guard 0x25 0 0 0 0x11)
  | .casW x rd rs1 rs2 => islorDefined (isLane x.agent) (encR x.guard 0x26 rd.val rs1.val rs2.val 0x00)
  | .casD x rd rs1 rs2 => islorDefined (isLane x.agent) (encR x.guard 0x26 rd.val rs1.val rs2.val 0x01)
  | .siga x c => islorDefined (isLane x.agent) (encU x.guard 0x27 0 c.toNat)
  | .sigs x rs1 => islorDefined (isLane x.agent) (encR x.guard 0x2C 0 rs1.val 0 1)
  | .sigc x rs1 => islorDefined (isLane x.agent) (encR x.guard 0x2C 0 rs1.val 0 0)
  | .kldW x rd k => islorDefined (isLane x.agent) (encR x.guard 0x28 rd.val k.val 0 0)
  | .kldWs x rd k => islorDefined (isLane x.agent) (encR x.guard 0x28 rd.val k.val 0 1)
  | .kldL x rd k => islorDefined (isLane x.agent) (encR x.guard 0x28 rd.val k.val 0 2)
  | .kldLs x rd k => islorDefined (isLane x.agent) (encR x.guard 0x28 rd.val k.val 0 3)
  | .kldH x rd k => islorDefined (isLane x.agent) (encR x.guard 0x28 rd.val k.val 0 4)
  | .kldHs x rd k => islorDefined (isLane x.agent) (encR x.guard 0x28 rd.val k.val 0 5)
  | .kldD x rd k => islorDefined (isLane x.agent) (encR x.guard 0x28 rd.val k.val 0 6)
  | .kstW x k rs1 => islorDefined (isLane x.agent) (encR x.guard 0x29 k.val rs1.val 0 0)
  | .kstL x k rs1 => islorDefined (isLane x.agent) (encR x.guard 0x29 k.val rs1.val 0 1)
  | .kstH x k rs1 => islorDefined (isLane x.agent) (encR x.guard 0x29 k.val rs1.val 0 2)
  | .kstD x k rs1 => islorDefined (isLane x.agent) (encR x.guard 0x29 k.val rs1.val 0 3)
  | .lut x rd rs1 t => islorDefined (isLane x.agent) (encI x.guard 0x2A rd.val rs1.val t.val)
  | .pubq x kind rs1 => islorDefined (isLane x.agent) (encR x.guard 0x2B 0 rs1.val 0 kind.toNat)
  | .releaseTestComplete _ _ => true
  | .sleepEntryComplete => true
  | .pauseExpiry _ => true
  | .tripAckAssert => true
  | .markerCheck _ => true
  | .markerAtListenEnd _ _ => true
  | .shadowReleaseReceived _ => true
  | .debugHalt _ _ => true
  | .scanExtest => true

end Sys2Proof
end

