-- ==== Sys2Proof/Tests/Slice0.lean ====
section
/-! SUPPORT. Small tests: what WellFormed refuses, words written out from their encodings, and for each statement that has
hypotheses concrete states and operands that meet them. -/

open Sys2Proof Sys2Proof.Machine

namespace Sys2Proof.Tests

set_option Elab.async false

/-- A running device, its application domain released, both core pairs up at their TCMs. -/
def up : State :=
  { State.reset with
    dev := { Device.reset with
      fd := { FieldDie.reset with ctl := .running }
      sys := { Sys.reset with appHeld := false, released := true }
      cpx := { Cpx.reset with core := #v[{ CorePair.reset with up := true, pc := 0x10000000#64, vbase := 0#64 },
        { CorePair.reset with up := true, pc := 0x10100000#64, vbase := 0#64 }] } } }

/-- A state with fields of registers set. -/
def put (s : State) (l : List (Fld × Nat)) : State := { s with dev := l.foldl (fun d p => d.put p.1 p.2) s.dev }

/-- A state with its field die changed. -/
def fd (s : State) (f : FieldDie → FieldDie) : State := { s with dev := { s.dev with fd := f s.dev.fd } }

/-- A state with what SYS keeps changed. -/
def sys (s : State) (f : Sys → Sys) : State := { s with dev := { s.dev with sys := f s.dev.sys } }

/-- A running device in mode m. -/
def inMode (m : Mode) : State := put up [(SYS_MODE_MODE, m.code)]

/-- A state with core pair A's registers changed. -/
def coreA (s : State) (f : CorePair → CorePair) : State := { s with dev := s.dev.setCore 0 f }

/-- Lane 0 about to execute its first instruction of a job on row 0 in kernel slot 0 of 16 instructions. -/
def lane0 (f : Lane → Lane) : State :=
  let s := put up [(SCR_KINFO_LEN 0, 16)]
  { s with dev := { s.dev with scr := { s.dev.scr with
      lanes := [(0, f { Lane.idle with row := some 0 })] } } }

/-- A state with its device changed. -/
def dv (s : State) (f : Device → Device) : State := { s with dev := f s.dev }

/-! ### Statements about clocks, supplies, resets and modes -/

theorem test_clock_supply_met :
    up.dev.awake = true ∧ up.dev.fd.clockBadPrev = false ∧ (fd up fun f => { f with clockBadPrev := true }).dev.fd.clockBadPrev = true ∧
    State.reset.dev.fd.ctl = .ramping ∧ State.reset.dev.fd.thermal = false ∧ State.reset.dev.fd.grace = false ∧
    (fd up fun f => { f with ctl := .locking }).dev.fd.ctl = .locking ∧
    (let s := fd up fun f => { f with ctl := .off, wakePending := some 0, down := .supply }
     s.dev.fd.ctl = .off ∧ s.dev.fd.thermal = false ∧ s.dev.fd.down ≠ .vfield ∧ s.dev.fd.wakePending.isSome = true ∧
     s.dev.fd.down = .supply) ∧
    (let s := fd up fun f => { f with ctl := .gated, sleep := .asleep 3, wakeIdx := some 1 }
     s.dev.fd.sleep = .asleep 3 ∧ s.dev.fd.ctl = .gated ∧ s.dev.fd.wakeIdx.isSome = true) ∧
    up.dev.fd.ctl = .running := by decide

theorem test_shutdown_field_supply_met :
    up.dev.healthy 0 = true ∧ up.dev.healthy 17 = true ∧ up.dev.fd.thermal = false ∧ up.dev.fd.ctl ≠ .off ∧
    (put up [(THM_SFAIL_FAIL, 0x20001)]).dev.healthy 0 = false ∧ (put up [(THM_SFAIL_FAIL, 0x20001)]).dev.healthy 17 = false ∧
    (fd up fun f => { f with grace := true }).dev.fd.grace = true ∧
    (let s := fd up fun f => { f with ctl := .off, thermal := true, down := .thermal }
     s.dev.fd.thermal = true ∧ s.dev.fd.ctl = .off ∧ s.dev.fd.down ≠ .vfield) ∧
    (fd up fun f => { f with lost := true }).dev.fd.lost = true ∧
    (let s := fd up fun f => { f with ctl := .off, down := .vfield }
     s.dev.fd.lost = false ∧ s.dev.fd.ctl = .off ∧ s.dev.fd.down = .vfield ∧ s.dev.fd.thermal = false) := by decide

theorem test_resets_hold_met :
    (let s := sys up fun y => { y with appHeld := true }
     s.dev.awake = true ∧ s.dev.sys.appHeld = true ∧ (put s [(SYS_MODE_MODE, 3)]).dev.mode ≠ .muster) ∧
    up.dev.awake = true ∧ up.dev.sys.appHeld = false ∧ (0x58#32 : Word) ≠ 0x57#32 ∧ (0xC2#32 : Word) ≠ 0xC3#32 ∧
    gUnit 0x15 0 = none ∧ gUnit 0x10 4 = none ∧ gUnit 0x11 2 = none ∧ gUnit 0x10 3 = some 0x6018C000 ∧
    gUnit 0 0 = some 0x60000000 ∧ up.dev.gAllowed 0 = false ∧ gUnit 2 0 = some 0x60020000 ∧ up.dev.gAllowed 2 = true ∧
    (∀ t, mapGet 0x60020000 up.dev.sys.genAt = some t → t + 10000000 ≤ up.dev.now) ∧ up.dev.nvc.row = none ∧
    (sys up fun y => { y with genAt := [(0x60020000, 0)] }).dev.genFresh 0x60020000 = true ∧
    (dv up fun d => { d with nvc := { d.nvc with row := some (65536, []) } }).dev.nvc.row ≠ none ∧
    (put up [(SYS_MODE_HOLD, 1)]).dev.holding = true ∧ up.dev.holding = false ∧
    (let s := put up [(SYS_MODE_HOLD, 1), (SYS_MODE_MODE, 3)]
     s.dev.holding = true ∧ s.dev.isActive = false ∧ s.dev.get PRL_ST_ROLE ≠ 2 ∧ s.dev.mode.live = true ∧ s.dev.mode ≠ .tripped) ∧
    (sys up fun y => { y with holdStage2 := true }).dev.sys.holdStage2 = true :=
  ⟨by decide, by decide, by decide, by decide, by decide, by decide, by decide, by decide, by decide, by decide, by decide,
    by decide, by decide, fun t h => by simp [up, mapGet, Device.reset, Sys.reset] at h, by decide, by decide, by decide, by decide,
    by decide, by decide, by decide⟩

/-- READY with the referee armed and the voltages of bank 0 measured. -/
def readyToConnect : State :=
  put up [(SYS_MODE_MODE, 3), (REF_ST_ARMED, 1), (BMI_ICFG_EN 0, 1), (BMI_ICFG_FUNC 0, 2), (BMI_ICFG_EN 1, 1), (BMI_ICFG_FUNC 1, 3),
    (CTD_PCV_UMIN 0, 0)]

theorem test_mode_requests_met :
    (let s := inMode .ready
     s.dev.awake = true ∧ s.dev.sys.appHeld = false ∧ s.dev.sys.reassertDue = false ∧ s.dev.on SYS_MODE_BUSY = false ∧
     s.dev.follower = false ∧ s.dev.mode = .ready ∧ s.dev.banksOpen = true ∧ s.dev.mode ≠ .watch ∧ s.dev.mode.live = true ∧
     s.dev.connectRefusal 0 true = some (.reject, 3)) ∧
    (let s := put up [(SYS_MODE_MODE, 3), (bankStFld 0, 2)]
     s.dev.sys.reassertDue = false ∧ s.dev.banksOpen = false) ∧
    (inMode .watch).dev.mode = .watch ∧ (inMode .muster).dev.mode = .muster ∧ (inMode .muster).dev.sys.mustSeen = false ∧
    (inMode .muster).dev.on PRL_CTL_EN = false ∧ (inMode .watch).dev.mode.live = false ∧
    (sys (inMode .muster) fun y => { y with mustSeen := true }).dev.sys.mustSeen = true ∧
    readyToConnect.dev.connectRefusal 0 true = none ∧
    (inMode .online).dev.anyClosed = false ∧ (inMode .degraded).dev.anyPrecharging = false := by decide

theorem test_wake_sleep_trip_reset_muster_met :
    (let s := put up [(SYS_MODE_MODE, 1), (CAN_WKCFG_WKEN 0, 1), (FLK_PCTL_ROLE 127, 1)]
     s.dev.fd.ctl = .running ∧ s.dev.mode = .watch ∧ s.dev.fd.sleep = .awake ∧ s.dev.on (CAN_WKCFG_WKEN 0) = true ∧
     s.dev.isDrive 127 = true ∧ s.dev.mode ≠ .tripped ∧ s.dev.mode ≠ .muster) ∧
    (let s := dv (sys up fun y => { y with ackLowAt := some 0 }) fun d => { d with now := 100000000 }
     s.dev.sys.ackLowAt = some 0 ∧ 0 + 100000000 ≤ s.dev.now) ∧
    (let s := dv (sys up fun y => { y with ackLowAt := some 0 }) fun d => { d with now := 99999999 }
     s.dev.sys.ackLowAt = some 0 ∧ s.dev.now < 0 + 100000000) ∧
    (let s := sys (inMode .tripped) fun y => { y with ackRelAt := some 0 }
     let s := { s with dev := { s.dev with ref := { s.dev.ref with quiet := 100 } } }
     s.dev.mode = .tripped ∧ s.dev.tripGone = true ∧ s.dev.sys.key1At = none ∧
     s.dev.within s.dev.sys.ackRelAt 5000000000 = true) ∧
    (let s := sys (inMode .tripped) fun y => { y with ackRelAt := some 0, key1At := some 0 }
     let s := { s with dev := { s.dev with ref := { s.dev.ref with quiet := 100 } } }
     s.dev.mode = .tripped ∧ s.dev.tripGone = true ∧ s.dev.within s.dev.sys.ackRelAt 5000000000 = true ∧
     s.dev.within s.dev.sys.key1At 10000000 = true) ∧
    (let s := sys (inMode .muster) fun y => { y with musterRuns := true }
     s.dev.mode = .muster ∧ s.dev.sys.musterRuns = true) ∧
    (let s := fd (inMode .watch) fun f => { f with sleep := .entering 1 }
     s.dev.fd.sleep = .entering 1 ∧ s.dev.fd.wakePending = none) ∧
    (let s := put up [(SYS_MODE_MODE, 1), (BUD_SLCTL_EN, 1), (BUD_SLCTL_MASK, 8)]
     s.dev.mode = .watch ∧ s.dev.on BUD_SLCTL_EN = true ∧ s.dev.sleepChoice = some 4) ∧
    (let s := put up [(SYS_MODE_MODE, 1), (BUD_SLCTL_EN, 1), (BUD_SLCTL_MASK, 0)]
     s.dev.on BUD_SLCTL_EN = true ∧ s.dev.sleepChoice = none) ∧
    (let s := fd (put up [(BUD_WKV_V, 4)]) fun f => { f with ctl := .gated, sleep := .asleep 2 }
     s.dev.earliest = some 2 ∧ s.dev.fd.sleep = .asleep 2 ∧ s.dev.fd.ctl = .gated) := by decide

theorem test_core_supervision_met :
    up.dev.pairUp 0 = true ∧ up.dev.pairUp 1 = true ∧ up.dev.get (CPX_SCRB_LINE 0) < 1023 ∧
    (put up [(CPX_SCRB_LINE 1, 1022)]).dev.get (CPX_SCRB_LINE 1) < 1023 ∧ up.dev.watchdogDue 0 = false ∧
    (put up [(CPX_WDT_EN 0, 1), (CPX_WDT_PER 0, 0)]).dev.watchdogDue 0 = true ∧
    (put up [(CPX_WDT_EN 1, 1), (CPX_WDT_PER 1, 0)]).dev.watchdogDue 1 = true ∧ (0x5D#32 : Word) ≠ 0x5C#32 := by decide

/-! ### Statements about kernels, NVM and security -/

/-- A state with what the scorer keeps changed. -/
def scr (s : State) (f : Scr → Scr) : State := { s with dev := { s.dev with scr := f s.dev.scr } }
/-- A state with what SEC keeps changed. -/
def sec (s : State) (f : Sec → Sec) : State := { s with dev := { s.dev with sec := f s.dev.sec } }
/-- A state with what NVC keeps changed. -/
def nvc (s : State) (f : Nvc → Nvc) : State := { s with dev := { s.dev with nvc := f s.dev.nvc } }

theorem test_kernel_nvm_met :
    up.dev.awake = true ∧ up.dev.sys.appHeld = false ∧ (1#8 : Byte).toNat ≠ up.dev.gen 0x60120000 ∧
    (0#8 : Byte).toNat = up.dev.gen 0x60120000 ∧
    (let s := scr up fun c => { c with load := some ⟨1, 0x20000000, 0, 0, false⟩ }
     s.dev.scr.load = some ⟨1, 0x20000000, 0, 0, false⟩ ∧ (⟨1, 0x20000000, 0, 0, false⟩ : KLoad).rom = false ∧
     s.dev.scr.load.isSome = true) ∧
    (let s := scr (put up [(SCR_KSRC_ADDR, 0x20000000)]) fun c => { c with load := none }
     s.dev.scr.load = none ∧ s.dev.scr.sweep = none ∧ s.dev.scr.job = none ∧ 7 ≠ s.dev.get SCR_KSEL_SLOT ∧
     imageSource (s.dev.get SCR_KSRC_ADDR) = true) ∧
    (1#8 : Byte).toNat ≠ up.dev.gen uNVC ∧ (0#8 : Byte).toNat = up.dev.gen uNVC ∧
    (let s := put up [(NVC_CNT_CNT, 1), (NVC_SRC_ADDR, 0x20000000), (NVC_DST_ROW, 16384), (NVC_ST_JRDY, 1)]
     s.dev.nvc.queue.length < 16 ∧ s.dev.get NVC_CNT_CNT = 1 ∧ s.dev.get NVC_SRC_ADDR = 0x20000000 ∧
     s.dev.rowWritable (s.dev.get NVC_DST_ROW) = true ∧ s.dev.on NVC_ST_JRDY = true) ∧
    (let q : NvmReq := ⟨.append, 0x20000000, 1, 0, 0, false⟩
     let s := nvc up fun n => { n with queue := [q] }
     s.dev.nvc.row = none ∧ s.dev.nvc.queue = q :: [] ∧ s.dev.nvmTempOk q.temp = true) ∧
    (let q : NvmReq := ⟨.append, 0x20000000, 1, 0, 0, false⟩
     let s := nvc up fun n => { n with queue := [q], row := some (65536, []) }
     s.dev.nvc.row = some (65536, []) ∧ s.dev.nvc.queue = q :: [] ∧ s.dev.nvc.orphan = false ∧ s.dev.nvc.resetDue = none) ∧
    up.dev.on NVC_ST_JRDY = false ∧ up.dev.journal = [] := by decide

theorem test_security_met :
    (1#8 : Byte).toNat ≠ up.dev.gen uSEC ∧ (0#8 : Byte).toNat = up.dev.gen uSEC ∧ up.dev.on SEC_OPST_BUSY = false ∧
    up.dev.nvc.queue.length < 16 ∧ (put up [(SEC_BST_TRIAL, 1)]).dev.on SEC_BST_TRIAL = true ∧ up.dev.on SEC_BST_TRIAL = false ∧
    (0#8 : Byte).toNat ≤ up.dev.sec.fwSvn ∧ (0#8 : Byte).toNat ≤ up.dev.topKrnSvn ∧
    (let s := sec up fun x => { x with key1At := some 0 }
     s.dev.on SEC_LC_STATE = false ∧ s.dev.within s.dev.sec.key1At 10000000 = true) ∧
    (2#2 : BitVec 2) ≠ 3 ∧ (put up [(SEC_KSRC_ADDR, 0x20000000)]).dev.get SEC_KSRC_ADDR = 0x20000000 ∧
    (up.dev.keySlot 7).valid = false ∧ up.dev.sec.fwSlot ≠ some 7 ∧ up.dev.sec.recovery = false ∧
    (let s := sec up fun x => { x with recovery := true }
     s.dev.sec.recovery = true ∧ (s.dev.corePair 0).up = true) ∧
    up.dev.sec.trying = [] ∧ (sec up fun x => { x with trying := [false, true] }).dev.sec.trying = false :: [true] ∧
    (let s := coreA up fun c => { c with up := false }
     (s.dev.corePair 0).up = false ∧ s.dev.get (CPX_PST_STATE 0) ≠ 3 ∧ (s.dev.cpx.restart[0]?).getD false = false) ∧
    (1#2 : BitVec 2) ≠ 0 ∧ up.dev.sec.nonce = false ∧ (sec up fun x => { x with nonce := true }).dev.sec.nonce = true ∧
    (let s := put up [(SEC_LC_STATE, 1), (DBG_UST_LEVEL, 1)]
     s.dev.on SEC_LC_STATE = true ∧ s.dev.get DBG_UST_LEVEL < 2) ∧
    (let s := put up [(CPX_PST_STATE 0, 0)]
     s.dev.on SEC_LC_STATE = false ∧ s.dev.get (CPX_PST_STATE 0) ≠ 1 ∧ s.dev.banksOpen = true) ∧
    ({ up.dev with prl := { up.dev.prl with join := some .image } } : Device).prl.join.isSome = true := by decide

/-! ### Statements about the flock link -/

/-- A state with what FLK keeps changed. -/
def flk (s : State) (f : Flk → Flk) : State := { s with dev := { s.dev with flk := f s.dev.flk } }
/-- A state with what FLK keeps of port end p changed. -/
def port (s : State) (p : Nat) (f : PortState → PortState) : State := { s with dev := s.dev.setPt p f }

theorem test_line_schedule_met :
    (inMode .watch).dev.mode.live = false ∧ (inMode .ready).dev.sequencing = true ∧ (inMode .ready).dev.follower = false ∧
    (let s := put up [(ACQ_CTL_EN, 1)]
     let s : State := { s with dev := { s.dev with acq := { s.dev.acq with opens := [⟨1, 0, 10, []⟩] } } }
     s.dev.on ACQ_CTL_EN = true ∧ s.dev.acq.opens = ⟨1, 0, 10, []⟩ :: [] ∧ s.dev.delivered 1 = true ∧ s.dev.on PRL_CTL_EN = false) ∧
    (let s := flk (port (put up [(ACQ_CTL_EN, 1), (FLK_PCTL_ROLE 0, 1), (FLK_PSTAT_NODES 0, 1)]) 0 fun v => { v with setper := true })
        fun f => { f with lastT := 5000000 }
     let o : OpenEpoch := ⟨1, 0, 10, []⟩
     let s : State := { s with dev := { s.dev with acq := { s.dev.acq with opens := [o] } } }
     s.dev.acq.opens = o :: [] ∧ s.dev.on ACQ_CTL_EN = true ∧ s.dev.delivered 1 = false ∧ s.dev.closeAt o ≤ max s.dev.now s.dev.nextEpochAt) ∧
    (let s := port (put up [(ACQ_CTL_EN, 1), (FLK_PCTL_ROLE 0, 1), (FLK_PSTAT_NODES 0, 1)]) 0 fun v => { v with setper := true }
     let o : OpenEpoch := ⟨1, 5000000, 10, []⟩
     let s : State := { s with dev := { s.dev with acq := { s.dev.acq with opens := [o] } } }
     s.dev.acq.opens = o :: [] ∧ s.dev.delivered 1 = false ∧ max s.dev.now s.dev.nextEpochAt < s.dev.closeAt o) ∧
    up.dev.acq.opens = [] ∧ (inMode .watch).dev.rings = false ∧
    (let s := put up [(SYS_MODE_MODE, 3), (REF_ST_CHOK, 1)]
     s.dev.mode.live = true ∧ s.dev.on REF_ST_CHOK = true ∧ s.dev.clockDead = false ∧ s.dev.ref.failed ≠ 3#2) ∧
    (fd up fun f => { f with clockCause := true, clockBadPrev := true }).dev.clockDead = true ∧
    (let s := put up [(FLK_PCTL_ROLE 127, 2)]
     s.dev.isListen 127 = true ∧ (s.dev.pt 127).bellIn = false ∧ (s.dev.pt 127).markIn = false ∧ s.dev.canBreak 127 = false) ∧
    up.dev.isListen 0 = false ∧ ((port up 0 fun v => { v with bellIn := true }).dev.pt 0).bellIn = true ∧
    ((port up 127 fun v => { v with phase := true }).dev.pt 127).phase = true ∧
    (let s := port (put up [(FLK_PCTL_ROLE 127, 2)]) 127 fun v => { v with setper := true }
     127 < s.dev.portCount ∧ s.dev.portEnabled 127 = true ∧ (s.dev.pt 127).setper = true) := by decide

theorem test_port_commands_met :
    127 < up.dev.portCount ∧ (1#8 : Byte).toNat ≠ up.dev.gen uFLK ∧ (0#8 : Byte).toNat = up.dev.gen uFLK ∧
    (up.dev.pt 127).out = none ∧ (up.dev.pt 127).queued = none ∧
    ((port up 127 fun v => { v with queued := some ⟨.firmware, 1#8, 3#8, [], 0⟩ }).dev.pt 127).queued.isSome = true ∧
    (let s := { up with dev := up.dev.rset (FLK_PFRM 127 0) 0xFD000000#32 }
     252 < (s.dev.pfrmByte 127 3).toNat) ∧
    (let s := { up with dev := up.dev.rset (FLK_PFRM 127 0) 0xFC000000#32 }
     (s.dev.pfrmByte 127 3).toNat ≤ 252 ∧ s.dev.on (FLK_PFEN_FEN 127) = false ∧ s.dev.follower = false) ∧
    up.dev.closesHeld 127 (up.dev.pfrmCmd 127 0) = false ∧ up.dev.flk.cmdOpen = false ∧
    (let c : FlkCmd := ⟨.firmware, 5#8, 3#8, [], 0⟩
     let s := flk (port (put up [(FLK_PCTL_ROLE 2, 1)]) 2 fun v => { v with queued := some c }) fun f => { f with cmdOpen := true }
     s.dev.portEnabled 2 = true ∧ (s.dev.pt 2).out = none ∧ (s.dev.pt 2).phase = false ∧ s.dev.flk.cmdOpen = true ∧
     s.dev.nextFrame 2 = some (c, s.dev.setPt 2 fun v => { v with queued := none }) ∧ c.src = .firmware ∧
     (s.dev.pt 2).used + 4 + replyMax c.opc.toNat ≤ 6144 ∧ s.dev.closesHeld 2 c = false ∧ s.dev.fits 2 c = true ∧ c.addr ≠ 0xFF#8 ∧
     (port s 2 fun v => { v with lineAt := 9900000 }).dev.fits 2 c = false) ∧
    (let c : FlkCmd := ⟨.firmware, 5#8, 3#8, [], 0⟩
     let s := port up 2 fun v => { v with out := some c }
     (s.dev.pt 2).out = some c ∧ c.gen = s.dev.gen uFLK ∧ (s.dev.pt 2).rgen = s.dev.rgen 0 ∧ (s.dev.pt 2).retried = false ∧
     c.src = .firmware ∧ ({ c with gen := 1 } : FlkCmd).gen ≠ s.dev.gen uFLK) ∧
    ((port up 2 fun v => { v with retried := true }).dev.pt 2).retried = true ∧
    (put up [(FLK_PSTAT_LINK 2, 1)]).dev.on (FLK_PSTAT_LINK 2) = true := by decide

theorem test_port_loss_met : (put up [(FLK_PSTAT_LINK 2, 1)]).dev.headStrings 2 = [] := by decide +kernel

/-- A reply with a wrong checksum, and one with a code violation. -/
theorem test_reply_frames_met :
    (let f : Frame := ⟨5#8, 3#8, 0#8, 0#8, [], 0#32, 0, 0, true⟩
     f.codeViolation = false ∧ f.eof = true ∧ f.len.toNat = f.payload.length ∧ frameCrcOk f = false ∧ { f with eof := false }.eof = false ∧
     { f with len := 1#8 }.len.toNat ≠ f.payload.length) ∧
    (⟨5#8, 3#8, 0#8, 0#8, [], 0#32, 1, 0, true⟩ : Frame).codeViolation = true ∧
    (let f : Frame := ⟨5#8, 0x83#8, 0#8, 1#8, [0#8], 0xBE067F58#32, 0, 0, true⟩
     f.codeViolation = false ∧ f.eof = true ∧ f.len.toNat = f.payload.length ∧ frameCrcOk f = true ∧ f.addr ≠ 0#8 ∧
     (∀ src ∈ [CmdSrc.firmware, .flk, .acq],
       let c : FlkCmd := ⟨src, 5#8, 3#8, [], 0⟩
       let s := port up 2 fun v => { v with out := some c }
       (s.dev.pt 2).out = some c ∧ s.dev.answers 2 c f = true ∧ c.gen = s.dev.gen uFLK ∧ s.dev.rgen 0 = (s.dev.pt 2).rgen)) := by
  decide +kernel

theorem test_flock_operations_met :
    up.dev.on FLK_OPST_BUSY = false ∧ (put up [(FLK_OPST_BUSY, 1)]).dev.on FLK_OPST_BUSY = true ∧
    (put up [(REF_ST_ARMED, 1)]).dev.on REF_ST_ARMED = true ∧ up.dev.on REF_ST_ARMED = false ∧ up.dev.follower = false ∧
    (let s := flk up fun f => { f with op := some .calibrate }
     s.dev.flk.op = some .calibrate ∧ s.dev.calibrated = true ∧ s.dev.flk.opGen = s.dev.gen uFLK ∧ s.dev.flk.opRgen = s.dev.rgen 0) ∧
    (let s := port (flk (put up [(FLK_PCTL_ROLE 0, 1)]) fun f => { f with op := some .calibrate, opEnds := [0] }) 0 fun v => { v with calib := [(1, 16)] }
     s.dev.flk.op = some .calibrate ∧ s.dev.calibrated = false) ∧
    (flk up fun f => { f with op := some (.enumerate true) }).dev.flk.op = some (.enumerate true) ∧
    (let s := port (put up [(FLK_PCTL_TOPO 0, 1)]) 1 fun v => { v with traceOut := true, measure := 2 }
     s.dev.isRing 0 = true ∧ (s.dev.pt 1).traceOut = true ∧ s.dev.on (FLK_PSTAT_FOLD 0) = false ∧ 1 < (s.dev.pt 1).measure) ∧
    (let s := port (put up [(FLK_PCTL_TOPO 0, 1)]) 1 fun v => { v with traceOut := true, measure := 1, traces := List.replicate 15 4 }
     s.dev.isRing 0 = true ∧ (s.dev.pt 1).traceOut = true ∧ (s.dev.pt 1).measure ≤ 1 ∧ 15 ≤ (s.dev.pt 1).traces.length) ∧
    ((1#7 : BitVec 7).toNat < 2 ∧ 100 < (101#7 : BitVec 7).toNat ∧ 2 ≤ (100#7 : BitVec 7).toNat ∧ (100#7 : BitVec 7).toNat ≤ 100) ∧
    up.dev.allAdmit 10 = true ∧ timersOk (up.dev.get FLK_NTIM_TSTR) (up.dev.get FLK_NTIM_TBAL) 10 (up.dev.on ACQ_LCE_EN) = true ∧
    up.dev.flk.lce = false ∧ up.dev.on FLK_EPER_LCE = false ∧ up.dev.on FLK_LOCK_LOCK = false ∧
    timersOk 500 100 (up.dev.get FLK_EPER_PER) (up.dev.on ACQ_LCE_EN) = true ∧
    timersOk 10 5 (up.dev.get FLK_EPER_PER) (up.dev.on ACQ_LCE_EN) = true := by decide

/-! ### Statements about acquisition and bank measurement -/

/-- A record of epoch 1 from the node at position 1. -/
def record : Record :=
  ⟨1#8, 1#8, 0#16, Vector.replicate 24 0#16, Vector.replicate 8 0#16, 0#16, 0#24, 0#8, 0#16, 3619785841#32, 0, 0⟩

/-- Port end 0 of a chain of 1 node, in the record phase of epoch 1. -/
def listening : State :=
  port (put up [(FLK_PCTL_ROLE 0, 1), (FLK_PSTAT_NODES 0, 1)]) 0 fun v => { v with phEpoch := 1, phase := true }

/-- A state with what ACQ keeps changed. -/
def acq (s : State) (f : Acq → Acq) : State := { s with dev := { s.dev with acq := f s.dev.acq } }

theorem test_acquisition_met :
    listening.dev.portEnabled 0 = true ∧ { record with violations := 1 }.codeViolation = true ∧ record.codeViolation = false ∧
    recordCrcOk { record with crc := 0#32 } = false ∧ recordCrcOk record = true ∧
    (let l := (listening.dev.linkUp 0).countCv 0 (record.violations + if listening.dev.contends 0 then 0 else record.stray)
     l.accepts 0 record = true) ∧
    (let s := put up [(FLK_PCTL_ROLE 0, 1)]
     let l := (s.dev.linkUp 0).countCv 0 (record.violations + if s.dev.contends 0 then 0 else record.stray)
     s.dev.portEnabled 0 = true ∧ l.accepts 0 record = false) ∧
    ((put up [(FLK_PCTL_ROLE 0, 1)]).dev.pt 0).phEpoch = 0 ∧ listening.dev.population 0 < 1 + 1 ∧
    ((listening.dev.pt 0).phEpoch ≠ 0 ∧ 0 + 1 ≤ listening.dev.population 0 ∧ (0 + 1) ∉ (listening.dev.pt 0).accepted ∧
      (0 + 1) ∉ (listening.dev.pt 0).missing ∧ listening.dev.epochOpen (listening.dev.pt 0).phEpoch = false) ∧
    up.dev.flk.op = none ∧ up.dev.acq.pend = [] ∧ up.dev.acq.ops = [] ∧ up.dev.sweepHolds = false ∧ up.dev.rowsFree = true ∧
    (acq up fun a => { a with pend := [⟨1, 10, 0, false, [], []⟩] }).dev.acq.pend = ⟨1, 10, 0, false, [], []⟩ :: [] ∧
    (acq up fun a => { a with pend := [⟨1, 10, 0, true, [], []⟩] }).dev.acq.pend = ⟨1, 10, 0, true, [], []⟩ :: [] ∧
    (dv up fun d => { d with scr := { d.scr with due := some (1, 10, 0) } }).dev.sweepHolds = true ∧
    (inMode .online).dev.mode ≠ .muster ∧ (inMode .online).dev.mode ≠ .ready ∧
    (inMode .ready).dev.mode = .ready ∧ (8191#13 : BitVec 13).toNat < up.dev.nodeLimit ∧ up.dev.currentInputs = [] ∧
    (let s := put up [(BMI_ICFG_EN 0, 1), (BMI_ICFG_FUNC 0, 1)]
     s.dev.currentInputs ≠ [] ∧
     timersOk (s.dev.get FLK_NTIM_TSTR) (s.dev.get FLK_NTIM_TBAL) (s.dev.get FLK_EPER_PER) true = true) := by decide +kernel

theorem test_wire_suspect_met :
    (acq up fun a => { a with wires := [(wireKey 8191 24, ⟨false, false⟩)] }).dev.wireSuspect 8191 24 = true := by decide +kernel

theorem test_bank_measurement_met :
    up.dev.on BMI_CTL_CLKEN = false ∧ up.dev.on (BMI_ICFG_EN 15) = false ∧
    (let s := put up [(BMI_CTL_CLKEN, 1), (BMI_ICFG_EN 15, 1), (BMI_ICFG_FUNC 15, 2), (BMI_FCFG_FEN 15, 1), (BMI_FCMP_LO 15, 0x8000),
        (BMI_FCMP_HI 15, 0x7FFF)]
     s.dev.on BMI_CTL_CLKEN = true ∧ s.dev.on (BMI_ICFG_EN 15) = true ∧
     (rawValue (s.dev.osr 15 ^ 3 / 2) (s.dev.osr 15 ^ 3)).natAbs ≤ 26214 ∧ s.dev.on (BMI_IST_STUCK 15) = false ∧
     s.dev.get (BMI_ICFG_FUNC 15) ≠ 1 ∧ s.dev.on (BMI_FCFG_FEN 15) = true ∧ (s.dev.bmi.comp[15]?).getD false = false ∧
     s.dev.gets (BMI_FCMP_LO 15) ≤ rawValue 4096 4096 ∧ rawValue 4096 4096 ≤ s.dev.gets (BMI_FCMP_HI 15)) ∧
    (let s := put up [(BMI_FCMP_HI 0, 5)]
     s.dev.mode ≠ .ready ∧ s.dev.gets (BMI_FCMP_HI 0) < signed 16 (6#16 : Half).toNat) ∧
    (inMode .ready).dev.mode = .ready ∧ (up.dev.im 3).phase = .idle ∧
    ((up.dev.setIm 3 fun v => { v with phase := .gapP }).im 3).phase = .gapP ∧
    ((up.dev.setIm 3 fun v => { v with phase := .p }).im 3).phase = .p := by decide +kernel

/-! ### Statements about contactors, drivers and the referee -/

/-- A state with what CTD keeps of bank b, or of driver k, changed, and one with what the referee keeps changed. -/
def bank (s : State) (b : Nat) (f : Bank → Bank) : State := { s with dev := s.dev.setBk b f }
def driver (s : State) (k : Nat) (f : Driver → Driver) : State := { s with dev := s.dev.setDk k f }
def referee (s : State) (f : Referee → Referee) : State := { s with dev := { s.dev with ref := f s.dev.ref } }

theorem test_contactor_sequences_met :
    up.dev.awake = true ∧ up.dev.sys.appHeld = false ∧ up.dev.sys.reassertDue = false ∧
    (sys up fun y => { y with reassertDue := true }).dev.sys.reassertDue = true ∧
    (1#8 : Byte).toNat ≠ up.dev.gen uCTD ∧ (0#8 : Byte).toNat = up.dev.gen uCTD ∧
    up.dev.connectRefusal 3 false = some (.reject, 11) ∧
    (put readyToConnect [(SYS_MODE_MODE, 5)]).dev.connectRefusal 0 false = none ∧
    (let s := bank (put up [(CTD_BST_PHASE 3, 1)]) 3 fun v => { v with uw := some 0, w0Rise := true }
     s.dev.phase 3 = .w0 ∧ (s.dev.bk 3).uw.isSome = true ∧ (s.dev.bk 3).w0Rise = true) ∧
    (let s := bank (put up [(CTD_BST_PHASE 0, 1)]) 0 fun v => { v with uw := some 0, w0Rise := false }
     (s.dev.bk 0).w0Rise = false) ∧
    (let s := bank (put up [(CTD_BST_PHASE 0, 2)]) 0 fun v => { v with u0 := some (-1), t := 9 }
     s.dev.get CTD_CTL_ROLE ≠ 2 ∧ s.dev.phase 0 = .pre ∧ (s.dev.bk 0).u0 = some (-1) ∧ (s.dev.judge 0 (-1)).1 = .complete) ∧
    (put up [(CTD_CTL_ROLE, 2)]).dev.get CTD_CTL_ROLE = 2 ∧
    (let s := bank (put up [(CTD_BST_PHASE 0, 2)]) 0 fun v => { v with u0 := some (-1), t := 0 }
     (s.dev.bk 0).u0 = some (-1) ∧ (s.dev.judge 0 (-1)).1 = .none) ∧
    (let s := bank (put up [(CTD_BST_PHASE 0, 2), (CTD_PCT_TAU 0, 0)]) 0 fun v => { v with u0 := some (-1), t := 0 }
     (s.dev.bk 0).u0 = some (-1) ∧ (s.dev.judge 0 (-1)).1 = .slowTime) ∧
    (put up [(CTD_BST_PHASE 1, 4)]).dev.phase 1 = .overlap ∧
    (let s := bank (put up [(CTD_BST_PHASE 1, 6)]) 1 fun v => { v with gapDue := true }
     s.dev.phase 1 = .opening ∧ (s.dev.bk 1).gapDue = true) ∧
    (let s := bank (put up [(CTD_BST_PHASE 2, 7)]) 2 fun v => { v with weldRun := 10, auxClosed := 0#3 }
     s.dev.phase 2 = .check ∧ s.dev.get CTD_CTL_ROLE ≠ 2 ∧ (s.dev.bk 2).auxClosed = 0#3 ∧ 10 ≤ (s.dev.bk 2).weldRun) ∧
    (let s := bank (put up [(CTD_BST_PHASE 2, 7)]) 2 fun v => { v with auxClosed := 5#3 }
     s.dev.phase 2 = .check ∧ s.dev.get CTD_CTL_ROLE ≠ 2 ∧ (s.dev.bk 2).auxClosed ≠ 0#3) ∧
    (let s := bank (put up [(CTD_BST_PHASE 2, 7)]) 2 fun v => { v with weldRun := 9, vxSeen := true, auxClosed := 0#3 }
     (s.dev.bk 2).weldRun < 10 ∧ (s.dev.bk 2).vxSeen = true) ∧
    (let s := bank (put up [(CTD_BST_PHASE 2, 7)]) 2 fun v => { v with weldRun := 0, vxSeen := false, auxClosed := 0#3 }
     (s.dev.bk 2).weldRun < 10 ∧ (s.dev.bk 2).vxSeen = false) ∧
    (up.dev.dk 9).waitRel = false ∧ (up.dev.dk 10).waitRel = false ∧ (up.dev.dk 11).waitRel = false ∧
    ((driver up 9 fun v => { v with waitRel := true }).dev.dk 9).waitRel = true := by decide +kernel

theorem test_driver_events_met :
    (let s := driver (put up [(CTD_DCFG_ARMEN 11, 1), (CTD_DST_STATE 11, 1)]) 11 fun v => { v with pulling := true, moved := false }
     s.dev.on (CTD_DCFG_ARMEN 11) = true ∧ s.dev.drvSt 11 = .pullIn ∧ (s.dev.dk 11).pulling = true ∧ (s.dev.dk 11).moved = false ∧
     (s.dev.drvSt 11).high = true ∧ (s.dev.dk 11).shortAt = none ∧ s.dev.get CTD_CTL_ROLE ≠ 2) ∧
    up.dev.drvSt 0 ≠ .pullIn ∧ (up.dev.dk 0).pulling = false ∧ (up.dev.drvSt 0).high = false ∧
    (∀ m ∈ [false, true], ∀ e ∈ [0, 1], ∀ st ∈ [0, 1],
      let s := driver (put up [(CTD_DCFG_ARMEN 0, e), (CTD_DST_STATE 0, st)]) 0 fun v => { v with pulling := true, moved := m }
      let d := (s.dev.setDk 0 fun v => { v with pulling := false }).when_
        ((s.dev.setDk 0 fun v => { v with pulling := false }).drvSt 0 == .pullIn) fun d => (d.setDrvSt 0 .hold).askShadow 0
      s.dev.get CTD_CTL_ROLE ≠ 2 ∧ (s.dev.dk 0).pulling = true ∧ d.on (CTD_DCFG_ARMEN 0) = (e == 1) ∧ (d.dk 0).moved = m) ∧
    (let s := put up [(CTD_DCFG_AUXEN 0, 1)]
     s.dev.on (CTD_DCFG_AUXEN 0) = true ∧ (s.dev.dk 0).auxDue = none) ∧
    (put up [(CTD_DCFG_AUXEN 0, 0)]).dev.on (CTD_DCFG_AUXEN 0) = false ∧
    (put up [(CTD_DCFG_ARMEN 0, 0)]).dev.on (CTD_DCFG_ARMEN 0) = false := by decide +kernel

theorem test_referee_events_met :
    up.dev.awake = true ∧ (∀ c ∈ up.dev.ref.confs, c.str ≠ 511) ∧
    (referee up fun r => { r with confs := [⟨511, 0⟩] }).dev.ref.confs.any (fun c => c.str == 511) = true ∧
    (let s := referee up fun r => { r with ib1 := r.ib1.set 3 true }
     s.dev.ref.ib1[3] = true ∧ s.dev.ref.ib1Raised[3] = false) ∧
    up.dev.copiesAgree = true ∧ (referee up fun r => { r with chB := [(REF_NMAP 0, 1#32)] }).dev.copiesAgree = false ∧
    (inMode .ready).dev.mode.live = true ∧ (inMode .ready).dev.on REF_ST_TRIPO = false ∧ (inMode .watch).dev.mode.live = false ∧
    (inMode .watch).dev.on REF_ST_TRIPO = false ∧ (put up [(REF_ST_TRIPO, 1)]).dev.on REF_ST_TRIPO = true ∧
    (inMode .ready).dev.mode = .ready ∧ (inMode .online).dev.mode ≠ .muster ∧ (inMode .online).dev.mode ≠ .ready ∧
    (inMode .muster).dev.mode = .muster := by decide +kernel


/-! ### Statements about releases, the scorer, the publish unit and the budget -/

/-- Bank 3 with its hold, its current input in service and 101 quiet epochs. -/
def heldBank : State :=
  referee (put up [(bankHoldFld 3, 1), (BMI_CTL_CLKEN, 1), (BMI_ICFG_EN 15, 1), (BMI_ICFG_BANK 15, 3), (BMI_ICFG_FUNC 15, 1)])
    fun r => { r with bankQuiet := #v[0, 0, 0, 101] }

/-- A string that the map does not hold valid has no nodes. -/
theorem stringNodes_invalid (d : Device) (s : Nat) (h : d.refGet .a (REF_SMAP_VALID s) ≠ 1) : d.stringNodes s = [] := by
  refine List.filter_eq_nil_iff.mpr fun i _ hi => h ?_
  simp only [Device.nodeString] at hi
  split at hi
  · rename_i hv
    have : d.nmapStr .a i = s := by simpa using hi
    simp only [this, Bool.and_eq_true, beq_iff_eq] at hv
    exact hv.2
  · simp at hi

theorem test_pen_releasable :
    (referee (put up [(penFld 511, 1)]) fun r => { r with headSwf0 := [(511, 1)] }).dev.penReleasable 511 = true := by
  have h : (referee (put up [(penFld 511, 1)]) fun r => { r with headSwf0 := [(511, 1)] }).dev.stringNodes 511 = [] :=
    stringNodes_invalid _ _ (by decide +kernel)
  simp only [Device.penReleasable, h, List.all_nil]
  decide +kernel

theorem test_referee_writes_met :
    up.dev.awake = true ∧ up.dev.sys.appHeld = false ∧ (1#8 : Byte).toNat ≠ up.dev.gen uREF ∧ (0#8 : Byte).toNat = up.dev.gen uREF ∧
    up.dev.follower = false ∧ 0x811 < (put up [(REF_TADDR_IDX, 0x812)]).dev.get REF_TADDR_IDX ∧
    (let s := put (inMode .ready) [(REF_ST_ARMED, 1)]
     s.dev.on REF_ST_LOOSE = false ∧ s.dev.mode = .ready ∧ s.dev.on REF_ST_ARMED = true ∧ s.dev.ref.key1At = none) ∧
    (let s := referee (put (inMode .ready) [(REF_ST_ARMED, 1)]) fun r => { r with key1At := some 0 }
     s.dev.ref.key1At = some 0 ∧ s.dev.now ≤ 0 + 10000000) ∧
    (inMode .online).dev.mode ≠ .ready ∧ (put up [(PRL_CTL_EN, 1), (PRL_ST_ROLE, 2)]).dev.follower = true ∧
    (let s := referee (put up [(penFld 511, 1)]) fun r => { r with headSwf0 := [(511, 1)] }
     s.dev.penHeld 511 = true ∧ s.dev.isActive = false ∧ s.dev.follower = false) ∧
    (let s := put up [(penFld 0, 1), (REF_SMAP_VALID 0, 1)]
     s.dev.penHeld 0 = true ∧ s.dev.penReleasable 0 = false) ∧
    (heldBank.dev.follower = false ∧ heldBank.dev.isActive = false ∧ heldBank.dev.bankHold 3 = true ∧ heldBank.dev.mode ≠ .tripped ∧
      heldBank.dev.inputValid 1 3 = true ∧ (heldBank.dev.ref.bankQuiet[3]?).getD 0 = 101) ∧
    (let s := put up [(bankHoldFld 0, 1), (SYS_MODE_MODE, 7)]
     s.dev.bankHold 0 = true ∧ s.dev.mode = .tripped) := by decide +kernel

/-- Word x of the table with its own value, plus `off`, in REF_TCMP and `new` in REF_TNEW. -/
def compareWrite (s : State) (x : Nat) (off new : Word) : State :=
  dv (put s [(REF_TADDR_IDX, x)]) fun d =>
    (d.rset REF_TCMP (d.refWord .a (0x60148000 + 4 * x) + off)).rset REF_TNEW new

/-- The hypotheses that every outcome of a compare-and-write shares. -/
def tableReady (s : State) (x : Nat) : Bool :=
  let d := s.dev.st uREF .ok
  !d.follower && d.get REF_TADDR_IDX == x && d.refWord .a (0x60148000 + 4 * x) == d.refWord .b (0x60148000 + 4 * x)

theorem test_table_outcomes_met :
    (let s := compareWrite up 0x811 1#32 1#32
     tableReady s 0x811 = true ∧ s.dev.refWord .a (0x60148000 + 4 * 0x811) ≠ s.dev.rget REF_TCMP) ∧
    (let s := compareWrite up 0x811 0#32 0#32
     tableReady s 0x811 = true ∧ s.dev.refWord .a (0x60148000 + 4 * 0x811) = s.dev.rget REF_TCMP ∧
     tableWordOk 0x811 (s.dev.rget REF_TNEW) = false) ∧
    (let s := compareWrite (put up [(REF_ST_ARMED, 1)]) 0 0#32 0xFFFF#32
     tableReady s 0 = true ∧ s.dev.refWord .a 0x60148000 = s.dev.rget REF_TCMP ∧ tableWordOk 0 (s.dev.rget REF_TNEW) = true ∧
     s.dev.on REF_ST_ARMED = true ∧ looserWord 0 (s.dev.refWord .a 0x60148000) (s.dev.rget REF_TNEW) = true ∧
     s.dev.on REF_ST_LOOSE = false ∧ (put s [(REF_ST_LOOSE, 1)]).dev.mode ≠ .ready) ∧
    (let s := compareWrite up 0 0#32 0xFFFF#32
     tableReady s 0 = true ∧ s.dev.refWord .a 0x60148000 = s.dev.rget REF_TCMP ∧ tableWordOk 0 (s.dev.rget REF_TNEW) = true ∧
     s.dev.on REF_ST_ARMED = false) ∧
    (let s := compareWrite (put (inMode .ready) [(REF_ST_ARMED, 1), (REF_ST_LOOSE, 1)]) 0 0#32 0xFFFF#32
     s.dev.on REF_ST_LOOSE = true ∧ s.dev.mode = .ready) ∧
    (let s := compareWrite (put up [(REF_ST_ARMED, 1)]) 0x811 0#32 0xF#32
     tableWordOk 0x811 (s.dev.rget REF_TNEW) = true ∧
     looserWord 0x811 (s.dev.refWord .a (0x60148000 + 4 * 0x811)) (s.dev.refWord .a (0x60148000 + 4 * 0x811)) = false) := by
  decide +kernel

theorem test_scorer_commands_met :
    up.dev.awake = true ∧ up.dev.sys.appHeld = false ∧ (put up [(SCR_CTL_RUN, 1)]).dev.on SCR_CTL_RUN = true ∧
    up.dev.on SCR_CTL_RUN = false ∧ up.dev.scr.job = none ∧
    (let s := put up [(SCR_LOCK_LOCK, 1), (SCR_KSEL_SLOT, 0)]
     s.dev.on SCR_LOCK_LOCK = true ∧ (7 : Fin 8).val ≠ s.dev.get SCR_KSEL_SLOT) ∧
    up.dev.on SCR_LOCK_LOCK = false ∧ up.dev.on (SCR_KINFO_VALID 7) = false ∧
    (put up [(SCR_KINFO_VALID 7, 1)]).dev.on (SCR_KINFO_VALID 7) = true ∧ up.dev.scrStopped = true ∧ (1#32 : Word) ≠ 0#32 ∧
    (put up [(SCR_ST_STATE, 1)]).dev.scrStopped = false ∧ (1#8 : Byte).toNat ≠ up.dev.gen uSCR ∧
    (let s := put up [(SCR_ST_STATE, 1), (SCR_KINFO_VALID 7, 1), (SCR_JCNT_COUNT, 1), (SCR_JROW_FIRST, 2), (SCR_ROWS_ROWS, 3)]
     (0#8 : Byte).toNat = s.dev.gen uSCR ∧ s.dev.on BUD_CTL_EN = false ∧ s.dev.scrStopped = false ∧ s.dev.scr.job = none ∧
     s.dev.on (SCR_KINFO_VALID 7) = true ∧ 0 < s.dev.get SCR_JCNT_COUNT ∧
     s.dev.get SCR_JROW_FIRST + s.dev.get SCR_JCNT_COUNT ≤ s.dev.get SCR_ROWS_ROWS) ∧
    (0#8 : BitVec 8).toNat ||| up.dev.get SCR_FENCE_FENCE = up.dev.get SCR_FENCE_FENCE ∧
    (0x80#8 : BitVec 8).toNat ||| up.dev.get SCR_FENCE_FENCE ≠ up.dev.get SCR_FENCE_FENCE ∧
    (let s := scr (put up [(SCR_CTL_RUN, 1), (PUB_CTL_EN, 1), (SCR_KINFO_VALID 0, 1)]) fun c => { c with due := some (1, 8, 0), sweep := none }
     let s := { s with dev := { s.dev with pub := { s.dev.pub with initd := true } } }
     s.dev.scr.due = some (1, 8, 0) ∧ s.dev.scr.sweep = none ∧ s.dev.scorerReady = true ∧ s.dev.lanesInService ≠ [] ∧
     (put s [(SCR_FENCE_FENCE, 255)]).dev.lanesInService = [] ∧ (put s [(SCR_FENCE_FENCE, 255)]).dev.scorerReady = true) ∧
    up.dev.scr.due = none ∧ (up.dev.lane 63).row = none ∧
    (let w : Sweep := ⟨1, 8, 0, 0, 64, [0], 0, 0, 0, 2, 0, 0⟩
     let s := scr (lane0 id) fun c => { c with sweep := some w }
     (s.dev.lane 0).row = some 0 ∧ s.dev.runningSlot = some (0, false) ∧ s.dev.scr.sweep = some w ∧ 1 < w.left) ∧
    (let j : Job := ⟨0, 0, 1, [0], 0, 0, none, true⟩
     (scr up fun c => { c with job := some j }).dev.scr.job = some j ∧ j.next = j.count ∧ { j with done := [] }.next ≠ j.count) := by decide +kernel

theorem test_publish_and_budget_met :
    up.dev.awake = true ∧ up.dev.pub.initd = false ∧
    ({ up.dev with pub := { up.dev.pub with initd := true } } : Device).pub.initd = true ∧ up.dev.pub.commit = none ∧
    ({ up.dev with pub := { up.dev.pub with commit := some (1, 0) } } : Device).pub.commit = some (1, 0) ∧
    up.dev.mayStepDown = false ∧
    (let s := put up [(THM_ST_STATE, 1), (THM_MIN_MIN, 0), (THM_ST_HOLD, 1)]
     s.dev.mayStepDown = true ∧ s.dev.on THM_ST_HOLD = true) ∧
    (let s := put up [(THM_ST_STATE, 1), (THM_MIN_MIN, 0), (THM_ST_HOLD, 0)]
     s.dev.mayStepDown = true ∧ s.dev.on THM_ST_HOLD = false) ∧
    up.dev.thm.due = false ∧ ({ up.dev with thm := { up.dev.thm with trip := true } } : Device).thm.trip = true ∧
    up.dev.on BUD_CTL_EN = false ∧
    (let s := scr (put up [(SCR_ST_STATE, 1), (BUD_CTL_EN, 1), (BUD_QCFG_EN 15, 1), (BUD_QCFG_ONCE 15, 1), (SCR_KINFO_VALID 0, 1),
        (BUD_QCNT_COUNT 15, 1), (SCR_ROWS_ROWS, 1), (BUD_QROW_FIRST 15, 0)]) fun c => { c with due := none, job := none }
     let s := { s with dev := { s.dev with bud := { s.dev.bud with bucket := 15680 } } }
     s.dev.get SCR_ST_STATE = 1 ∧ s.dev.on BUD_CTL_EN = true ∧ s.dev.scr.job = none ∧ s.dev.scr.due = none ∧
     ((List.range 16).filter s.dev.eligible).foldl s.dev.betterEntry none = some 15) := by decide +kernel

/-! ### Statements about loads, motors and CAN -/

theorem test_load_commands_met :
    up.dev.awake = true ∧ up.dev.sys.appHeld = false ∧ up.dev.sys.reassertDue = false ∧
    (sys up fun y => { y with reassertDue := true }).dev.sys.reassertDue = true ∧
    (let s := put (dv up fun d => d.setLoadSt 15 .off) [(LSW_CTL_EN, 1)]
     s.dev.loadSt 15 = .off ∧ s.dev.on LSW_CTL_EN = true) ∧
    (dv up fun d => d.setLoadSt 15 .latched).dev.loadSt 15 = .latched ∧
    (dv up fun d => d.setLoadSt 0 .locked).dev.loadSt 0 = .locked ∧
    (dv up fun d => d.setLoadSt 0 .fenced).dev.loadSt 0 = .fenced ∧ up.dev.loadSt 0 ≠ .latched := by decide +kernel

theorem test_load_events_met :
    up.dev.fd.outputsOff = false ∧ up.dev.loadSt 0 = .off ∧ up.dev.loadSt 0 ≠ .inrush ∧
    (dv up fun d => d.setLoadSt 15 .inrush).dev.loadSt 15 = .inrush ∧
    (let s := put (dv up fun d => d.setLoadSt 15 .on_) [(LSW_CCFG_RETRY 15, 0), (LSW_CST_CNT 15, 15)]
     let d := ((s.dev.put (LSW_CST_CNT 15) 15).count16 (LSW_OCCNT 15)).up (LSW_CEVT_OC 15)
     s.dev.loadSt 15 = .on_ ∧ min 15 (s.dev.get (LSW_CST_CNT 15) + 1) = 15 ∧ d.get (LSW_CCFG_RETRY 15) ≤ 15) ∧
    (let s := put (dv up fun d => d.setLoadSt 0 .inrush) [(LSW_CCFG_RETRY 0, 2), (LSW_CST_CNT 0, 0)]
     let d := ((s.dev.put (LSW_CST_CNT 0) 1).count16 (LSW_OCCNT 0)).up (LSW_CEVT_OC 0)
     s.dev.loadSt 0 = .inrush ∧ min 15 (s.dev.get (LSW_CST_CNT 0) + 1) = 1 ∧ 1 < d.get (LSW_CCFG_RETRY 0)) ∧
    (let s := put (dv up fun d => d.setLoadSt 3 .pause) [(LSW_CST_DEF 3, 0)]
     s.dev.loadSt 3 = .pause ∧ s.dev.on (LSW_CST_DEF 3) = false ∧ s.dev.neighbourInrush 3 = false) ∧
    (let s := put (dv up fun d => (d.setLoadSt 3 .pause).setLoadSt 0 .inrush) [(LSW_CST_DEF 3, 0)]
     s.dev.loadSt 3 = .pause ∧ s.dev.on (LSW_CST_DEF 3) = false ∧ s.dev.neighbourInrush 3 = true) ∧
    (let s := put (dv up fun d => d.setLoadSt 15 .on_) [(LSW_CCFG_OLR 15, 1)]
     s.dev.loadSt 15 = .on_ ∧ s.dev.on (LSW_CCFG_OLR 15) = true ∧ s.dev.on (LSW_CST_OPENL 15) = false) ∧
    (put up [(LSW_CCFG_OFFD 15, 1)]).dev.on (LSW_CCFG_OFFD 15) = true ∧ (6000 : Int) < 6001 ∧ (7000 : Int) ≤ 7000 ∧
    (dv up fun d => d.setLoadSt 3 .pause).dev.loadSt 3 ≠ .off ∧
    (let s := dv up fun d => d.setLoadSt 15 .inrush
     ((segChannels 3).any fun k => s.dev.loadSt k == .inrush) = true) ∧
    (let s := put (dv up fun d => d.setLoadSt 15 .pause) [(LSW_CST_DEF 15, 1)]
     ((segChannels 3).any fun k => s.dev.loadSt k == .inrush) = false ∧
     ((segChannels 3).find? fun k => s.dev.loadSt k == .pause && s.dev.on (LSW_CST_DEF k)) = some 15) ∧
    (1000 : Nat) ≤ 1000 ∧ (put up [(LSW_CCFG_CLM 0, 0)]).dev.on (LSW_CCFG_CLM 0) = false ∧
    (dv up fun d => d.setLoadSt 0 .fenced).dev.loadSt 0 = .fenced := by decide +kernel

/-- Unit 3 configured and stopped in READY. -/
def motor3 : State :=
  put (dv (inMode .ready) fun d => d.setMotSt 3 .stopped)
    [(MTR_CTL_EN, 15), (MTR_RL_RS 3, 1), (MTR_LDQ_LD 3, 1), (MTR_LDQ_LQ 3, 1), (MTR_KE_KE 3, 1), (MTR_RL_PP 3, 1), (MTR_ISC_IFS 3, 1),
     (MTR_ISC_VFS 3, 1), (MTR_LIM_IMAX 3, 1), (MTR_LIM_SMAX 3, 100), (MTR_BUS_VPAUSE 3, 1), (MTR_BUS_VOVF 3, 2), (MTR_SREF_SREF 3, 1),
     (MTR_RL_SAL 3, 0)]

theorem test_motor_commands_met :
    up.dev.awake = true ∧ up.dev.sys.appHeld = false ∧ up.dev.sys.reassertDue = false ∧
    (sys up fun y => { y with reassertDue := true }).dev.sys.reassertDue = true ∧ (1#8 : Byte).toNat ≠ up.dev.gen uMTR ∧
    (0#8 : Byte).toNat = up.dev.gen uMTR ∧ motor3.dev.startStatus 3 = .ok ∧ up.dev.startStatus 0 ≠ .ok ∧
    (dv up fun d => d.setMotSt 3 .run).dev.motSt 3 = .run ∧ ((dv up fun d => d.setMotSt 0 .run).dev.motSt 0).active = true ∧
    up.dev.motSt 0 ≠ .fault ∧ (dv up fun d => d.setMotSt 3 .fault).dev.motSt 3 = .fault ∧
    motor3.dev.get (MTR_LIM_SMAX 3) < (signed 16 (0xFF9B#16 : Half).toNat).natAbs ∧
    (signed 16 (0xFF9C#16 : Half).toNat).natAbs ≤ motor3.dev.get (MTR_LIM_SMAX 3) ∧ (0xFF9C#16 : Half) ≠ 0#16 := by decide +kernel

/-- R360, example: V_av = 0.949 × 560 V / √3 = 306.8 V; and R345: at TOP 6,250 a pulse shorter than a dead time of 1,000 ns is
removed. -/
theorem test_motor_law : vAvailable 243 5600 / 100 = 3068 ∧ gateTimes 6250 250 124 = (0, 12500) ∧ gateTimes 6250 250 125 = (0, 12000) ∧
    sinTurn 16384 = trigOne ∧ toFrame (1000, -500, -500) 0 = (1000, 0) := by decide +kernel

theorem test_motor_events_met :
    up.dev.awake = true ∧ (dv up fun d => d.setMotSt 3 .fenced).dev.motSt 3 = .fenced ∧
    (let s := dv up fun d => (d.setMotSt 3 .catch_).setMot 3 fun m => { m with measuring := true }
     s.dev.motSt 3 = .catch_ ∧ (s.dev.mot 3).measuring = true) ∧
    up.dev.motSt 0 ≠ .catch_ ∧ (dv up fun d => d.setMotSt 3 .align).dev.motSt 3 = .align ∧
    (let s := dv (put up [(MTR_SREF_SREF 3, 1), (MTR_HOV_HOV 3, 5)]) fun d => (d.setMotSt 3 .ifRamp).setMot 3 fun m => { m with ifq := 5 * nano }
     s.dev.motSt 3 = .ifRamp ∧ (s.dev.mot 3).ifq = s.dev.hovAs 3 (s.dev.sref 3) ∧ (s.dev.mot 3).good < 64) ∧
    (dv up fun d => d.setMotSt 0 .waitRt).dev.motSt 0 = .waitRt ∧
    (let s := dv (put up [(MTR_HOV_HOV 3, 5), (MTR_SPD_SPD 3, 5)]) fun d => (d.setMotSt 3 .run).setMot 3 fun m => { m with synced := false, good := 0 }
     s.dev.motSt 3 = .run ∧ (s.dev.mot 3).good = 0 ∧ s.dev.get (MTR_HOV_HOV 3) ≤ (s.dev.gets (MTR_SPD_SPD 3)).natAbs ∧
     (s.dev.mot 3).synced = false) ∧
    (let s := dv up fun d => (d.setMotSt 0 .run).setMot 0 fun m => { m with pendSync := true }
     s.dev.motSt 0 = .run ∧ (s.dev.mot 0).pendSync = true) ∧ (up.dev.motSt 0).driven = false ∧
    (let s := dv up fun d => (d.setMotSt 0 .coast).setMot 0 fun m => { m with uvWait := true }
     s.dev.motSt 0 = .coast ∧ (s.dev.mot 0).uvWait = true) := by decide +kernel

/-- Controller 3 idle with transmit object 127 requested. -/
def can3 : State :=
  dv (put up [(CAN_OCFG_EN 3 127, 1), (CAN_OCFG_DIR 3 127, 1)]) fun d => (d.setCanSt 3 canIdle).put (txReqFld 3 127) 1

theorem test_can_controllers_met :
    up.dev.awake = true ∧ up.dev.sys.appHeld = false ∧ can3.dev.on (CAN_OCFG_EN 3 127) = true ∧ can3.dev.on (CAN_OCFG_DIR 3 127) = true ∧
    up.dev.on (CAN_OCFG_EN 0 0) = false ∧ up.dev.txPending 0 0 = false ∧ can3.dev.txPending 3 127 = true ∧
    (can3.dev.cn 3).cur = none ∧ (dv up fun d => d.setCanSt 3 canJoining).dev.canSt 3 = canJoining ∧ up.dev.canSt 0 ≠ canJoining ∧
    (can3.dev.canSt 3 = canIdle ∧ can3.dev.on (CAN_CTL_LISTEN 3) = false ∧ can3.dev.on (CAN_CTL_ACKONLY 3) = false ∧
      can3.dev.txChoice 3 = some 127 ∧ can3.dev.on (CAN_BST_PASSIVE 3) = false) ∧
    ((dv up fun d => d.setCur 3 (some 127)).dev.cn 3).cur = some 127 ∧
    (let f : CanFrame := ⟨false, 0#29, false, false, false, false, 0#4, [], false⟩
     can3.dev.canSt 3 = canIdle ∧ f.fdf = false) ∧
    up.dev.canSt 0 = canOffline ∧ can3.dev.onBus 3 = true ∧
    (dv up fun d => d.setCanSt 3 canRecovering).dev.canSt 3 = canRecovering := by decide +kernel

/-! ### Statements about Ethernet and the time base -/

/-- MAC 1 receiving every frame, with bytes b waiting in its receive buffer. -/
def mac1 (b : List Byte) (x : Bool) : State :=
  dv (put up [(ETH_CTL_RXEN 1, 1), (ETH_CTL_PROM 1, 1), (ETH_CTL_PEN 1, 1), (ETH_CTL_PTX 1, 1), (ETH_ST_FDS 1, 1), (ETH_FC_XON 1, 0),
    (ETH_CTL_IF 1, 1)]) fun d => d.setMac 1 fun v => { v with rxq := [⟨b, false, false, 0⟩], xoff := x }

theorem test_ethernet_met :
    up.dev.awake = true ∧ up.dev.sys.appHeld = false ∧ up.dev.on (ETH_CTL_RXEN 0) = false ∧ (put up [(ETH_CTL_PEN 0, 0)]).dev.on (ETH_CTL_PEN 0) = false ∧
    up.dev.on (ETH_CTL_TXEN 0) = false ∧ up.dev.on (ETH_CTL_IF 0) = false ∧ (mac1 [] false).dev.on (ETH_CTL_IF 1) = true ∧
    ((mac1 [] false).dev.mac 1).xoff = false ∧
    (let s := mac1 [0#8] true
     s.dev.on (ETH_CTL_RXEN 1) = true ∧ s.dev.on (ETH_CTL_PEN 1) = true ∧ (s.dev.mac 1).xoff = true ∧
     256 * s.dev.get (ETH_FC_XON 1) < s.dev.rxFill 1 ∧ s.dev.mayPause 1 = true ∧ s.dev.ethAccepts 1 [1#8] = true ∧
     s.dev.rxFill 1 + [1#8].length ≤ 65536) ∧
    (let s := put (mac1 [] true) [(ETH_FC_XON 1, 1)]
     (s.dev.mac 1).xoff = true ∧ s.dev.rxFill 1 < 256 * s.dev.get (ETH_FC_XON 1) ∧ s.dev.mayPause 1 = true) ∧
    (1#8 : Byte).toNat ≠ up.dev.gen (uETH 1) ∧ (0#8 : Byte).toNat = up.dev.gen (uETH 1) ∧ (up.dev.mac 1).mdio = none ∧
    (let o : MdioOp := ⟨2, 31, 31, true, 0, 0⟩
     let s := dv up fun d => d.setMac 1 fun v => { v with mdio := some o }
     (s.dev.mac 1).mdio = some o ∧ o.op = 2 ∧ s.dev.answer (uETH 1) o.gen 1 o.rgen .ok = .ok ∧
     s.dev.answer (uETH 1) { o with gen := 1 }.gen 1 o.rgen .ok ≠ .ok) ∧
    ((up.dev.mac 0).tsq.find? fun t => t.seqId == 0 && t.mtype == 0) = none ∧
    (let s := dv up fun d => d.setMac 0 fun v => { v with tsq := [⟨0xFFFF, 15, 7⟩] }
     ((s.dev.mac 0).tsq.find? fun t => t.seqId == 0xFFFF && t.mtype == 15) = some ⟨0xFFFF, 15, 7⟩) := by decide +kernel

theorem test_receive_buffer_full (b : List Byte) (h : b.length = 65536) :
    65536 < (mac1 b false).dev.rxFill 1 + [0#8].length := by
  have : (mac1 b false).dev.rxFill 1 = (([⟨b, false, false, 0⟩] : List RxFrame).map fun f => f.bytes.length).sum := rfl
  simp [this, h]

theorem test_time_base_met :
    up.dev.awake = true ∧ up.dev.sys.appHeld = false ∧ (1#8 : Byte).toNat ≠ up.dev.gen uTIM ∧ (0#8 : Byte).toNat = up.dev.gen uTIM ∧
    (put up [(TIM_ST_INIT, 1)]).dev.on TIM_ST_INIT = true ∧ (put up [(TIM_ST_INIT, 0)]).dev.on TIM_ST_INIT = false ∧
    (put up [(TIM_SETN_SETN, 999999999)]).dev.get TIM_SETN_SETN < 1000000000 ∧
    1000000000 ≤ (put up [(TIM_SETN_SETN, 1000000000)]).dev.get TIM_SETN_SETN ∧ up.dev.tim.key1At = none ∧
    (let s := dv up fun d => { d with tim := { d.tim with key1At := some 0 } }
     s.dev.tim.key1At = some 0 ∧ s.dev.now ≤ 0 + 10000000) ∧
    (8589935#32 : Word).toInt > 8589934 ∧ (-8589935#32 : Word).toInt < -8589934 ∧ (8589934#32 : Word).toInt ≤ 8589934 ∧
    -8589934 ≤ (-8589934#32 : Word).toInt ∧ up.dev.get (TIM_TOWID_WID 7) < 8 ∧ up.dev.on (TIM_TOCTL_ARM 7) = false ∧
    (let s := put up [(TIM_TOWID_WID 7, 8), (TIM_TOPER_PER 7, 0), (TIM_TOSTS_S 7, 0), (TIM_TOSTN_N 7, 0)]
     s.dev.on (TIM_TOCTL_ARM 7) = false ∧ 8 ≤ s.dev.get (TIM_TOWID_WID 7) ∧ s.dev.get (TIM_TOPER_PER 7) = 0 ∧ s.dev.outStart 7 < s.dev.tbNs + 1000) ∧
    (let s := put up [(TIM_TOWID_WID 7, 8), (TIM_TOPER_PER 7, 0), (TIM_TOSTS_S 7, 4), (TIM_TOSTN_N 7, 1000)]
     s.dev.on (TIM_TOCTL_ARM 7) = false ∧ 8 ≤ s.dev.get (TIM_TOWID_WID 7) ∧ s.dev.get (TIM_TOPER_PER 7) = 0 ∧ s.dev.tbNs + 1000 ≤ s.dev.outStart 7) ∧
    (put up [(TIM_TOCTL_ARM 7, 1)]).dev.on (TIM_TOCTL_ARM 7) = true ∧
    up.dev.on (TIM_TOCTL_ARM 0) = false ∧ up.dev.on (TIM_CCTL_EN 0) = false ∧
    (let s := put up [(TIM_CCTL_EN 7, 1), (TIM_CCTL_EDGE 7, 1)]
     s.dev.on (TIM_CCTL_EN 7) = true ∧ s.dev.get (TIM_CCTL_EDGE 7) = 1) := by decide +kernel

/-! ### Statements about the device pair -/

/-- A state with what PRL keeps changed. -/
def prl (s : State) (f : Prl → Prl) : State := { s with dev := { s.dev with prl := f s.dev.prl } }

theorem test_pair_link_met :
    up.dev.awake = true ∧ up.dev.get PRL_ST_PALV = 0 ∧ up.dev.on PRL_CTL_EN = false ∧
    (put up [(PRL_ST_PALV, 1)]).dev.get PRL_ST_PALV = 1 ∧
    (let s := put up [(PRL_ST_ROLE, 1), (PRL_ST_PALV, 2)]
     s.dev.isActive = true ∧ s.dev.get PRL_ST_PALV = 2) ∧
    up.dev.isActive = false ∧
    (let s := put up [(PRL_CTL_EN, 1), (SYS_MODE_MODE, 3)]
     s.dev.on PRL_CTL_EN = true ∧ s.dev.get PRL_ST_ROLE = 0 ∧ s.dev.get PRL_ST_PALV = 0 ∧ s.dev.on PRL_ST_UP = false ∧
     s.dev.mode ≠ .muster ∧ s.dev.mode.live = true ∧ s.dev.prl.laneOff.getLsbD 1 = false) ∧
    (up.dev.get PRL_ST_LANES).testBit 1 = false ∧
    (let s := put up [(PRL_ST_LANES, 2)]
     (s.dev.get PRL_ST_LANES).testBit 1 = true ∧ s.dev.get PRL_ST_LANES = 2 ^ 1) ∧
    up.dev.on PRL_ST_UP = false ∧
    (let s := put up [(PRL_ST_UP, 1), (PRL_ST_ROLE, 2)]
     s.dev.on PRL_ST_UP = true ∧ s.dev.follower = true ∧ s.dev.on PRL_CTL_EN = false) ∧
    (let s := put up [(PRL_ST_UP, 1)]
     s.dev.on PRL_ST_UP = true ∧ s.dev.follower = false) := by decide +kernel

theorem test_pair_commands_met :
    (let s := put up [(PRL_CTL_EN, 1), (PRL_ST_ROLE, 2), (SYS_MODE_MODE, 3)]
     s.dev.awake = true ∧ s.dev.on PRL_CTL_EN = true ∧ s.dev.get PRL_ST_ROLE = 2 ∧ (10 : Fin 12).val % 3 ≠ 2 ∧
     (∀ k < 12, s.dev.drvSt k ≠ .shadow) ∧ s.dev.follower = true ∧ s.dev.mode.live = true ∧ s.dev.devicePopulation = 0) ∧
    up.dev.get PRL_ST_ROLE ≠ 2 ∧ (inMode .watch).dev.mode.live = false ∧ up.dev.isListen 127 = false ∧
    (let s := put up [(FLK_PCTL_ROLE 127, 2)]
     s.dev.isListen 127 = true ∧ s.dev.contends 127 = false ∧ s.dev.follower = false) ∧
    (port up 127 fun v => { v with seqUntil := 1500 }).dev.contends 127 = true ∧
    (let s := prl (inMode .ready) fun p => { p with join := some .calibrate }
     s.dev.prl.join = some .calibrate ∧ s.dev.mode.live = true) ∧
    (prl up fun p => { p with join := some .image }).dev.prl.join = some .image ∧
    (prl up fun p => { p with join := some .load }).dev.prl.join = some .load ∧
    (prl up fun p => { p with join := some .sync }).dev.prl.join = some .sync ∧ up.dev.prl.join = none ∧
    up.dev.sys.appHeld = false ∧ (1#8 : Byte).toNat ≠ up.dev.gen uPRL ∧ (0#8 : Byte).toNat = up.dev.gen uPRL ∧
    up.dev.on PRL_CKST_BUSY = false ∧ up.dev.on PRL_CTL_EN = false ∧ up.dev.isActive = false ∧
    (let s := put up [(PRL_ST_ROLE, 1), (bankStFld 3, 1)]
     s.dev.isActive = true ∧ s.dev.anyPrecharging = true) ∧
    (let s := put up [(PRL_ST_ROLE, 1), (PRL_ST_UP, 1), (PRL_ST_PALV, 1), (PRL_CKLEN_LEN, 8), (PRL_CKSRC_ADDR, 0x20000000)]
     s.dev.isActive = true ∧ s.dev.anyPrecharging = false ∧ s.dev.on PRL_ST_UP = true ∧ s.dev.get PRL_ST_PALV = 1 ∧
     s.dev.on PRL_CKST_BUSY = false ∧ s.dev.get PRL_CKLEN_LEN = 8 ∧ s.dev.get PRL_CKSRC_ADDR = 0x20000000) ∧
    (prl up fun p => { p with ckpt := some 0 }).dev.prl.ckpt = some 0 ∧
    (let s := put up [(PRL_CTL_EN, 1), (PRL_CKRB_BASE, 0x20000000)]
     s.dev.prl.ckpt = none ∧ s.dev.on PRL_CTL_EN = true ∧ 0x20000000 ≤ s.dev.get PRL_CKRB_BASE ∧
     s.dev.get PRL_CKRB_BASE + [1#8].length ≤ s.dev.split) := by decide +kernel

/-! ### Statements about nodes -/

/-- Node 0 of flock 0. -/
def key0 : NodeKey := ⟨0, 0⟩
/-- A node of a class at position 1 in a state, and a machine that has it. -/
def nodeOf (c : NodeClass) (st : NodeSt) (f : Node → Node) : Node := f { Node.powerUp ⟨c, 1#16, 1#64⟩ with st := st, pos := 1 }
def withNode (n : Node) : State := { up with dev := { up.dev with nodes := [(nodeIdx key0, n)] } }

theorem test_node_events_met :
    (∀ n, (withNode n).dev.node key0 = some n) ∧
    (let n := nodeOf .cell .data fun n => { n with marked := some 1, da := some 0, db := some 0 }
     n.st = .data ∧ n.cls = .cell ∧ n.marked = some 1 ∧ (n.delay n.timing).isSome = true ∧ n.inWin = false ∧ n.cmpAct = [] ∧
     n.contends .b 0 = false ∧ n.forwards = true) ∧
    (nodeOf .cell .data fun n => { n with fwd := [⟨0, 1, .b, 0⟩] }).contends .b 1499 = true ∧
    (nodeOf .cell .data fun n => { n with fwd := [⟨0, 1, .b, 0⟩] }).contends .b 1500 = false ∧ (nodeOf .cell .sleep id).forwards = false ∧
    (∃ f ∈ ((nodeOf .cell .data fun n => { n with fwd := [⟨2, 1, .a, 0⟩] }).retryAlarms 7).fwd, f.sym = 2) ∧
    (nodeOf .cell .assigned id).st ≠ .data ∧ (nodeOf .cell .data fun n => { n with inWin := true }).inWin = true ∧
    (let n := nodeOf .head .data fun n => { n with cmpAct := [55], left := 0 }
     n.st = .data ∧ n.cls = .head ∧ n.cmpAct ≠ [] ∧ n.left = 0 ∧ n.contends .a 0 = false) ∧
    (let n := nodeOf .cell .data fun n => { n with bswTest := 0x800000#24 }
     n.st = .data ∧ n.hot = false ∧ n.inWin = false ∧ n.paused = false ∧ n.nextTest = some 23 ∧ n.nextTest ≠ some 22 ∧
     (1000 : Nat) ≤ 1000 ∧ 300 < 301 ∧ { n with hot := true }.hot = true ∧ { n with paused := true }.paused = true) ∧
    (let n := nodeOf .cell .sleep fun n => { n with chkFail := false, ring := some (1, false, false), from_ := .a }
     n.st = .sleep ∧ n.isLast = true ∧ n.chkFail = false) ∧
    (let n := nodeOf .cell .sleep fun n => { n with chkFail := false, ring := some (2, false, false) }
     n.st = .sleep ∧ n.chkFail = false ∧ n.isLast = false) ∧
    (nodeOf .cell .sleep fun n => { n with chkFail := true }).chkFail = true :=
  ⟨fun n => by simp [withNode, Device.node, mapGet, key0], by decide +kernel, by decide +kernel, by decide +kernel,
    by decide +kernel, ⟨⟨2, 1, .a, 7⟩, by decide +kernel, by decide +kernel⟩, by decide +kernel, by decide +kernel, by decide +kernel,
    by decide +kernel, by decide +kernel, by decide +kernel, by decide +kernel⟩

/-- A command frame of an opcode with a payload length, received whole on a side. -/
def headTo (side : Side) (addr opc len : Byte) : CmdHead := ⟨side, addr, opc, 1#8, len, len.toNat, 0, true, true⟩
def assignHead : CmdHead := headTo .a 0#8 1#8 1#8

theorem test_node_commands_met :
    (∀ n, (withNode n).dev.node key0 = some n) ∧
    (let n := nodeOf .cell .unassigned id; n.st = .unassigned) ∧ (badFrame assignHead = false ∧ assignHead.addr = 0#8 ∧
      assignHead.opc = 1#8 ∧ assignHead.len = 1#8 ∧ (1 : Nat) ≤ (128#8).toNat ∧ (128#8).toNat ≤ 128) ∧
    (let h := headTo .a 7#8 3#8 0#8
     badFrame h = false ∧ h.addr ≠ 0xFF#8 ∧
     (nodeOf .head .data fun n => { n with ring := some (1, false, false) }).apos ≠ some h.addr.toNat ∧
     (nodeOf .head .data id).st ≠ .unassigned ∧ badFrame { h with violations := 1 } = true ∧ badFrame { h with crcOk := false } = true ∧
     badFrame { h with eof := false } = true ∧ badFrame { h with received := 1 } = true) ∧
    (let n := nodeOf .head .data fun n => { n with ring := some (1, false, false), bell := some (5, 0) }
     n.st ≠ .unassigned ∧ n.apos = some 1 ∧ n.up = true ∧ n.st = .data ∧ n.cls = .head ∧ n.bellLost = false ∧ n.bswTest = 0#24 ∧
     n.mayClose 4 0 = false ∧ n.mayClose 5 499999999 = true ∧ n.mayClose 5 500000000 = false) ∧
    (nodeOf .cell .data fun n => { n with bswTest := 1#24 }).bswTest ≠ 0#24 ∧
    (2 ≤ (2#8).toNat ∧ (100#8).toNat ≤ 100) ∧ (10 ≤ (10#16).toNat ∧ (500#16).toNat ≤ 500) ∧ (4#8).toNat ≤ 4 ∧
    (1 ≤ (1#16).toNat ∧ (3600#16).toNat ≤ 3600) ∧ (0xFFFF#16 : Half) ≠ 0#16 :=
  ⟨fun n => by simp [withNode, Device.node, mapGet, key0], by decide +kernel, by decide +kernel, by decide +kernel,
    by decide +kernel, by decide +kernel, by decide +kernel, by decide +kernel, by decide +kernel, by decide +kernel,
    by decide +kernel⟩

theorem test_addressed_and_broadcast :
    (∀ x ∈ [(4, 9), (7, 4), (8, 4), (9, 6), (10, 5), (12, 2), (14, 3), (15, 3), (16, 0), (17, 0), (2, 2), (3, 0)],
      (nodeOf .head .data fun n => { n with ring := some (1, false, false) }).Addressed
        (headTo .a 1#8 (BitVec.ofNat 8 x.1) (BitVec.ofNat 8 x.2)) x.1 x.2) ∧
    ∀ x ∈ [(2, 2), (5, 2), (6, 3), (11, 0), (13, 7), (18, 10), (19, 0)],
      (nodeOf .head .data id).Broadcast (headTo .b 0xFF#8 (BitVec.ofNat 8 x.1) (BitVec.ofNat 8 x.2)) x.1 x.2 := by
  constructor <;> intro x hx <;>
    simp only [List.mem_cons, List.not_mem_nil, or_false] at hx <;>
    rcases hx with rfl | rfl | rfl | rfl | rfl | rfl | rfl | rfl | rfl | rfl | rfl | rfl <;>
    simp only [Node.Addressed, Node.Broadcast] <;> decide +kernel

/-! ### Statements about instructions -/

/-- No guard: p0. -/
def always : Guard := ⟨0, false⟩

/-- Pair A executes the next instruction of TCM A. -/
theorem test_core_ready : CoreReady up.dev (pairIx .a) always :=
  ⟨by decide +kernel, by decide +kernel, by decide +kernel, by decide +kernel, by decide +kernel, by decide +kernel,
    by decide +kernel, by decide +kernel⟩

/-- Pair B executes the next instruction of TCM B, guarded by p7 negated. -/
theorem test_core_b_ready : CoreReady up.dev (pairIx .b) ⟨7, true⟩ :=
  ⟨by decide +kernel, by decide +kernel, by decide +kernel, by decide +kernel, by decide +kernel, by decide +kernel,
    by decide +kernel, by decide +kernel⟩

/-- Pair A with registers changed by `f`, a change that leaves it executing. -/
def withA (f : CorePair → CorePair) : State := coreA up f

/-- Pair A at a level, with IE as given and an MPU region that admits its TCM to S and U. -/
def atLevel (prv ie : Nat) : State :=
  withA fun c => { c with status := BitVec.ofNat 64 (4 * prv + ie), mpub := c.mpub.set 0 0x10000000#64, mpul := c.mpul.set 0 0xFD1FFFFFE0#64 }

/-- Lane 0 with registers changed, its job placed. -/
def laneUp (f : Lane → Lane) : State :=
  dv (lane0 f) fun d => { d with scr := { d.scr with job := some ⟨0, 0, 1, [], 0, 0, none, true⟩ } }

theorem test_lane_ready : LaneReady (laneUp id).dev 0 always :=
  ⟨by decide +kernel, by decide +kernel, ⟨0, true, by decide +kernel, by decide +kernel⟩, by decide +kernel, by decide +kernel,
    by decide +kernel, by decide +kernel⟩

/-- Both agents execute an instruction: the hypothesis of the results of OP 0x00 to 0x08. -/
theorem test_ready : up.dev.Ready ⟨.core .a, always⟩ ∧ (laneUp id).dev.Ready ⟨.lane 0, always⟩ ∧ (31#6 : BitVec 6).toNat < 32 :=
  ⟨test_core_ready, test_lane_ready, by decide⟩

theorem test_levels_ready (prv ie : Nat) (h : (prv, ie) ∈ [(3, 0), (3, 1), (1, 0), (0, 0)]) :
    CoreReady (atLevel prv ie).dev (pairIx .a) always ∧ ((atLevel prv ie).dev.corePair 0).prv = prv ∧
    ((atLevel prv ie).dev.corePair 0).ie = (ie == 1) := by
  simp only [List.mem_cons, Prod.mk.injEq, List.not_mem_nil, or_false] at h
  rcases h with ⟨rfl, rfl⟩ | ⟨rfl, rfl⟩ | ⟨rfl, rfl⟩ | ⟨rfl, rfl⟩ <;>
    refine ⟨⟨?_, ?_, ?_, ?_, ?_, ?_, ?_, ?_⟩, ?_, ?_⟩ <;> decide +kernel

/-- The address of an access in g1, and a level in the state of test_levels_ready. -/
def accessAt (prv ie : Nat) (a : DWord) : State := coreA (atLevel prv ie) fun c => { c with g := gSet c.g 1 a }

theorem test_loads_stores_met :
    CoreReady (accessAt 3 0 0x10000010#64).dev 0 always ∧
    (let c := (accessAt 3 0 0x10000010#64).dev.corePair 0
     let a := (gAt c.g 1 + (0x7F8#12 : BitVec 12).signExtend 64).toNat
     a % 8 = 0 ∧ c.mpuAdmits .read a = true ∧ c.mpuAdmits .write a = true ∧ readsMemory 0 a = true ∧ regionOf a = .tcm .a ∧
     (accessAt 3 0 0x10000010#64).dev.soundAt a 8 = true) ∧
    (let c := (accessAt 1 0 0x20000001#64).dev.corePair 0
     let a := (gAt c.g 1 + (0xFFC#12 : BitVec 12).signExtend 64).toNat
     a % 4 ≠ 0 ∧ (gAt c.g 1 - 1#64).toNat % 4 = 0 ∧ c.mpuAdmits .read (gAt c.g 1 - 1#64).toNat = false ∧
     c.mpuAdmits .write (gAt c.g 1 - 1#64).toNat = false) ∧
    (let c := (accessAt 3 1 0x60000000#64).dev.corePair 0
     (c.prv = 3 → c.ie = true) ∧ regionOf (gAt c.g 1).toNat = .periph ∧ c.mpuAdmits .read (gAt c.g 1).toNat = true ∧
     c.mpuAdmits .write (gAt c.g 1).toNat = true ∧ (gAt c.g 1).toNat % 8 = 0 ∧ (0x60000002#32 : Word).toNat % 4 ≠ 0 ∧
     (gAt c.g 1 + (0x002#12 : BitVec 12).signExtend 64).toNat % 4 ≠ 0 ∧ (blockOf (gAt c.g 1).toNat).isSome = true ∧
     mayWrite (.core .a) (gAt c.g 1).toNat = true ∧ mayWrite (.core .b) (gAt c.g 1).toNat = false) ∧
    (let d := (accessAt 3 1 0x20000000#64).dev
     let a := (gAt (d.corePair 0).g 1).toNat
     regionOf a = .sram ∧ a % 8 = 0 ∧ (d.corePair 0).mpuAdmits .write a = true ∧ d.ownSram 0 a 8 = true ∧ d.ownSram 1 a 8 = false) := by
  refine ⟨⟨?_, ?_, ?_, ?_, ?_, ?_, ?_, ?_⟩, ?_, ?_, ?_, ?_⟩ <;> decide +kernel

theorem test_system_met :
    csrListed 48 = true ∧ csrMayRead 48 3 = true ∧ csrMayWrite 48 3 = true ∧ csrMayRead 0 0 = false ∧ csrMayWrite 7 3 = false ∧
    ((atLevel 1 0).dev.corePair 0).prv ≠ 0 ∧ newer (up.dev.latest 0) 0xFFFFFFFF#32 = true ∧ newer (up.dev.latest 2) 0#32 = false ∧
    islorDefined false 0xFFFFFFFF#32 = false ∧ islorDefined true 0xFFFFFFFF#32 = false ∧
    ((atLevel 3 0).dev.corePair 0).sig = (gAt ((atLevel 3 0).dev.corePair 0).g 0).setWidth 32 ∧
    (let c := (coreA (atLevel 3 1) fun c => { c with sig := 1#32 }).dev.corePair 0
     (c.prv = 3 → c.ie = true) ∧ c.sig ≠ (gAt c.g 0).setWidth 32) := by decide +kernel

/-- Pair A with interrupts enabled in a wait, source 160 asserted and enabled or none. -/
def waiting (w : CoreWait) (src : Bool) : State :=
  let s := coreA (atLevel 3 1) fun c => { c with wait := w }
  if src then dv s fun d => { d.rset (INT_EN 0 5) 1#32 with pulses := [160] } else s

theorem test_interrupts_waits_met :
    (∀ w ∈ [CoreWait.none, .wfi], (waiting w true).dev.awake = true ∧ (waiting w true).dev.coreActs 0 = true ∧
      ((waiting w true).dev.corePair 0).ie = true ∧ (waiting w true).dev.pendingSource 0 = some 160) ∧
    ((waiting .fenceIo false).dev.corePair 0).wait = .fenceIo ∧ ((atLevel 3 0).dev.corePair 0).ie = false ∧
    (let s := waiting (.epochs 2 31 0#32) false
     (s.dev.corePair 0).wait = .epochs 2 31 0#32 ∧ s.dev.pendingSource 0 = none ∧ newer (s.dev.latest 2) 0#32 = false ∧
     newer (s.dev.latest 0) 0xFFFFFFFF#32 = true) := by decide +kernel

theorem test_fetch_fails :
    let s := coreA (atLevel 1 0) fun c => { c with pc := 0x20000000#64 }
    s.dev.awake = true ∧ s.dev.coreActs 0 = true ∧ (s.dev.corePair 0).wait = .none ∧ (s.dev.fetch 0).1 = some 1 ∧
    ((s.dev.corePair 0).prv = 3 → (s.dev.corePair 0).ie = true) ∧ guardHolds ⟨1, false⟩ (up.dev.corePair 0).p = false ∧
    (up.dev.fetch 0).1 = none ∧
    ((dv up fun d => { d with upsets := [(0x10000000 / 8, true)] }).dev.fetch 0).1 = some 7 ∧
    regionOf (up.dev.corePair 0).pc.toNat ≠ .nvm := by decide +kernel

theorem test_lane_instructions_met :
    (laneUp id).dev.runningSlot = some (0, true) ∧
    (1 ≤ (15#22 : BitVec 22).toInt ∧ ((laneUp id).dev.lane 0).pc + (15#22 : BitVec 22).toNat < (laneUp id).dev.get (SCR_KINFO_LEN 0)) ∧
    ((laneUp id).dev.lane 0).loop = none ∧ ((laneUp id).dev.lane 0).pc + 1 + 15 ≤ (laneUp id).dev.get (SCR_KINFO_LEN 0) ∧
    ((laneUp id).dev.lane 0).queue.length < 4 ∧
    4 ≤ ((laneUp fun v => { v with queue := List.replicate 4 ⟨0, 0#32⟩ }).dev.lane 0).queue.length ∧ 14 + 1 < 16 ∧
    guardHolds ⟨7, false⟩ ((laneUp id).dev.lane 0).p = false := by decide +kernel

/-! ### Statements about registers, steps and the machine as a whole -/

theorem test_step_safe_met :
    up.pending = [] ∧ up.dev.settled = true ∧
    (match step { up with pending := [.vfieldLow] } with | .next t => t.dev.fd.tripLatch | _ => false) = true ∧
    State.reset.dev.awake = false ∧ up.dev.awake = true := by decide +kernel

theorem test_counters_met :
    bitsOf ((put up [(⟨CTD_OCNT 3, 0, 16⟩, 0xFFFF)]).dev.rget (CTD_OCNT 3)) 0 16 = 0xFFFF ∧
    bitsOf ((put up [(⟨CTD_OCNT 3, 0, 16⟩, 0xFFFE)]).dev.rget (CTD_OCNT 3)) 0 16 = 0xFFFE ∧ bitsOf (up.dev.rget (CTD_OCNT 3)) 0 16 < 0xFFFF ∧
    (dv up fun d => d.rset (ETH_RXDROP 1) 0xFFFFFFFF#32).dev.rget (ETH_RXDROP 1) = 0xFFFFFFFF#32 ∧
    (dv up fun d => d.rset (ETH_RXDROP 1) 0xFFFFFFFE#32).dev.rget (ETH_RXDROP 1) = 0xFFFFFFFE#32 ∧
    ETH_RXDROP 1 ≠ unitOf (ETH_RXDROP 1) + 8 ∧ ETH_RXDROP 1 ≠ unitOf (ETH_RXDROP 1) + 4 ∧
    ((regDef? (ETH_RXDROP 1)).any fun r => r.cnt == .c32 2 && r.fields.all fun f => f.accepts 0#32) = true ∧
    ((regDef? (CTD_OCNT 3)).any fun r => r.cnt == .c16 && r.fields.all fun f => f.accepts 0#32) = true := by decide +kernel

/-- A register without an effect beyond its field types: CTD_PCV of bank 3. -/
theorem test_register_write_met :
    mayWrite (.core .a) (CTD_PCV 3) = true ∧ CTD_PCV 3 % 4 = 0 ∧ up.dev.writeBarred (CTD_PCV 3) = false ∧
    CTD_PCV 3 ≠ unitOf (CTD_PCV 3) + 4 ∧ mayWrite (.core .b) (CTD_PCV 3) = false ∧ (blockOf (CTD_PCV 3)).isSome = true ∧
    ((regDef? (CTD_PCV 3)).any fun r => r.cnt == .plain && (r.fields.all fun f => f.accepts 1#32) &&
      !(r.fields.all fun f => f.accepts 0#32)) = true ∧
    (regDef? 0x60150000).isNone = true ∧ isHeader 0x60150000 = true ∧ 0x60150002 % 4 ≠ 0 ∧ (blockOf 0x5FFFFFFC).isNone = true ∧
    (⟨0, 32, .rw, 0, .any⟩ : FieldDef).lo + 32 ≤ 32 := by decide +kernel

theorem test_register_write_typed : up.dev.regWrite (CTD_PCV 3) 1#32 = up.dev.typed (CTD_PCV 3) 1#32 := by decide +kernel

theorem test_field_refused : (⟨0, 8, .rw, 0, .range 1 5⟩ : FieldDef).accepts 0#32 = false := by decide

theorem test_locks_interrupts_mpu_met :
    mayWrite (.core .a) (lockAddr .ctd) = true ∧ mayWrite (.core .a) (lockAddr (.can 3)) = false ∧
    up.dev.pendingSource 0 = none ∧ (waiting .none true).dev.aboveThr 0 160 = true ∧
    (let c := (atLevel 1 0).dev.corePair 0
     c.prv ≠ 3 ∧ c.mpuHit 0 0x1FFFFFFF = true ∧ (∀ m, m < 16 → 0 < m → c.mpuHit m 0x1FFFFFFF = false) ∧
     (∀ m < 16, c.mpuHit m 0x20000000 = false)) ∧
    ((({ up.dev.corePair 0 with mpul := Vector.replicate 16 (1#64 <<< 33) } : CorePair).mpul[15]?).getD 0#64).getLsbD 33 = true := by
  decide +kernel

/-! ### What WellFormed refuses -/

theorem wf_illegal_word_defined : wellFormed (.illegalInstruction (.core .a) 0x00022180#32) = false := by decide +kernel
theorem wf_illegal_word : wellFormed (.illegalInstruction (.core .a) 0xFFFFFFFF#32) = true := by decide +kernel
theorem wf_shift_amount : wellFormed (.slli ⟨.core .a, always⟩ 1 2 true 32#6) = false ∧
    wellFormed (.slli ⟨.core .a, always⟩ 1 2 true 31#6) = true := by decide +kernel
theorem wf_lane_only : wellFormed (.end_ ⟨.core .a, always⟩) = false ∧ wellFormed (.end_ ⟨.lane 0, always⟩) = true := by decide +kernel
theorem wf_guard_p0_negated : wellFormed (.add ⟨.core .a, ⟨0, true⟩⟩ 1 2 3) = false := by decide +kernel
theorem wf_odd_pair : wellFormed (.kldD ⟨.lane 0, always⟩ 1 15) = false ∧ wellFormed (.kldD ⟨.lane 0, always⟩ 1 14) = true := by decide +kernel
theorem wf_frame_length : wellFormed (.replyFrame 0 ⟨1#8, 0x83#8, 0#8, 2#8, [0#8], 0#32, 0, 0, true⟩ 0) = false := by decide
theorem wf_checkpoint_length : wellFormed (.checkpointReceived [0#8] 0#32) = false ∧
    wellFormed (.checkpointReceived (List.replicate 8 0#8) 0#32) = true := by decide

/-! ### Words written out from their encodings -/

/-- BR to −2 instructions, guarded by p1 (R271, format B of R270): PG 001, PN 0, OP 011000, OFF22. -/
theorem word_br : encB ⟨1, false⟩ 0x18 (-2#22) = 0b00100110001111111111111111111110#32 := by decide
/-- SIGA 0xBEEF (format U): PG 000, PN 0, OP 100111, RD 00000, IMM17. -/
theorem word_siga : encU ⟨0, false⟩ 0x27 0 0xBEEF = 0b00001001110000001011111011101111#32 := by decide
/-- FADD f1, f2, f3 (format R): OP 100000, RD 00001, RS1 00010, RS2 00011, FN 0000000. -/
theorem word_fadd : encR ⟨0, false⟩ 0x20 1 2 3 0 = 0b00001000000000100010000110000000#32 := by decide

end Sys2Proof.Tests
end

section
/-! PROOFS. Loads, stores and CAS of a core pair on memory (R7, R277, R286, R299). -/

namespace Sys2Proof.Machine

/-! ### Loads -/

/-- The sign extension of `n` bytes read from memory. -/
theorem sextNat_memWord (d : Device) (a : Nat) {n : Nat} (hn : 0 < n) :
    sextNat (8 * n) (d.memWord a n) = (BitVec.ofNat (8 * n) (d.memWord a n)).signExtend 64 :=
  sextNat_eq (by omega) (by rw [Nat.pow_mul]; exact d.memWord_lt a n)

/-- The address is a multiple of the access size, the MPU admits the read, the pair reads it as memory, and no bit error is
met (R7, R30, R285). -/
def Device.LoadMeets (d : Device) (h a n : Nat) : Prop :=
  a % n = 0 ∧ (d.corePair h).mpuAdmits .read a = true ∧ readsMemory h a = true ∧ d.soundAt a n = true

/-- A load into g[rd] completes with the extended value of the bytes addressed. -/
theorem loadG_completes {s : State} {p : Pair} {g : Guard} (r : CoreReady s.dev (pairIx p) g) {op : Nat} (rd rs1 : RegNo)
    (imm : BitVec 12) {n : Nat} {ext : Nat → DWord} {v : DWord} (ho : 8 ≤ op ∧ op ≤ 14 ∨ 16 ≤ op ∧ op ≤ 21) {a : Nat}
    (ha : (gAt (s.dev.corePair (pairIx p)).g rs1 + imm.signExtend 64).toNat = a) (h : s.dev.LoadMeets (pairIx p) a n)
    (hv : ext (s.dev.memWord a n) = v) :
    loadG ⟨.core p, g⟩ op rd rs1 imm n ext s =
      .next (s.after (s.dev.coreDone (pairIx p) fun c => { c with g := gSet c.g rd v })) := by
  obtain ⟨aligned, admitted, mem, sound⟩ := h
  subst hv
  rw [loadG, loadOp_ready r rd rs1 imm n _ ho ha aligned admitted mem sound]
  exact congrArg (Host.Outcome.next ∘ s.after) (Device.setCore_congr _ _ rfl)

/-- A load into f[rd] completes with the bytes addressed. -/
theorem execFld_completes {s : State} {p : Pair} {g : Guard} (r : CoreReady s.dev (pairIx p) g) (rd rs1 : RegNo)
    (imm : BitVec 12) {a : Nat} (ha : (gAt (s.dev.corePair (pairIx p)).g rs1 + imm.signExtend 64).toNat = a)
    (h : s.dev.LoadMeets (pairIx p) a 8) :
    execFld ⟨.core p, g⟩ rd rs1 imm s = .next (s.after (s.dev.coreDone (pairIx p) fun c =>
      { c with f := c.f.set rd.val (BitVec.ofNat 64 (s.dev.memWord a 8)) })) := by
  obtain ⟨aligned, admitted, mem, sound⟩ := h
  rw [execFld, loadOp_ready r rd rs1 imm 8 _ (by omega) ha aligned admitted mem sound]
  exact congrArg (Host.Outcome.next ∘ s.after) (Device.setCore_congr _ _ rfl)

/-- Settles O35: each load is a use of `loadG_completes`; what differs is how the value is extended. -/
theorem loadsComplete : Obligations.LoadsComplete := by
  intro s p g rd rs1 imm r h a at_ got
  have sext {n : Nat} (hn : 0 < n) := sextNat_memWord s.dev a hn
  exact ⟨fun m => loadG_completes r rd rs1 imm (by omega) rfl m (sext (n := 1) (by omega)),
    fun m => loadG_completes r rd rs1 imm (by omega) rfl m rfl,
    fun m => loadG_completes r rd rs1 imm (by omega) rfl m (sext (n := 2) (by omega)),
    fun m => loadG_completes r rd rs1 imm (by omega) rfl m rfl,
    fun m => loadG_completes r rd rs1 imm (by omega) rfl m (sext (n := 4) (by omega)),
    fun m => loadG_completes r rd rs1 imm (by omega) rfl m rfl,
    fun m => loadG_completes r rd rs1 imm (by omega) rfl m rfl,
    fun m => execFld_completes r rd rs1 imm rfl m⟩

/-! ### Stores and CAS in the pair's own TCM -/

/-- The device `e` is `d` with the low `n` bytes of `v` stored at `a`, and every other byte of memory as it was. -/
def Device.Stored (d e : Device) (a n v : Nat) : Prop :=
  e = { d with mem := e.mem, upsets := e.upsets } ∧ memRead e.mem a n = v % 256 ^ n ∧
    ∀ b, b < a ∨ a + n ≤ b → memGet e.mem b = memGet d.mem b

theorem Device.stored_mwrite (d : Device) (a n v : Nat) : d.Stored (d.mwrite a n v) a n v :=
  ⟨rfl, memRead_memWrite n d.mem a v, memGet_memWrite_outside n d.mem a v⟩

/-- A store whose address is a multiple of the access size, admitted by the MPU and in the pair's own TCM, completes with
exactly its bytes written. -/
theorem storeOp_completes {s : State} {p : Pair} {g : Guard} (r : CoreReady s.dev (pairIx p) g) {op : Nat} (rs2 rs1 : RegNo)
    (imm : BitVec 12) {n : Nat} (data : CorePair → DWord) (ho : 8 ≤ op ∧ op ≤ 14 ∨ 16 ≤ op ∧ op ≤ 21) {a : Nat}
    (ha : (gAt (s.dev.corePair (pairIx p)).g rs1 + imm.signExtend 64).toNat = a)
    (h : a % n = 0 ∧ (s.dev.corePair (pairIx p)).mpuAdmits .write a = true ∧ regionOf a = .tcm p) {v : DWord}
    (hv : data (s.dev.corePair (pairIx p)).stepped = v) :
    storeOp ⟨.core p, g⟩ op rs2 rs1 imm n data s = .next (s.after ((s.dev.mwrite a n v.toNat).coreDone (pairIx p) id)) ∧
      s.dev.Stored (s.dev.mwrite a n v.toNat) a n v.toNat := by
  obtain ⟨aligned, admitted, own⟩ := h
  subst hv
  exact ⟨storeOp_ready r rs2 rs1 imm n data ho ha aligned admitted own, s.dev.stored_mwrite a n _⟩

/-- What a CAS of `n` bytes leaves in memory: the low bytes of `new` where the old value is that of `want`, else the old value
(R286). -/
def casStored (n old : Nat) (want new : DWord) : Nat := if old = want.toNat % 256 ^ n then new.toNat % 256 ^ n else old

theorem Device.mwrite_setCore (d : Device) (h a n v : Nat) (f : CorePair → CorePair) :
    (d.setCore h f).mwrite a n v = (d.mwrite a n v).setCore h f := rfl

/-- An instruction whose effect is to write g[rd] retires. -/
theorem Device.setGv_retireAt (d : Device) (p : Pair) (rd : RegNo) (v : DWord) {pc : DWord}
    (h : (d.corePair (pairIx p)).pc = pc) :
    ((d.setCore (pairIx p) CorePair.stepped).setGv (pairIx p) rd v).retireAt (pairIx p) (pc + 4#64) =
      d.coreDone (pairIx p) fun c => { c with g := gSet c.g rd v } := by
  subst h
  have hp := pairIx_lt p
  simp only [Device.setGv, Device.retireAt, Device.setCore_setCore _ hp]
  exact Device.setCore_congr _ _ rfl

/-- A CAS in the pair's own TCM that both access checks admit and no bit error meets returns the old value in g[rd]. -/
theorem casOp_completes {s : State} {p : Pair} {g : Guard} (r : CoreReady s.dev (pairIx p) g) {fn : Nat} (hf : fn ≤ 1)
    (rd rs1 rs2 : RegNo) {n : Nat} {ext : Nat → DWord} {v : DWord} {b : Nat}
    (hb : (gAt (s.dev.corePair (pairIx p)).g rs1).toNat = b) (aligned : b % n = 0) (sound : s.dev.soundAt b n = true)
    (readable : (s.dev.corePair (pairIx p)).mpuAdmits .read b = true)
    (writable : (s.dev.corePair (pairIx p)).mpuAdmits .write b = true) (own : regionOf b = .tcm p)
    (hv : ext (s.dev.memWord b n) = v) :
    let new := casStored n (s.dev.memWord b n) (gAt (s.dev.corePair (pairIx p)).g rd) (gAt (s.dev.corePair (pairIx p)).g rs2)
    casOp ⟨.core p, g⟩ fn rd rs1 rs2 n ext s =
        .next (s.after ((s.dev.mwrite b n new).coreDone (pairIx p) fun c => { c with g := gSet c.g rd v })) ∧
      s.dev.Stored (s.dev.mwrite b n new) b n new := by
  intro new
  refine ⟨?_, s.dev.stored_mwrite b n new⟩
  have hp := pairIx_lt p
  have defined : islorDefined false (encR g 0x26 rd.val rs1.val rs2.val fn) = true :=
    islorDefined_encR false r.legal 0x26 rd rs1 rs2 fn (by simpa using hf) (by omega) (by omega)
  have noError : (s.dev.setCore (pairIx p) CorePair.stepped).upsetAt b n true = false :=
    (by simpa [Device.soundAt] using sound : s.dev.upsetAt b n true = false ∧ s.dev.upsetAt b n false = false).1
  subst hb hv
  unfold casOp
  rw [coreOp_ready r defined]
  simp only [Device.gv, Device.corePair_setCore _ hp, CorePair.stepped_leaves, Device.memWord_setCore, aligned, readable, writable,
    own, noError, Device.coreWrite_tcm _ _ _ own, ne_eq, not_true_eq_false, if_false, Bool.not_true, Bool.or_self, Bool.false_eq_true]
  rw [Device.mwrite_setCore, Device.setGv_retireAt (s.dev.mwrite _ n _) p rd _ (pc := (s.dev.corePair (pairIx p)).pc) rfl]
  rfl

/-- Settles O36: every store is a use of `storeOp_completes`, and both forms of CAS are uses of `casOp_completes`. -/
theorem storesComplete : Obligations.StoresComplete := by
  intro s p g rs2 rs1 imm r h c a at_ put
  have stores (op n : Nat) (ho : 8 ≤ op ∧ op ≤ 14 ∨ 16 ≤ op ∧ op ≤ 21) (m : at_ n) (data : CorePair → DWord) {v : DWord}
      (hv : data c.stepped = v) := storeOp_completes r rs2 rs1 imm data ho rfl m hv
  have storeG (op n : Nat) (ho : 8 ≤ op ∧ op ≤ 14 ∨ 16 ≤ op ∧ op ≤ 21) (m : at_ n) :=
    stores op n ho m (fun c => gAt c.g rs2) (v := gAt c.g rs2) rfl
  refine ⟨storeG 0x10 1 (by omega), storeG 0x11 2 (by omega), storeG 0x12 4 (by omega), storeG 0x13 8 (by omega),
    fun m => stores 0x15 8 (by omega) m (fun c => c.f[rs2.val]) (v := c.f[rs2.val]) rfl, ?_⟩
  intro rd n _ b old new aligned sound readable writable own
  constructor
  · rintro rfl
    exact casOp_completes r (by omega) rd rs1 rs2 rfl aligned sound readable writable own
      (sextNat_memWord s.dev b (n := 4) (by omega))
  · rintro rfl
    exact casOp_completes r (by omega) rd rs1 rs2 rfl aligned sound readable writable own rfl

end Sys2Proof.Machine
end

section
/-! PROOFS. Accesses to peripheral space that are no aligned 32-bit access (R7, R28, R283, R284). -/

namespace Sys2Proof.Machine

/-! ### Exceptions of a pair that is ready -/

/-- A body that raises an exception on a ready pair takes it. -/
theorem coreOp_traps {s : State} {p : Pair} {g : Guard} (r : CoreReady s.dev (pairIx p) g) {w : Word}
    (hw : islorDefined false w = true) {body : Nat → Device → CoreEnd} {e : Device} {code : Nat} {tval : DWord}
    (hb : body (pairIx p) (s.dev.setCore (pairIx p) CorePair.stepped) = .trap e code tval) :
    coreOp ⟨.core p, g⟩ w body s = .next (s.after (e.trap (pairIx p) code tval)) := by
  rw [coreOp_ready r hw, hb]

/-- The entry into a handler for an exception, with the debug step used up, field by field (R284). -/
theorem CorePair.stepped_enter (c : CorePair) (cause tval : DWord) :
    c.stepped.enter cause tval 0#64 =
      { c with epc := c.pc, cause := cause, tval := tval, pc := c.vbase, wait := .none, step := false,
               status := BitVec.ofNat 64 (2 * Bool.bit c.ie + 4 * 3 + 16 * c.prv) } := by
  have status : statusWord false c.ie 3 c.prv = BitVec.ofNat 64 (2 * Bool.bit c.ie + 4 * 3 + 16 * c.prv) := by
    simp [statusWord, Bool.bit]
  simp only [CorePair.enter, CorePair.stepped_leaves, status, BitVec.add_zero]

/-- Pair h has entered its handler for exception `code` at VBASE, its debug step used up (R284). -/
def Device.faulted (d : Device) (h code : Nat) (tval : DWord) : Device :=
  d.setCore h fun c =>
    { c with epc := c.pc, cause := BitVec.ofNat 64 code, tval := tval, pc := c.vbase, wait := .none, step := false,
             status := BitVec.ofNat 64 (2 * Bool.bit c.ie + 4 * 3 + 16 * c.prv) }

/-- An exception outside M with interrupts off is no double fault (R284). -/
theorem Device.trap_stepped (d : Device) (p : Pair) (code : Nat) (tval : DWord)
    (h : (d.corePair (pairIx p)).prv = 3 → (d.corePair (pairIx p)).ie = true) :
    (d.setCore (pairIx p) CorePair.stepped).trap (pairIx p) code tval = d.faulted (pairIx p) code tval := by
  have hp := pairIx_lt p
  have single : ¬ ((d.corePair (pairIx p)).prv = 3 ∧ ¬ (d.corePair (pairIx p)).ie = true) := fun ⟨m, off⟩ => off (h m)
  simp only [Device.trap, Device.corePair_setCore _ hp, CorePair.stepped_leaves, single, if_false, Device.setCore_setCore _ hp,
    CorePair.stepped_enter, Device.faulted]

/-! ### Peripheral space as a pair reaches it (R7, R28) -/

/-- A read of another size than 32 bits from peripheral space ends in a bus error and changes nothing. -/
theorem Device.coreRead_periph_size (d : Device) (h : Nat) {a n : Nat} (hr : regionOf a = .periph) (hn : n ≠ 4) :
    d.coreRead h a n = (.bus, d) := by
  simp only [Device.coreRead, hr, hn, if_false]

/-- A write of another size than 32 bits to peripheral space ends in a bus error, after what it counts. -/
theorem Device.coreWrite_periph_size (d : Device) (p : Pair) {a n : Nat} (v : Nat) (hr : regionOf a = .periph) (hn : n ≠ 4) :
    d.coreWrite (pairIx p) a n v = (false, d.foreignWrite p a n) := by
  cases p <;> simp [Device.coreWrite, hr, hn, pairIx]

theorem Device.rget_setCore (d : Device) (h : Nat) (f : CorePair → CorePair) (a : Nat) : (d.setCore h f).rget a = d.rget a := rfl

theorem Device.rset_setCore (d : Device) (h : Nat) (f : CorePair → CorePair) (a : Nat) (v : Word) :
    (d.setCore h f).rset a v = (d.rset a v).setCore h f := rfl
theorem Device.put_setCore (d : Device) (h : Nat) (f : CorePair → CorePair) (x : Fld) (v : Nat) :
    (d.setCore h f).put x v = (d.put x v).setCore h f := by
  rw [Device.put, Device.rset_setCore, Device.rget_setCore, Device.put]

/-- Counting an event writes its counter, or nothing at the limit (R54). -/
theorem Device.count16_cases (d : Device) (a : Nat) : d.count16 a = d ∨ ∃ v, d.count16 a = d.rset a v := by
  unfold Device.count16
  simp only
  split
  · exact .inl rfl
  · split
    · exact .inr ⟨_, rfl⟩
    · exact .inr ⟨_, rfl⟩

theorem Device.count16_setCore (d : Device) (a h : Nat) (f : CorePair → CorePair) :
    (d.setCore h f).count16 a = (d.count16 a).setCore h f := by
  simp only [Device.count16, Device.rget_setCore, Device.rset_setCore, apply_ite (Device.setCore · h f)]
  rfl

/-- Counting an event changes neither memory nor the core pairs. -/
theorem Device.count16_leaves (d : Device) (a : Nat) : (d.count16 a).mem = d.mem ∧ (d.count16 a).cpx = d.cpx := by
  rcases d.count16_cases a with h | ⟨v, h⟩ <;> rw [h] <;> exact ⟨rfl, rfl⟩

theorem Device.rget_count16_ne (d : Device) {a b : Nat} (hb : b ≠ a) : (d.count16 a).rget b = d.rget b := by
  rcases d.count16_cases a with h | ⟨v, h⟩ <;> rw [h]
  exact d.rget_rset_ne hb v

/-- An ownership violation changes neither memory nor the core pairs. -/
theorem Device.violation_leaves (d : Device) (p : Pair) (a kind size : Nat) (wr : Bool) :
    (d.violation p a kind size wr).mem = d.mem ∧ (d.violation p a kind size wr).cpx = d.cpx := by
  simp only [Device.violation, Device.putB_leaves, Device.put_leaves, Device.up_leaves, Device.count16_leaves, and_self]

theorem Device.violation_setCore (d : Device) (p : Pair) (a kind size h : Nat) (wr : Bool) (f : CorePair → CorePair) :
    (d.setCore h f).violation p a kind size wr = (d.violation p a kind size wr).setCore h f := by
  simp only [Device.violation, Device.count16_setCore, Device.up, Device.putB, Device.put_setCore]

/-- What a write of another size than 32 bits counts (R28). -/
theorem Device.foreignWrite_eq (d : Device) (p : Pair) (a : Nat) {n size : Nat} (h : Nat.log2 n = size) :
    d.foreignWrite p a n =
      if (blockOf a).isSome = true ∧ mayWrite (.core p) a = false then d.violation p a 0 size true else d := by
  simp [Device.foreignWrite, h]

theorem Device.foreignWrite_setCore (d : Device) (p : Pair) (a n h : Nat) (f : CorePair → CorePair) :
    (d.setCore h f).foreignWrite p a n = (d.foreignWrite p a n).setCore h f := by
  unfold Device.foreignWrite
  split
  · exact d.violation_setCore ..
  · rfl

/-- Counting a violation changes no core. -/
theorem Device.corePair_foreignWrite (d : Device) (p : Pair) (a n h : Nat) :
    (d.foreignWrite p a n).corePair h = d.corePair h := by
  unfold Device.foreignWrite
  split
  · unfold Device.corePair
    rw [(d.violation_leaves ..).2]
  · rfl

section
variable {s : State} {p : Pair} {g : Guard} (r : CoreReady s.dev (pairIx p) g)
  (single : (s.dev.corePair (pairIx p)).prv = 3 → (s.dev.corePair (pairIx p)).ie = true)
  {op : Nat} (ho : 8 ≤ op ∧ op ≤ 14 ∨ 16 ≤ op ∧ op ≤ 21) (rd rs1 : RegNo) (imm : BitVec 12) {a : DWord}
  (ha : gAt (s.dev.corePair (pairIx p)).g rs1 + imm.signExtend 64 = a)

include ha in
/-- The address of an access does not depend on the debug step. -/
theorem Device.address_stepped : (s.dev.setCore (pairIx p) CorePair.stepped).gv (pairIx p) rs1 + immS imm = a := by
  rw [Device.gv, Device.corePair_setCore _ (pairIx_lt p)]
  exact ha

include r single ho ha

/-- A load whose address is no multiple of its size takes the alignment exception (R283). -/
theorem loadOp_unaligned {n : Nat} (put : CorePair → Nat → CorePair) (h : a.toNat % n ≠ 0) :
    loadOp ⟨.core p, g⟩ op rd rs1 imm n put s = .next (s.after (s.dev.faulted (pairIx p) 4 a)) := by
  rw [← Device.trap_stepped s.dev p 4 a single, loadOp]
  refine coreOp_traps r (islorDefined_access r.legal rd rs1 imm ho) ?_
  simp only [Device.address_stepped rs1 imm ha, if_pos h]

/-- A store whose address is no multiple of its size takes the alignment exception (R283). -/
theorem storeOp_unaligned {n : Nat} (data : CorePair → DWord) (h : a.toNat % n ≠ 0) :
    storeOp ⟨.core p, g⟩ op rd rs1 imm n data s = .next (s.after (s.dev.faulted (pairIx p) 4 a)) := by
  rw [← Device.trap_stepped s.dev p 4 a single, storeOp]
  refine coreOp_traps r (islorDefined_access r.legal rd rs1 imm ho) ?_
  simp only [Device.address_stepped rs1 imm ha, if_pos h]

/-- A load of another size than 32 bits from peripheral space takes the load access fault (R7). -/
theorem loadOp_periph_size {n : Nat} (put : CorePair → Nat → CorePair) (hr : regionOf a.toNat = .periph) (hn : n ≠ 4)
    (admitted : (s.dev.corePair (pairIx p)).mpuAdmits .read a.toNat = true) (aligned : a.toNat % n = 0) :
    loadOp ⟨.core p, g⟩ op rd rs1 imm n put s = .next (s.after (s.dev.faulted (pairIx p) 5 a)) := by
  rw [← Device.trap_stepped s.dev p 5 a single, loadOp]
  refine coreOp_traps r (islorDefined_access r.legal rd rs1 imm ho) ?_
  simp only [Device.address_stepped rs1 imm ha, Device.corePair_setCore _ (pairIx_lt p), CorePair.stepped_leaves, aligned,
    admitted, Device.coreRead_periph_size _ _ hr hn, ne_eq, not_true_eq_false, if_false, Bool.not_true, Bool.false_eq_true]

/-- A store of another size than 32 bits to peripheral space takes the store access fault, after the violation that it counts
where the block is not the pair's (R7, R28). -/
theorem storeOp_periph_size {n : Nat} (data : CorePair → DWord) (hr : regionOf a.toNat = .periph) (hn : n ≠ 4)
    (admitted : (s.dev.corePair (pairIx p)).mpuAdmits .write a.toNat = true) (aligned : a.toNat % n = 0) :
    storeOp ⟨.core p, g⟩ op rd rs1 imm n data s =
      .next (s.after ((s.dev.foreignWrite p a.toNat n).faulted (pairIx p) 6 a)) := by
  rw [← Device.trap_stepped _ p 6 a (by rwa [Device.corePair_foreignWrite]), storeOp]
  refine coreOp_traps r (islorDefined_access r.legal rd rs1 imm ho) ?_
  simp only [Device.address_stepped rs1 imm ha, Device.corePair_setCore _ (pairIx_lt p), CorePair.stepped_leaves, aligned,
    admitted, Device.coreWrite_periph_size _ p _ hr hn, Device.foreignWrite_setCore, ne_eq, not_true_eq_false, if_false,
    Bool.not_true, Bool.false_eq_true]

end

/-! ### Writes from the bus -/

/-- A write of a register by a pair or the debug port is what the bus makes of it, while the application domain runs (R46). -/
theorem exec_registerWrite {s : State} (awake : s.dev.awake = true) (held : s.dev.sys.appHeld = false) (ini : Initiator)
    (addr val : Word) : exec (.registerWrite ini addr val) s = .next (s.after (s.dev.busWrite ini addr.toNat val).2) := by
  show execRegisterWrite ini addr val s = _
  simp only [execRegisterWrite, onBus, onCtl, onDev, awake, held, if_true, Bool.false_eq_true, if_false]
  rfl

/-- A write outside the blocks, or one that is not aligned, ends in a bus error and changes nothing (R7, R27). -/
theorem Device.busWrite_astray (d : Device) (ini : Initiator) {a : Nat} (w : Word) (h : a % 4 ≠ 0 ∨ blockOf a = none) :
    d.busWrite ini a w = (false, d) := by
  refine if_pos ?_
  rcases h with h | h <;> simp [h]

/-- Settles O53: each access is a use of one of the four lemmas on accesses that fail, and the bus refuses what is not aligned. -/
theorem peripheralAccessSize : Obligations.PeripheralAccessSize := by
  intro s p g rd rs1 imm r h c a single periph traps
  have load (op n : Nat) (ho : 8 ≤ op ∧ op ≤ 14 ∨ 16 ≤ op ∧ op ≤ 21) (hn : n ≠ 4) (put : CorePair → Nat → CorePair) :=
    loadOp_periph_size r single ho rd rs1 imm rfl put periph hn
  have loadG (op n : Nat) (ho : 8 ≤ op ∧ op ≤ 14 ∨ 16 ≤ op ∧ op ≤ 21) (hn : n ≠ 4) (ext : Nat → DWord) :=
    load op n ho hn fun c v => { c with g := gSet c.g rd (ext v) }
  have store (op : Nat) {n size : Nat} (ho : 8 ≤ op ∧ op ≤ 14 ∨ 16 ≤ op ∧ op ≤ 21) (hn : n ≠ 4) (hs : Nat.log2 n = size)
      (data : CorePair → DWord) (admitted : c.mpuAdmits .write a.toNat = true) (aligned : a.toNat % n = 0) :=
    s.dev.foreignWrite_eq p a.toNat hs ▸ storeOp_periph_size r single ho rd rs1 imm rfl data periph hn admitted aligned
  refine ⟨fun ini addr val held odd => ?_, fun odd => ⟨?_, ?_⟩, fun admitted => ⟨?_, ?_, fun two => ⟨?_, ?_⟩, fun eight => ⟨?_, ?_⟩⟩,
    fun admitted => ⟨?_, fun two => ?_, fun eight => ⟨?_, ?_⟩⟩⟩
  · rw [exec_registerWrite r.awake held, Device.busWrite_astray _ _ _ (.inl odd)]
  · exact loadOp_unaligned r single (op := 0x0C) (by omega) rd rs1 imm rfl (fun c v => { c with g := gSet c.g rd (sextNat 32 v) }) odd
  · exact storeOp_unaligned r single (op := 0x12) (by omega) rd rs1 imm rfl (fun c => gAt c.g rd) odd
  · exact loadG 0x08 1 (by omega) (by omega) (sextNat 8) admitted (Nat.mod_one _)
  · exact loadG 0x09 1 (by omega) (by omega) zextNat admitted (Nat.mod_one _)
  · exact loadG 0x0A 2 (by omega) (by omega) (sextNat 16) admitted two
  · exact loadG 0x0B 2 (by omega) (by omega) zextNat admitted two
  · exact loadG 0x0E 8 (by omega) (by omega) zextNat admitted eight
  · exact load 0x14 8 (by omega) (by omega) (fun c v => { c with f := c.f.set rd.val (BitVec.ofNat 64 v) }) admitted eight
  · exact store 0x10 (by omega) (by omega) (by decide : Nat.log2 1 = 0) (fun c => gAt c.g rd) admitted (Nat.mod_one _)
  · exact store 0x11 (by omega) (by omega) (by decide : Nat.log2 2 = 1) (fun c => gAt c.g rd) admitted two
  · exact store 0x13 (by omega) (by omega) (by decide : Nat.log2 8 = 3) (fun c => gAt c.g rd) admitted eight
  · exact store 0x15 (by omega) (by omega) (by decide : Nat.log2 8 = 3) (fun c => c.f[rd.val]) admitted eight

end Sys2Proof.Machine
end

section
/-! PROOFS. Register writes (R8 to R10, R27, R28, R462, R463): fields of each type, the registers of the table, and writes that
the bus refuses. -/

namespace Sys2Proof.Machine

/-! ### Bits of a word after a write of a field -/

/-- Clearing the bits of `b` in `a` by subtraction. -/
theorem testBit_sub_and (a b i : Nat) : (a - (a &&& b)).testBit i = (a.testBit i && !b.testBit i) := by
  induction i generalizing a b with
  | zero =>
    have odd : (a &&& b) % 2 = 1 ↔ a % 2 = 1 ∧ b % 2 = 1 := Nat.and_mod_two_eq_one
    have le : a &&& b ≤ a := Nat.and_le_left
    simp only [Nat.testBit_zero, ← decide_not, ← Bool.decide_and, decide_eq_decide]
    omega
  | succ i ih =>
    have odd : (a &&& b) % 2 = 1 ↔ a % 2 = 1 ∧ b % 2 = 1 := Nat.and_mod_two_eq_one
    have half : (a &&& b) / 2 = a / 2 &&& b / 2 := Nat.and_div_two
    have step : (a - (a &&& b)) / 2 = a / 2 - (a / 2 &&& b / 2) := by omega
    rw [Nat.testBit_succ, Nat.testBit_succ, Nat.testBit_succ, step, ih]

theorem getLsbD_withBits_inside (w : Word) {lo n i : Nat} (v : Nat) (h : lo + n ≤ 32) (hi : i < n) :
    (withBits w lo n v).getLsbD (lo + i) = v.testBit i := by
  rw [BitVec.getLsbD, testBit_withBits]
  have below : ¬ lo + i < lo := by omega
  have inside : lo + i < lo + n := by omega
  have word : lo + i < 32 := by omega
  simp [below, inside, word]

theorem getLsbD_withBits_outside (w : Word) {lo n i : Nat} (v : Nat) (hi : i < 32) (h : i < lo ∨ lo + n ≤ i) :
    (withBits w lo n v).getLsbD i = w.getLsbD i := by
  rw [BitVec.getLsbD, testBit_withBits, BitVec.getLsbD]
  rcases h with h | h
  · simp [hi, h]
  · have above : ¬ i < lo + n := by omega
    simp [hi, above]

/-! ### A write in one field, by its type (R9, R10) -/

/-- A write in a field changes at most the field's bits. -/
theorem FieldDef.write_cases (f : FieldDef) (locked : Bool) (w old : Word) :
    f.write locked w old = old ∨ ∃ v, f.write locked w old = withBits old f.lo f.w v := by
  unfold FieldDef.write
  simp only
  split
  case h_4 => split; exacts [.inl rfl, .inr ⟨_, rfl⟩]
  case h_1 | h_2 | h_3 => exact .inr ⟨_, rfl⟩
  all_goals exact .inl rfl

theorem FieldDef.getLsbD_write_outside (f : FieldDef) (locked : Bool) (w old : Word) {i : Nat} (hi : i < 32)
    (h : i < f.lo ∨ f.lo + f.w ≤ i) : (f.write locked w old).getLsbD i = old.getLsbD i := by
  rcases f.write_cases locked w old with e | ⟨v, e⟩ <;> rw [e]
  exact getLsbD_withBits_outside old v hi h

/-- An RW field, and an LK field that is not locked, takes the value written. -/
theorem FieldDef.bitsOf_write_taken {f : FieldDef} {locked : Bool} (w old : Word) (hf : f.lo + f.w ≤ 32)
    (h : f.ty = .rw ∨ f.ty = .lk ∧ locked = false) : bitsOf (f.write locked w old) f.lo f.w = bitsOf w f.lo f.w := by
  have e : f.write locked w old = withBits old f.lo f.w (bitsOf w f.lo f.w) := by
    rcases h with h | ⟨h, unlocked⟩
    · simp only [FieldDef.write, h]
    · simp only [FieldDef.write, h, unlocked, Bool.false_eq_true, if_false]
  rw [e, bitsOf_withBits_same _ _ hf, Nat.mod_eq_of_lt (bitsOf_lt w f.lo f.w)]

/-- In a W1C field the ones written clear. -/
theorem FieldDef.getLsbD_write_w1c {f : FieldDef} (locked : Bool) (w old : Word) (hf : f.lo + f.w ≤ 32) (h : f.ty = .w1c) {i : Nat}
    (hi : i < f.w) : (f.write locked w old).getLsbD (f.lo + i) = (old.getLsbD (f.lo + i) && !w.getLsbD (f.lo + i)) := by
  simp only [FieldDef.write, h]
  rw [getLsbD_withBits_inside old _ hf hi, testBit_sub_and, testBit_bitsOf, testBit_bitsOf]
  simp [hi, BitVec.getLsbD]

/-- In a W1S field the ones written set. -/
theorem FieldDef.getLsbD_write_w1s {f : FieldDef} (locked : Bool) (w old : Word) (hf : f.lo + f.w ≤ 32) (h : f.ty = .w1s) {i : Nat}
    (hi : i < f.w) : (f.write locked w old).getLsbD (f.lo + i) = (old.getLsbD (f.lo + i) || w.getLsbD (f.lo + i)) := by
  simp only [FieldDef.write, h]
  rw [getLsbD_withBits_inside old _ hf hi, Nat.testBit_or, testBit_bitsOf, testBit_bitsOf]
  simp [hi, BitVec.getLsbD]

/-- RO and RC fields, and LK fields that are locked, stand. -/
theorem FieldDef.write_stands {f : FieldDef} {locked : Bool} (w old : Word)
    (h : f.ty = .ro ∨ f.ty = .rc ∨ f.ty = .lk ∧ locked = true) : f.write locked w old = old := by
  rcases h with h | h | ⟨h, locked⟩
  · simp only [FieldDef.write, h]
  · simp only [FieldDef.write, h]
  · simp only [FieldDef.write, h, locked, if_true]

/-! ### A write to a register of the table (R8, R462, R463) -/

theorem Device.rget_st_ne (d : Device) {u b : Nat} (s : Status) (h : b ≠ u + 4) : (d.st u s).rget b = d.rget b :=
  d.rget_put_ne h _

theorem Device.get_st_last (d : Device) (u : Nat) (s : Status) : (d.st u s).get (lastFld u) = s.code := by
  rw [Device.st, Device.get_put_same d _ (by show 16 + 8 ≤ 32; omega)]
  cases s <;> rfl

/-- A value that a field refuses is reported, and nothing else happens (R462). -/
theorem Device.typed_refused {d : Device} {a : Nat} {r : RegDef} {w : Word} (hr : regDef? a = some r)
    (bad : r.fields.all (fun f => f.accepts w) = false) : d.typed a w = d.st (unitOf a) .range := by
  simp only [Device.typed, hr, Device.typedReg, bad, Bool.not_false, if_true]

/-- A write that every field admits is carried out in each field, and reports a locked field that was to change (R463). -/
theorem Device.typed_accepted {d : Device} {a : Nat} {r : RegDef} {w : Word} (hr : regDef? a = some r)
    (ok : r.fields.all (fun f => f.accepts w) = true) (plain : r.cnt = .plain) :
    d.typed a w = (d.rset a (r.fields.foldl (fun acc f => f.write (d.lockedAt a) w acc) (d.rget a))).st (unitOf a)
      (if d.lockedAt a = true ∧ ∃ f ∈ r.fields, f.ty = .lk ∧ bitsOf w f.lo f.w ≠ bitsOf (d.rget a) f.lo f.w then .locked else .ok) := by
  simp [Device.typed, hr, Device.typedReg, ok, plain]

/-- A header register reports OK and takes no effect. -/
theorem Device.typed_header {d : Device} {a : Nat} {w : Word} (hr : regDef? a = none) (h : isHeader a = true) :
    d.typed a w = d.st (unitOf a) .ok := by
  simp only [Device.typed, hr, h, if_true]

/-- An offset that names no register takes no effect. -/
theorem Device.typed_unnamed {d : Device} {a : Nat} {w : Word} (hr : regDef? a = none) (h : isHeader a = false) :
    d.typed a w = d := by
  simp only [Device.typed, hr, h, Bool.false_eq_true, if_false]

/-! ### The bus (R27, R28) -/

theorem blockOf_isSome_of_mayWrite {ini : Initiator} {a : Nat} (h : mayWrite ini a = true) : (blockOf a).isSome = true := by
  cases hb : blockOf a with
  | none => simp [mayWrite, hb] at h
  | some b => rfl

/-- An aligned write by an owner that nothing bars reaches the register. -/
theorem Device.busWrite_owned {d : Device} {ini : Initiator} {a : Nat} (w : Word) (owned : mayWrite ini a = true)
    (aligned : a % 4 = 0) (free : d.writeBarred a = false) : d.busWrite ini a w = (true, d.regWrite a w) := by
  obtain ⟨b, hb⟩ := Option.isSome_iff_exists.mp (blockOf_isSome_of_mayWrite owned)
  simp [Device.busWrite, hb, aligned, owned, free]

/-- An aligned write by a pair to a block of the other one counts as an ownership violation (R28). -/
theorem Device.busWrite_foreign {d : Device} {p : Pair} {a : Nat} (w : Word) (block : (blockOf a).isSome = true)
    (aligned : a % 4 = 0) (foreign : mayWrite (.core p) a = false) :
    d.busWrite (.core p) a w = (false, d.violation p a 0 2 true) := by
  obtain ⟨b, hb⟩ := Option.isSome_iff_exists.mp block
  simp [Device.busWrite, hb, aligned, foreign]

/-- An ownership violation changes no register outside CPX. -/
theorem Device.rget_violation_outside (d : Device) (p : Pair) (a kind size : Nat) (wr : Bool) {b : Nat}
    (hb : b < 0x60050000 ∨ 0x60060000 ≤ b) : (d.violation p a kind size wr).rget b = d.rget b := by
  have h1 : b ≠ CPX_OWNVP := by unfold CPX_OWNVP; omega
  have h2 : b ≠ CPX_EVT := by unfold CPX_EVT; omega
  have h3 : b ≠ CPX_OWNVA := by unfold CPX_OWNVA; omega
  have h4 : b ≠ CPX_OWNV := by unfold CPX_OWNV; omega
  unfold Device.violation Device.putB Device.up
  rw [Device.rget_put_ne _ h1, Device.rget_put_ne _ h1, Device.rget_put_ne _ h1, Device.rget_put_ne _ h1,
    Device.rget_put_ne _ h2, Device.rget_put_ne _ h3, Device.rget_count16_ne _ h4]

/-- An ownership violation leaves its address, and raises its event (R28). -/
theorem Device.violation_records (d : Device) (p : Pair) {a : Nat} (kind size : Nat) (wr : Bool) (ha : a < 2 ^ 32) :
    (d.violation p a kind size wr).get CPX_OWNVA_ADDR = a ∧ (d.violation p a kind size wr).on CPX_EVT_OWNV = true := by
  have event : CPX_OWNVA ≠ CPX_EVT := by decide
  have pair : CPX_OWNVA ≠ CPX_OWNVP := by decide
  have event' : CPX_EVT ≠ CPX_OWNVP := by decide
  constructor
  · unfold Device.violation Device.putB Device.up
    rw [Device.get_put_addr _ _ pair, Device.get_put_addr _ _ pair, Device.get_put_addr _ _ pair, Device.get_put_addr _ _ pair,
      Device.get_put_addr _ _ event, Device.get_put_same _ _ (by decide)]
    exact Nat.mod_eq_of_lt ha
  · unfold Device.on Device.violation Device.putB
    rw [Device.get_put_addr _ _ event', Device.get_put_addr _ _ event', Device.get_put_addr _ _ event',
      Device.get_put_addr _ _ event', Device.get_up_same _ (by decide)]
    rfl

/-- Settles O49: the clauses on fields are the lemmas on the field types; the bus decides by owner, block and alignment, and a
write that reaches a register is `Device.typed`. -/
theorem registerWrites : Obligations.RegisterWrites := by
  constructor
  · intro f w old locked _ hf
    exact ⟨FieldDef.bitsOf_write_taken w old hf, fun h _ hi => FieldDef.getLsbD_write_w1c locked w old hf h hi,
      fun h _ hi => FieldDef.getLsbD_write_w1s locked w old hf h hi, FieldDef.write_stands w old,
      fun _ hi h => f.getLsbD_write_outside locked w old hi h⟩
  · intro s ini addr val awake held d a
    have bus := exec_registerWrite awake held ini addr val
    refine ⟨fun owned aligned unbarred typed => ?_, fun p hp block aligned foreign => ?_, fun astray => ?_⟩
    · rw [Device.busWrite_owned val owned aligned unbarred, typed] at bus
      refine ⟨fun r hr apart => ⟨fun ok plain => ?_, fun bad => ?_⟩, fun hr header => ?_, fun hr unnamed => ?_⟩
      · refine ⟨_, bus, ?_⟩
        rw [Device.typed_accepted hr ok plain]
        refine ⟨?_, fun b other status => ?_, ?_⟩
        · rw [Device.rget_st_ne _ _ apart, Device.rget_rset_same]
        · rw [Device.rget_st_ne _ _ status, Device.rget_rset_ne _ other]
        · rw [Device.get_st_last, apply_ite Status.code]
      · rwa [Device.typed_refused hr bad] at bus
      · rwa [Device.typed_header hr header] at bus
      · rwa [Device.typed_unnamed hr unnamed] at bus
    · subst hp
      rw [Device.busWrite_foreign val block aligned foreign] at bus
      obtain ⟨address, event⟩ := d.violation_records p 0 2 true addr.isLt
      obtain ⟨mem, cpx⟩ := d.violation_leaves p a 0 2 true
      exact ⟨_, bus, address, event, mem, cpx, fun b hb => d.rget_violation_outside p a 0 2 true hb⟩
    · rwa [Device.busWrite_astray d ini val astray] at bus

end Sys2Proof.Machine
end

section
/-! PROOFS. The frame that a command runs in (R36, R46), and what a field reads after a chain of writes. -/

namespace Sys2Proof.Machine

/-- A command of the control die, while the die runs, answers what its effect leaves, settled. -/
theorem onCtl_awake {s : State} (awake : s.dev.awake = true) {f : Device → Device} {e : Device} (h : f s.dev = e) :
    onCtl s f = .next (s.after e) := by
  simp only [onCtl, onDev, awake, if_true, h, State.after]

/-- A command that acts in every state of the control die answers what its effect leaves, settled. -/
theorem onDev_next {s : State} {f : Device → Device} {e : Device} (h : f s.dev = e) : onDev s f = .next (s.after e) := by
  rw [← h]; rfl

/-- Settling changes no field of a block other than SYS, REF and CTD. -/
theorem Device.settle_get_apart (d : Device) {f : Fld} (h : 0x60010000 ≤ f.addr ∧ f.addr < 0x60140000 ∨ 0x60160000 ≤ f.addr) :
    d.settle.get f = d.get f :=
  d.settle_get (by unfold SYS_MODE; omega) (by unfold SYS_EVT; omega) (by unfold REF_ST; omega) (by omega)

end Sys2Proof.Machine
end

section
/-! PROOFS. The time base (R55, R394 to R397, R401, R402). -/

namespace Sys2Proof.Machine

/-! ### Steps of the time base (R395) -/

section
variable {d : Device} (run : d.sys.appHeld = false)
include run

theorem Device.timeStep_reset (abs : Bool) {gen : Nat} (old : gen ≠ d.gen uTIM) : d.timeStep abs gen = d.st uTIM .reset := by
  simp [Device.timeStep, run, old]

theorem Device.timeStep_reject (abs : Bool) {gen : Nat} (now : gen = d.gen uTIM) (init : d.on TIM_ST_INIT = true) :
    d.timeStep abs gen = d.st uTIM .reject := by
  simp [Device.timeStep, run, now, init]

theorem Device.timeStep_abs_range {gen : Nat} (now : gen = d.gen uTIM) (init : d.on TIM_ST_INIT = false)
    (ns : 1000000000 ≤ d.get TIM_SETN_SETN) : d.timeStep true gen = d.st uTIM .range := by
  simp [Device.timeStep, run, now, init, ns]

theorem Device.timeStep_abs {gen : Nat} (now : gen = d.gen uTIM) (init : d.on TIM_ST_INIT = false)
    (ns : d.get TIM_SETN_SETN < 1000000000) : d.timeStep true gen = (d.stepTo
      (((d.get TIM_SETSH_SETSH * 4294967296 + d.get TIM_SETSL_SETSL) * 1000000000 + d.get TIM_SETN_SETN : Nat) : Int)).st uTIM .ok := by
  simp only [Device.timeStep, run, now, init, Nat.not_le.2 ns, ne_eq, not_true_eq_false, if_true, if_false, Bool.false_eq_true]

theorem Device.timeStep_rel {gen : Nat} (now : gen = d.gen uTIM) (init : d.on TIM_ST_INIT = false) :
    d.timeStep false gen = (d.stepTo ((d.tbNs : Int) +
      signed 64 (d.get TIM_OFSH_OFSH * 4294967296 + d.get TIM_OFSL_OFSL))).st uTIM .ok := by
  simp only [Device.timeStep, run, now, init, ne_eq, not_true_eq_false, if_false, Bool.false_eq_true]

/-! ### Keys and rate (R394, R396) -/

theorem Device.reinitKey_first (alone : d.tim.key1At = none) :
    d.reinitKey 0xD2#32 = ({ d with tim := { d.tim with key1At := some d.now } } : Device).st uTIM .ok := by
  simp [Device.reinitKey, run, alone]

theorem Device.reinitKey_second_alone (alone : d.tim.key1At = none) :
    d.reinitKey 0x2D#32 = ({ d with tim := { d.tim with key1At := none } } : Device).st uTIM .reject := by
  simp [Device.reinitKey, run, alone]

theorem Device.reinitKey_second {x : Nat} (first : d.tim.key1At = some x) (soon : d.now ≤ x + 10000000) :
    d.reinitKey 0x2D#32 =
      ((({ d with tim := { d.tim with key1At := none } } : Device).put TIM_ST_INIT 0).discontinuity).st uTIM .ok := by
  simp [Device.reinitKey, run, first, soon]

theorem Device.rateWrite_range {v : Word} (far : v.toInt < -8589934 ∨ 8589934 < v.toInt) : d.rateWrite v = d.st uTIM .range := by
  simp only [Device.rateWrite, run, far, if_true, if_false, Bool.false_eq_true]

theorem Device.rateWrite_ok {v : Word} (lo : -8589934 ≤ v.toInt) (hi : v.toInt ≤ 8589934) :
    d.rateWrite v = (d.rset TIM_RATE v).st uTIM .ok := by
  have near : ¬ (v.toInt < -8589934 ∨ 8589934 < v.toInt) := by omega
  simp only [Device.rateWrite, run, near, if_false, Bool.false_eq_true]

/-! ### Outputs (R401) -/

variable {k : Nat} (pol : Bool)

theorem Device.armOutput_armed (armed : d.on (TIM_TOCTL_ARM k) = true) :
    d.armOutput k pol = (d.putB (TIM_TOCTL_POL k) pol).st uTIM .ok := by
  simp only [Device.armOutput, run, armed, if_true, if_false, Bool.false_eq_true]

theorem Device.armOutput_range (idle : d.on (TIM_TOCTL_ARM k) = false) (narrow : d.get (TIM_TOWID_WID k) < 8) :
    d.armOutput k pol = d.st uTIM .range := by
  simp only [Device.armOutput, run, idle, narrow, true_or, if_true, if_false, Bool.false_eq_true]

theorem Device.armOutput_single (idle : d.on (TIM_TOCTL_ARM k) = false) (wide : 8 ≤ d.get (TIM_TOWID_WID k))
    (single : d.get (TIM_TOPER_PER k) = 0) : d.armOutput k pol =
      if d.outStart k < d.tbNs + 1000 then d.st uTIM .reject
      else (((d.putB (TIM_TOCTL_POL k) pol).put (TIM_TOCTL_ARM k) 1).setOut k ⟨d.outStart k, false⟩).st uTIM .ok := by
  simp only [Device.armOutput, run, idle, single, Nat.not_lt.2 wide, ne_eq, not_true_eq_false, false_and, true_and, or_false,
    if_false, Bool.false_eq_true]
  split
  · rfl
  · next late => rw [if_pos (Nat.not_lt.1 late)]

end

theorem Device.outEdge_idle {d : Device} {k : Nat} (idle : d.on (TIM_TOCTL_ARM k) = false) : d.outEdge k = d := by
  simp [Device.outEdge, idle]

/-! ### Captures (R402) -/

theorem Device.capture_off {d : Device} {k : Nat} (rising : Bool) (off : d.on (TIM_CCTL_EN k) = false) :
    d.capture k rising = d := by
  simp [Device.capture, off]

/-- A rising edge on an enabled input that takes rising edges leaves a new stamp, and one free value used. -/
theorem Device.capture_rising {d : Device} {k : Nat} (hk : k < 8) (en : d.on (TIM_CCTL_EN k) = true) (edge : d.get (TIM_CCTL_EDGE k) = 1) :
    (d.capture k true).get (TIM_CCTL_NEW k) = 1 ∧ (d.capture k true).free = d.free + 1 := by
  have takes : (d.get (TIM_CCTL_EDGE k)).testBit 0 = true := by rw [edge]; rfl
  have event : TIM_CCTL k ≠ TIM_EVT := by unfold TIM_CCTL TIM_EVT; omega
  have stamp : TIM_CCTL k ≠ TIM_CNS k := by unfold TIM_CCTL TIM_CNS; omega
  simp only [Device.capture, en, takes, Bool.and_self, if_true]
  constructor
  · unfold Device.up
    rw [Device.get_put_addr _ _ event]
    rw [show ∀ (e : Device) t, ({ e with tim := t } : Device).get (TIM_CCTL_NEW k) = e.get (TIM_CCTL_NEW k) from fun _ _ => rfl,
      Device.get_put_addr _ _ stamp, Device.get_put_bits _ _ (by simp), Device.get_put_same _ _ (by simp)]
    rfl
  · simp only [Device.when_, Device.up_leaves, Device.put_leaves]
    split <;> rfl

/-- Settles O26: the carries and latching reads run as they stand, and each other command is one case of its operation. -/
theorem timeBaseCommands : Obligations.TimeBaseCommands := by
  intro s awake
  refine ⟨?_, ?_, ?_, fun k => ?_, fun i => ?_,
    fun run g => ⟨fun old => ⟨?_, ?_⟩, fun now init => ⟨?_, ?_⟩, fun now init => ⟨fun ns => ?_, fun ns => ?_, ?_⟩⟩,
    fun run alone => ⟨?_, ?_⟩, fun x run first soon => ?_, fun v run far => ?_, fun v run lo hi => ?_, fun k pol run idle narrow => ?_,
    fun k pol run idle wide single soon => ?_, fun k pol run idle wide single late => ?_, fun k pol run armed => ?_,
    fun k => ⟨?_, fun idle => Device.outEdge_idle idle⟩, fun k r off => ?_, fun k en edge => ?_⟩
  · show execTimeCounterCarry .budStime s = _
    exact onDev_next rfl
  · show execTimeCounterCarry .timNs s = _
    exact onDev_next (if_pos awake)
  · show execLatchingLowWordRead .timNs s = _
    exact onCtl_awake awake rfl
  · show execLatchingLowWordRead (.capture k) s = _
    exact onCtl_awake awake (by simp [Device.latchRead])
  · show execLatchingLowWordRead (.bmiSample i) s = _
    exact onCtl_awake awake (by simp [Device.latchRead])
  · show execTimeStepAbsolute g s = _
    exact onCtl_awake awake (Device.timeStep_reset run true old)
  · show execTimeStepRelative g s = _
    exact onCtl_awake awake (Device.timeStep_reset run false old)
  · show execTimeStepAbsolute g s = _
    exact onCtl_awake awake (Device.timeStep_reject run true now init)
  · show execTimeStepRelative g s = _
    exact onCtl_awake awake (Device.timeStep_reject run false now init)
  · show execTimeStepAbsolute g s = _
    exact onCtl_awake awake (Device.timeStep_abs run now init ns)
  · show execTimeStepAbsolute g s = _
    exact onCtl_awake awake (Device.timeStep_abs_range run now init ns)
  · show execTimeStepRelative g s = _
    exact onCtl_awake awake (Device.timeStep_rel run now init)
  · show execTimeReinitKey 0xD2#32 s = _
    exact onCtl_awake awake (Device.reinitKey_first run alone)
  · show execTimeReinitKey 0x2D#32 s = _
    exact onCtl_awake awake (Device.reinitKey_second_alone run alone)
  · show execTimeReinitKey 0x2D#32 s = _
    exact onCtl_awake awake (Device.reinitKey_second run first soon)
  · show execRateAdjust v s = _
    exact onCtl_awake awake (Device.rateWrite_range run far)
  · show execRateAdjust v s = _
    exact onCtl_awake awake (Device.rateWrite_ok run lo hi)
  · show execOutputArm k pol s = _
    exact onCtl_awake awake (Device.armOutput_range run pol idle narrow)
  · show execOutputArm k pol s = _
    exact onCtl_awake awake ((Device.armOutput_single run pol idle wide single).trans (if_pos soon))
  · show execOutputArm k pol s = _
    exact onCtl_awake awake ((Device.armOutput_single run pol idle wide single).trans (if_neg (Nat.not_lt.2 late)))
  · show execOutputArm k pol s = _
    exact onCtl_awake awake (Device.armOutput_armed run pol armed)
  · show execOutputEdge k s = _
    exact onCtl_awake awake rfl
  · show execCaptureEdge k r s = _
    exact onCtl_awake awake (Device.capture_off r off)
  · obtain ⟨new, free⟩ := Device.capture_rising k.isLt en edge
    refine ⟨s.after (s.dev.capture k.val true), ?_, ?_, by simp [free]⟩
    · show execCaptureEdge k true s = _
      exact onCtl_awake awake rfl
    · have apart : 0x60160000 ≤ TIM_CCTL k.val := by unfold TIM_CCTL; omega
      rw [State.after, Device.settle_get_apart _ (.inr apart), new]

end Sys2Proof.Machine
end

section
/-! PROOFS. The scorer's runs, jobs, kernel choice, lookup data and lane fences (R18, R164, R169 to R175). -/

namespace Sys2Proof.Machine

/-- A write of pair A acts while the die and the application domain run (R46). -/
theorem onCtl_released {s : State} (awake : s.dev.awake = true) (run : s.dev.sys.appHeld = false) {f : Device → Device} {e : Device}
    (h : f s.dev = e) : onCtl s (fun d => if d.sys.appHeld then d else f d) = .next (s.after e) :=
  onCtl_awake awake ((if_neg (by simp [run])).trans h)

/-! ### Runs (R18, R173) -/

/-- Setting RUN again reports OK and starts nothing. -/
theorem Device.scrStart_again {d : Device} (on : d.on SCR_CTL_RUN = true) : d.scrStart = d.st uSCR .ok := if_pos on

/-- A stop by fences leaves the instants of the last sweeps and what is due. -/
theorem Device.stopIfFenced_starts (d : Device) : d.stopIfFenced.scr.last0 = d.scr.last0 ∧ d.stopIfFenced.scr.last1 = d.scr.last1 ∧
    d.stopIfFenced.scr.due = d.scr.due := by
  simp only [Device.stopIfFenced]
  split <;> split <;> exact ⟨rfl, rfl, rfl⟩

/-- A start makes the next sweep the first one, with none due. -/
theorem Device.scrStart_first {d : Device} (off : d.on SCR_CTL_RUN = false) :
    d.scrStart.scr.last0 = none ∧ d.scrStart.scr.last1 = none ∧ d.scrStart.scr.due = none := by
  have start : d.scrStart = ((({ d.put SCR_CTL_RUN 1 with scr := { d.scr with last0 := none, last1 := none, due := none } } :
      Device).stopIfFenced).scrState).st uSCR .ok := if_neg (by simp [off])
  rw [start]
  exact Device.stopIfFenced_starts _

theorem Device.scrStop_idle {d : Device} (idle : d.scr.job = none) :
    d.scrStop = ({ d.put SCR_CTL_RUN 0 with scr := { d.scr with due := none } } : Device).scrState.st uSCR .ok := by
  simp [Device.scrStop, idle]

/-! ### Kernel choice and lookup data (R171, R173) -/

theorem Device.kselWrite_locked {d : Device} {k : Nat} (lock : d.on SCR_LOCK_LOCK = true) (other : k ≠ d.get SCR_KSEL_SLOT) :
    d.kselWrite k = d.st uSCR .locked := by
  simp [Device.kselWrite, lock, other]

theorem Device.kselWrite_unlocked {d : Device} (k : Nat) (lock : d.on SCR_LOCK_LOCK = false) :
    d.kselWrite k = if d.on (SCR_KINFO_VALID k) then (d.put SCR_KSEL_SLOT k).st uSCR .ok else d.st uSCR .reject := by
  cases h : d.on (SCR_KINFO_VALID k) <;> simp [Device.kselWrite, lock, h]

theorem Device.lutWrite_running {d : Device} (v : Word) (runs : d.scrStopped = false) : d.lutWrite v = d.st uSCR .busy :=
  if_neg (by simp [runs])

theorem Device.lutWrite_stopped {d : Device} {v : Word} (stopped : d.scrStopped = true) (nonzero : v ≠ 0#32) :
    d.lutWrite v = (({ d with scr := { d.scr with
      luts := mapSet (1024 * d.get SCR_LUTA_TABLE + d.get SCR_LUTA_POINT) v d.scr.luts } } : Device).lutStep).st uSCR .ok := by
  simp only [Device.lutWrite, stopped, nonzero, if_true, if_false]

/-! ### Jobs (R174) -/

theorem Device.jobWrite_reset {d : Device} {slot gen : Nat} (old : gen ≠ d.gen uSCR) : d.jobWrite slot gen = d.st uSCR .reset :=
  if_pos old

/-- A job is accepted with the scheduler off, the scorer started and free, a valid kernel, and rows that exist. -/
theorem Device.jobWrite_accepted {d : Device} {slot gen : Nat} (now : gen = d.gen uSCR) (manual : d.on BUD_CTL_EN = false)
    (started : d.scrStopped = false) (free : d.scr.job = none) (valid : d.on (SCR_KINFO_VALID slot) = true)
    (nonempty : 0 < d.get SCR_JCNT_COUNT) (rows : d.get SCR_JROW_FIRST + d.get SCR_JCNT_COUNT ≤ d.get SCR_ROWS_ROWS) :
    d.jobWrite slot gen = (d.beginJob slot (d.get SCR_JROW_FIRST) (d.get SCR_JCNT_COUNT) gen none).st uSCR .ok := by
  have fits : ¬ (d.get SCR_JCNT_COUNT = 0 ∨ d.get SCR_ROWS_ROWS < d.get SCR_JROW_FIRST + d.get SCR_JCNT_COUNT) := by omega
  simp [Device.jobWrite, ← now, manual, started, free, valid, fits]

/-! ### Lane fences (R175) -/

theorem Device.fenceLanes_standing {d : Device} {m : Nat} (h : m ||| d.get SCR_FENCE_FENCE = d.get SCR_FENCE_FENCE) : d.fenceLanes m = d :=
  if_pos h

theorem Device.fenceLanes_new {d : Device} {m : Nat} (h : m ||| d.get SCR_FENCE_FENCE ≠ d.get SCR_FENCE_FENCE) :
    d.fenceLanes m = ((d.put SCR_FENCE_FENCE (m ||| d.get SCR_FENCE_FENCE)).up SCR_EVT_FENCE).stopIfFenced := if_neg h

/-! ### Sweeps and invocations (R18, R164, R169) -/

/-- A sweep that is due starts once the one before it has ended and the scorer is ready; with every group fenced the scorer
stops instead. -/
theorem exec_sweepStart {s : State} (awake : s.dev.awake = true) {e per ms : Nat} (due : s.dev.scr.due = some (e, per, ms))
    (ended : s.dev.scr.sweep = none) (ready : s.dev.scorerReady = true) : exec .sweepStart s = .next (s.after
      (if s.dev.lanesInService = [] then
        ({ s.dev.suspendJob with scr := { s.dev.suspendJob.scr with due := none } } : Device).stopIfFenced
      else s.dev.startSweep e per ms)) := by
  show execSweepStart s = _
  exact onCtl_awake awake (by simp [due, ended, ready])

/-- An invocation retires on a lane that holds a row only. -/
theorem Device.retire_idle {d : Device} {l : Nat} (f : LaneFault) (idle : (d.lane l).row = none) : d.retire l f = d := by
  simp [Device.retire, idle]

/-- Settles O18: each command is one case of its operation. -/
theorem scorerCommands : Obligations.ScorerCommands := by
  intro s awake
  refine ⟨fun run => ⟨fun on => ?_, fun off => ?_, fun idle => ?_, fun k lock other => ?_, fun k lock void => ?_, fun k lock valid => ?_,
    fun v runs => ?_, fun v stopped nonzero => ?_, fun k g old => ?_, fun k g now manual started free valid nonempty rows => ?_,
    fun m standing => ?_, fun m new => ?_⟩, ?_, fun e per ms due ended ready => ⟨fun lanes => ?_, fun fenced => ?_⟩, fun due => ?_,
    fun l f idle => ?_, fun l f r slot w row slotRuns sweep left => ?_, fun j job done => ?_, fun j job going => ?_⟩
  · show execScorerStart s = _
    exact onCtl_released awake run (Device.scrStart_again on)
  · refine ⟨s.after s.dev.scrStart, ?_, by simpa using Device.scrStart_first off⟩
    show execScorerStart s = _
    exact onCtl_released awake run rfl
  · show execScorerStop s = _
    exact onCtl_released awake run (Device.scrStop_idle idle)
  · show execKernelSelect k s = _
    exact onCtl_released awake run (Device.kselWrite_locked lock other)
  · show execKernelSelect k s = _
    exact onCtl_released awake run ((Device.kselWrite_unlocked k lock).trans (if_neg (by simp [void])))
  · show execKernelSelect k s = _
    exact onCtl_released awake run ((Device.kselWrite_unlocked k lock).trans (if_pos valid))
  · show execLutDataAccess (some v) s = _
    exact onCtl_released awake run (Device.lutWrite_running v runs)
  · show execLutDataAccess (some v) s = _
    exact onCtl_released awake run (Device.lutWrite_stopped stopped nonzero)
  · show execJobStart k g s = _
    exact onCtl_released awake run (Device.jobWrite_reset old)
  · show execJobStart k g s = _
    exact onCtl_released awake run (Device.jobWrite_accepted now manual started free valid nonempty rows)
  · show execLaneFenceWrite m s = _
    exact onCtl_released awake run (by rw [Device.fenceLanes_standing standing])
  · show execLaneFenceWrite m s = _
    exact onCtl_released awake run (by rw [Device.fenceLanes_new new])
  · show execLutDataAccess none s = _
    exact onCtl_awake awake rfl
  · rw [exec_sweepStart awake due ended ready, if_neg lanes]
  · rw [exec_sweepStart awake due ended ready, if_pos fenced]
  · show execSweepStart s = _
    exact onCtl_awake awake (by simp [due])
  · show execInvocationRetire l f s = _
    exact onCtl_awake awake (Device.retire_idle f idle)
  · show execInvocationRetire l f s = _
    exact onCtl_awake awake rfl
  · show execJobDone s = _
    exact onCtl_awake awake (by simp [job, done])
  · show execJobDone s = _
    exact onCtl_awake awake (by simp [job, going])

end Sys2Proof.Machine
end

section
/-! PROOFS. Frames that the commands of the line, the scorer's rows and the thermal unit share: what writes only memory, and what
leaves the clock. -/

namespace Sys2Proof.Machine

/-! ### Writing rows and buffers -/

/-- `e` differs from `d` in memory and its bit errors only. -/
def Device.MemoryOnly (d e : Device) : Prop := ∃ m u, e = { d with mem := m, upsets := u }

theorem Device.MemoryOnly.refl (d : Device) : d.MemoryOnly d := ⟨d.mem, d.upsets, rfl⟩

theorem Device.MemoryOnly.trans {d e f : Device} (h : d.MemoryOnly e) (k : e.MemoryOnly f) : d.MemoryOnly f := by
  obtain ⟨m, u, rfl⟩ := h
  obtain ⟨m', u', rfl⟩ := k
  exact ⟨m', u', rfl⟩

theorem Device.memoryOnly_mwrite (d : Device) (a n v : Nat) : d.MemoryOnly (d.mwrite a n v) :=
  ⟨(d.mwrite a n v).mem, (d.mwrite a n v).upsets, rfl⟩

theorem Device.memoryOnly_ite {d e f : Device} (c : Prop) [Decidable c] (h : d.MemoryOnly e) (k : d.MemoryOnly f) :
    d.MemoryOnly (if c then e else f) := by
  split
  · exact h
  · exact k

/-- What writes memory only for each item of a list writes memory only. -/
theorem Device.memoryOnly_foldl {α : Type} (d : Device) (l : List α) {f : Device → α → Device}
    (h : ∀ (e : Device) x, e.MemoryOnly (f e x)) : d.MemoryOnly (l.foldl f d) :=
  List.foldlRecOn (motive := d.MemoryOnly) l f (.refl d) fun e he x _ => he.trans (h e x)

theorem Device.memoryOnly_setSlot (d : Device) (r k v : Nat) : d.MemoryOnly (d.setSlot r k v) :=
  d.memoryOnly_ite _ (d.memoryOnly_mwrite ..) (.refl d)

theorem Device.memoryOnly_setSlotLo (d : Device) (r k v : Nat) : d.MemoryOnly (d.setSlotLo r k v) :=
  d.memoryOnly_ite _ (d.memoryOnly_mwrite ..) (.refl d)

theorem Device.memoryOnly_setSlotHi (d : Device) (r k v : Nat) : d.MemoryOnly (d.setSlotHi r k v) :=
  d.memoryOnly_ite _ (d.memoryOnly_mwrite ..) (.refl d)

/-- Carrying out a row change writes memory only. -/
theorem Device.memoryOnly_applyOp (d : Device) (o : RowOp) : d.MemoryOnly (d.applyOp o) := by
  have setQ : ∀ (e : Device) row k b, e.MemoryOnly (e.setQ row k b) := fun e _ _ _ => e.memoryOnly_setSlotHi ..
  cases o with
  | bit row k b => exact setQ d row k b
  | flag n k b =>
    exact d.memoryOnly_ite _ (d.memoryOnly_foldl _ fun e _ => e.memoryOnly_ite _ (setQ e ..) (.refl e))
      (d.memoryOnly_foldl _ fun e _ => setQ e ..)
  | modid n v => exact d.memoryOnly_foldl _ fun e _ => e.memoryOnly_setSlot ..

/-- Writing the rows of a node writes memory only. -/
theorem Device.memoryOnly_applyWrite (d : Device) (w : NodeWrite) : d.MemoryOnly (d.applyWrite w) := by
  refine d.memoryOnly_foldl _ fun e c => ?_
  unfold Device.writeRow
  dsimp only
  split <;> split
  · exact ((e.memoryOnly_setSlotLo ..).trans (Device.memoryOnly_setSlotHi ..)).trans (Device.memoryOnly_setSlotLo ..)
  · exact (e.memoryOnly_setSlotHi ..).trans (Device.memoryOnly_setSlotLo ..)
  · exact (e.memoryOnly_setSlotLo ..).trans (Device.memoryOnly_setSlotHi ..)
  · exact e.memoryOnly_setSlotHi ..

/-- Writing the readings and the summary of a node writes memory only. -/
theorem Device.memoryOnly_storeReadings (d : Device) (e i : Nat) (cell temp : Nat → Nat) :
    d.MemoryOnly (d.storeReadings e i cell temp) :=
  (d.memoryOnly_foldl _ fun e _ => e.memoryOnly_mwrite ..).trans (Device.memoryOnly_foldl _ _ fun e _ => e.memoryOnly_mwrite ..)

theorem Device.memoryOnly_storeSummary (d : Device) (e i msum istr status sioff : Nat) :
    d.MemoryOnly (d.storeSummary e i msum istr status sioff) :=
  (((d.memoryOnly_mwrite ..).trans (Device.memoryOnly_mwrite ..)).trans (Device.memoryOnly_mwrite ..)).trans
    (Device.memoryOnly_mwrite ..)

/-! ### What leaves the clock -/

/-- From `d` to `e` the clock, the instant of the last epoch time, SYS's own state, the field die but for its trip latch, and the
registers that `R` picks stand. -/
structure Device.Stands (R : Nat → Bool) (d e : Device) : Prop where
  now : e.now = d.now
  lastT : e.flk.lastT = d.flk.lastT
  sys : e.sys = d.sys
  fd : e.fd = { d.fd with tripLatch := e.fd.tripLatch }
  regs : ∀ a, R a = true → e.rget a = d.rget a

namespace Device.Stands

variable {R : Nat → Bool} {d e : Device}

theorem refl (d : Device) : d.Stands R d := ⟨rfl, rfl, rfl, rfl, fun _ _ => rfl⟩

theorem trans {f : Device} (h : d.Stands R e) (k : e.Stands R f) : d.Stands R f :=
  ⟨k.now.trans h.now, k.lastT.trans h.lastT, k.sys.trans h.sys, by rw [k.fd, h.fd], fun a ha => (k.regs a ha).trans (h.regs a ha)⟩

/-- Fewer registers stand as well. -/
theorem mono {Q : Nat → Bool} (h : d.Stands R e) (sub : ∀ a, Q a = true → R a = true) : d.Stands Q e :=
  ⟨h.now, h.lastT, h.sys, h.fd, fun a ha => h.regs a (sub a ha)⟩

/-- A field of a register that stands. -/
theorem get (h : d.Stands R e) {f : Fld} (hf : R f.addr = true) : e.get f = d.get f := Device.get_congr (h.regs _ hf)

/-- An update of other parts of the device. -/
theorem same (h : d.Stands R e) {e' : Device} (k : (e'.now, e'.flk.lastT, e'.sys, e'.fd, e'.regs, e'.part) =
    (e.now, e.flk.lastT, e.sys, e.fd, e.regs, e.part)) : d.Stands R e' := by
  simp only [Prod.mk.injEq] at k
  obtain ⟨now, lastT, sys, fd, regs, part⟩ := k
  exact h.trans ⟨now, lastT, sys, by rw [fd], fun a _ => by rw [Device.rget, Device.rget, regs, part]⟩

theorem setAcq (h : d.Stands R e) (a : Acq) : d.Stands R { e with acq := a } := h.same rfl

theorem setScr (h : d.Stands R e) (x : Scr) : d.Stands R { e with scr := x } := h.same rfl

theorem setPub (h : d.Stands R e) (p : Pub) : d.Stands R { e with pub := p } := h.same rfl

theorem setRef (h : d.Stands R e) (r : Referee) : d.Stands R { e with ref := r } := h.same rfl

theorem setThm (h : d.Stands R e) (t : Thm) : d.Stands R { e with thm := t } := h.same rfl

theorem setTim (h : d.Stands R e) (t : Tim) : d.Stands R { e with tim := t } := h.same rfl

theorem setPrl (h : d.Stands R e) (f : Prl → Prl) : d.Stands R (e.setPrl f) := h.same rfl

theorem setBk (h : d.Stands R e) (b : Nat) (f : Bank → Bank) : d.Stands R (e.setBk b f) := h.same rfl

theorem setFlk (h : d.Stands R e) {k : Flk} (lastT : k.lastT = e.flk.lastT) : d.Stands R { e with flk := k } :=
  h.same (by rw [← lastT])

theorem fresh (h : d.Stands R e) : d.Stands R e.fresh.2 := h.same rfl

/-- A write of a register that `R` does not pick. -/
theorem rset (h : d.Stands R e) {a : Nat} {v : Word} (ha : R a = false) : d.Stands R (e.rset a v) := by
  refine h.trans ⟨rfl, rfl, rfl, rfl, fun b hb => e.rget_rset_ne ?_ v⟩
  rintro rfl
  exact Bool.false_ne_true (ha.symm.trans hb)

theorem put (h : d.Stands R e) {f : Fld} {v : Nat} (hf : R f.addr = false) : d.Stands R (e.put f v) := h.rset hf

theorem puts (h : d.Stands R e) {f : Fld} {v : Int} (hf : R f.addr = false) : d.Stands R (e.puts f v) := h.put hf

theorem up (h : d.Stands R e) {f : Fld} (hf : R f.addr = false) : d.Stands R (e.up f) := h.put hf

theorem down (h : d.Stands R e) {f : Fld} (hf : R f.addr = false) : d.Stands R (e.down f) := h.put hf

theorem putB (h : d.Stands R e) {f : Fld} {b : Bool} (hf : R f.addr = false) : d.Stands R (e.putB f b) := h.put hf

theorem ite (c : Prop) [Decidable c] {f : Device} (h : d.Stands R e) (k : d.Stands R f) : d.Stands R (if c then e else f) := by
  split
  · exact h
  · exact k

theorem when_ (h : d.Stands R e) {c : Bool} {f : Device → Device} (k : d.Stands R e → d.Stands R (f e)) : d.Stands R (e.when_ c f) :=
  .ite _ (k h) h

theorem foldl {α : Type} (h : d.Stands R e) (l : List α) {f : Device → α → Device}
    (hf : ∀ e, d.Stands R e → ∀ x ∈ l, d.Stands R (f e x)) : d.Stands R (l.foldl f e) :=
  List.foldlRecOn (motive := d.Stands R) l f h hf

theorem memoryOnly {f : Device} (h : d.Stands R e) (m : e.MemoryOnly f) : d.Stands R f := by
  obtain ⟨m, u, rfl⟩ := m
  exact h.same rfl

theorem count16 (h : d.Stands R e) {a : Nat} (ha : R a = false) : d.Stands R (e.count16 a) :=
  .ite _ h (.ite _ (h.rset ha) (h.rset ha))

theorem count32 (h : d.Stands R e) {a k : Nat} (ha : R a = false) (hu : R (unitOf a + 8) = false) :
    d.Stands R (e.count32 a k) :=
  .ite _ h (.ite _ ((h.rset ha).put hu) (h.rset ha))

theorem prlSend (h : d.Stands R e) (m : PairMsg) : d.Stands R (e.prlSend m) := .ite _ (h.same rfl) h

theorem setLatch (h : d.Stands R e) (hR : R SYS_EVT = false) : d.Stands R e.setLatch := by
  unfold Device.setLatch
  split
  · exact h
  · exact (h.up (f := SYS_EVT_TRIPL) hR).trans ⟨rfl, rfl, rfl, rfl, fun _ _ => rfl⟩

theorem lceExit (h : d.Stands R e) (hR : R ACQ_LCST = false) : d.Stands R e.lceExit :=
  .ite _ ((h.put (f := ACQ_LCST_QUIET) hR).same rfl) h

theorem disarm (h : d.Stands R e) (hR : R REF_ST = false ∧ R REF_CTL = false) : d.Stands R e.disarm :=
  ((h.down (f := REF_ST_ARMED) hR.1).down (f := REF_CTL_ARM) hR.2).same rfl

/-- The registers that a change of mode writes. -/
def modeRegs : List Nat := [SYS_MODE, SYS_EVT, REF_ST, REF_CTL, ACQ_LCST]

theorem enter (h : d.Stands R e) (m : Mode) (hR : ∀ a ∈ modeRegs, R a = false) : d.Stands R (e.enter m) := by
  simp only [modeRegs, List.forall_mem_cons] at hR
  obtain ⟨mode, evt, st, ctl, lcst, -⟩ := hR
  unfold Device.enter
  refine .ite _ (.ite _ (h.setLatch evt) h) ?_
  have changed := (((h.put (f := SYS_MODE_MODE) (v := m.code) mode).putB (f := SYS_MODE_BUSY)
    (b := m != .tripped && (e.sys.holdStage2 || e.thm.trip)) mode).up (f := SYS_EVT_MODE) evt).down (f := REF_ST_LOOSE) st
  exact ((changed.when_ fun h => h.setLatch evt).when_ fun h => h.lceExit lcst).when_ fun h => h.disarm ⟨st, ctl⟩

end Device.Stands

end Sys2Proof.Machine
end

section
/-! PROOFS. The clock monitor, PLL lock, supplies, and power-up of the control die (R25, R26, R42, R43, R443). -/

namespace Sys2Proof.Machine

/-! ### The clock monitor (R25) -/

/-- A window within ±3% of the root clock ends a run of bad windows. -/
theorem exec_clockMonitorWindow_good {s : State} (awake : s.dev.awake = true) {n : Nat} (lo : 3880 ≤ n) (hi : n ≤ 4120) :
    exec (.clockMonitorWindow n) s = .next (s.after (s.dev.setFd fun f => { f with clockBadPrev := false })) := by
  show execClockMonitorWindow n s = _
  have good : (decide (n < 3880) || decide (4120 < n)) = false := by simp [lo, hi]
  exact onCtl_awake awake (by simp [good])

/-- A window outside ±3% is remembered, and the second one in a row trips. -/
theorem exec_clockMonitorWindow_bad {s : State} (awake : s.dev.awake = true) {n : Nat} (far : n < 3880 ∨ 4120 < n) :
    exec (.clockMonitorWindow n) s = .next (s.after (if s.dev.fd.clockBadPrev then
      (s.dev.setFd fun f => { f with clockBadPrev := true, clockCause := true }).fieldTrip
    else s.dev.setFd fun f => { f with clockBadPrev := true })) := by
  show execClockMonitorWindow n s = _
  have bad : (decide (n < 3880) || decide (4120 < n)) = true := by simp [far]
  exact onCtl_awake awake (by simp only [bad, Bool.true_and]; rfl)

/-! ### PLL lock (R26) -/

theorem Device.Stands.enqueue {R : Nat → Bool} {d e : Device} (h : d.Stands R e) (p : Nat) (c : FlkCmd) :
    d.Stands R (e.enqueue p c) := .ite _ (.ite _ (h.prlSend _) h) (h.same rfl)

theorem Device.Stands.wakeFlock {R : Nat → Bool} {d e : Device} (h : d.Stands R e) (p : Nat) : d.Stands R (e.wakeFlock p) :=
  .ite _ (h.same rfl) h

/-- Queueing RELEASE at the drive ends changes the port ends only. -/
theorem Device.Stands.releaseFlocks {R : Nat → Bool} {d e : Device} (h : d.Stands R e) : d.Stands R e.releaseFlocks :=
  h.foldl _ fun _ he p _ => .ite _ (.ite _ he ((he.wakeFlock p).enqueue p _)) he

/-- The start of muster leaves the field die, but for the trip latch, the application domain and the last epoch time. -/
theorem Device.startMuster_leaves (d : Device) : d.startMuster.fd = { d.fd with tripLatch := d.startMuster.fd.tripLatch } ∧
    d.startMuster.sys.appHeld = d.sys.appHeld ∧ d.startMuster.flk.lastT = d.flk.lastT := by
  have h : d.Stands (fun _ => false) ((d.put Device.startMuster.SYS_MST 0).releaseFlocks) :=
    ((Device.Stands.refl d).put rfl).releaseFlocks
  exact ⟨h.fd, by rw [← h.sys]; rfl, h.lastT⟩

/-- The first effects of a release: the control die runs with its outputs enabled, the application domain runs, and the first
interval of the epoch sequencer begins. -/
def Device.started (d : Device) : Device :=
  ({ d.setFd fun f => { f with ctl := .running, outputsOff := false } with flk := { d.flk with lastT := d.now } } : Device).setSys
    fun y => { y with appHeld := false, released := true }

/-- A recorded wake raises its event, and takes WATCH to MUSTER. -/
def Device.raiseWake (d : Device) : Device :=
  let d := d.when_ d.fd.wakePending.isSome fun d => d.up SYS_EVT_WAKE
  let d := d.when_ d.fd.wakeIdx.isSome fun d => d.up BUD_EVT_WAKE
  d.when_ (d.fd.wakePending.isSome && d.mode == .watch) fun d => d.enter .muster

/-- The recorded wake is forgotten. -/
def Device.forgetWake (d : Device) : Device := d.setFd fun f => { f with wakePending := none, wakeIdx := none }

theorem Device.release_eq (d : Device) : d.release =
    d.started.raiseWake.forgetWake.when_ (d.started.raiseWake.forgetWake.mode == .muster) Device.startMuster := rfl

theorem Device.Stands.raiseWake {R : Nat → Bool} {d e : Device} (h : d.Stands R e) (bud : R BUD_EVT = false)
    (hR : ∀ a ∈ modeRegs, R a = false) : d.Stands R e.raiseWake := by
  unfold Device.raiseWake
  refine .when_ (.when_ (.when_ h fun h => h.up ?_) fun h => h.up bud) fun h => h.enter _ hR
  exact hR SYS_EVT (by simp [modeRegs])

theorem Device.release_starts (d : Device) : d.release.fd.ctl = .running ∧ d.release.fd.outputsOff = false ∧
    d.release.sys.appHeld = false ∧ d.release.fd.wakePending = none ∧ d.release.flk.lastT = d.now := by
  have h : d.started.Stands (fun _ => false) d.started.raiseWake := (Device.Stands.refl _).raiseWake rfl fun _ _ => rfl
  have ctl : d.started.raiseWake.fd.ctl = .running := by rw [h.fd]; rfl
  have outputs : d.started.raiseWake.fd.outputsOff = false := by rw [h.fd]; rfl
  have app : d.started.raiseWake.sys.appHeld = false := by rw [h.sys]; rfl
  have lastT : d.started.raiseWake.flk.lastT = d.now := h.lastT
  rw [d.release_eq]
  unfold Device.when_
  split
  · obtain ⟨fd', app', lastT'⟩ := d.started.raiseWake.forgetWake.startMuster_leaves
    rw [fd', app', lastT']
    exact ⟨ctl, outputs, app, rfl, lastT⟩
  · exact ⟨ctl, outputs, app, rfl, lastT⟩

/-! ### The events of the clock and the supplies -/

/-- Settles O1: each event is one case of its command. -/
theorem clockAndSupplyEvents : Obligations.ClockAndSupplyEvents := by
  intro s
  refine ⟨fun n awake lo hi => ?_, fun n awake far first => ?_, fun n awake far second => ?_,
    fun ramping cool => ?_, fun locking => ?_, fun off cool field cause => ?_, fun asleep gated cause => ?_, fun r running => ?_,
    fun ramping grace => ?_⟩
  · exact exec_clockMonitorWindow_good awake lo hi
  · rw [exec_clockMonitorWindow_bad awake far, if_neg (by simp [first])]
  · rw [exec_clockMonitorWindow_bad awake far, if_pos second]
  · show execSupplyQualified s = _
    exact onDev_next (if_pos ⟨ramping, cool⟩)
  · obtain ⟨runs, outputs, app, wake, start⟩ := s.dev.release_starts
    refine ⟨s.after s.dev.release, ?_, by simp [runs, outputs, app, wake, start]⟩
    show execPllLock s = _
    exact onDev_next (if_pos locking)
  · show execControlDiePowerUp s = _
    exact onDev_next (if_pos ⟨off, cool, field, cause⟩)
  · show execWakeFromS3 s = _
    exact onDev_next (if_pos ⟨asleep, gated, cause⟩)
  · show execSupplyFault r s = _
    exact onDev_next (by simp only [running])
  · show execCpwrRetry s = _
    exact onDev_next (if_pos ⟨ramping, grace⟩)

end Sys2Proof.Machine
end

section
/-! PROOFS. The publish unit (R19, R179 to R182). -/

namespace Sys2Proof.Machine

/-! ### Limits that fall to zero (R182) -/

/-- A field that reads 0 reads 0 after any field is cleared. -/
theorem Device.get_put_zero {d : Device} {f : Fld} (g : Fld) (h : d.get f = 0) : (d.put g 0).get f = 0 := by
  by_cases ha : f.addr = g.addr
  · have bits : ∀ i, (bitsOf (d.rget g.addr) f.lo f.w).testBit i = false := fun i => by
      rw [← ha]; exact (congrArg (·.testBit i) h).trans (Nat.zero_testBit i)
    apply Nat.eq_of_testBit_eq
    intro i
    have bit := bits i
    rw [testBit_bitsOf] at bit
    rw [Device.get, ha, Device.rget_put_same, testBit_bitsOf, testBit_withBits]
    split
    · simpa using fun hi _ => by simpa [hi] using bit
    · split
      · simp
      · simpa using fun hi _ => by simpa [hi] using bit
  · rw [Device.get_put_addr _ _ ha, h]

/-- A fold that establishes a fact at one item, and keeps it at every item, leaves it. -/
theorem foldl_establishes {α β : Type} {P : β → Prop} {f : β → α → β} {x : α} {l : List α} (hx : x ∈ l) (sets : ∀ b, P (f b x))
    (keeps : ∀ b y, P b → P (f b y)) (b : β) : P (l.foldl f b) := by
  induction l generalizing b with
  | nil => cases hx
  | cons y l ih =>
    rcases List.mem_cons.1 hx with rfl | hx
    · exact List.foldlRecOn l f (sets b) fun c hc z _ => keeps c z hc
    · exact ih hx _

/-- Two fields of every item of a list are cleared. -/
def Device.clearPairs {α : Type} (d : Device) (l : List α) (f g : α → Fld) : Device :=
  l.foldl (fun d s => (d.put (f s) 0).put (g s) 0) d

theorem Device.clearPairs_clear {α : Type} (d : Device) {x : α} {l : List α} (hx : x ∈ l) {f g : α → Fld}
    (hf : (f x).lo + (f x).w ≤ 32) (hg : (g x).lo + (g x).w ≤ 32) :
    (d.clearPairs l f g).get (f x) = 0 ∧ (d.clearPairs l f g).get (g x) = 0 := by
  refine foldl_establishes (P := fun d : Device => d.get (f x) = 0 ∧ d.get (g x) = 0) hx (fun d => ⟨?_, ?_⟩) (fun d y h => ⟨?_, ?_⟩) d
  · exact Device.get_put_zero _ ((d.get_put_same 0 hf).trans (Nat.zero_mod _))
  · exact (Device.get_put_same _ 0 hg).trans (Nat.zero_mod _)
  · exact Device.get_put_zero _ (Device.get_put_zero _ h.1)
  · exact Device.get_put_zero _ (Device.get_put_zero _ h.2)

/-- A field that reads 0 still does. -/
theorem Device.clearPairs_keeps {α : Type} {d : Device} (l : List α) (f g : α → Fld) {x : Fld} (h : d.get x = 0) :
    (d.clearPairs l f g).get x = 0 :=
  List.foldlRecOn (motive := fun d : Device => d.get x = 0) l _ h fun _ hd _ _ => Device.get_put_zero _ (Device.get_put_zero _ hd)

/-- The limits of the strings and banks of two lists are 0, with no remainder. -/
def Device.clearLimits (d : Device) (strings banks : List Nat) : Device :=
  let d := strings.foldl (fun (d : Device) s => (d.put (PUB_SLIM_ILIMC s) 0).put (PUB_SLIM_ILIMD s) 0) d
  let d := banks.foldl (fun (d : Device) b => (d.put (PUB_BLIMC_LIM b) 0).put (PUB_BLIMD_LIM b) 0) d
  { d with pub := { d.pub with frac := [] } }

theorem Device.zeroLimits_eq (d : Device) : d.zeroLimits = d.clearLimits (List.range 512) (List.range 4) := rfl

theorem Device.get_clearLimits (d : Device) (strings banks : List Nat) (x : Fld) : (d.clearLimits strings banks).get x =
    ((d.clearPairs strings PUB_SLIM_ILIMC PUB_SLIM_ILIMD).clearPairs banks PUB_BLIMC_LIM PUB_BLIMD_LIM).get x := rfl

theorem Device.get_zeroLimits (d : Device) (x : Fld) : d.zeroLimits.get x =
    ((d.clearPairs (List.range 512) PUB_SLIM_ILIMC PUB_SLIM_ILIMD).clearPairs (List.range 4) PUB_BLIMC_LIM PUB_BLIMD_LIM).get x := by
  rw [Device.zeroLimits_eq, Device.get_clearLimits]

/-- Every limit reads 0. -/
theorem Device.zeroLimits_clear (d : Device) :
    (∀ x < 512, d.zeroLimits.get (PUB_SLIM_ILIMC x) = 0 ∧ d.zeroLimits.get (PUB_SLIM_ILIMD x) = 0) ∧
    (∀ b < 4, d.zeroLimits.get (PUB_BLIMC_LIM b) = 0 ∧ d.zeroLimits.get (PUB_BLIMD_LIM b) = 0) := by
  simp only [Device.get_zeroLimits]
  constructor
  · intro x hx
    obtain ⟨c, e⟩ := d.clearPairs_clear (List.mem_range.2 hx) (f := PUB_SLIM_ILIMC) (g := PUB_SLIM_ILIMD) (by simp) (by simp)
    exact ⟨Device.clearPairs_keeps _ _ _ c, Device.clearPairs_keeps _ _ _ e⟩
  · intro b hb
    exact Device.clearPairs_clear _ (List.mem_range.2 hb) (f := PUB_BLIMC_LIM) (g := PUB_BLIMD_LIM) (by simp) (by simp)

theorem Device.zeroLimits_frac (d : Device) : d.zeroLimits.pub.frac = [] := rfl

/-! ### Initialisation (R179) -/

/-- Dropping every entry of a key leaves none. -/
theorem mapGet_filter_dropped {α : Type} {k : Nat} {p : Nat × α → Bool} (h : ∀ v, p (k, v) = false) (m : List (Nat × α)) :
    mapGet k (m.filter p) = none := by
  induction m with
  | nil => rfl
  | cons e m ih =>
    obtain ⟨a, v⟩ := e
    by_cases ha : a = k
    · subst ha; simpa [h v] using ih
    · by_cases hp : p (a, v) = true
      · simpa [hp, mapGet, ha] using ih
      · simpa [hp] using ih

/-- A byte whose entries are dropped reads as one that nothing has written. -/
theorem memGet_filter_dropped {a : Nat} {p : Host.Cell → Bool} (h : ∀ v, p (a, v) = false) (m : List Host.Cell) :
    memGet (m.filter p) a = memDefault a := by
  rw [memGet, mapGetD, mapGet_filter_dropped h, Option.getD_none]

/-- The initialisation of R179: slot k2 of every row reads as one that nothing has written. -/
def Device.pubInit (d : Device) : Device :=
  { d.up PUB_EVT_INITD with
    mem := d.mem.filter fun x => !(decide (0x40000000 ≤ x.1) && decide (x.1 < 0x40C00000) && x.1 % 64 / 4 == 2)
    pub := { d.pub with initd := true } }

theorem Device.memGet_pubInit (d : Device) {r k : Nat} (hr : r < 196608) (hk : k < 4) :
    memGet d.pubInit.mem (0x40000008 + 64 * r + k) = memDefault (0x40000008 + 64 * r + k) := by
  have slot : (0x40000008 + 64 * r + k) % 64 / 4 = 2 := by omega
  have low : 0x40000000 ≤ 0x40000008 + 64 * r + k := by omega
  have high : 0x40000008 + 64 * r + k < 0x40C00000 := by omega
  exact memGet_filter_dropped (fun _ => by simp only [slot, low, high]; rfl) _

/-! ### The publish instant (R19, R180, R181) -/

/-- A row change by acquisition reaches memory and acquisition only. -/
theorem Device.rowOp_eq (d : Device) (o : RowOp) : ∃ m u a, d.rowOp o = { d with mem := m, upsets := u, acq := a } := by
  unfold Device.rowOp
  split
  · obtain ⟨m, u, h⟩ := d.memoryOnly_applyOp o
    exact ⟨m, u, d.acq, h⟩
  · split <;> exact ⟨d.mem, d.upsets, _, rfl⟩

theorem Device.clearNew_eq (d : Device) : ∃ m u a, d.clearNew = { d with mem := m, upsets := u, acq := a } := by
  refine List.foldlRecOn (motive := fun e : Device => ∃ m u a, e = { d with mem := m, upsets := u, acq := a }) _ _
    ⟨d.mem, d.upsets, d.acq, rfl⟩ ?_
  rintro _ ⟨m, u, a, rfl⟩ i _
  obtain ⟨m', u', a', h⟩ := Device.rowOp_eq { d with mem := m, upsets := u, acq := a } (.flag i qNEW false)
  exact ⟨m', u', a', h⟩

/-- A pulse is raised, and nothing else changes. -/
theorem Device.pulse_eq (d : Device) (n : Nat) :
    ∃ l, d.pulse n = { d with pulses := l } ∧ n ∈ l ∧ ∀ k ∈ d.pulses, k ∈ l := by
  unfold Device.pulse
  split
  · next h => exact ⟨d.pulses, rfl, by simpa using h, fun _ => id⟩
  · exact ⟨n :: d.pulses, rfl, List.mem_cons_self, fun _ => List.mem_cons_of_mem _⟩

/-- The commit of epoch e at `ms` is shown and taken. -/
def Device.showCommit (d : Device) (e ms : Nat) : Device :=
  { d.put PUB_CEP_EPOCH e with pub := { d.pub with commit := none, lastMs := some ms } }

/-- The nodes that were NEW at the sweep's start are forgotten. -/
def Device.dropNews (d : Device) : Device := { d with pub := { d.pub with news := [] } }

/-- A publish instant, once it has committed the limits. -/
def Device.publishAfter (d : Device) (e ms : Nat) : Device :=
  let d : Device := { d.put PUB_CEP_EPOCH e with pub := { d.pub with commit := none, lastMs := some ms } }
  let d := d.clearNew
  (({ d with pub := { d.pub with news := [] } } : Device).pulse 160).pulse 161

theorem Device.publish_eq (d : Device) (e ms : Nat) : ∃ c : Device, d.publish e ms = c.publishAfter e ms := ⟨_, rfl⟩

theorem Device.publishAfter_eq (d : Device) (e ms : Nat) :
    d.publishAfter e ms = (((d.showCommit e ms).clearNew.dropNews).pulse 160).pulse 161 := rfl

/-- The publish instant of epoch e at `ms` takes the commit, remembers the instant, raises sources 160 and 161, and shows e. -/
theorem Device.publish_commits (d : Device) (e ms : Nat) : (d.publish e ms).pub.commit = none ∧
    (d.publish e ms).pub.lastMs = some ms ∧ 160 ∈ (d.publish e ms).pulses ∧ 161 ∈ (d.publish e ms).pulses ∧
    (d.publish e ms).get PUB_CEP_EPOCH = e % 4294967296 := by
  obtain ⟨c, eq⟩ := d.publish_eq e ms
  obtain ⟨m, u, a, new⟩ := (c.showCommit e ms).clearNew_eq
  obtain ⟨l, first, at160, -⟩ := (c.showCommit e ms).clearNew.dropNews.pulse_eq 160
  obtain ⟨l', second, at161, still⟩ := ((c.showCommit e ms).clearNew.dropNews.pulse 160).pulse_eq 161
  have shown : (c.showCommit e ms).get PUB_CEP_EPOCH = e % 4294967296 := Device.get_put_same c e (by decide)
  rw [first] at still
  rw [eq, c.publishAfter_eq, second, first, new]
  exact ⟨rfl, rfl, still 160 at160, at161, shown⟩

end Sys2Proof.Machine
end

section
/-! PROOFS. The thermal budget, the energy bucket and job dispatch (R24, R328 to R335). -/

namespace Sys2Proof.Machine

/-! ### The clock stands through a set of samples -/

namespace Device.Stands

variable {d e : Device} (h : d.Stands (fun _ => false) e)
include h

theorem clearLanes : d.Stands (fun _ => false) e.clearLanes := h.same rfl

theorem scrState : d.Stands (fun _ => false) e.scrState := h.put rfl

theorem suspendJob : d.Stands (fun _ => false) e.suspendJob := by
  unfold Device.suspendJob
  split
  · exact h
  · exact ((h.same (e' := { e with scr := _ }) (by rfl)).put rfl).clearLanes

theorem failSensor (n : Nat) : d.Stands (fun _ => false) (e.failSensor n) :=
  .ite _ (.up (.put (.put (.up (.put (.put h rfl) rfl) rfl) rfl) rfl) rfl) (.put (.up (.put (.put h rfl) rfl) rfl) rfl)

theorem sensorIn (n : Nat) (s : SensorSample) : d.Stands (fun _ => false) (e.sensorIn n s) := by
  unfold Device.sensorIn
  split
  · exact h
  · split
    · exact (h.puts rfl).same rfl
    · exact .ite _ (.failSensor (h.same (by rfl)) n) (h.same rfl)

theorem substituteAll : d.Stands (fun _ => false) e.substituteAll := by
  refine h.foldl _ fun e he n _ => ?_
  split
  · exact he
  · split
    · exact he.puts rfl
    · exact he

theorem enterBudget (st : Nat) : d.Stands (fun _ => false) (e.enterBudget st) :=
  .ite _ (.scrState (.suspendJob (.up (.up (.put h rfl) rfl) rfl))) (.up (.put h rfl) rfl)

theorem raiseBudget : d.Stands (fun _ => false) e.raiseBudget := .ite _ ((h.enterBudget _).same rfl) h

theorem openDriver (k : Nat) : d.Stands (fun _ => false) (e.openDriver k) :=
  .ite _ (.ite _ (.put (h.same (e' := e.setDk k _) rfl) rfl)
    (.count16 (.put (h.same (e' := e.setDk k _) rfl) rfl) rfl)) (h.same rfl)

theorem openFirst (r b : Nat) : d.Stands (fun _ => false) (e.openFirst r b) := by
  unfold Device.openFirst
  exact .when_ (.when_ (.setBk ((h.openDriver _).openDriver _) _ _) fun h => .put (.up (.put (.put h rfl) rfl) rfl) rfl)
    fun h => h.put rfl

theorem orderlyTrip (was : Bool) : d.Stands (fun _ => false) (e.orderlyTrip was) := by
  have events := h.when_ (c := e.overTemp && !was) (f := fun d => d.up THM_EVT_TRIP) fun h => h.up rfl
  exact .ite _
    (.setThm (.put (.scrState (.suspendJob (.openFirst (.openFirst (.openFirst (.openFirst (.up events rfl) _ _) _ _) _ _) _ _))) rfl) _)
    events

theorem thmEvaluate (was : Bool) : d.Stands (fun _ => false) (e.thmEvaluate was) := by
  unfold Device.thmEvaluate
  refine .orderlyTrip (.raiseBudget (.setThm (.putB ?_ rfl) _)) was
  split
  · exact h.substituteAll.puts rfl
  · exact h.substituteAll

theorem thermalSample (v : Vector SensorSample 18) : d.Stands (fun _ => false) (e.thermalSample v) :=
  .thmEvaluate (h.foldl _ fun _ he n _ => he.sensorIn n _) _

end Device.Stands

/-- The second stage of an orderly trip opens every bank, and the sequence is over. -/
def Device.tripEnd (d : Device) : Device :=
  { d.openSecondStage.openAllAct with thm := { d.thm with trip := false } }

theorem exec_orderlyTripSecondStage {s : State} (awake : s.dev.awake = true) (trip : s.dev.thm.trip = true) :
    exec .orderlyTripSecondStage s = .next (s.after s.dev.tripEnd) := by
  show execOrderlyTripSecondStage s = _
  exact onCtl_awake awake (if_pos trip)

/-! ### Job dispatch (R335) -/

/-- While the scorer is idle and the scheduler on, the best eligible entry starts. -/
theorem Device.dispatch_best {d : Device} {j : Nat} (idle : d.get SCR_ST_STATE = 1) (on : d.on BUD_CTL_EN = true)
    (free : d.scr.job = none) (due : d.scr.due = none)
    (best : ((List.range 16).filter d.eligible).foldl d.betterEntry none = some j) :
    let e := ((d.setBucket (d.bud.bucket - d.entryCost j)).put BUD_JST_ENTRY j).put BUD_JST_BUSY 1
    d.dispatch = e.beginJob (e.get (BUD_QCFG_SLOT j)) (e.get (BUD_QROW_FIRST j)) (e.get (BUD_QCNT_COUNT j)) (e.gen uSCR) (some j) := by
  have starts : d.get SCR_ST_STATE = 1 ∧ d.on BUD_CTL_EN ∧ d.scr.job.isNone ∧ d.scr.due.isNone := ⟨idle, on, by simp [free], by simp [due]⟩
  simp only [Device.dispatch, if_pos starts, best]

/-- Settles O19: a stale publish unit reads zero limits, a publish instant leaves what `publish_commits` says, a set of samples
leaves the clock, and the other commands run as they stand. -/
theorem publishAndBudget : Obligations.PublishAndBudget := by
  intro s awake
  refine ⟨?_, fun initd => ?_, fun blank => ?_, fun calm => ?_, fun e ms commit => ?_, ?_, fun v => ⟨?_, ?_⟩, fun stay => ?_,
    fun may hold => ?_, fun may free => ?_, fun rest => ?_, fun trip => ?_, ?_, fun off => ?_, fun j idle on free due best => ?_⟩
  · obtain ⟨strings, banks⟩ := s.dev.zeroLimits_clear
    have stale {f : Fld} (h : s.dev.zeroLimits.get f = 0) (at_ : 0x60130038 ≤ f.addr ∧ f.addr < 0x60140000) :
        ((s.dev.zeroLimits.up PUB_EVT_STALE).settle).get f = 0 := by
      rw [Device.settle_get_apart _ (.inl (by omega)), Device.up, Device.get_put_addr _ _ (by show f.addr ≠ 0x60130034; omega), h]
    refine ⟨s.after (s.dev.zeroLimits.up PUB_EVT_STALE), ?_, ?_⟩
    · show execStaleTimeout s = _
      exact onCtl_awake awake rfl
    · simp only [State.after_fields, Device.settle_leaves, Device.up_leaves]
      exact ⟨s.dev.zeroLimits_frac, fun x => ⟨stale (strings x.val x.isLt).1 (by simp only [PUB_SLIM]; omega),
          stale (strings x.val x.isLt).2 (by simp only [PUB_SLIM]; omega)⟩,
        fun b => ⟨stale (banks b.val b.isLt).1 (by simp only [PUB_BLIMC]; omega),
          stale (banks b.val b.isLt).2 (by simp only [PUB_BLIMD]; omega)⟩⟩
  · show execPubInitDone s = _
    exact onCtl_awake awake (if_pos initd)
  · refine ⟨s.after s.dev.pubInit, ?_, ?_⟩
    · show execPubInitDone s = _
      exact onCtl_awake awake (if_neg (by simp [blank]))
    · simp only [State.after_fields, Device.settle_leaves]
      exact ⟨rfl, fun r hr k hk => s.dev.memGet_pubInit hr hk⟩
  · show execPublishInstant s = _
    exact onCtl_awake awake (by rw [calm])
  · obtain ⟨taken, last, at160, at161, shown⟩ := s.dev.publish_commits e ms
    refine ⟨s.after (s.dev.publish e ms), ?_, ?_⟩
    · show execPublishInstant s = _
      exact onCtl_awake awake (by rw [commit])
    · simp only [State.after_fields, Device.settle_leaves]
      exact ⟨taken, last, at160, at161, (Device.settle_get_apart _ (.inl (by decide))).trans shown⟩
  · show execThrottleStep s = _
    exact onCtl_awake awake rfl
  · show execThermalSample v s = _
    exact onCtl_awake awake rfl
  · simp only [Device.settle_leaves]
    exact ((Device.Stands.refl s.dev).thermalSample v).now
  · show execBudgetStepDown s = _
    exact onCtl_awake awake (if_pos (by simp [stay]))
  · show execBudgetStepDown s = _
    exact onCtl_awake awake ((if_neg (by simp [may])).trans (if_pos hold))
  · show execBudgetStepDown s = _
    exact onCtl_awake awake ((if_neg (by simp [may])).trans (if_neg (by simp [free])))
  · show execSensorFailHoldExpiry s = _
    exact onCtl_awake awake (if_neg (by simp [rest]))
  · exact ⟨s.after s.dev.tripEnd, exec_orderlyTripSecondStage awake trip, by simp [Device.tripEnd]⟩
  · show execBucketFill s = _
    exact onCtl_awake awake rfl
  · show execJobDispatch s = _
    exact onCtl_awake awake (if_neg (by simp [off]))
  · show execJobDispatch s = _
    exact onCtl_awake awake (Device.dispatch_best idle on free due best)

end Sys2Proof.Machine
end

section
/-! PROOFS. The epoch time and the close of an epoch (R15, R21, R464): the clock, the number of the epoch and the pair link. -/

namespace Sys2Proof.Machine

/-! ### Registers that an epoch time leaves -/

/-- The epoch number, and the registers of the pair link. -/
def lineRegs (a : Nat) : Bool := a == FLK_EPNUM || decide (0x601D0000 ≤ a) && decide (a < 0x601E0000)

/-- The epoch number alone. -/
def numberReg (a : Nat) : Bool := a == FLK_EPNUM

theorem lineRegs_below {a : Nat} (h : FLK_EPNUM < a ∧ a < 0x601D0000) : lineRegs a = false := by
  have number : a ≠ FLK_EPNUM := by omega
  have link : ¬ 0x601D0000 ≤ a := by omega
  simp [lineRegs, number, link]

theorem lineRegs_of_numberReg {a : Nat} (h : numberReg a = true) : lineRegs a = true := by
  simp only [lineRegs, numberReg] at *
  rw [h, Bool.true_or]

/-! ### The close of an epoch (R15) -/

namespace Device.Stands

variable {d e : Device} (h : d.Stands lineRegs e)
include h

theorem rowWrite (n : Nat) (w : NodeWrite) : d.Stands lineRegs (e.rowWrite n w) :=
  .ite _ (h.memoryOnly (e.memoryOnly_applyWrite w)) (h.same rfl)

theorem markMissing (i n : Nat) : d.Stands lineRegs (e.markMissing i n) := by
  unfold Device.markMissing
  exact .rowWrite (.setAcq ((h.memoryOnly (e.memoryOnly_storeReadings n i _ _)).memoryOnly (Device.memoryOnly_storeSummary ..)) _) n _

theorem acqMissing (n i : Nat) : d.Stands lineRegs (e.acqMissing n i) := .ite _ (h.markMissing i n) h

theorem countQuiet (per : Nat) : d.Stands lineRegs (e.countQuiet per) := by
  unfold Device.countQuiet
  exact .ite _ (.setFlk (.setAcq (.put h rfl) _) rfl) (.ite _ (.lceExit (.setAcq (.put h rfl) _) rfl) (.setAcq (.put h rfl) _))

/-- The scoreboard write of a pending epoch: row changes, held rows, and row changes again. -/
theorem rows (first last : List RowOp) (held : List NodeWrite) :
    d.Stands lineRegs (last.foldl (fun d o => d.applyOp o)
      (held.foldl (fun d w => d.applyWrite w) (first.foldl (fun d o => d.applyOp o) e))) :=
  ((h.memoryOnly (e.memoryOnly_foldl _ Device.memoryOnly_applyOp)).memoryOnly
    (Device.memoryOnly_foldl _ _ Device.memoryOnly_applyWrite)).memoryOnly (Device.memoryOnly_foldl _ _ Device.memoryOnly_applyOp)

theorem boardWrite : d.Stands lineRegs e.boardWrite := by
  unfold Device.boardWrite
  split
  · exact .ite _ h (.setAcq (h.rows _ [] []) _)
  · exact .ite _ h (.ite _ (.ite _ (.setScr (.setAcq (h.rows _ _ _) _) _) (.setAcq (h.rows _ _ _) _)) (.setAcq (h.rows _ _ _) _))

theorem presentWires : d.Stands lineRegs e.presentWires := h.setRef _

theorem closeEpoch (o : OpenEpoch) : d.Stands lineRegs (e.closeEpoch o) := by
  unfold Device.closeEpoch
  refine .boardWrite (.setAcq (.countQuiet (.presentWires (.put (.up ?_ rfl) rfl)) o.per) _)
  exact .foldl (h.foldl _ fun _ he i _ => he.acqMissing o.epoch i) _ fun _ he _ _ => he.setAcq _

theorem spoil {s : Nat} (hs : s < 512) (bit : Nat) : d.Stands lineRegs (e.spoil s bit) := by
  have gate : lineRegs (PUB_LGS s) = false := lineRegs_below (by simp only [PUB_LGS, FLK_EPNUM]; omega)
  unfold Device.spoil
  split
  · exact ((h.put (f := PUB_LGS_STATE s) gate).put (f := PUB_LGS_REASON s) gate).up rfl
  · exact h.put (f := PUB_LGS_REASON s) gate
  · exact h

theorem closeStrings (n : Nat) : d.Stands lineRegs (e.closeStrings n) := by
  refine h.foldl _ fun e he s hs => .ite _ ?_ he
  have hs := List.mem_range.1 hs
  exact .when_ (.when_ (.ite _ (he.setPub _) he) fun h => h.spoil hs 1) fun h => h.spoil hs 2

theorem closeOldest : d.Stands lineRegs e.closeOldest := by
  unfold Device.closeOldest
  split
  · exact .when_ ((h.closeEpoch _).closeStrings _) fun h => h.prlSend _
  · exact h

theorem closeOverdue : d.Stands lineRegs e.closeOverdue := h.foldl _ fun _ he _ _ => .when_ he fun h => h.closeOldest

theorem closeDelivered : d.Stands lineRegs e.closeDelivered := .when_ h fun h => h.closeOldest

/-! ### The epoch that ends, and the one that begins (R464) -/

theorem inputMeans {i : Nat} (hi : i < 16) (n per : Nat) (ones : BmiOnes) : d.Stands lineRegs (e.inputMeans i n per ones) := by
  have window : lineRegs (BMI_WMEAN i) = false := lineRegs_below (by simp only [BMI_WMEAN, FLK_EPNUM]; omega)
  have epoch : lineRegs (BMI_EMEAN i) = false := lineRegs_below (by simp only [BMI_EMEAN, FLK_EPNUM]; omega)
  have number : lineRegs (BMI_MEP i) = false := lineRegs_below (by simp only [BMI_MEP, FLK_EPNUM]; omega)
  exact .ite _ (.put (.put (.put h window) epoch) number) h

theorem bmiMeans (n per : Nat) (ones : Vector BmiOnes 16) : d.Stands lineRegs (e.bmiMeans n per ones) := by
  refine h.foldl _ fun e he i hi => ?_
  split
  · exact he.inputMeans (List.mem_range.1 hi) n per _
  · exact he

theorem rollReferee : d.Stands lineRegs e.rollReferee := h.same rfl

theorem setPlk (b : Bool) : d.Stands lineRegs (e.setPlk b) := .ite _ h (.up (.putB h rfl) rfl)

theorem unlockPhase : d.Stands lineRegs e.unlockPhase := (h.setPlk false).setTim _

theorem takePeriod (n : Nat) : d.Stands lineRegs (e.takePeriod n) := by
  unfold Device.takePeriod
  split
  · refine .ite _ (.ite _ (.up (.put (.put (.setFlk ?_ (by rfl)) rfl) rfl) rfl)
      (.when_ (.setFlk ?_ (by rfl)) fun h => .up (.put (.put h rfl) rfl) rfl)) h
    all_goals exact .when_ h fun h => .setTim h.unlockPhase _
  · exact h

theorem steer : d.Stands lineRegs e.steer := by
  unfold Device.steer
  exact .ite _ (.ite _ (.setPlk (.setTim (.puts h rfl) _) false)
    (.ite _ (.setPlk (.setTim (.puts h rfl) _) true) (.setTim (.puts h rfl) _)))
    (h.setTim _)

theorem armNow : d.Stands lineRegs e.armNow := by
  unfold Device.armNow
  split
  · exact h
  · next arm _ => cases arm with
    | true => exact .setRef (.setRef (h.put (f := REF_ST_ARMED) (v := 1) rfl) _) _
    | false => exact h.disarm ⟨rfl, rfl⟩

theorem upgrade : d.Stands lineRegs e.upgrade := .ite _ (h.enter _ (by decide)) h

theorem openPend (n per ms : Nat) : d.Stands lineRegs (e.openPend n per ms) := by
  unfold Device.openPend
  refine .ite _ h (.setAcq ?_ _)
  split
  · exact .ite _ (.count32 (.up (h.setAcq _) rfl) rfl rfl) h
  · exact h

theorem openEpoch (n per ms : Nat) : d.Stands lineRegs (e.openEpoch n per ms) := .ite _ ((h.setAcq _).openPend n per ms) h

end Device.Stands

end Sys2Proof.Machine
end

section
/-! PROOFS. The epoch time, the line schedule and the breaks of a ring (O9). -/

namespace Sys2Proof.Machine

/-! ### The pair link at an epoch time (R411, R419) -/

namespace Device.Stands

variable {d e : Device} (h : d.Stands numberReg e)
include h

theorem joinEnd (st : Status) : d.Stands numberReg (e.joinEnd st) := .setPrl (.put (.put (.put h rfl) rfl) rfl) _

theorem joinFinish : d.Stands numberReg e.joinFinish := by
  unfold Device.joinFinish
  exact .ite _ (.ite _ (.ite _ (.joinEnd (.up (.put (.put h.fresh rfl) rfl) rfl) _) (h.fresh.joinEnd _)) (.ite _ (h.joinEnd _) h)) h

theorem prlEpoch : d.Stands numberReg e.prlEpoch := by
  unfold Device.prlEpoch
  exact .joinFinish (.setPrl (.when_ (.when_ h fun h => h.putB rfl) fun h => h.put rfl) _)

end Device.Stands

/-! ### Time that passes up to an epoch time (R464) -/

theorem Device.Stands.setClock {R : Nat → Bool} {d e : Device} (h : d.Stands R e) (t : Tim) (c : Cpx) :
    d.Stands R { e with tim := t, cpx := c } := h.same rfl

theorem Device.Stands.pulse {R : Nat → Bool} {d e : Device} (h : d.Stands R e) (n : Nat) : d.Stands R (e.pulse n) :=
  .ite _ h (h.same rfl)

/-- Time that passes moves the clock, and no register but BUD_STIME and TIM_EVT. -/
theorem Device.elapse_passes (d : Device) (n : Nat) : (d.elapse n).now = d.now + 4 * n ∧
    ∀ a, a ≠ BUD_STIME → a ≠ TIM_EVT → (d.elapse n).rget a = d.rget a := by
  have passed : ({ d with now := d.now + 4 * n } : Device).Stands (fun a => a != BUD_STIME && a != TIM_EVT) (d.elapse n) := by
    unfold Device.elapse
    exact .ite _ (.setClock (.when_ (.when_ (.put (.refl _) rfl) fun h => h.pulse 20) fun h => h.up rfl) _ _)
      (.when_ (.put (.refl _) rfl) fun h => h.pulse 20)
  exact ⟨passed.now, fun a stime evt => passed.regs a (by simp [stime, evt])⟩

theorem Device.runTo_passes (d : Device) (ns : Nat) : d.now ≤ (d.runTo ns).now ∧
    ∀ a, a ≠ BUD_STIME → a ≠ TIM_EVT → (d.runTo ns).rget a = d.rget a := by
  unfold Device.runTo
  split
  · obtain ⟨now, regs⟩ := d.elapse_passes ((ns - d.now + 3) / 4)
    exact ⟨by omega, regs⟩
  · exact ⟨le_rfl, fun _ _ _ => rfl⟩

/-! ### The epoch time (R21, R464) -/

/-- What the epoch that ends leaves: overdue epochs close, and means and counts are formed. -/
def Device.endEpoch (d : Device) (ended per : Nat) (ones : Vector BmiOnes 16) : Device :=
  let d := d.closeOverdue
  let d := d.when_ (ended != 0) fun d => (d.bmiMeans ended per ones).rollReferee
  d.when_ (d.flk.lce && d.currentsHigh) Device.lceExit

/-- Epoch n begins at the present instant. -/
def Device.numberEpoch (d : Device) (ended per n : Nat) : Device :=
  let d := d.put FLK_EPNUM_EPOCH n
  { d with flk := { d.flk with
    lastT := d.now, prevLen := d.now - d.flk.lastT, totalMs := if ended = 0 then d.flk.totalMs else d.flk.totalMs + per } }

theorem Device.numberEpoch_begins (d : Device) (ended per n : Nat) : (d.numberEpoch ended per n).now = d.now ∧
    (d.numberEpoch ended per n).flk.lastT = d.now ∧ (d.numberEpoch ended per n).get FLK_EPNUM_EPOCH = n % 4294967296 :=
  ⟨rfl, rfl, d.get_put_same n (by decide)⟩

/-- What takes effect at the epoch time of epoch n. -/
def Device.startEpoch (d : Device) (n : Nat) : Device :=
  let d := ((d.takePeriod n).steer).armNow.upgrade
  let d := (d.openEpoch n d.flk.per d.flk.totalMs).closeDelivered
  let d := d.prlEpoch
  d.when_ (d.isActive && d.on PRL_CTL_EN) fun d => d.prlSend (.epoch ⟨d.rget FLK_EPNUM, BitVec.ofNat 7 d.flk.per⟩)

/-- The number of the epoch that begins after epoch `ended`. -/
def Device.nextNumber (d : Device) (ended : Nat) : Nat := if d.follower then d.followNumber else ended + 1

theorem Device.epochTime_eq (d : Device) (ones : Vector BmiOnes 16) :
    ∃ e, e = (d.runTo d.nextEpochAt).endEpoch d.epoch d.flk.per ones ∧
    d.epochTime ones = (e.numberEpoch d.epoch d.flk.per (e.nextNumber d.epoch)).startEpoch (e.nextNumber d.epoch) := ⟨_, rfl, rfl⟩

theorem Device.Stands.endEpoch {d e : Device} (h : d.Stands lineRegs e) (ended per : Nat) (ones : Vector BmiOnes 16) :
    d.Stands lineRegs (e.endEpoch ended per ones) := by
  have formed : d.Stands lineRegs (e.closeOverdue.when_ (ended != 0) fun d => (d.bmiMeans ended per ones).rollReferee) :=
    .when_ h.closeOverdue fun h => (h.bmiMeans ended per ones).rollReferee
  unfold Device.endEpoch
  exact .when_ formed fun h => h.lceExit rfl

theorem Device.Stands.startEpoch (d : Device) (n : Nat) : d.Stands numberReg (d.startEpoch n) := by
  unfold Device.startEpoch
  have line : d.Stands lineRegs _ := ((Device.Stands.refl d).takePeriod n).steer.armNow.upgrade
  exact .when_ (.prlEpoch (.mono (.closeDelivered (.openEpoch line n _ _)) fun _ => lineRegs_of_numberReg)) fun h => h.prlSend _

/-- An epoch time comes no earlier than the present instant, begins an interval of the sequencer, and advances the number of a
device that follows no other. -/
theorem Device.epochTime_advances (d : Device) (ones : Vector BmiOnes 16) : d.now ≤ (d.epochTime ones).now ∧
    (d.epochTime ones).flk.lastT = (d.epochTime ones).now ∧
    (d.follower = false → (d.epochTime ones).get FLK_EPNUM_EPOCH = (d.epoch + 1) % 4294967296) := by
  obtain ⟨passed, regs⟩ := d.runTo_passes d.nextEpochAt
  obtain ⟨e, he, eq⟩ := d.epochTime_eq ones
  have ended : (d.runTo d.nextEpochAt).Stands lineRegs e := by rw [he]; exact (Device.Stands.refl _).endEpoch ..
  obtain ⟨at_, lastT, shown⟩ := e.numberEpoch_begins d.epoch d.flk.per (e.nextNumber d.epoch)
  have begun := Device.Stands.startEpoch (e.numberEpoch d.epoch d.flk.per (e.nextNumber d.epoch)) (e.nextNumber d.epoch)
  rw [eq]
  refine ⟨?_, ?_, fun leads => ?_⟩
  · rw [begun.now, at_, ended.now]
    exact passed
  · rw [begun.now, begun.lastT, at_, lastT]
  · have role : e.get PRL_ST_ROLE = d.get PRL_ST_ROLE :=
      (ended.get rfl).trans (Device.get_congr (regs _ (by decide) (by decide)))
    have leads' : e.follower = false := by
      unfold Device.follower at *
      rw [role, leads]
    have number : e.nextNumber d.epoch = d.epoch + 1 := if_neg (by simp [leads'])
    rw [begun.get rfl, shown, number]

/-! ### The close of an epoch whose records are delivered (R15, R184) -/

/-- With the pair link off, the close of the oldest open epoch sends nothing. -/
theorem Device.closeOldest_unlinked {d : Device} {o : OpenEpoch} {l : List OpenEpoch} (opens : d.acq.opens = o :: l)
    (unlinked : d.on PRL_CTL_EN = false) : d.closeOldest = (d.closeEpoch o).closeStrings o.epoch := by
  have closed : d.Stands lineRegs ((d.closeEpoch o).closeStrings o.epoch) := ((Device.Stands.refl d).closeEpoch o).closeStrings _
  have off : ((d.closeEpoch o).closeStrings o.epoch).on PRL_CTL_EN = false := by
    rw [Device.on, closed.get rfl]
    exact unlinked
  simp only [Device.closeOldest, opens, off, Device.when_, Bool.false_eq_true, if_false]

/-! ### The line schedule (R70, R90) -/

/-- The CONT bit of a port end says nothing of whether a break can be declared at it. -/
theorem Device.canBreak_put_cont (d : Device) (p v : Nat) :
    (d.put (FLK_PSTAT_CONT p) v).canBreak p = d.canBreak p := by
  have role : FLK_PCTL p ≠ FLK_PSTAT p := by simp only [FLK_PCTL, FLK_PSTAT]; omega
  simp only [Device.canBreak, Device.isRing, Device.isListen, Device.on]
  rw [d.get_put_addr v (g := FLK_PCTL_TOPO p) role, d.get_put_addr v (g := FLK_PCTL_ROLE p) role,
    d.get_put_addr v (g := FLK_PCTL_FOLDEN p) role, d.get_put_bits v (g := FLK_PSTAT_FOLD p) (.inl le_rfl)]
  rfl

/-- MARKER carries the number of the epoch that follows the present one, and ends the command interval. -/
theorem Device.injectMarker_announces (d : Device) : d.injectMarker.flk.marker = d.epoch + 1 ∧ d.injectMarker.flk.cmdOpen = false := by
  have regs : (d.ports.foldl (fun e p => if e.isDrive p then e.preempt p e.now else e) d).epoch = d.epoch :=
    List.foldlRecOn (motive := fun e : Device => e.epoch = d.epoch) _ _ rfl fun e he p _ => by
      split
      · exact he
      · exact he
  exact ⟨congrArg (· + 1) regs, rfl⟩

/-! ### The start of the record phases (R70 step 6) -/

/-- The record phase of epoch `epoch`, which began at `at_`, has begun and has taken no record. -/
def PortState.Begun (v : PortState) (epoch at_ : Nat) : Prop :=
  v.phase = true ∧ v.phEpoch = epoch ∧ v.phT = at_ ∧ v.accepted = [] ∧ v.missing = []

/-- The record phase of port end p begins, if its flock has had SETPER. -/
def Device.takeRecords (d : Device) (p : Nat) : Device :=
  if d.portEnabled p && (d.pt p).setper then
    d.setPt p fun v => { v with phase := true, phEpoch := d.epoch, phT := d.flk.lastT, accepted := [], missing := [] }
  else d

theorem execRecordPhaseLinkTake_eq (s : State) :
    execRecordPhaseLinkTake s = onCtl s fun d => d.ports.foldl Device.takeRecords d := rfl

/-- From `d` to `e` what the start of a record phase reads stands. -/
structure Device.Taking (d e : Device) : Prop where
  part : e.part = d.part
  regs : e.regs = d.regs
  lastT : e.flk.lastT = d.flk.lastT
  setper : ∀ q, (e.pt q).setper = (d.pt q).setper

namespace Device.Taking

variable {d e : Device} (h : d.Taking e)
include h

theorem get (f : Fld) : e.get f = d.get f := Device.get_congr (by rw [Device.rget, Device.rget, h.regs, h.part])

theorem takeRecords (p : Nat) : d.Taking (e.takeRecords p) := by
  unfold Device.takeRecords
  split
  · refine ⟨h.part, h.regs, h.lastT, fun q => ?_⟩
    by_cases hq : q = p
    · subst hq
      rw [Device.pt_setPt]
      exact h.setper q
    · rw [Device.pt_setPt_ne _ hq]
      exact h.setper q
  · exact h

theorem foldl (l : List Nat) : d.Taking (l.foldl Device.takeRecords e) :=
  List.foldlRecOn (motive := d.Taking) l _ h fun _ he p _ => he.takeRecords p

/-- The record phase of an enabled port end whose flock has had SETPER begins. -/
theorem begins {p : Nat} (enabled : d.portEnabled p = true) (setper : (d.pt p).setper = true) :
    ((e.takeRecords p).pt p).Begun d.epoch d.flk.lastT := by
  have enabled' : e.portEnabled p = true := by simpa [Device.portEnabled, h.get] using enabled
  have setper' : (e.pt p).setper = true := (h.setper p).trans setper
  rw [Device.takeRecords, if_pos (by simp [enabled', setper']), Device.pt_setPt]
  exact ⟨rfl, h.get _, h.lastT, rfl, rfl⟩

/-- A record phase that has begun stays so as others begin. -/
theorem keeps {p : Nat} (begun : (e.pt p).Begun d.epoch d.flk.lastT) (q : Nat) :
    ((e.takeRecords q).pt p).Begun d.epoch d.flk.lastT := by
  unfold Device.takeRecords
  split
  · by_cases hq : p = q
    · subst hq
      rw [Device.pt_setPt]
      exact ⟨rfl, h.get _, h.lastT, rfl, rfl⟩
    · rwa [Device.pt_setPt_ne _ hq]
  · exact begun

end Device.Taking

/-- Once the start of the record phases has come to port end p, its record phase has begun. -/
theorem Device.foldl_takeRecords_begun (d : Device) {l : List Nat} {p : Nat} (hp : p ∈ l) (enabled : d.portEnabled p = true)
    (setper : (d.pt p).setper = true) : ((l.foldl Device.takeRecords d).pt p).Begun d.epoch d.flk.lastT := by
  obtain ⟨before, after, rfl⟩ := List.append_of_mem hp
  have reached : d.Taking (before.foldl Device.takeRecords d) := Device.Taking.foldl ⟨rfl, rfl, rfl, fun _ => rfl⟩ before
  rw [List.foldl_append, List.foldl_cons]
  exact (List.foldlRecOn (motive := fun e => d.Taking e ∧ (e.pt p).Begun d.epoch d.flk.lastT) after _
    ⟨reached.takeRecords p, reached.begins enabled setper⟩ fun e he q _ => ⟨he.1.takeRecords q, he.1.keeps he.2 q⟩).2

/-! ### The obligation -/

/-- Settles O9: the epoch time by what stands through its parts, the start of record phases by induction on the port ends, and
the other clauses by the branch that each command takes. -/
theorem lineSchedule : Obligations.LineSchedule := by
  intro s awake
  refine ⟨fun ones off => ?_, fun ones runs => ?_, fun e l opens en => ⟨fun delivered unlinked => ?_,
    fun late due => ?_, fun late later => ?_⟩, fun none_ => ?_, fun a silent => ?_, fun a live ok clock failed => ?_,
    fun p listen bell cannot => ?_, fun p out => ?_, fun p listen mark bell => ?_,
    fun live clock => ⟨?_, s.dev.injectMarker_announces⟩, fun out => ?_, ?_, fun p phase => ?_, fun live leads => ?_⟩
  · show execEpochTime ones s = _
    exact onCtl_awake awake (if_neg (by simp [Device.sequencing, off]))
  · obtain ⟨passed, begun, number⟩ := s.dev.epochTime_advances ones
    refine ⟨s.after (s.dev.epochTime ones), ?_, ?_, ?_, fun leads => ?_⟩
    · show execEpochTime ones s = _
      exact onCtl_awake awake (if_pos runs)
    · simpa using passed
    · simpa using begun
    · rw [(State.after_fields ..).2, Device.settle_get_apart _ (by decide)]
      exact number leads
  · show execEpochClose s = _
    rw [← Device.closeOldest_unlinked opens unlinked]
    exact onCtl_awake awake (by simp [opens, en, delivered])
  · show execEpochClose s = _
    exact onCtl_awake awake (by simp [opens, en, late, due])
  · show execEpochClose s = _
    exact onCtl_awake awake (by simpa [opens, en, late] using fun due => absurd later (not_lt.2 (le_max_iff.2 due)))
  · show execEpochClose s = _
    exact onCtl_awake awake (by simp only [none_])
  · show execBellRing a s = _
    exact onCtl_awake awake (if_neg (by simp [silent]))
  · show execBellRing a s = _
    exact onCtl_awake awake (if_pos (by simp [Device.rings, live, ok, clock, failed]))
  · show execBellCheck p s = _
    have cannot' := (s.dev.canBreak_put_cont p 0).trans cannot
    exact onCtl_awake awake (by simp [listen, bell, cannot'])
  · show execBellCheck p s = _
    exact onCtl_awake awake (if_neg (by simpa using fun listen => out.resolve_left (by simp [listen])))
  · show execMarkerCheck p s = _
    have bell' : ((s.dev.put (FLK_PSTAT_CONT p) 0).pt p).bellIn = false := bell
    exact onCtl_awake awake (by simp [listen, mark, bell'])
  · show execMarkerInject s = _
    exact onCtl_awake awake (if_pos (by simp [live, clock]))
  · show execMarkerInject s = _
    exact onCtl_awake awake (if_neg (by simpa using fun live => out.resolve_left (by simp [live])))
  · refine ⟨s.after (s.dev.ports.foldl Device.takeRecords s.dev), ?_, fun p hp enabled setper => ?_⟩
    · show execRecordPhaseLinkTake s = _
      rw [execRecordPhaseLinkTake_eq]
      exact onCtl_awake awake rfl
    · rw [(State.after_fields ..).2, (Device.settle_parts _ p).1]
      exact s.dev.foldl_takeRecords_begun (List.mem_range.2 hp) enabled setper
  · show execRecordPhaseEnd p s = _
    exact onCtl_awake awake (if_pos phase)
  · show execCommandIntervalStart s = _
    exact onCtl_awake awake (if_pos (by simp [live, leads]))

end Sys2Proof.Machine
end

section
/-! PROOFS. Fields that stand while others are written. -/

namespace Sys2Proof.Machine

/-- Two fields share no bit. -/
def Fld.apart (f g : Fld) : Bool := f.addr != g.addr || decide (f.lo + f.w ≤ g.lo) || decide (g.lo + g.w ≤ f.lo)

theorem Device.get_put_apart (d : Device) {f g : Fld} (v : Nat) (h : f.apart g = true) : (d.put g v).get f = d.get f := by
  simp only [Fld.apart, Bool.or_eq_true, bne_iff_ne, decide_eq_true_eq, or_assoc] at h
  rcases h with addr | bits
  · exact d.get_put_addr v addr
  · exact d.get_put_bits v bits

/-- Writing a register is writing the field of all its bits. -/
theorem Device.rset_eq_put (d : Device) (a : Nat) (v : Word) : d.rset a v = d.put ⟨a, 0, 32⟩ v.toNat := by
  have word : withBits (d.rget a) 0 32 v.toNat = v := by
    have none_above : (d.rget a).toNat >>> 32 = 0 := by rw [Nat.shiftRight_eq_div_pow]; omega
    apply BitVec.eq_of_toNat_eq
    simpa [withBits, none_above, Nat.mod_one] using v.isLt
  simp only [Device.put, word]

/-- From `d` to `e` the field die stands, and every field that shares no bit with a field of `w`. -/
structure Device.Writes (w : List Fld) (d e : Device) : Prop where
  fd : e.fd = d.fd
  get : ∀ f : Fld, w.all f.apart = true → e.get f = d.get f

namespace Device.Writes

variable {w : List Fld} {d e : Device}

theorem refl (d : Device) : d.Writes w d := ⟨rfl, fun _ _ => rfl⟩

theorem trans {f : Device} (h : d.Writes w e) (k : e.Writes w f) : d.Writes w f :=
  ⟨k.fd.trans h.fd, fun x hx => (k.get x hx).trans (h.get x hx)⟩

/-- More fields may be written as well. -/
theorem mono {v : List Fld} (h : d.Writes w e) (sub : w ⊆ v) : d.Writes v e :=
  ⟨h.fd, fun x hx => h.get x (List.all_eq_true.2 fun y hy => List.all_eq_true.1 hx y (sub hy))⟩

theorem on (h : d.Writes w e) {f : Fld} (hf : w.all f.apart = true) : e.on f = d.on f := by rw [Device.on, Device.on, h.get f hf]

/-- An update beside the registers and the field die. -/
theorem same (h : d.Writes w e) {e' : Device} (k : (e'.fd, e'.regs, e'.part) = (e.fd, e.regs, e.part)) : d.Writes w e' := by
  simp only [Prod.mk.injEq] at k
  obtain ⟨fd, regs, part⟩ := k
  exact h.trans ⟨fd, fun x _ => Device.get_congr (by rw [Device.rget, Device.rget, regs, part])⟩

theorem put (h : d.Writes w e) {f : Fld} (hf : f ∈ w) (v : Nat) : d.Writes w (e.put f v) :=
  h.trans ⟨rfl, fun _ hx => e.get_put_apart v (List.all_eq_true.1 hx f hf)⟩

theorem rset (h : d.Writes w e) {a : Nat} (ha : ⟨a, 0, 32⟩ ∈ w) (v : Word) : d.Writes w (e.rset a v) := by
  rw [Device.rset_eq_put]
  exact h.put ha _

theorem setDk (h : d.Writes w e) (k : Nat) (f : Driver → Driver) : d.Writes w (e.setDk k f) := h.same rfl

theorem setBk (h : d.Writes w e) (b : Nat) (f : Bank → Bank) : d.Writes w (e.setBk b f) := h.same rfl

theorem ite (c : Prop) [Decidable c] {f : Device} (h : d.Writes w e) (k : d.Writes w f) : d.Writes w (if c then e else f) := by
  split
  · exact h
  · exact k

theorem when_ (h : d.Writes w e) {c : Bool} {f : Device → Device} (k : d.Writes w e → d.Writes w (f e)) : d.Writes w (e.when_ c f) :=
  .ite _ (k h) h

theorem count16 (h : d.Writes w e) {a : Nat} (ha : ⟨a, 0, 32⟩ ∈ w) : d.Writes w (e.count16 a) :=
  .ite _ h (.ite _ (h.rset ha _) (h.rset ha _))

end Device.Writes

end Sys2Proof.Machine
end

section
/-! PROOFS. What settling reaches, and so what every step answers (R35, R38, R247, R465). -/

namespace Sys2Proof.Machine

/-! ### Every command answers a settled device -/

/-- No command stops the machine, and its effect is on the device alone. -/
theorem exec_next (c : Instr) (s : State) : ∃ d, exec c s = .next (s.after d) := by
  cases c
  case csrr x rd k =>
    obtain ⟨agent, guard⟩ := x
    cases agent <;> exact ⟨_, rfl⟩
  all_goals exact ⟨_, rfl⟩

theorem step_settles {s t : State} (h : step s = .next t) : ∃ d : Device, t.dev = d.settle := by
  unfold step at h
  split at h
  · cases h
    exact ⟨s.dev.tick, rfl⟩
  · next c rest _ =>
    obtain ⟨d, hd⟩ := exec_next c { s with pending := rest }
    rw [hd] at h
    cases h
    exact ⟨d, rfl⟩

/-! ### The drivers of a bank (R247, R465) -/

/-- The fields that turning driver k on or off writes. -/
def driverFlds (k : Nat) : List Fld := [CTD_DST_SS k, CTD_DST_STATE k, ⟨CTD_DQCNT k, 0, 32⟩]

theorem Device.seriesWanted_congr {d e : Device} (fd : e.fd = d.fd) {b : Nat} (hold : e.get (bankHoldFld b) = d.get (bankHoldFld b)) :
    e.seriesWanted b = d.seriesWanted b := by
  simp only [Device.seriesWanted, Device.bankHold, Device.on, fd, hold]

theorem Device.Writes.startShadow {w : List Fld} {d e : Device} (h : d.Writes w e) {k : Nat} (hk : CTD_DST_STATE k ∈ w) :
    d.Writes w (e.startShadow k) := h.when_ fun h => h.put hk _

theorem Device.joinDriver_writes (d : Device) (k : Nat) : d.Writes (driverFlds k) (d.joinDriver k) :=
  ((Device.Writes.refl d).put (by simp [driverFlds]) 1).when_ fun h => h.startShadow (by simp [driverFlds])

theorem Device.joinDriver_on (d : Device) (k : Nat) : (d.joinDriver k).get (CTD_DST_SS k) = 1 := by
  have shadow : (d.put (CTD_DST_SS k) 1).Writes [CTD_DST_STATE k] (d.joinDriver k) :=
    (Device.Writes.refl _).when_ fun h => h.startShadow (by simp)
  rw [shadow.get _ (by simp [Fld.apart]), Device.get_put_same _ _ (by simp)]
  rfl

/-- Turning a driver off leaves it off, or in fast quench, which counts (R252). -/
theorem Device.cutDriver_eq (d : Device) (k : Nat) : d.cutDriver k =
    if d.drvSt k = .off ∨ d.drvSt k = .fastQuench then (d.put (CTD_DST_SS k) 0).setDk k Driver.released
    else (((d.put (CTD_DST_SS k) 0).setDk k Driver.released).setDrvSt k .fastQuench).count16 (CTD_DQCNT k) := by
  have st : ((d.put (CTD_DST_SS k) 0).setDk k Driver.released).drvSt k = d.drvSt k :=
    congrArg DrvState.ofCode (d.get_put_apart 0 (by simp [Fld.apart]))
  simp only [Device.cutDriver, st]
  cases d.drvSt k <;> simp

theorem Device.cutDriver_writes (d : Device) (k : Nat) : d.Writes (driverFlds k) (d.cutDriver k) := by
  have ss : d.Writes (driverFlds k) ((d.put (CTD_DST_SS k) 0).setDk k Driver.released) :=
    ((Device.Writes.refl d).put (by simp [driverFlds]) 0).setDk k _
  rw [Device.cutDriver_eq]
  exact .ite _ ss ((ss.put (by simp [driverFlds]) _).count16 (by simp [driverFlds]))

/-- Driver k conducts nothing: its series switch is off, and it is off or in fast quench. -/
def Device.DriverCut (d : Device) (k : Nat) : Prop :=
  d.get (CTD_DST_SS k) = 0 ∧ (d.drvSt k = .off ∨ d.drvSt k = .fastQuench)

theorem Device.cutDriver_cut (d : Device) (k : Nat) : (d.cutDriver k).DriverCut k := by
  have count : ∀ e : Device, e.Writes [⟨CTD_DQCNT k, 0, 32⟩] (e.count16 (CTD_DQCNT k)) := fun e =>
    (Device.Writes.refl e).count16 (by simp)
  have ss : ((d.put (CTD_DST_SS k) 0).setDk k Driver.released).get (CTD_DST_SS k) = 0 := by
    exact Device.get_put_same d 0 (by simp)
  have st : ((d.put (CTD_DST_SS k) 0).setDk k Driver.released).drvSt k = d.drvSt k :=
    congrArg DrvState.ofCode (d.get_put_apart 0 (by simp [Fld.apart]))
  rw [Device.cutDriver_eq]
  split
  · next idle => exact ⟨ss, st ▸ idle⟩
  · refine ⟨?_, .inr (congrArg DrvState.ofCode ?_ : _ = DrvState.ofCode 5)⟩
    · rw [(count _).get _ (by simp [Fld.apart])]
      exact (Device.get_put_apart _ _ (by simp [Fld.apart])).trans ss
    · rw [(count _).get _ (by simp [Fld.apart])]
      exact Device.get_put_same _ _ (by simp)

/-- Driver k stands cut when others are turned off. -/
theorem Device.DriverCut.cutDriver {d : Device} {k : Nat} (h : d.DriverCut k) (j : Nat) : (d.cutDriver j).DriverCut k := by
  by_cases same : k = j
  · exact same ▸ d.cutDriver_cut j
  · obtain ⟨ss, st⟩ := h
    have keep := (d.cutDriver_writes j).get
    have ss' := keep (CTD_DST_SS k) (by simp [driverFlds, Fld.apart, CTD_DST, CTD_DQCNT]; omega)
    have st' := keep (CTD_DST_STATE k) (by simp [driverFlds, Fld.apart, CTD_DST, CTD_DQCNT]; omega)
    exact ⟨ss'.trans ss, by simpa only [Device.drvSt, st'] using st⟩

/-! ### The sequence of a bank (R230, R263) -/

/-- The fields that the end of a bank's sequence writes. -/
def bankFlds (b : Nat) : List Fld :=
  [bankStFld b, CTD_BST_PHASE b, CTD_BST_OUTC b, CTD_BST_REASON b, CTD_BEVT_CONN b]

/-- What the end of a sequence writes before it judges the bank's state. -/
def Device.leavePhase (d : Device) (b : Nat) : Device :=
  let conn := (d.phase b).connecting || d.phase b == .overlap
  let run := conn || (d.phase b == .opening && (d.bk b).orderly)
  let d := d.when_ run fun d => (d.put (CTD_BST_OUTC b) 4).put (CTD_BST_REASON b) 2
  let d := d.when_ conn fun d => d.up (CTD_BEVT_CONN b)
  d.when_ ((d.phase b).driven) fun d =>
    (d.setPhase b .opening).setBk b fun v => { v with path := false, gapDue := false, orderly := false }

theorem Device.endSequence_eq (d : Device) (b : Nat) : d.endSequence b =
    if (d.leavePhase b).bankHold b then (d.leavePhase b).setBankSt b .out
    else if (d.leavePhase b).bankSt b = .closed ∨ (d.leavePhase b).bankSt b = .precharging then
      (d.leavePhase b).setBankSt b .opened else d.leavePhase b := rfl

theorem Device.leavePhase_writes (d : Device) (b : Nat) : d.Writes (bankFlds b) (d.leavePhase b) := by
  unfold Device.leavePhase
  exact .when_ (.when_ (.when_ (.refl d) fun h => (h.put (by simp [bankFlds]) _).put (by simp [bankFlds]) _)
    fun h => h.put (by simp [bankFlds]) _) fun h => (h.put (by simp [bankFlds]) _).setBk b _

theorem Device.endSequence_writes (d : Device) (b : Nat) : d.Writes (bankFlds b) (d.endSequence b) := by
  have left := d.leavePhase_writes b
  rw [d.endSequence_eq]
  exact .ite _ (left.put (by simp [bankFlds]) _) (.ite _ (left.put (by simp [bankFlds]) _) left)

/-- A bank whose sequence has ended conducts nothing: no connect runs, nor is it closed, and its hold makes it OUT. -/
def Device.BankCut (d : Device) (b : Nat) : Prop :=
  (d.phase b).connecting = false ∧ d.phase b ≠ .overlap ∧ d.phase b ≠ .closed ∧
    if d.bankHold b then d.bankSt b = .out else d.bankSt b ≠ .closed ∧ d.bankSt b ≠ .precharging

/-- A phase that drives a coil becomes OPENING; the others drive none. -/
theorem Device.leavePhase_undriven (d : Device) (b : Nat) :
    (d.leavePhase b).phase b = .idle ∨ (d.leavePhase b).phase b = .check ∨ (d.leavePhase b).phase b = .opening := by
  unfold Device.leavePhase
  dsimp only
  generalize ((d.when_ _ _).when_ _ _) = e
  by_cases driven : (e.phase b).driven = true
  · refine .inr (.inr ?_)
    rw [Device.when_, if_pos driven]
    show BankPhase.ofCode ((e.put (CTD_BST_PHASE b) BankPhase.opening.code).get (CTD_BST_PHASE b)) = .opening
    rw [Device.get_put_same _ _ (by simp)]
    rfl
  · rw [Device.when_, if_neg driven]
    cases h : e.phase b <;> simp [h, BankPhase.driven] at driven ⊢

theorem Device.bankSt_setBankSt {d : Device} {b : Nat} (hb : b < 4) (x : BankState) : (d.setBankSt b x).bankSt b = x := by
  have code : BankState.ofCode (x.code % 2 ^ 2) = x := by cases x <;> rfl
  rw [Device.bankSt, Device.setBankSt, Device.get_put_same _ _ (by simp [bankStFld]; omega)]
  exact code

theorem Device.endSequence_cut (d : Device) {b : Nat} (hb : b < 4) : (d.endSequence b).BankCut b := by
  have state : ∀ (e : Device) x, (e.setBankSt b x).phase b = e.phase b ∧ (e.setBankSt b x).bankHold b = e.bankHold b := fun e x =>
    ⟨congrArg BankPhase.ofCode (e.get_put_apart _ (by simp [Fld.apart, bankStFld, CTD_BST, SYS_MODE]; omega)),
      congrArg (· != 0) (e.get_put_apart _ (by simp [Fld.apart, bankStFld, bankHoldFld]))⟩
  have quiet : ∀ {e : Device}, e.phase b = .idle ∨ e.phase b = .check ∨ e.phase b = .opening →
      (e.phase b).connecting = false ∧ e.phase b ≠ .overlap ∧ e.phase b ≠ .closed := by
    rintro e (h | h | h) <;> simp [h, BankPhase.connecting]
  have undriven := d.leavePhase_undriven b
  rw [d.endSequence_eq]
  generalize d.leavePhase b = e at undriven ⊢
  obtain ⟨conn, overlap, closed⟩ := quiet undriven
  unfold Device.BankCut
  split
  · next hold => simpa only [state, hold, if_true, Device.bankSt_setBankSt hb, and_true] using ⟨conn, overlap, closed⟩
  · next free =>
    split
    · refine ⟨by rwa [(state e _).1], by rwa [(state e _).1], by rwa [(state e _).1], ?_⟩
      rw [(state e _).2, if_neg free, Device.bankSt_setBankSt hb]
      simp
    · next st => exact ⟨conn, overlap, closed, not_or.1 st⟩

/-! ### One bank gated (R247) -/

/-- The three drivers of bank b. -/
def bankDrivers (b : Nat) : List Nat := [3 * b, 3 * b + 1, 3 * b + 2]

/-- Bank b and its drivers stand as R247 and R465 say. -/
def Device.Gated (d : Device) (b : Nat) : Prop := (∀ k ∈ bankDrivers b, d.driverSettled k = true) ∧ d.bankSettled b = true

theorem Device.driverSettled_iff (d : Device) (k : Nat) : d.driverSettled k = true ↔
    if d.seriesWanted (k / 3) then d.get (CTD_DST_SS k) ≠ 0 else d.DriverCut k := by
  simp only [Device.driverSettled, Device.DriverCut, Device.on]
  cases d.seriesWanted (k / 3) <;> cases d.drvSt k <;> simp [DrvState.high]

theorem Device.bankSettled_iff (d : Device) (b : Nat) : d.bankSettled b = true ↔ d.seriesWanted b = true ∨ d.BankCut b := by
  simp only [Device.bankSettled, Device.BankCut]
  cases d.seriesWanted b <;> cases d.bankHold b <;> simp [and_assoc]

/-- The fields that the judgement of bank b reads. -/
def judgedFlds (b : Nat) : List Fld :=
  [bankHoldFld b, bankStFld b, CTD_BST_PHASE b] ++ (bankDrivers b).flatMap fun k => [CTD_DST_SS k, CTD_DST_STATE k]

theorem Device.Gated.congr {d e : Device} {b : Nat} (h : d.Gated b) (fd : e.fd = d.fd)
    (get : ∀ f ∈ judgedFlds b, e.get f = d.get f) : e.Gated b := by
  have hold : e.get (bankHoldFld b) = d.get (bankHoldFld b) := get _ (by simp [judgedFlds])
  have held : e.bankHold b = d.bankHold b := congrArg (· != 0) hold
  have state : e.bankSt b = d.bankSt b := congrArg BankState.ofCode (get _ (by simp [judgedFlds]))
  have phase : e.phase b = d.phase b := congrArg BankPhase.ofCode (get _ (by simp [judgedFlds]))
  have wanted := Device.seriesWanted_congr fd hold
  obtain ⟨drivers, bank⟩ := h
  refine ⟨fun k hk => ?_, by simpa only [Device.bankSettled, wanted, held, state, phase] using bank⟩
  have third : k / 3 = b := by simp [bankDrivers] at hk; omega
  have ss : e.on (CTD_DST_SS k) = d.on (CTD_DST_SS k) :=
    congrArg (· != 0) (get _ (List.mem_append_right _ (List.mem_flatMap.2 ⟨k, hk, by simp⟩)))
  have st : e.drvSt k = d.drvSt k :=
    congrArg DrvState.ofCode (get _ (List.mem_append_right _ (List.mem_flatMap.2 ⟨k, hk, by simp⟩)))
  simpa only [Device.driverSettled, third, wanted, ss, st] using drivers k hk

/-- The fields that gating bank b writes. -/
def gateFlds (b : Nat) : List Fld := (bankDrivers b).flatMap driverFlds ++ bankFlds b

/-- The fields of a driver share no bit with what its bank's sequence writes. -/
theorem bankFlds_apart_driver (b k : Nat) :
    (bankFlds b).all (CTD_DST_SS k).apart = true ∧ (bankFlds b).all (CTD_DST_STATE k).apart = true := by
  simp [bankFlds, Fld.apart, bankStFld, CTD_DST, CTD_BST, CTD_BEVT, SYS_MODE]
  omega

/-- Gating a bank writes no hold, nor the mode. -/
theorem gateFlds_apart (b j : Nat) : (gateFlds b).all (bankHoldFld j).apart = true ∧
    (gateFlds b).all (Fld.apart SYS_MODE_MODE) = true := by
  simp [gateFlds, bankDrivers, driverFlds, bankFlds, Fld.apart, bankStFld, bankHoldFld, CTD_DST, CTD_DQCNT, CTD_BST, CTD_BEVT,
    SYS_MODE, REF_ST]
  omega

/-- Gating a bank writes nothing that the judgement of another one reads. -/
theorem gateFlds_apart_judged {j b : Nat} (hj : j < 4) (hb : b < 4) (other : j ≠ b) :
    ∀ f ∈ judgedFlds j, (gateFlds b).all f.apart = true := by
  simp [judgedFlds, gateFlds, bankDrivers, driverFlds, bankFlds, Fld.apart, bankStFld, bankHoldFld, CTD_DST, CTD_DQCNT, CTD_BST,
    CTD_BEVT, SYS_MODE, REF_ST]
  omega

theorem Device.gateBank_eq (d : Device) (b : Nat) : d.gateBank b =
    if d.seriesWanted b then (bankDrivers b).foldl Device.joinDriver d
    else ((bankDrivers b).foldl Device.cutDriver d).endSequence b := rfl

theorem Device.Writes.foldl {α : Type} {w : List Fld} {d e : Device} (h : d.Writes w e) (l : List α) {f : Device → α → Device}
    (hf : ∀ (e : Device), ∀ x ∈ l, e.Writes w (f e x)) : d.Writes w (l.foldl f e) :=
  List.foldlRecOn (motive := d.Writes w) l f h fun e he x hx => he.trans (hf e x hx)

/-- What writes the fields of one driver, done for each driver of bank b. -/
theorem Device.drivers_writes (d : Device) (b : Nat) {f : Device → Nat → Device} (hf : ∀ (e : Device) k, e.Writes (driverFlds k) (f e k)) :
    d.Writes ((bankDrivers b).flatMap driverFlds) ((bankDrivers b).foldl f d) :=
  (Device.Writes.refl d).foldl _ fun e k hk => (hf e k).mono fun _ hx => List.mem_flatMap.2 ⟨k, hk, hx⟩

theorem Device.gateBank_writes (d : Device) (b : Nat) : d.Writes (gateFlds b) (d.gateBank b) := by
  rw [d.gateBank_eq]
  refine .ite _ ?_ (.trans ?_ ((Device.endSequence_writes _ b).mono ?_))
  · exact (d.drivers_writes b Device.joinDriver_writes).mono (List.subset_append_left ..)
  · exact (d.drivers_writes b Device.cutDriver_writes).mono (List.subset_append_left ..)
  · exact List.subset_append_right ..

/-- Gating a bank leaves what decides on any bank: the holds, the trip latch, the causes of the field die. -/
theorem Device.gateBank_wanted (d : Device) (b j : Nat) : (d.gateBank b).seriesWanted j = d.seriesWanted j := by
  have writes := d.gateBank_writes b
  exact Device.seriesWanted_congr writes.fd (writes.get _ (gateFlds_apart b j).1)

theorem Device.joinDriver_keeps_on {d : Device} {k : Nat} (h : d.get (CTD_DST_SS k) = 1) (j : Nat) :
    (d.joinDriver j).get (CTD_DST_SS k) = 1 := by
  by_cases same : k = j
  · exact same ▸ d.joinDriver_on j
  · rw [(d.joinDriver_writes j).get _ (by simp [driverFlds, Fld.apart, CTD_DST, CTD_DQCNT]; omega), h]

theorem Device.gateBank_gated (d : Device) {b : Nat} (hb : b < 4) : (d.gateBank b).Gated b := by
  have third : ∀ k ∈ bankDrivers b, k / 3 = b := by simp [bankDrivers]; omega
  have wanted := d.gateBank_wanted b b
  by_cases on : d.seriesWanted b = true
  · refine ⟨fun k hk => (Device.driverSettled_iff _ k).2 ?_, (Device.bankSettled_iff _ b).2 (.inl (wanted.trans on))⟩
    rw [third k hk, wanted, if_pos on, d.gateBank_eq, if_pos on,
      foldl_establishes (P := fun e : Device => e.get (CTD_DST_SS k) = 1) hk (fun e => e.joinDriver_on k)
        (fun _ j h => Device.joinDriver_keeps_on h j)]
    decide
  · have cut : ∀ k ∈ bankDrivers b, ((bankDrivers b).foldl Device.cutDriver d).DriverCut k := fun k hk =>
      foldl_establishes (P := fun e : Device => e.DriverCut k) hk (fun e => e.cutDriver_cut k) (fun _ j h => h.cutDriver j) d
    refine ⟨fun k hk => (Device.driverSettled_iff _ k).2 ?_, (Device.bankSettled_iff _ b).2 (.inr ?_)⟩
    · rw [third k hk, wanted, if_neg on, d.gateBank_eq, if_neg on]
      obtain ⟨ss, st⟩ := cut k hk
      have keep := (Device.endSequence_writes ((bankDrivers b).foldl Device.cutDriver d) b).get
      obtain ⟨ssApart, stApart⟩ := bankFlds_apart_driver b k
      exact ⟨(keep _ ssApart).trans ss, by simpa only [Device.drvSt, keep _ stApart] using st⟩
    · rw [d.gateBank_eq, if_neg on]
      exact Device.endSequence_cut _ hb

theorem Device.Gated.gateBank {d : Device} {j : Nat} (h : d.Gated j) {b : Nat} (hb : b < 4) (hj : j < 4) (other : j ≠ b) :
    (d.gateBank b).Gated j := by
  have writes := d.gateBank_writes b
  exact h.congr writes.fd fun f hf => writes.get f (gateFlds_apart_judged hj hb other f hf)

/-! ### Settling (log 5) -/

theorem Device.settled_iff (d : Device) : d.settled = true ↔ (d.mode = .tripped → d.fd.tripLatch = true) ∧ ∀ b < 4, d.Gated b := by
  have drivers : (∀ k < 12, d.driverSettled k = true) ↔ ∀ b < 4, ∀ k ∈ bankDrivers b, d.driverSettled k = true := by
    refine ⟨fun h b hb k hk => h k ?_, fun h k hk => h (k / 3) (by omega) k ?_⟩
    · simp [bankDrivers] at hk; omega
    · simp [bankDrivers]; omega
  simp only [Device.settled, Device.Gated, Bool.and_eq_true, List.all_eq_true, List.mem_range, drivers, Bool.or_eq_true,
    bne_iff_ne, ← imp_iff_not_or, forall_and, and_assoc]

/-- The four banks gated in turn. -/
def Device.gateBanks (d : Device) : Device := (((d.gateBank 0).gateBank 1).gateBank 2).gateBank 3

theorem Device.gateBanks_gated (d : Device) {b : Nat} (hb : b < 4) : d.gateBanks.Gated b := by
  obtain rfl | rfl | rfl | rfl : b = 0 ∨ b = 1 ∨ b = 2 ∨ b = 3 := by omega
  · exact (((Device.gateBank_gated _ hb).gateBank (by decide) hb (by decide)).gateBank (by decide) hb (by decide)).gateBank
      (by decide) hb (by decide)
  · exact ((Device.gateBank_gated _ hb).gateBank (by decide) hb (by decide)).gateBank (by decide) hb (by decide)
  · exact (Device.gateBank_gated _ hb).gateBank (by decide) hb (by decide)
  · exact Device.gateBank_gated _ hb

/-- Gating leaves the mode and the field die. -/
theorem Device.gateBanks_leaves (d : Device) : d.gateBanks.mode = d.mode ∧ d.gateBanks.fd = d.fd := by
  have gate : ∀ (e : Device) b, (e.gateBank b).mode = e.mode ∧ (e.gateBank b).fd = e.fd := fun e b =>
    ⟨congrArg Mode.ofCode ((e.gateBank_writes b).get _ (gateFlds_apart b 0).2), (e.gateBank_writes b).fd⟩
  simp only [Device.gateBanks, gate, and_self]

theorem Device.setLatch_sets (d : Device) : d.setLatch.fd.tripLatch = true := by
  unfold Device.setLatch
  split
  · next set => exact set
  · rfl

/-- What follows from R38, R247 and R465, before R35. -/
def Device.gated (d : Device) : Device :=
  if d.settled then d else (d.when_ (d.mode == .tripped) Device.setLatch).gateBanks

theorem Device.settle_eq (d : Device) : d.settle = d.gated.degrade := rfl

theorem Device.gated_settled (d : Device) : d.gated.settled = true := by
  unfold Device.gated
  split
  · next done => exact done
  · refine (Device.settled_iff _).2 ⟨fun trip => ?_, fun b hb => Device.gateBanks_gated _ hb⟩
    rw [(Device.gateBanks_leaves _).1] at trip
    rw [(Device.gateBanks_leaves _).2]
    by_cases tripped : d.mode = .tripped
    · rw [Device.when_, if_pos (by simp [tripped])]
      exact d.setLatch_sets
    · exact absurd trip (by simp [Device.when_, tripped])

/-- The fields that the change from ONLINE to DEGRADED writes. -/
def degradeFlds : List Fld := [SYS_MODE_MODE, SYS_MODE_BUSY, SYS_EVT_MODE, REF_ST_LOOSE]

/-- ONLINE becomes DEGRADED: the mode, its event, and the loosen window (R35, R37, R240). -/
theorem Device.enter_degraded (d : Device) (online : d.mode = .online) :
    d.Writes degradeFlds (d.enter .degraded) ∧ (d.enter .degraded).mode = .degraded := by
  have changed : d.enter .degraded = (((d.put SYS_MODE_MODE Mode.degraded.code).putB SYS_MODE_BUSY
      (d.sys.holdStage2 || d.thm.trip)).up SYS_EVT_MODE).down REF_ST_LOOSE := by
    unfold Device.enter
    rw [online, if_neg (by decide)]
    rfl
  rw [changed]
  refine ⟨(((((Device.Writes.refl d).put (by simp [degradeFlds]) _).put (by simp [degradeFlds]) _).put
    (by simp [degradeFlds]) _).put (by simp [degradeFlds]) _), congrArg Mode.ofCode (a₂ := 6) ?_⟩
  exact (Device.get_put_apart _ _ (by decide)).trans <| (Device.get_put_apart _ _ (by decide)).trans <|
    (Device.get_put_apart _ _ (by decide)).trans (Device.get_put_same _ _ (by decide))

theorem degradeFlds_apart_judged {b : Nat} (hb : b < 4) : ∀ f ∈ judgedFlds b, degradeFlds.all f.apart = true := by
  simp [judgedFlds, bankDrivers, degradeFlds, Fld.apart, bankStFld, bankHoldFld, CTD_DST, CTD_BST, SYS_MODE, SYS_EVT, REF_ST]
  omega

theorem Device.degrade_settled {d : Device} (h : d.settled = true) : d.degrade.settled = true := by
  unfold Device.degrade
  split
  · next due =>
    have online : d.mode = .online := by simp at due; exact due.1.1.2
    obtain ⟨writes, mode⟩ := d.enter_degraded online
    obtain ⟨-, gated⟩ := d.settled_iff.1 h
    exact (Device.settled_iff _).2 ⟨by simp [mode], fun b hb => (gated b hb).congr writes.fd fun f hf =>
      writes.get f (degradeFlds_apart_judged hb f hf)⟩
  · exact h

theorem Device.degrade_degrade (d : Device) : d.degrade.degrade = d.degrade := by
  unfold Device.degrade
  split
  · next due =>
    have online : d.mode = .online := by simp at due; exact due.1.1.2
    exact if_neg (by simp [(d.enter_degraded online).2])
  · rfl

theorem Device.settle_settled (d : Device) : d.settle.settled = true := by
  rw [d.settle_eq]
  exact Device.degrade_settled d.gated_settled

/-- Nothing is left to follow from a settled device. -/
theorem Device.settle_still (d : Device) : d.settle.Still := by
  have gated : d.settle.gated = d.settle := if_pos d.settle_settled
  rw [Device.Still, Device.settle_eq d.settle, gated, d.settle_eq, Device.degrade_degrade]

/-- Settles O45: every step settles the device, and a device that has settled is safe and stands. -/
theorem stepKeepsSafe : Obligations.StepKeepsSafe := by
  intro s t h
  obtain ⟨d, hd⟩ := step_settles h
  exact ⟨(congrArg Device.settled hd).trans d.settle_settled, hd ▸ d.settle_still⟩

/-- Settles O46: a set trip latch wants no series switch to conduct, and a safe state says what stands then. -/
theorem tripLatchHoldsSwitchesOff : Obligations.TripLatchHoldsSwitchesOff := by
  intro s t h latch k hk
  obtain ⟨-, gated⟩ := t.dev.settled_iff.1 (stepKeepsSafe s t h).1
  have unwanted : ∀ b, t.dev.seriesWanted b = false := fun b => by simp [Device.seriesWanted, latch]
  have bank : ∀ b < 4, t.dev.BankCut b := fun b hb =>
    ((Device.bankSettled_iff _ b).1 (gated b hb).2).resolve_left (by simp [unwanted])
  have driver := (Device.driverSettled_iff _ k).1 ((gated (k / 3) (by omega)).1 k (by simp [bankDrivers]; omega))
  rw [unwanted, if_neg Bool.false_ne_true] at driver
  refine ⟨driver.1, driver.2, fun b hb => ?_⟩
  obtain ⟨-, -, -, state⟩ := bank b hb
  split at state
  · simp [state]
  · exact state

end Sys2Proof.Machine
end

section
/-! PROOFS. The choice of the interrupting source (R59, R316), and the event counters (R54). -/

namespace Sys2Proof.Machine

/-! ### The highest level, the lowest number among equals (R59) -/

/-- `best` is what a scan of the numbers below `n` has chosen: of those that `p` admits the one of the highest level, of equals
the lowest. -/
def Chosen (p : Nat → Bool) (level : Nat → Nat) (n : Nat) : Option (Nat × Nat) → Prop
  | none => ∀ m < n, p m = false
  | some (b, l) => l = level b ∧ b < n ∧ p b = true ∧ ∀ m < n, p m = true → level m < level b ∨ level m = level b ∧ b ≤ m

/-- One more number of the scan. -/
def choose (p : Nat → Bool) (level : Nat → Nat) (best : Option (Nat × Nat)) (n : Nat) : Option (Nat × Nat) :=
  if p n then
    match best with
    | some (_, l) => if l < level n then some (n, level n) else best
    | none => some (n, level n)
  else best

theorem Chosen.choose {p : Nat → Bool} {level : Nat → Nat} {n : Nat} {best : Option (Nat × Nat)} (h : Chosen p level n best) :
    Chosen p level (n + 1) (choose p level best n) := by
  unfold Machine.choose
  cases admitted : p n with
  | false =>
    have same : ∀ m < n + 1, p m = true → m < n := fun m hm pm =>
      lt_of_le_of_ne (Nat.le_of_lt_succ hm) (by rintro rfl; simp [admitted] at pm)
    cases best with
    | none => exact fun m hm => Bool.eq_false_iff.2 fun pm => by simp [h m (same m hm pm)] at pm
    | some x =>
      obtain ⟨hl, hb, pb, top⟩ := h
      exact ⟨hl, by omega, pb, fun m hm pm => top m (same m hm pm) pm⟩
  | true =>
    cases best with
    | none =>
      refine ⟨rfl, by omega, admitted, fun m hm pm => .inr ?_⟩
      obtain rfl | below : m = n ∨ m < n := by omega
      · exact ⟨rfl, le_rfl⟩
      · simp [h m below] at pm
    | some x =>
      obtain ⟨b, l⟩ := x
      obtain ⟨rfl, hb, pb, top⟩ := h
      simp only [if_true]
      split
      · next higher =>
        refine ⟨rfl, by omega, admitted, fun m hm pm => ?_⟩
        obtain rfl | below : m = n ∨ m < n := by omega
        · exact .inr ⟨rfl, le_rfl⟩
        · have := top m below pm
          omega
      · refine ⟨rfl, by omega, pb, fun m hm pm => ?_⟩
        obtain rfl | below : m = n ∨ m < n := by omega
        · omega
        · exact top m below pm

theorem chosen_foldl (p : Nat → Bool) (level : Nat → Nat) (n : Nat) : Chosen p level n ((List.range n).foldl (choose p level) none) := by
  induction n with
  | zero => exact fun m hm => absurd hm (Nat.not_lt_zero m)
  | succ n ih =>
    rw [List.range_succ, List.foldl_append]
    exact ih.choose

theorem Device.actSource_chosen (d : Device) (h : Nat) : Chosen (d.aboveThr h) (d.srcLevel h) 256 (d.actSource h) :=
  chosen_foldl (d.aboveThr h) (d.srcLevel h) 256

/-- Settles O51: the scan over the sources keeps the best of those it has seen, and that one is unique. -/
theorem interruptChoice : Obligations.InterruptChoice := by
  refine fun d h n => ⟨?_, by simp [Device.aboveThr, and_assoc]⟩
  have chosen := d.actSource_chosen h
  unfold Device.pendingSource
  cases best : d.actSource h with
  | none =>
    rw [best] at chosen
    refine ⟨fun no => by simp at no, ?_⟩
    rintro ⟨hn, above, -⟩
    simp [chosen n hn] at above
  | some x =>
    obtain ⟨b, l⟩ := x
    rw [best] at chosen
    obtain ⟨-, hb, above, top⟩ := chosen
    simp only [Option.map_some, Option.some.injEq]
    refine ⟨by rintro rfl; exact ⟨hb, above, top⟩, ?_⟩
    rintro ⟨hn, aboveN, topN⟩
    have := top n hn aboveN
    have := topN b hb above
    omega

/-! ### Event counters (R54) -/

theorem bitsOf_ofNat {v n : Nat} (h : v < 2 ^ n) (hn : n ≤ 32) : bitsOf (BitVec.ofNat 32 v) 0 n = v := by
  have word : v < 2 ^ 32 := lt_of_lt_of_le h (Nat.pow_le_pow_right (by omega) hn)
  rw [bitsOf, BitVec.toNat_ofNat, Nat.shiftRight_zero, Nat.mod_eq_of_lt word, Nat.mod_eq_of_lt h]

section
variable (d : Device) (a : Nat)

theorem Device.count16_full (full : bitsOf (d.rget a) 0 16 = 0xFFFF) : d.count16 a = d := if_pos full

/-- The count before the last one steps to its maximum with SAT; any lower one steps by one. -/
theorem Device.rget_count16 (more : bitsOf (d.rget a) 0 16 < 0xFFFF) : (d.count16 a).rget a =
    if bitsOf (d.rget a) 0 16 + 1 = 0xFFFF then 0x8000FFFF#32 else BitVec.ofNat 32 (bitsOf (d.rget a) 0 16 + 1) := by
  simp only [Device.count16, if_neg more.ne]
  split <;> exact Device.rget_rset_same ..

theorem Device.count16_counts (more : bitsOf (d.rget a) 0 16 < 0xFFFF) :
    bitsOf ((d.count16 a).rget a) 0 16 = bitsOf (d.rget a) 0 16 + 1 := by
  rw [d.rget_count16 a more]
  split
  · next last => rw [last]; decide
  · exact bitsOf_ofNat (by omega) (by omega)

theorem Device.count16_sat (last : bitsOf (d.rget a) 0 16 = 0xFFFE) : ((d.count16 a).rget a).getLsbD 31 = true := by
  rw [d.rget_count16 a (by omega), if_pos (by omega)]
  decide

/-- The SAT flag of a 32-bit counter in its unit's SATF. -/
def satFld (a k : Nat) : Fld := ⟨unitOf a + 8, k, 1⟩

theorem Device.count32_full (k : Nat) (full : (d.rget a).toNat = 0xFFFFFFFF) : d.count32 a k = d := if_pos full

theorem Device.count32_more {k : Nat} (more : (d.rget a).toNat < 0xFFFFFFFF) : d.count32 a k =
    let e := d.rset a (BitVec.ofNat 32 ((d.rget a).toNat + 1))
    if (d.rget a).toNat + 1 = 0xFFFFFFFF then e.put (satFld a k) 1 else e := if_neg more.ne

theorem Device.count32_counts (k : Nat) (flags : a ≠ unitOf a + 8) (more : (d.rget a).toNat < 0xFFFFFFFF) :
    ((d.count32 a k).rget a).toNat = (d.rget a).toNat + 1 := by
  have value : (BitVec.ofNat 32 ((d.rget a).toNat + 1)).toNat = (d.rget a).toNat + 1 := Nat.mod_eq_of_lt (by omega)
  rw [d.count32_more a more]
  dsimp only
  split
  · rw [Device.rget_put_ne _ flags, Device.rget_rset_same, value]
  · rw [Device.rget_rset_same, value]

theorem Device.count32_sat {k : Nat} (hk : k < 32) (last : (d.rget a).toNat = 0xFFFFFFFE) : (d.count32 a k).on (satFld a k) = true := by
  rw [d.count32_more a (by omega)]
  dsimp only
  rw [if_pos (by omega), Device.on, Device.get_put_same _ _ (show k + 1 ≤ 32 by omega)]
  rfl

theorem Device.rget_count32_ne (k : Nat) {b : Nat} (hb : b ≠ a) (flags : b ≠ unitOf a + 8) : (d.count32 a k).rget b = d.rget b := by
  by_cases full : (d.rget a).toNat = 0xFFFFFFFF
  · rw [d.count32_full a k full]
  · rw [d.count32_more a (by have := (d.rget a).isLt; omega)]
    dsimp only
    split
    · rw [Device.rget_put_ne _ flags, Device.rget_rset_ne _ hb]
    · exact Device.rget_rset_ne _ hb _

end

/-- A write of zero to a counter that the table names clears it; any other value leaves it (R54). -/
theorem Device.typed_counter (d : Device) {a : Nat} {r : RegDef} {w : Word} (hr : regDef? a = some r) (counts : r.cnt ≠ .plain) :
    d.typed a w = if r.fields.all (fun f => f.accepts w) = true then
      (if w = 0#32 then d.clearCount a r.cnt else d).st (unitOf a) .ok else d.st (unitOf a) .range := by
  cases ok : r.fields.all (fun f => f.accepts w) <;> simp [Device.typed, hr, Device.typedReg, ok, counts]

theorem bitsOf_zero (lo n : Nat) : bitsOf 0#32 lo n = 0 := by simp [bitsOf]

/-- Settles O48: what one event does is said by the lemmas on `count16` and `count32`, and a write to a counter is
`Device.typed_counter`. -/
theorem countersSaturate : Obligations.CountersSaturate := by
  refine fun d a => ⟨d.count16_counts a, d.count16_full a, d.count16_sat a, fun b hb => Device.rget_count16_ne d hb,
    fun k hk flags => ⟨d.count32_counts a k flags, d.count32_full a k, d.count32_sat a hk, fun b => d.rget_count32_ne a k⟩,
    fun r hr ok status flags => ⟨fun cnt => ?_, fun k hk cnt => ?_, fun counts w nonzero b hb => ?_⟩⟩
  · have cleared : (d.typed a 0#32).rget a = 0#32 := by
      rw [d.typed_counter hr (by simp [cnt]), if_pos ok, if_pos rfl, cnt, Device.rget_st_ne _ _ status]
      exact Device.rget_rset_same ..
    refine ⟨cleared, ?_⟩
    rw [Device.count16_counts _ _ (by rw [cleared, bitsOf_zero]; decide), cleared, bitsOf_zero]
  · have clear : d.typed a 0#32 = ((d.rset a 0#32).put (satFld a k) 0).st (unitOf a) .ok := by
      rw [d.typed_counter hr (by simp [cnt]), if_pos ok, if_pos rfl, cnt]
      rfl
    have cleared : (d.typed a 0#32).rget a = 0#32 := by
      rw [clear, Device.rget_st_ne _ _ status, Device.rget_put_ne _ flags, Device.rget_rset_same]
    refine ⟨cleared, ?_, ?_⟩
    · show (d.typed a 0#32).on (satFld a k) = false
      rw [clear, Device.on, Device.st, Device.get_put_addr _ _ (by simp [satFld, lastFld]),
        Device.get_put_same _ _ (show k + 1 ≤ 32 by omega)]
      rfl
    · rw [Device.count32_counts _ _ _ flags (by rw [cleared]; decide), cleared]
      rfl
  · rw [d.typed_counter hr counts, if_neg nonzero]
    split <;> exact Device.rget_st_ne _ _ hb

end Sys2Proof.Machine
end

section
/-! PROOFS. Commands of the load switches (R49, R363 to R375). -/

namespace Sys2Proof.Machine

/-- A mask of one bit names one channel. -/
theorem loadsOf_one (n : Fin 16) : loadsOf (1#16 <<< n.val).toNat = [n.val] := by
  revert n
  decide

/-- The status of a single channel is that of the command. -/
theorem find_refused (st : Status) : ([st].find? fun st => st != .ok).getD .ok = st := by
  cases st <;> rfl

/-! ### One channel (R364, R368) -/

section
variable {d : Device} {n : Nat}

theorem Device.turnOnStatus_off (off : d.loadSt n = .off) (en : d.on LSW_CTL_EN = true) : d.turnOnStatus n = .ok := by
  simp [Device.turnOnStatus, off, en]

theorem Device.turnOnStatus_kept (kept : d.loadSt n = .latched ∨ d.loadSt n = .locked) : d.turnOnStatus n = .reject := by
  rcases kept with h | h <;> simp [Device.turnOnStatus, h]

theorem Device.turnOnStatus_fenced (fenced : d.loadSt n = .fenced) : d.turnOnStatus n = .fenced := by
  simp [Device.turnOnStatus, fenced]

/-- A channel that is OFF enters INRUSH with its command. -/
theorem Device.turnOn_off (off : d.loadSt n = .off) (en : d.on LSW_CTL_EN = true) :
    d.turnOn n = (d.put (loadOut n) 1).setLoadSt n .inrush := by
  have still : (d.put (loadOut n) 1).loadSt n = .off :=
    (congrArg LoadSt.ofCode (d.get_put_apart 1 (by simp [Fld.apart, loadOut, LSW_CST, LSW_OUT]; omega))).trans off
  simp [Device.turnOn, Device.turnOnStatus_off off en, still]

theorem Device.turnOn_refused (refused : d.turnOnStatus n ≠ .ok) : d.turnOn n = d := if_pos refused

end

/-! ### The command registers (R49, R364, R365) -/

section
variable {d : Device} (run : d.sys.appHeld = false)
include run

theorem Device.lsw_busy (m : Nat) (due : d.sys.reassertDue = true) : d.lswSet m = d.st uLSW .busy ∧
    d.lswClr m = d.st uLSW .busy ∧ d.lswLclr m = d.st uLSW .busy := by
  simp [Device.lswSet, Device.lswClr, Device.lswLclr, Device.fieldBusy, run, due]

variable (free : d.sys.reassertDue = false) (n : Fin 16)
include free

theorem Device.lswSet_one : d.lswSet (1#16 <<< n.val).toNat = (d.turnOn n).st uLSW (d.turnOnStatus n) := by
  simp only [Device.lswSet, Device.fieldBusy, run, free, loadsOf_one, List.map_cons, List.map_nil, find_refused, List.foldl_cons,
    List.foldl_nil, if_false, Bool.false_eq_true]

theorem Device.lswClr_one : d.lswClr (1#16 <<< n.val).toNat = (d.turnOff n).st uLSW .ok := by
  simp only [Device.lswClr, Device.fieldBusy, run, free, loadsOf_one, List.foldl_cons, List.foldl_nil, if_false,
    Bool.false_eq_true]

theorem Device.lswLclr_one : d.lswLclr (1#16 <<< n.val).toNat =
    (if d.loadSt n = .latched then (d.setLoadSt n .off).put (LSW_CST_CNT n) 0 else d).st uLSW .ok := by
  simp only [Device.lswLclr, Device.fieldBusy, run, free, loadsOf_one, List.foldl_cons, List.foldl_nil, if_false,
    Bool.false_eq_true]

end

/-! ### The commands -/

section
variable {s : State} (awake : s.dev.awake = true) (m : BitVec 16)
include awake

theorem exec_loadTurnOn : exec (.loadTurnOn m) s = .next (s.after (s.dev.lswSet m.toNat)) := by
  show execLoadTurnOn m s = _
  exact onCtl_awake awake rfl

theorem exec_loadTurnOff : exec (.loadTurnOff m) s = .next (s.after (s.dev.lswClr m.toNat)) := by
  show execLoadTurnOff m s = _
  exact onCtl_awake awake rfl

theorem exec_latchClear : exec (.latchClear m) s = .next (s.after (s.dev.lswLclr m.toNat)) := by
  show execLatchClear m s = _
  exact onCtl_awake awake rfl

end

/-- Settles O20: each command on one channel is its operation on that channel. -/
theorem loadCommands : Obligations.LoadCommands := by
  intro s awake run
  simp only [exec_loadTurnOn awake, exec_loadTurnOff awake, exec_latchClear awake]
  refine ⟨fun m due => ?_, fun n free => ⟨fun off en => ?_, fun kept => ?_, fun fenced => ?_, ?_, fun latched => ?_,
    fun other => ?_⟩, fun n => ?_, fun m => ?_⟩
  · obtain ⟨set, clr, lclr⟩ := Device.lsw_busy run m.toNat due
    rw [set, clr, lclr]
    exact ⟨rfl, rfl, rfl⟩
  · rw [Device.lswSet_one run free, Device.turnOn_off off en, Device.turnOnStatus_off off en]
  · have status := Device.turnOnStatus_kept kept
    rw [Device.lswSet_one run free, Device.turnOn_refused (by simp [status]), status]
  · have status := Device.turnOnStatus_fenced fenced
    rw [Device.lswSet_one run free, Device.turnOn_refused (by simp [status]), status]
  · rw [Device.lswClr_one run free]
  · rw [Device.lswLclr_one run free, if_pos latched]
  · rw [Device.lswLclr_one run free, if_neg other]
  · show execClampEnergyClear n s = _
    exact onCtl_released awake run rfl
  · show execLoadFence m s = _
    exact onCtl_released awake run rfl

end Sys2Proof.Machine
end

section
/-! PROOFS. Commands of the motor units (R49, R51, R351, R355, R357, R358). -/

namespace Sys2Proof.Machine

/-! ### MTR_CMD (R49, R51) -/

section
variable {d : Device} (run : d.sys.appHeld = false) {gen : Nat} (f : Device → Status × Device)
include run

theorem Device.motorCmd_busy (due : d.sys.reassertDue = true) : d.motorCmd gen f = d.st uMTR .busy := by
  simp [Device.motorCmd, Device.fieldBusy, run, due]

variable (free : d.sys.reassertDue = false)
include free

theorem Device.motorCmd_reset (old : gen ≠ d.gen uMTR) : d.motorCmd gen f = d.st uMTR .reset := by
  simp [Device.motorCmd, Device.fieldBusy, run, free, old]

theorem Device.motorCmd_taken (now : gen = d.gen uMTR) : d.motorCmd gen f = (f d).2.st uMTR (f d).1 := by
  simp [Device.motorCmd, Device.fieldBusy, run, free, now]

/-! ### The reference (R355) -/

variable {u v : Nat}

theorem Device.srefWrite_range (far : d.get (MTR_LIM_SMAX u) < (signed 16 v).natAbs) : d.srefWrite u v = d.st uMTR .range := by
  simp only [Device.srefWrite, Device.fieldBusy, run, free, far, if_true, if_false, Bool.false_eq_true]

theorem Device.srefWrite_ok (near : (signed 16 v).natAbs ≤ d.get (MTR_LIM_SMAX u)) (nonzero : v % 65536 ≠ 0) :
    d.srefWrite u v = (d.put (MTR_SREF_SREF u) v).st uMTR .ok := by
  simp only [Device.srefWrite, Device.fieldBusy, run, free, Nat.not_lt.2 near, nonzero, if_false, Bool.false_eq_true]

end

/-! ### Their actions -/

section
variable {d : Device} {u : Nat}

theorem Device.motorStart_ok (ok : d.startStatus u = .ok) :
    d.motorStart u = (.ok, (d.put (MTR_ST_FAILS u) 0).motCatch u false false) := by
  simp only [Device.motorStart, ok, if_true]

theorem Device.motorStart_refused (refused : d.startStatus u ≠ .ok) : d.motorStart u = (d.startStatus u, d) := by
  simp only [Device.motorStart, if_neg refused]

theorem Device.motorStop_run (runs : d.motSt u = .run) : d.motorStop u = d.setMotSt u .stopping := by
  simp only [Device.motorStop, runs]

theorem Device.motCoast_active (active : (d.motSt u).active = true) : d.motCoast u = (d.setMotSt u .coast).setMot u fun m =>
    { m with measuring := false, resync := false, uvWait := false, uvCatch := false } := if_pos active

theorem Device.motorClear_fault (fault : d.motSt u = .fault) :
    d.motorClear u = (.ok, ((d.put (MTR_ST_FLT u) 0).put (MTR_ST_FAILS u) 0).motStop u) := if_pos fault

theorem Device.motorClear_refused (other : d.motSt u ≠ .fault) : d.motorClear u = (.reject, d) := if_neg other

end

/-! ### The commands -/

section
variable {s : State} (awake : s.dev.awake = true) (u : Fin 4) (g : Byte)
include awake

theorem onMcmd_awake (f : Device → Status × Device) : onMcmd s g f = .next (s.after (s.dev.motorCmd g.toNat f)) :=
  onCtl_awake (f := fun d => d.motorCmd g.toNat f) awake rfl

theorem exec_motorStart :
    exec (.motorStart u g) s = .next (s.after (s.dev.motorCmd g.toNat fun d => d.motorStart u)) := by
  show execMotorStart u g s = _
  exact onMcmd_awake awake g _

theorem exec_motorStop :
    exec (.motorStop u g) s = .next (s.after (s.dev.motorCmd g.toNat fun d => (.ok, d.motorStop u))) := by
  show execMotorStop u g s = _
  exact onMcmd_awake awake g _

theorem exec_motorCoast :
    exec (.motorCoast u g) s = .next (s.after (s.dev.motorCmd g.toNat fun d => (.ok, d.motCoast u))) := by
  show execMotorCoast u g s = _
  exact onMcmd_awake awake g _

theorem exec_motorClear :
    exec (.motorClear u g) s = .next (s.after (s.dev.motorCmd g.toNat fun d => d.motorClear u)) := by
  show execMotorClear u g s = _
  exact onMcmd_awake awake g _

theorem exec_speedReferenceWrite (v : Half) :
    exec (.speedReferenceWrite u v) s = .next (s.after (s.dev.srefWrite u v.toNat)) := by
  show execSpeedReferenceWrite u v s = _
  exact onCtl_awake awake rfl

end

/-- Settles O22: MTR_CMD judges hold and generation before the action, and each action is one case of its operation. -/
theorem motorCommands : Obligations.MotorCommands := by
  intro s u awake run
  simp only [exec_motorStart awake, exec_motorStop awake, exec_motorCoast awake, exec_motorClear awake,
    exec_speedReferenceWrite awake]
  refine ⟨fun g due => ?_, fun g free old => ?_, fun g free now => ?_, fun v free far => ?_, fun v free near nonzero => ?_, ?_,
    fun m => ?_⟩
  · simp only [Device.motorCmd_busy run _ due, and_self]
  · simp only [Device.motorCmd_reset run _ free old, and_self]
  · simp only [Device.motorCmd_taken run _ free now]
    refine ⟨fun ok => ?_, fun refused => ?_, fun runs => ?_, fun active => ?_, fun other => ?_, fun fault => ?_⟩
    · rw [Device.motorStart_ok ok]
    · rw [Device.motorStart_refused refused]
    · rw [Device.motorStop_run runs]
    · rw [Device.motCoast_active active]
    · rw [Device.motorClear_refused other]
    · rw [Device.motorClear_fault fault]
  · rw [Device.srefWrite_range run free far]
  · have word : v.toNat % 65536 ≠ 0 := fun zero => nonzero (BitVec.eq_of_toNat_eq (by have := v.isLt; simp; omega))
    rw [Device.srefWrite_ok run free near word]
  · show execMotorDisable u s = _
    exact onCtl_released awake run rfl
  · show execMotorFence m s = _
    exact onCtl_released awake run rfl

end Sys2Proof.Machine
end

section
/-! PROOFS. Mode requests (R36, R37, R40, R49, R256). -/

namespace Sys2Proof.Machine

/-! ### SYS_MREQ (R46, R49, R417) -/

section
variable {d : Device} (run : d.sys.appHeld = false) (idle : d.on SYS_MODE_BUSY = false)
include run idle

/-- A device that leads, with nothing due or in progress, takes the request. -/
theorem Device.request_taken (due : d.sys.reassertDue = false) (leads : d.follower = false) (f : Device → Device) :
    d.request f = f d := by
  simp [Device.request, run, due, idle, leads]

theorem Device.requestTripped_eq : d.requestTripped =
    if d.mode.live then (d.raiseAll 19).st uSYS .ok else d.st uSYS .reject := by
  simp [Device.requestTripped, run, idle]

end

/-! ### The request for each mode (R36, R40, R256), once it is taken -/

section
variable {d : Device} (taken : ∀ f, d.request f = f d)
include taken

theorem Device.requestWatch_eq : d.requestWatch =
    if d.mode = .ready ∧ d.banksOpen then (d.enter .watch).st uSYS .ok else d.st uSYS .reject := taken _

theorem Device.requestDormant_eq : d.requestDormant = if d.mode = .watch ∨ d.mode = .ready ∧ d.banksOpen then
    (((d.enter .dormant).st uSYS .ok).motorsCoast.loadsOff).powerOff .dormant else d.st uSYS .reject := taken _

theorem Device.requestMuster_eq : d.requestMuster =
    if d.mode = .watch then ((d.enter .muster).startMuster).st uSYS .ok else d.st uSYS .reject := taken _

theorem Device.requestReady_unseen (muster : d.mode = .muster) (unseen : d.sys.mustSeen = false) :
    d.requestReady = d.st uSYS .busy := by
  simp [Device.requestReady, taken, muster, unseen]

/-- At the end of muster a device without a partner enters READY; PRL_CTL.EN stands through the entry. -/
theorem Device.requestReady_seen (muster : d.mode = .muster) (seen : d.sys.mustSeen = true) (alone : d.on PRL_CTL_EN = false) :
    d.requestReady = (d.enter .ready).st uSYS .ok := by
  have stands : d.Stands (· == PRL_CTL) ((d.enter .ready).st uSYS .ok) :=
    ((Device.Stands.refl d).enter _ (by decide)).put (by decide)
  have alone' : ((d.enter .ready).st uSYS .ok).on PRL_CTL_EN = false := by
    rw [Device.on, stands.get (by decide)]
    exact alone
  simp [Device.requestReady, taken, muster, seen, alone']

theorem Device.requestReady_online (online : d.mode = .online ∨ d.mode = .degraded) (open_ : d.anyClosed = false)
    (still : d.anyPrecharging = false) : d.requestReady = (d.enter .ready).st uSYS .ok := by
  rcases online with mode | mode <;> simp [Device.requestReady, taken, mode, open_, still]

theorem Device.requestPrecharge_refused {b : Nat} {st : Status} {r : Nat} (refused : d.connectRefusal b true = some (st, r)) :
    d.requestPrecharge b = (d.put (CTD_BST_REJR b) r).st uSYS st := by
  simp [Device.requestPrecharge, taken, refused]

theorem Device.requestPrecharge_taken {b : Nat} (ok : d.connectRefusal b true = none) :
    d.requestPrecharge b = (((d.startConnect b).enter .precharge).judgeInputs).st uSYS .ok := by
  simp [Device.requestPrecharge, taken, ok]

end

/-- Settles O4: each request is taken, and then is one case of its operation. -/
theorem modeRequests : Obligations.ModeRequests := by
  intro s awake run due idle leads
  have taken := Device.request_taken run idle due leads
  refine ⟨fun ready open_ => ?_, fun other => ?_, fun watch => ?_, fun watch ready => ?_, fun watch => ?_, fun other => ?_,
    fun muster unseen => ?_, fun muster seen alone => ?_, fun online open_ still => ?_, fun b st r refused => ?_, fun b ok => ?_,
    fun live => ?_, fun dead => ?_⟩
  · show execModeRequestWatch s = _
    exact onCtl_awake awake ((Device.requestWatch_eq taken).trans (if_pos ⟨ready, open_⟩))
  · show execModeRequestWatch s = _
    exact onCtl_awake awake ((Device.requestWatch_eq taken).trans (if_neg (by simpa [imp_iff_not_or] using other)))
  · show execModeRequestDormant s = _
    exact onCtl_awake awake ((Device.requestDormant_eq taken).trans (if_pos (.inl watch)))
  · show execModeRequestDormant s = _
    exact onCtl_awake awake ((Device.requestDormant_eq taken).trans (if_neg (by simpa [watch, imp_iff_not_or] using ready)))
  · show execModeRequestMuster s = _
    exact onCtl_awake awake ((Device.requestMuster_eq taken).trans (if_pos watch))
  · show execModeRequestMuster s = _
    exact onCtl_awake awake ((Device.requestMuster_eq taken).trans (if_neg other))
  · show execModeRequestReady s = _
    exact onCtl_awake awake (Device.requestReady_unseen taken muster unseen)
  · show execModeRequestReady s = _
    exact onCtl_awake awake (Device.requestReady_seen taken muster seen alone)
  · show execModeRequestReady s = _
    exact onCtl_awake awake (Device.requestReady_online taken online open_ still)
  · show execModeRequestPrecharge b s = _
    exact onCtl_awake awake (Device.requestPrecharge_refused taken refused)
  · show execModeRequestPrecharge b s = _
    exact onCtl_awake awake (Device.requestPrecharge_taken taken ok)
  · show execModeRequestTripped s = _
    exact onCtl_awake awake ((Device.requestTripped_eq run idle).trans (if_pos live))
  · show execModeRequestTripped s = _
    exact onCtl_awake awake ((Device.requestTripped_eq run idle).trans (if_neg (by simp [dead])))

end Sys2Proof.Machine
end

section
/-! PROOFS. Resets by pin and key, block resets, the release of the application domain, and the end of the hold window (R44, R46,
R49, R50, R52). -/

namespace Sys2Proof.Machine

/-! ### What writes registers only -/

/-- `e` differs from `d` in registers only. -/
def Device.RegsOnly (d e : Device) : Prop := ∃ r, e = { d with regs := r }

namespace Device.RegsOnly

variable {d e : Device}

theorem refl (d : Device) : d.RegsOnly d := ⟨d.regs, rfl⟩

theorem trans {f : Device} (h : d.RegsOnly e) (k : e.RegsOnly f) : d.RegsOnly f := by
  obtain ⟨r, rfl⟩ := h
  obtain ⟨r', rfl⟩ := k
  exact ⟨r', rfl⟩

theorem put (h : d.RegsOnly e) (f : Fld) (v : Nat) : d.RegsOnly (e.put f v) := h.trans ⟨_, rfl⟩

theorem rset (h : d.RegsOnly e) (a : Nat) (v : Word) : d.RegsOnly (e.rset a v) := h.trans ⟨_, rfl⟩

theorem ite (c : Prop) [Decidable c] {f : Device} (h : d.RegsOnly e) (k : d.RegsOnly f) : d.RegsOnly (if c then e else f) := by
  split
  · exact h
  · exact k

theorem count16 (h : d.RegsOnly e) (a : Nat) : d.RegsOnly (e.count16 a) := .ite _ h (.ite _ (h.rset _ _) (h.rset _ _))

theorem count16n (h : d.RegsOnly e) (a n : Nat) : d.RegsOnly (e.count16n a n) := by
  induction n generalizing e with
  | zero => exact h
  | succ n ih => exact ih (h.count16 a)

theorem foldl {α : Type} (h : d.RegsOnly e) (l : List α) {f : Device → α → Device}
    (hf : ∀ (e : Device) x, e.RegsOnly (f e x)) : d.RegsOnly (l.foldl f e) :=
  List.foldlRecOn (motive := d.RegsOnly) l f h fun e he x _ => he.trans (hf e x)

/-! The replies that a reset cuts off (R51). -/

theorem scrReplies (h : d.RegsOnly e) (old : Device) : d.RegsOnly (e.scrReplies old) := by
  unfold Device.scrReplies
  have load : d.RegsOnly (match old.scr.load with
      | some l => if l.rom then e else (e.put SCR_KLST_ST Status.reset.code).put SCR_KLST_GEN l.gen
      | none => e) := by
    split
    · exact .ite _ h ((h.put _ _).put _ _)
    · exact h
  dsimp only
  split
  · exact .ite _ (load.put _ _) load
  · exact load

theorem nvcReplies (h : d.RegsOnly e) (old : Device) : d.RegsOnly (e.nvcReplies old) :=
  h.foldl _ fun e q => by
    have reply := ((refl e).put NVC_ST_ST Status.reset.code).put NVC_ST_GEN q.gen
    dsimp only
    split
    · exact ((reply.put _ _).put _ _).put _ _
    · exact reply

theorem ethReplies (h : d.RegsOnly e) (old : Device) (m : Nat) : d.RegsOnly (e.ethReplies old m) := by
  unfold Device.ethReplies
  split
  · exact (h.put _ _).put _ _
  · exact h

theorem prlReplies (h : d.RegsOnly e) (old : Device) : d.RegsOnly (e.prlReplies old) := by
  unfold Device.prlReplies
  split
  · exact (h.put _ _).put _ _
  · exact (h.put _ _).put _ _
  · exact h

end Device.RegsOnly

/-! ### The blocks of the application domain under a W reset (R44) -/

/-- What a W reset puts back in the blocks of the application domain, and what NVC's row keeps. -/
structure Device.WReset (d e : Device) : Prop where
  acq : e.acq = Acq.reset
  bud : e.bud = Bud.reset
  nvc : e.nvc = if d.nvc.row.isSome then { d.nvc with resetDue := some 1 }
    else { Nvc.reset with seq := d.nvc.seq, torn := d.nvc.torn }
  luts : e.scr.luts = d.scr.luts
  core : e.cpx.core = Vector.replicate 2 CorePair.reset

theorem Device.WReset.regsOnly {d e f : Device} (h : d.WReset e) (k : e.RegsOnly f) : d.WReset f := by
  obtain ⟨r, rfl⟩ := k
  exact ⟨h.acq, h.bud, h.nvc, h.luts, h.core⟩

/-- An update beside the blocks that a W reset resets. -/
theorem Device.WReset.same {d e f : Device} (h : d.WReset e) (k : (f.acq, f.bud, f.nvc, f.scr, f.cpx) = (e.acq, e.bud, e.nvc, e.scr, e.cpx)) :
    d.WReset f := by
  simp only [Prod.mk.injEq] at k
  obtain ⟨acq, bud, nvc, scr, cpx⟩ := k
  exact ⟨acq.trans h.acq, bud.trans h.bud, nvc.trans h.nvc, by rw [scr, h.luts], by rw [cpx, h.core]⟩

/-- The registers of a W reset, with the generations of its units. -/
def Device.wRegs (d : Device) : Device :=
  let row := d.nvc.row.isSome
  (wUnits.filter fun u => !(row && u == 0x60030000)).foldl (fun d u => d.bumpGen u 1) (d.resetRegs (fun a =>
    isHeader a || !((regDef? a).map (·.byW)).getD false || (row && blockOf a == some .nvc)) wKeep)

theorem Device.bumpGen_eq (d : Device) (u cls : Nat) : ∃ r y, d.bumpGen u cls = { d with regs := r, sys := y } := by
  unfold Device.bumpGen
  dsimp only
  split
  · exact ⟨_, d.sys, rfl⟩
  · exact ⟨_, _, rfl⟩

theorem Device.wRegs_eq (d : Device) : ∃ r y, d.wRegs = { d with regs := r, sys := y } := by
  refine List.foldlRecOn (motive := fun e : Device => ∃ r y, e = { d with regs := r, sys := y }) _ _ ⟨_, d.sys, rfl⟩ ?_
  rintro _ ⟨r, y, rfl⟩ u -
  obtain ⟨r', y', h⟩ := Device.bumpGen_eq { d with regs := r, sys := y } u 1
  exact ⟨r', y', h⟩

theorem Device.resetAcq_eq (d : Device) : ∃ r f, d.resetAcq = { d with regs := r, flk := f, acq := Acq.reset } := by
  unfold Device.resetAcq Device.lceExit
  split
  · exact ⟨_, _, rfl⟩
  · exact ⟨d.regs, d.flk, rfl⟩

theorem Device.resetNvc_eq (d : Device) :
    ∃ r, d.resetNvc = { d with regs := r, nvc := { Nvc.reset with seq := d.nvc.seq, torn := d.nvc.torn } } := by
  obtain ⟨r, h⟩ := (Device.RegsOnly.refl ({ d with nvc := { Nvc.reset with seq := d.nvc.seq, torn := d.nvc.torn } } : Device)).nvcReplies d
  exact ⟨r, h⟩

theorem Device.resetScr_eq (d : Device) : ∃ r, d.resetScr = { d with regs := r, scr := { Scr.reset with luts := d.scr.luts } } := by
  obtain ⟨r, h⟩ := (Device.RegsOnly.refl ({ d with scr := { Scr.reset with luts := d.scr.luts } } : Device)).scrReplies d
  exact ⟨r, h⟩

theorem Device.resetEth_eq (d : Device) (m : Nat) : ∃ r e, d.resetEth m = { d with regs := r, eth := e } := by
  obtain ⟨r, h⟩ := ((Device.RegsOnly.refl (d.setMac m fun _ => EthMac.reset)).count16n (ETH_TSDROP m) (d.mac m).tsq.length).ethReplies d m
  exact ⟨r, _, h⟩

theorem Device.resetPrl_eq (d : Device) : ∃ r, d.resetPrl = { d with regs := r, prl := { Prl.reset with shadowed := d.prl.shadowed } } := by
  obtain ⟨r, h⟩ := (Device.RegsOnly.refl ({ d with prl := { Prl.reset with shadowed := d.prl.shadowed } } : Device)).prlReplies d
  exact ⟨r, h⟩

/-- NVC under a W reset of a device `old`: it waits for a row in progress. -/
def Device.haltNvc (d old : Device) : Device :=
  if old.nvc.row.isSome then ({ d with nvc := { d.nvc with resetDue := some 1 } } : Device).nvcReplies old else d.resetNvc

theorem Device.haltNvc_eq {d old : Device} (same : d.nvc = old.nvc) : ∃ r, d.haltNvc old = { d with
    regs := r
    nvc := if old.nvc.row.isSome then { old.nvc with resetDue := some 1 }
      else { Nvc.reset with seq := old.nvc.seq, torn := old.nvc.torn } } := by
  unfold Device.haltNvc
  split
  · obtain ⟨r, h⟩ := (Device.RegsOnly.refl ({ d with nvc := { d.nvc with resetDue := some 1 } } : Device)).nvcReplies old
    exact ⟨r, by rw [h, same]⟩
  · obtain ⟨r, h⟩ := d.resetNvc_eq
    exact ⟨r, by rw [h, same]⟩

/-- The blocks of the application domain up to NVC, in the order of the reset. -/
def Device.wFirst (d : Device) : Device :=
  ({ d.wRegs.resetAcq.resetBud with can := Vector.replicate 4 ⟨none⟩ } : Device).haltNvc d

theorem Device.wBlocks_eq (d : Device) : ∃ p s, d.wBlocks =
    { ((((d.wFirst.resetScr.resetEth 0).resetEth 1).resetPrl).resetCores) with pub := p, sec := s } := ⟨_, _, rfl⟩

theorem Device.wBlocks_wReset (d : Device) : d.WReset d.wBlocks := by
  obtain ⟨p, s, h⟩ := d.wBlocks_eq
  have first : d.wFirst.acq = Acq.reset ∧ d.wFirst.bud = Bud.reset ∧ d.wFirst.scr.luts = d.scr.luts ∧
      d.wFirst.nvc = if d.nvc.row.isSome then { d.nvc with resetDue := some 1 }
        else { Nvc.reset with seq := d.nvc.seq, torn := d.nvc.torn } := by
    obtain ⟨r, y, hr⟩ := d.wRegs_eq
    obtain ⟨r', f, ha⟩ := d.wRegs.resetAcq_eq
    obtain ⟨r'', hn⟩ := Device.haltNvc_eq (d := { d.wRegs.resetAcq.resetBud with can := Vector.replicate 4 ⟨none⟩ }) (old := d)
      (by rw [ha, hr]; rfl)
    rw [Device.wFirst, hn, ha, hr]
    exact ⟨rfl, rfl, rfl, rfl⟩
  obtain ⟨acq, bud, luts, nvc⟩ := first
  obtain ⟨_, hs⟩ := d.wFirst.resetScr_eq
  obtain ⟨_, _, h0⟩ := d.wFirst.resetScr.resetEth_eq 0
  obtain ⟨_, _, h1⟩ := (d.wFirst.resetScr.resetEth 0).resetEth_eq 1
  obtain ⟨_, hp⟩ := ((d.wFirst.resetScr.resetEth 0).resetEth 1).resetPrl_eq
  rw [h, hp, h1, h0, hs]
  exact ⟨acq, bud, nvc, luts, rfl⟩

/-! ### The hold window opens (R48) -/

/-- `e` differs from `d` in registers and in CTD's own state of drivers and banks only. -/
def Device.CtdOnly (d e : Device) : Prop := ∃ r v k, e = { d with regs := r, drv := v, bank := k }

namespace Device.CtdOnly

variable {d e : Device}

theorem refl (d : Device) : d.CtdOnly d := ⟨d.regs, d.drv, d.bank, rfl⟩

theorem regsOnly {f : Device} (h : d.CtdOnly e) (k : e.RegsOnly f) : d.CtdOnly f := by
  obtain ⟨r, v, b, rfl⟩ := h
  obtain ⟨r', rfl⟩ := k
  exact ⟨r', v, b, rfl⟩

theorem put (h : d.CtdOnly e) (f : Fld) (v : Nat) : d.CtdOnly (e.put f v) := h.regsOnly ⟨_, rfl⟩

theorem setDk (h : d.CtdOnly e) (k : Nat) (f : Driver → Driver) : d.CtdOnly (e.setDk k f) := by
  obtain ⟨r, v, b, rfl⟩ := h
  exact ⟨r, _, b, rfl⟩

theorem setBk (h : d.CtdOnly e) (b : Nat) (f : Bank → Bank) : d.CtdOnly (e.setBk b f) := by
  obtain ⟨r, v, b, rfl⟩ := h
  exact ⟨r, v, _, rfl⟩

theorem ite (c : Prop) [Decidable c] {f : Device} (h : d.CtdOnly e) (k : d.CtdOnly f) : d.CtdOnly (if c then e else f) := by
  split
  · exact h
  · exact k

theorem when_ (h : d.CtdOnly e) {c : Bool} {f : Device → Device} (k : d.CtdOnly e → d.CtdOnly (f e)) : d.CtdOnly (e.when_ c f) :=
  .ite _ (k h) h

theorem openDriver (h : d.CtdOnly e) (k : Nat) : d.CtdOnly (e.openDriver k) :=
  .ite _ (.ite _ ((h.setDk k _).put _ _) (((h.setDk k _).put _ _).regsOnly ((RegsOnly.refl _).count16 _))) (h.setDk k _)

/-- Entry into READY writes registers only. -/
theorem enterReady (h : d.CtdOnly e) : d.CtdOnly (e.enter .ready) :=
  .ite _ h ((((h.put _ _).put _ _).put _ _).put _ _)

theorem endConnect (h : d.CtdOnly e) (b outc reason : Nat) : d.CtdOnly (e.endConnect b outc reason) := by
  unfold Device.endConnect
  have opened := ((h.openDriver (3 * b + 2)).openDriver (3 * b + 1)).openDriver (3 * b)
  exact (((((((opened.put _ _).put _ _).put _ _).put _ _).setBk b _).put _ _).when_ fun h => h.enterReady)

end Device.CtdOnly

theorem Device.openHold_wReset {d e : Device} (h : d.WReset e) : d.WReset e.openHold := by
  unfold Device.openHold
  split
  · exact h
  · refine List.foldlRecOn (motive := d.WReset) _ _ (h.same rfl) fun f hf b _ => ?_
    split
    · obtain ⟨r, v, k, he⟩ := (Device.CtdOnly.refl f).endConnect b 4 1
      exact hf.same (by rw [he])
    · exact hf

/-- A W reset of a running application domain holds the domain and resets its blocks (R44, R46). -/
theorem Device.wReset_parts {d : Device} (run : d.sys.appHeld = false) (cause : Fld) :
    d.WReset (d.wReset cause) ∧ (d.wReset cause).sys.appHeld = true := by
  have opened : (d.up cause).WReset (d.up cause).wBlocks.openHold := Device.openHold_wReset (d.up cause).wBlocks_wReset
  have blocks : d.WReset (d.up cause).wBlocks.openHold := ⟨opened.acq, opened.bud, opened.nvc, opened.luts, opened.core⟩
  unfold Device.wReset
  rw [if_neg (by simp [run])]
  dsimp only
  unfold Device.when_
  split <;> exact ⟨blocks.same rfl, rfl⟩

theorem Device.wReset_held {d : Device} (held : d.sys.appHeld = true) (cause : Fld) : d.wReset cause = d.up cause := if_pos held

/-! ### SYS_WRST and SYS_GRST (R44, R52) -/

section
variable {d : Device} {blk unit u : Nat} (named : gUnit blk unit = some u)
include named

theorem Device.gReset_reject (refused : d.gAllowed blk = false) : d.gReset blk unit = d.st uSYS .reject := by
  simp [Device.gReset, named, refused]

variable (allowed : d.gAllowed blk = true)
include allowed

theorem Device.gReset_busy (fresh : d.genFresh u = true) : d.gReset blk unit = d.st uSYS .busy := by
  simp [Device.gReset, named, allowed, fresh]

theorem Device.gReset_ok (aged : d.genFresh u = false) (free : ¬ (blk = 0x03 ∧ d.nvc.row.isSome)) :
    d.gReset blk unit = ((d.gRegs u).gInternal blk unit).st uSYS .ok := by
  simp only [Device.gReset, named, allowed, aged, free, Bool.not_true, Bool.false_eq_true, if_false]

end

theorem Device.gReset_range {d : Device} {blk unit : Nat} (unnamed : gUnit blk unit = none) : d.gReset blk unit = d.st uSYS .range := by
  simp [Device.gReset, unnamed]

theorem Device.genFresh_aged {d : Device} {u : Nat} (aged : ∀ t, mapGet u d.sys.genAt = some t → t + 10000000 ≤ d.now) :
    d.genFresh u = false := by
  unfold Device.genFresh
  split
  · next t at_ => simpa using aged t at_
  · rfl

/-! ### A field of SYS through operations of other units -/

/-- A field of a register of SYS that no bank state, no transition in progress and no event shares a bit with. -/
structure Fld.OfSys (f : Fld) : Prop where
  low : f.addr < 0x60010000
  bank : ∀ b, f.apart (bankStFld b) = true
  busy : f.apart SYS_MODE_BUSY = true
  event : f.addr ≠ SYS_EVT

/-- From `d` to `e` the field `f` of SYS stands, and so does SYS's own state. -/
structure Device.SysStands (f : Fld) (d e : Device) : Prop where
  ofSys : f.OfSys
  sys : e.sys = d.sys
  get : e.get f = d.get f

namespace Device.SysStands

variable {f : Fld} {d e : Device}

theorem refl (ofSys : f.OfSys) (d : Device) : d.SysStands f d := ⟨ofSys, rfl, rfl⟩

theorem put (h : d.SysStands f e) {g : Fld} (hg : f.apart g = true) (v : Nat) : d.SysStands f (e.put g v) :=
  ⟨h.ofSys, h.sys, (e.get_put_apart v hg).trans h.get⟩

/-- A write to a register of another unit. -/
theorem far (h : d.SysStands f e) {g : Fld} {v : Nat} (hg : 0x60010000 ≤ g.addr) : d.SysStands f (e.put g v) :=
  h.put (by have low := h.ofSys.low; simp only [Fld.apart, Bool.or_eq_true, bne_iff_ne]; omega) v

/-- A write to SYS_EVT. -/
theorem event (h : d.SysStands f e) {g : Fld} {v : Nat} (hg : g.addr = SYS_EVT) : d.SysStands f (e.put g v) :=
  h.put (by simp [Fld.apart, hg, h.ofSys.event]) v

theorem setBankSt (h : d.SysStands f e) (b : Nat) (x : BankState) : d.SysStands f (e.setBankSt b x) := h.put (h.ofSys.bank b) _

/-- An update beside the registers and SYS's own state. -/
theorem same (h : d.SysStands f e) {e' : Device} (k : (e'.sys, e'.regs, e'.part) = (e.sys, e.regs, e.part)) : d.SysStands f e' := by
  simp only [Prod.mk.injEq] at k
  obtain ⟨sys, regs, part⟩ := k
  exact ⟨h.ofSys, sys.trans h.sys, (Device.get_congr (by rw [Device.rget, Device.rget, regs, part])).trans h.get⟩

theorem setMot (h : d.SysStands f e) (u : Nat) (m : Motor → Motor) : d.SysStands f (e.setMot u m) := h.same rfl

theorem setBk (h : d.SysStands f e) (b : Nat) (v : Bank → Bank) : d.SysStands f (e.setBk b v) := h.same rfl

theorem ite (c : Prop) [Decidable c] {e' : Device} (h : d.SysStands f e) (k : d.SysStands f e') :
    d.SysStands f (if c then e else e') := by
  split
  · exact h
  · exact k

theorem when_ (h : d.SysStands f e) {c : Bool} {g : Device → Device} (k : d.SysStands f e → d.SysStands f (g e)) :
    d.SysStands f (e.when_ c g) := .ite _ (k h) h

theorem foldl {α : Type} (h : d.SysStands f e) (l : List α) {g : Device → α → Device}
    (hg : ∀ e, d.SysStands f e → ∀ x, d.SysStands f (g e x)) : d.SysStands f (l.foldl g e) :=
  List.foldlRecOn (motive := d.SysStands f) l g h fun e he x _ => hg e he x

theorem count16 (h : d.SysStands f e) {a : Nat} (ha : 0x60010000 ≤ a) : d.SysStands f (e.count16 a) := by
  rcases e.count16_cases a with same | ⟨v, set⟩
  · rwa [same]
  · rw [set, e.rset_eq_put]
    exact h.far ha

/-! Contactors. -/

theorem openDriver (h : d.SysStands f e) (k : Nat) : d.SysStands f (e.openDriver k) := by
  have st : 0x60010000 ≤ CTD_DST k := Nat.le_add_right_of_le (by decide)
  have cnt : 0x60010000 ≤ CTD_DQCNT k := Nat.le_add_right_of_le (by decide)
  have released : d.SysStands f (e.setDk k Driver.released) := h.same rfl
  have quench : ∀ x, d.SysStands f ((e.setDk k Driver.released).setDrvSt k x) := fun x => released.far st
  exact .ite _ (.ite _ (quench _) ((quench _).count16 cnt)) released

theorem openFirst (h : d.SysStands f e) (r b : Nat) : d.SysStands f (e.openFirst r b) := by
  have bst : 0x60010000 ≤ CTD_BST b := Nat.le_add_right_of_le (by decide)
  have bevt : 0x60010000 ≤ CTD_BEVT b := Nat.le_add_right_of_le (by decide)
  have ends : ∀ e : Device, d.SysStands f e → d.SysStands f
      ((((e.put (CTD_BST_OUTC b) 4).put (CTD_BST_REASON b) r).up (CTD_BEVT_CONN b)).setBankSt b .opened) := fun e h =>
    .setBankSt (.far (.far (.far h bst) bst) bevt) b _
  have opens : ∀ e : Device, d.SysStands f e → d.SysStands f (e.setPhase b .opening) := fun e h => h.far bst
  unfold Device.openFirst
  exact .when_ (.when_ (.setBk ((h.openDriver _).openDriver _) _ _) fun h => ends _ h) fun h => opens _ h

theorem openFirstStage (h : d.SysStands f e) (r : Nat) : d.SysStands f (e.openFirstStage r) :=
  (((h.openFirst r 0).openFirst r 1).openFirst r 2).openFirst r 3

/-! Motors. -/

theorem setMotSt (h : d.SysStands f e) (u : Nat) (st : MotorSt) : d.SysStands f (e.setMotSt u st) := by
  have reg : 0x60010000 ≤ MTR_ST u := Nat.le_add_right_of_le (by decide)
  have state : d.SysStands f (e.put (MTR_ST_STATE u) st.code) := h.far reg
  have flags : d.SysStands f ((((((e.put (MTR_ST_STATE u) st.code).put (MTR_ST_LIMV u) 0).put (MTR_ST_LIMS u) 0).put
      (MTR_ST_LIMI u) 0).put (MTR_ST_CONF u) 0).put (MTR_ST_PAUSE u) 0) :=
    .far (.far (.far (.far (.far state reg) reg) reg) reg) reg
  exact .ite _ state (flags.setMot u _)

theorem motStop (h : d.SysStands f e) (u : Nat) : d.SysStands f (e.motStop u) := by
  have evt : 0x60010000 ≤ MTR_UEVT u := Nat.le_add_right_of_le (by decide)
  have stopped : d.SysStands f ((e.setMotSt u .stopped).up (MTR_UEVT_STOP u)) := (h.setMotSt u .stopped).far evt
  exact .ite _ h (stopped.setMot u _)

theorem motorStop (h : d.SysStands f e) (u : Nat) : d.SysStands f (e.motorStop u) := by
  have stop := h.motStop u
  have slow := h.setMotSt u .stopping
  have ramp := (h.setMot u fun m => { m with nref := m.ifq }).setMotSt u .stopping
  have coast := h.setMot u fun m => { m with uvWait := false }
  unfold Device.motorStop
  split <;> assumption

theorem motorsHoldExpired (h : d.SysStands f e) : d.SysStands f e.motorsHoldExpired := by
  refine h.foldl _ fun e h u => ?_
  have stop := h.motStop u
  have slow := h.motorStop u
  split <;> assumption

end Device.SysStands

/-- The mode is such a field. -/
theorem ofSys_mode : SYS_MODE_MODE.OfSys :=
  ⟨by decide, fun b => by simp [Fld.apart, bankStFld]; omega, by decide, by decide⟩

theorem Device.SysStands.mode {d e : Device} (h : d.SysStands SYS_MODE_MODE e) : e.mode = d.mode := congrArg Mode.ofCode h.get

/-! ### The end of the hold window (R49, R50) -/

theorem Device.holdAck_taken {d : Device} (run : d.sys.appHeld = false) (holding : d.holding = true) :
    d.holdAck 0xC3#32 = (d.closeHold.up SYS_EVT_HOLDE).st uSYS .ok := by
  simp [Device.holdAck, run, holding]

theorem Device.holdAck_refused {d : Device} (run : d.sys.appHeld = false) {key : Word} (bad : key ≠ 0xC3#32 ∨ d.holding = false) :
    d.holdAck key = d.st uSYS .reject := by
  have wrong : ¬ (key = 0xC3#32 ∧ d.holding = true) := by simpa [imp_iff_not_or] using bad
  simp only [Device.holdAck, run, wrong, if_false, Bool.false_eq_true]

theorem Device.mode_setSys (d : Device) (f : Sys → Sys) : (d.setSys f).mode = d.mode := rfl

theorem Device.mode_closeHold (d : Device) : d.closeHold.mode = d.mode := congrArg Mode.ofCode (d.get_put_apart 0 (by decide))

/-- The window expires on a device without a partner to take over, from a mode that a trip leaves: the first stage, and a
transition to TRIPPED in progress. -/
theorem Device.holdExpires_opens {d : Device} (holding : d.holding = true) (alone : d.isActive = false)
    (leads : d.get PRL_ST_ROLE ≠ 2) (live : d.mode.live = true) (whole : d.mode ≠ .tripped) : d.holdExpires =
      ((((d.closeHold.up SYS_RSTCAUSE_HEXP).openFirstStage 1).motorsHoldExpired).setSys
        fun y => { y with holdStage2 := true }).put SYS_MODE_BUSY 1 := by
  have role : (d.closeHold.up SYS_RSTCAUSE_HEXP).get PRL_ST_ROLE = d.get PRL_ST_ROLE :=
    (Device.get_put_addr _ _ (by decide)).trans (Device.get_put_addr d 0 (by decide))
  have active : (d.closeHold.up SYS_RSTCAUSE_HEXP).isActive = false := by rw [Device.isActive, role]; exact alone
  have closed : d.closeHold.SysStands SYS_MODE_MODE (d.closeHold.up SYS_RSTCAUSE_HEXP) := (SysStands.refl ofSys_mode _).put (by decide) _
  have mode := ((closed.openFirstStage 1).motorsHoldExpired).mode.trans d.mode_closeHold
  unfold Device.holdExpires
  rw [if_pos holding]
  dsimp only
  rw [if_neg (by simp [active, role, leads]), Device.mode_setSys, mode, Device.when_, if_pos (by simp [live, whole])]

/-- Settles O3: each command is one case of its operation; a W reset by what its blocks leave (`Device.WReset`). -/
theorem resetsAndHold : Obligations.ResetsAndHold := by
  intro s
  refine ⟨?_, fun awake held => ?_, fun awake run => ?_, fun awake run => ?_, fun key awake run other => ?_,
    fun blk unit awake run unnamed => ?_, fun blk unit u awake run named refused => ?_,
    fun blk unit u awake run named allowed fresh => ?_, fun blk unit u awake run named allowed aged free => ?_,
    fun awake held mode => ?_, fun awake run holding => ?_, fun key awake run bad => ?_,
    fun awake holding alone leads live whole => ?_, fun awake idle => ?_, fun awake stage => ?_⟩
  · show execPResetPin s = _
    exact onDev_next rfl
  · show execWResetPin s = _
    exact onCtl_awake awake (Device.wReset_held held _)
  · obtain ⟨blocks, held⟩ := Device.wReset_parts run SYS_RSTCAUSE_WPIN
    refine ⟨s.after (s.dev.wReset SYS_RSTCAUSE_WPIN), ?_, ?_⟩
    · show execWResetPin s = _
      exact onCtl_awake awake rfl
    · simp only [State.after_fields, Device.settle_leaves, held, blocks.acq, blocks.bud, blocks.nvc, blocks.luts, blocks.core]
      cases s.dev.nvc.row <;> simp [Nvc.reset]
  · show execWResetSoftware 0x57#32 s = _
    exact onCtl_awake awake (by simp [Device.writeWrst, run])
  · show execWResetSoftware key s = _
    exact onCtl_awake awake (by simp [Device.writeWrst, run, other])
  · show execGReset blk unit s = _
    exact onCtl_released awake run (Device.gReset_range unnamed)
  · show execGReset blk unit s = _
    exact onCtl_released awake run (Device.gReset_reject named refused)
  · show execGReset blk unit s = _
    exact onCtl_released awake run (Device.gReset_busy named allowed fresh)
  · have free' : ¬ (blk.toNat = 0x03 ∧ s.dev.nvc.row.isSome) := by
      rintro ⟨nvc, row⟩
      rcases free with other | none_
      · exact other (BitVec.eq_of_toNat_eq nvc)
      · simp [none_] at row
    show execGReset blk unit s = _
    exact onCtl_released awake run (Device.gReset_ok named allowed (Device.genFresh_aged aged) free')
  · show execAppDomainRelease s = _
    have mode' : ((s.dev.setSys fun y => { y with appHeld := false, released := true, reassertDue := s.dev.holding }).mode ==
        .muster) = false := by rw [Device.mode_setSys]; simpa using mode
    exact onCtl_awake awake (by rw [if_pos held]; exact if_neg (by rw [mode']; exact Bool.false_ne_true))
  · show execHoldReassert 0xC3#32 s = _
    exact onCtl_awake awake (Device.holdAck_taken run holding)
  · show execHoldReassert key s = _
    exact onCtl_awake awake (Device.holdAck_refused run bad)
  · show execHoldWindowExpiry s = _
    exact onCtl_awake awake (Device.holdExpires_opens holding alone leads live whole)
  · show execHoldWindowExpiry s = _
    exact onCtl_awake awake (if_neg (by simp [idle]))
  · show execHoldExpirySecondStage s = _
    exact onCtl_awake awake (if_pos stage)

end Sys2Proof.Machine
end


section
/-! PROOFS. Wakes, sleep, the qualified trip reset and the end of muster (R36, R39, R40, R337, R338, R389). -/

namespace Sys2Proof.Machine

/-! ### Wakes and sleep (R36, R338) -/

/-- A wake of the running device in WATCH. -/
theorem Device.wake_watch {d : Device} (run : d.fd.ctl = .running) (watch : d.mode = .watch) (up : d.fd.sleep = .awake) (src : Fin 4) :
    d.wake src = ((d.recordWake src).enter .muster).startMuster := by
  simp [Device.wake, run, watch, up]

/-- Entry into S1 or S2 without a wake recorded meanwhile gates the control die. -/
theorem Device.sleepEntered_light {d : Device} {n : Fin 5} (entering : d.fd.sleep = .entering n) (light : n = 1 ∨ n = 2)
    (quiet : d.fd.wakePending = none) : d.sleepEntered = d.setFd fun f => { f with sleep := .asleep n, ctl := .gated } := by
  rcases light with rfl | rfl <;> simp [Device.sleepEntered, entering, Device.setFd, quiet]

theorem Device.sleepGo_fits {d : Device} {n : Nat} (watch : d.mode = .watch) (en : d.on BUD_SLCTL_EN = true)
    (fits : d.sleepChoice = some n) : d.sleepGo = ((((d.put BUD_SLST_STATE n).put BUD_WKR_IDX 7).haltPairs true).setFd fun f =>
      { f with sleep := .entering (Fin.ofNat 5 n), wakeIdx := none }).st 0x60020000 .ok := by
  simp [Device.sleepGo, watch, en, fits]

theorem Device.sleepGo_none {d : Device} (watch : d.mode = .watch) (en : d.on BUD_SLCTL_EN = true)
    (nofit : d.sleepChoice = none) : d.sleepGo = ((d.put BUD_SLST_STATE 0).up BUD_EVT_NOFIT).st 0x60020000 .ok := by
  simp [Device.sleepGo, watch, en, nofit]

/-- The earliest deadline wakes the control die from S2. -/
theorem Device.deadlineWake_light {d : Device} {k : Nat} (first : d.earliest = some k) (asleep : d.fd.sleep = .asleep 2)
    (gated : d.fd.ctl = .gated) : d.deadlineWake =
      (((d.put BUD_WKR_IDX k).setFd fun f => { f with wakeIdx := some (Fin.ofNat 4 k) }).up BUD_EVT_WAKE).resume := by
  simp [Device.deadlineWake, first, asleep, gated]

/-! ### The qualified trip reset (R39) -/

theorem Device.tripKey_first {d : Device} (run : d.sys.appHeld = false) (tripped : d.mode = .tripped) (gone : d.tripGone = true)
    (fresh : d.sys.key1At = none) (open_ : d.within d.sys.ackRelAt 5000000000 = true) :
    d.tripKey 0xA5#32 = (d.setSys fun y => { y with key1At := some d.now }).st uSYS .ok := by
  simp [Device.tripKey, run, tripped, gone, fresh, open_]

theorem Device.tripKey_second {d : Device} (run : d.sys.appHeld = false) (tripped : d.mode = .tripped) (gone : d.tripGone = true)
    (open_ : d.within d.sys.ackRelAt 5000000000 = true) (soon : d.within d.sys.key1At 10000000 = true) :
    d.tripKey 0x5A#32 = d.clearTrip.st uSYS .ok := by
  simp [Device.tripKey, run, tripped, gone, open_, soon]

theorem Device.tripKey_refused {d : Device} (run : d.sys.appHeld = false) (other : d.mode ≠ .tripped) (key : Word) :
    d.tripKey key = d.restartAck.st uSYS .reject := by
  simp [Device.tripKey, run, other]

/-! ### A field of SYS stands through the fences of muster (R40) -/

namespace Device.SysStands

variable {f : Fld} {d e : Device} (h : d.SysStands f e)
include h

/-! The scorer's lanes and jobs. -/

theorem scrState : d.SysStands f e.scrState := h.far (by decide)

theorem clearLanes : d.SysStands f e.clearLanes := h.same rfl

theorem setScr (x : Scr) : d.SysStands f { e with scr := x } := h.same rfl

theorem suspendJob : d.SysStands f e.suspendJob := by
  unfold Device.suspendJob
  split
  · exact h
  · exact .clearLanes (.far (h.setScr _) (by decide))

theorem stopIfFenced : d.SysStands f e.stopIfFenced := by
  have stopped : d.SysStands f (((e.put SCR_ST_FENCED 1).put SCR_ST_LANES 0).up SCR_EVT_STOP) :=
    .far (.far (.far h (by decide)) (by decide)) (by decide)
  exact .ite _ stopped.clearLanes.scrState h

theorem fenceLanes (mask : Nat) : d.SysStands f (e.fenceLanes mask) :=
  .ite _ h (stopIfFenced (.far (.far h (by decide)) (by decide)))

/-! The thermal sensors and the orderly trip. -/

theorem setThm (x : Thm) : d.SysStands f { e with thm := x } := h.same rfl

theorem failSensor (n : Nat) : d.SysStands f (e.failSensor n) := by
  have sns : 0x60010000 ≤ snsAddr n := Nat.le_add_right_of_le (by decide)
  have failed : d.SysStands f (((e.put THM_SFAIL_FAIL (e.get THM_SFAIL_FAIL ||| 2 ^ n)).put (snsFailed n) 1).up THM_EVT_SFAIL) :=
    .far (.far (.far h (by decide)) sns) (by decide)
  have held := failed.far (g := THM_ST_HOLD) (v := 1) (by decide)
  exact .ite _ (.far (.far held (by decide)) (by decide)) held

theorem substituteAll : d.SysStands f e.substituteAll := by
  refine h.foldl _ fun e he n => ?_
  have sns : 0x60010000 ≤ snsAddr n := Nat.le_add_right_of_le (by decide)
  split
  · exact he
  · split
    · exact he.far sns
    · exact he

theorem raiseBudget : d.SysStands f e.raiseBudget := by
  have stepped : ∀ st, d.SysStands f ((e.put THM_ST_STATE st).up THM_EVT_STEP) := fun st =>
    .far (.far h (by decide)) (by decide)
  have entered : ∀ st, d.SysStands f (e.enterBudget st) := fun st =>
    .ite _ (.scrState (.suspendJob (.far (stepped st) (by decide)))) (stepped st)
  exact .ite _ ((entered _).setThm _) h

theorem orderlyTrip (was : Bool) : d.SysStands f (e.orderlyTrip was) := by
  have events := h.when_ (c := e.overTemp && !was) (g := fun d => d.up THM_EVT_TRIP) fun h => h.far (by decide)
  have first := (events.far (g := THM_EVT_TRIP) (v := 2 ^ THM_EVT_TRIP.w - 1) (by decide)).openFirstStage 0
  exact .ite _ (.setThm (first.suspendJob.scrState.put h.ofSys.busy 1) _) events

theorem thmEvaluate (was : Bool) : d.SysStands f (e.thmEvaluate was) := by
  unfold Device.thmEvaluate
  refine .orderlyTrip (.raiseBudget (.setThm (.far ?_ (by decide)) _)) was
  split
  · exact h.substituteAll.far (by decide)
  · exact h.substituteAll

/-! The port ends and the drivers. -/

theorem spoil (s bit : Nat) : d.SysStands f (e.spoil s bit) := by
  have lgs : 0x60010000 ≤ PUB_LGS s := Nat.le_add_right_of_le (by decide)
  have first : d.SysStands f (((e.put (PUB_LGS_STATE s) 2).put (PUB_LGS_REASON s) (2 ^ bit)).up PUB_EVT_SPOIL) :=
    .far (.far (.far h lgs) lgs) (by decide)
  have more : d.SysStands f (e.put (PUB_LGS_REASON s) (e.get (PUB_LGS_REASON s) ||| 2 ^ bit)) := h.far lgs
  unfold Device.spoil
  split <;> assumption

theorem fencePort (p cause : Nat) : d.SysStands f (e.fencePort p cause) := by
  have pfen : 0x60010000 ≤ FLK_PFEN p := Nat.le_add_right_of_le (by decide)
  have pstat : 0x60010000 ≤ FLK_PSTAT p := Nat.le_add_right_of_le (by decide)
  have pevt : 0x60010000 ≤ FLK_PEVT p := Nat.le_add_right_of_le (by decide)
  have pctl : 0x60010000 ≤ FLK_PCTL p := Nat.le_add_right_of_le (by decide)
  have fenced : d.SysStands f ((e.put (FLK_PFEN_FEN p) 1).put (FLK_PFEN_CAUSE p) cause) := .far (.far h pfen) pfen
  have lost : d.SysStands f (((e.put (FLK_PFEN_FEN p) 1).put (FLK_PFEN_CAUSE p) cause).loseLink p) :=
    .foldl (.far (.far fenced pstat) pevt) _ fun _ he s => he.spoil s 2
  exact .ite _ h (lost.far pctl)

theorem driverTest (k : Nat) (t : DriverTest) : d.SysStands f (e.driverTest k t) := by
  have dst : 0x60010000 ≤ CTD_DST k := Nat.le_add_right_of_le (by decide)
  have devt : 0x60010000 ≤ CTD_DEVT k := Nat.le_add_right_of_le (by decide)
  cases t with
  | pass => exact h
  | ssf => exact .far (.far h devt) dst
  | openc => exact .far (.far h devt) dst

/-! The load channels, the motor units and the core pairs. -/

theorem setLoadSt (n : Nat) (st : LoadSt) : d.SysStands f (e.setLoadSt n st) := by
  have cst : 0x60010000 ≤ LSW_CST n := Nat.le_add_right_of_le (by decide)
  have state : d.SysStands f ((e.put (LSW_CST_STATE n) st.code).put (LSW_CST_DEF n) 0) := .far (.far h cst) cst
  exact state.same rfl

theorem fenceLoads (mask : Nat) : d.SysStands f (e.fenceLoads mask) := by
  refine h.foldl _ fun e he n => .ite _ he ?_
  have cevt : 0x60010000 ≤ LSW_CEVT n := Nat.le_add_right_of_le (by decide)
  have off : d.SysStands f ((e.put LSW_FENCE_FEN (e.get LSW_FENCE_FEN ||| 2 ^ n)).put (loadOut n) 0) :=
    .far (.far he (by decide)) (by show 0x60010000 ≤ LSW_OUT; decide)
  exact (off.setLoadSt n _).far cevt

theorem fenceMotor (u : Nat) : d.SysStands f (e.fenceMotor u) := by
  have fen : d.SysStands f (e.put MTR_FENCE_FEN (e.get MTR_FENCE_FEN ||| 2 ^ u)) := h.far (by decide)
  unfold Device.fenceMotor
  exact (fen.setMotSt u .fenced).setMot u _

theorem fenceMotors (mask : Nat) : d.SysStands f (e.fenceMotors mask) :=
  h.foldl _ fun _ he u => .ite _ (he.fenceMotor u) he

/-! A change of mode. -/

theorem setLatch : d.SysStands f e.setLatch := .ite _ h ((h.event (g := SYS_EVT_TRIPL) rfl).same rfl)

end Device.SysStands

/-- What follows the write of the mode itself when the device enters mode m. -/
def Device.entered (d : Device) (m : Mode) (busy : Bool) : Device :=
  let d := ((d.putB SYS_MODE_BUSY busy).up SYS_EVT_MODE).down REF_ST_LOOSE
  let d := d.when_ (m == .tripped) Device.setLatch
  let d := d.when_ (!m.calm) Device.lceExit
  d.when_ (!m.live) Device.disarm

theorem Device.enter_other {d : Device} {m : Mode} (other : d.mode ≠ m) : d.enter m =
    (d.put SYS_MODE_MODE m.code).entered m (m != .tripped && (d.sys.holdStage2 || d.thm.trip)) := if_neg other

namespace Device.SysStands

variable {f : Fld} {d e : Device} (h : d.SysStands f e)
include h

theorem entered (m : Mode) (busy : Bool) : d.SysStands f (e.entered m busy) := by
  have written : d.SysStands f (((e.putB SYS_MODE_BUSY busy).up SYS_EVT_MODE).down REF_ST_LOOSE) :=
    .far (.event (.put h h.ofSys.busy _) rfl) (by decide)
  have latched := written.when_ (c := m == .tripped) (g := Device.setLatch) fun h => h.setLatch
  have exited := latched.when_ (c := !m.calm) (g := Device.lceExit) fun h =>
    .ite _ ((h.far (g := ACQ_LCST_QUIET) (v := 0) (by decide)).same rfl) h
  exact exited.when_ (c := !m.live) (g := Device.disarm) fun h =>
    ((h.far (g := REF_ST_ARMED) (v := 0) (by decide)).far (g := REF_CTL_ARM) (v := 0) (by decide)).same rfl

theorem enter (hf : f.apart SYS_MODE_MODE = true) (m : Mode) : d.SysStands f (e.enter m) := by
  by_cases same : e.mode = m
  · rw [Device.enter, if_pos same]
    exact .ite _ h.setLatch h
  · rw [Device.enter_other same]
    exact (h.put hf m.code).entered m _

theorem fencePair (hf : f.apart SYS_MODE_MODE = true) (p : Nat) : d.SysStands f (e.fencePair p) := by
  have pst : 0x60010000 ≤ CPX_PST p := Nat.le_add_right_of_le (by decide)
  have evt : 0x60010000 ≤ (if p = 0 then CPX_EVT_AFEN else CPX_EVT_BFEN).addr := by split <;> decide
  have fenced : d.SysStands f ((e.put (CPX_PST_STATE p) 3).up (if p = 0 then CPX_EVT_AFEN else CPX_EVT_BFEN)) :=
    .far (.far h pst) evt
  exact .when_ (g := fun d => d.enter .tripped) (fenced.same (e' := Device.setCore _ p _) rfl) fun h => h.enter hf _

/-! Muster. -/

theorem unfence (r : MusterResult) : d.SysStands f (e.unfence r) := by
  have lanes : ∀ v, d.SysStands f ((e.put SCR_FENCE_FENCE v).when_
      (!(e.put SCR_FENCE_FENCE v).lanesInService.isEmpty && (e.put SCR_FENCE_FENCE v).on SCR_ST_FENCED)
      fun d => (d.put SCR_ST_FENCED 0).scrState) := fun v =>
    .when_ (h.far (by decide)) fun h => (h.far (g := SCR_ST_FENCED) (v := 0) (by decide)).scrState
  have pfen : ∀ p, 0x60010000 ≤ FLK_PFEN p := fun p => Nat.le_add_right_of_le (by decide)
  have dst : ∀ k, 0x60010000 ≤ CTD_DST k := fun k => Nat.le_add_right_of_le (by decide)
  have mtr : ∀ u, 0x60010000 ≤ MTR_ST u := fun u => Nat.le_add_right_of_le (by decide)
  unfold Device.unfence
  refine .far (.foldl (.far (.foldl (.foldl (.foldl (lanes _) _ fun _ he p => ?_) _ fun _ he k => ?_) _ fun _ he n => ?_)
    (by decide)) _ fun _ he u => ?_) (by decide)
  · exact .ite _ (.far (.far he (pfen p)) (pfen p)) he
  · exact .ite _ (he.far (dst k)) he
  · exact .ite _ (he.setLoadSt n _) he
  · exact .ite _ (he.far (mtr u)) he

theorem fenceFailed (r : MusterResult) : d.SysStands f (e.fenceFailed r) := by
  unfold Device.fenceFailed
  refine fenceMotors (.fenceLoads (.foldl (.foldl (.when_ (h.fenceLanes _) fun h => ?_) _ fun _ he p => ?_)
    _ fun _ he k => he.driverTest k _) _) _
  · exact (h.foldl _ fun _ he n => he.failSensor n).thmEvaluate _
  · exact .ite _ he (he.fencePort p 1)

end Device.SysStands

/-! ### The end of muster's self-tests (R40) -/

/-- What the end of the self-tests notes: SYS_MST, the events, and that the muster was seen. -/
def Device.musterNoted (d : Device) (r : MusterResult) : Device :=
  let e := (d.rset SYS_MST (BitVec.ofNat 32 (d.musterWord r))).up SYS_EVT_MUST
  let e := e.when_ (decide (d.musterWord r ≠ 0x103FF)) fun e => e.up SYS_EVT_MFAIL
  let e := e.setSys fun y => { y with musterRuns := false, mustSeen := true, sramUndef := y.sramUndef && !d.memPassed r }
  if d.sys.sramUndef && d.memPassed r then { e with upsets := e.upsets.filter fun e => regionOf (8 * e.1) == .nvm } else e

/-- What the end of the self-tests fences and frees. -/
def Device.musterFences (d : Device) (r : MusterResult) : Device :=
  let d := (d.unfence r).fenceFailed r
  let d := d.when_ (!r.cpxB && d.get (CPX_PST_STATE 1) != 3) fun d => d.fencePair 1
  d.when_ (!r.cpxA && d.get (CPX_PST_STATE 0) != 3) fun d => d.fencePair 0

theorem Device.musterDone_idle {d : Device} (idle : d.mode ≠ .muster ∨ d.sys.musterRuns = false) (r : MusterResult) :
    d.musterDone r = d := if_pos idle

theorem Device.musterDone_runs {d : Device} (muster : d.mode = .muster) (runs : d.sys.musterRuns = true) (r : MusterResult) :
    d.musterDone r = if !r.cpxA || !d.memPassed r || !r.ref || ((d.musterNoted r).musterFences r).fd.tripLatch then
      ((d.musterNoted r).musterFences r).enter .tripped else (d.musterNoted r).musterFences r :=
  if_neg (by simp [muster, runs])

/-- The whole of SYS_MST. -/
def mstFld : Fld := ⟨SYS_MST, 0, 32⟩

theorem ofSys_mst : mstFld.OfSys :=
  ⟨by decide, fun b => by simp [Fld.apart, mstFld, bankStFld, SYS_MST, SYS_MODE], by decide, by decide⟩

theorem Device.rget_mst {d e : Device} (h : e.get mstFld = d.get mstFld) : e.rget SYS_MST = d.rget SYS_MST := by
  have whole : ∀ w : Word, bitsOf w 0 32 = w.toNat := fun w => by simp [bitsOf]; omega
  exact BitVec.eq_of_toNat_eq (by simpa only [Device.get, mstFld, whole] using h)

theorem Device.musterNoted_notes (d : Device) (r : MusterResult) : (d.musterNoted r).sys.musterRuns = false ∧
    (d.musterNoted r).sys.mustSeen = true ∧ (d.musterNoted r).rget SYS_MST = BitVec.ofNat 32 (d.musterWord r) := by
  have noted : (d.rset SYS_MST (BitVec.ofNat 32 (d.musterWord r))).SysStands mstFld
      (((d.rset SYS_MST (BitVec.ofNat 32 (d.musterWord r))).up SYS_EVT_MUST).when_ (decide (d.musterWord r ≠ 0x103FF))
        fun e => e.up SYS_EVT_MFAIL) := .when_ (.event (.refl ofSys_mst _) rfl) fun h => h.event rfl
  have mst := (Device.rget_mst noted.get).trans (d.rget_rset_same SYS_MST _)
  unfold Device.musterNoted
  dsimp only
  generalize ((d.rset SYS_MST (BitVec.ofNat 32 (d.musterWord r))).up SYS_EVT_MUST).when_ _ _ = e at mst ⊢
  split <;> exact ⟨rfl, rfl, mst⟩

theorem Device.musterFences_stands (d : Device) (r : MusterResult) : d.SysStands mstFld (d.musterFences r) :=
  .when_ (g := fun d => d.fencePair 0) (.when_ (g := fun d => d.fencePair 1)
    (((Device.SysStands.refl ofSys_mst d).unfence r).fenceFailed r) fun h => h.fencePair (by decide) 1)
    fun h => h.fencePair (by decide) 0

/-- A change of mode leads to the mode named. -/
theorem Device.mode_enter (d : Device) (m : Mode) : (d.enter m).mode = m := by
  by_cases same : d.mode = m
  · rw [Device.enter, if_pos same]
    exact (SysStands.ite _ (SysStands.setLatch (.refl ofSys_mode d)) (.refl ofSys_mode d)).mode.trans same
  · have code : (d.put SYS_MODE_MODE m.code).mode = m := by
      rw [Device.mode, Device.get_put_same _ _ (by decide)]
      cases m <;> rfl
    rw [Device.enter_other same]
    exact ((SysStands.refl ofSys_mode _).entered m _).mode.trans code

/-- TRIPPED settles as it is. -/
theorem Device.settle_tripped {d : Device} (h : d.mode = .tripped) : d.settle.mode = .tripped := by
  have gated : d.gated.mode = .tripped := by
    unfold Device.gated
    split
    · exact h
    · rw [(Device.gateBanks_leaves _).1]
      exact (((SysStands.refl ofSys_mode d).when_ fun h => h.setLatch).mode).trans h
  rw [Device.settle_eq, Device.degrade, if_neg (by simp [gated]), gated]

theorem Device.musterDone_keeps {d : Device} (muster : d.mode = .muster) (runs : d.sys.musterRuns = true) (r : MusterResult) :
    (d.musterNoted r).SysStands mstFld (d.musterDone r) := by
  have fenced := (d.musterNoted r).musterFences_stands r
  rw [Device.musterDone_runs muster runs]
  exact .ite _ (fenced.enter (by decide) _) fenced

theorem Device.musterDone_trips {d : Device} (muster : d.mode = .muster) (runs : d.sys.musterRuns = true) {r : MusterResult}
    (fails : r.cpxA = false ∨ d.memPassed r = false ∨ r.ref = false) : (d.musterDone r).mode = .tripped := by
  rw [Device.musterDone_runs muster runs, if_pos (by rcases fails with h | h | h <;> simp [h])]
  exact Device.mode_enter _ _

/-- Settles O5: each event is one case of its operation; the end of muster by what its fences leave of SYS_MST. -/
theorem wakeSleepTripResetMuster : Obligations.WakeSleepTripResetMuster := by
  intro s
  refine ⟨fun run watch up => ⟨?_, ?_, fun en => ?_, fun p drive => ?_⟩, ?_, fun t at_ late => ?_, fun t at_ soon => ?_,
    fun awake run tripped gone fresh open_ => ?_, fun awake run tripped gone open_ soon => ?_, fun key awake run other => ?_,
    fun awake => ?_, fun r awake idle => ?_, fun r awake muster runs => ?_, fun n entering light quiet => ?_,
    fun n awake run watch en fits => ?_, fun awake run watch en nofit => ?_, fun k first asleep gated => ?_⟩
  · show execWakePin s = _
    exact onDev_next (Device.wake_watch run watch up 0)
  · show execRtcAlarm s = _
    exact onDev_next (Device.wake_watch run watch up 3)
  · show execCanWake s = _
    exact onDev_next ((if_pos en).trans (Device.wake_watch run watch up 1))
  · show execToneAbsent p s = _
    exact onDev_next ((if_pos drive).trans (Device.wake_watch run watch up 2))
  · show execTripAckAssert s = _
    exact onDev_next rfl
  · show execTripAckRelease s = _
    exact onDev_next (by simp only [at_, if_pos late])
  · show execTripAckRelease s = _
    exact onDev_next (by simp only [at_, if_neg (Nat.not_le.2 soon)])
  · show execTripClearKey _ s = _
    exact onCtl_awake awake (Device.tripKey_first run tripped gone fresh open_)
  · show execTripClearKey _ s = _
    exact onCtl_awake awake (Device.tripKey_second run tripped gone open_ soon)
  · show execTripClearKey key s = _
    exact onCtl_awake awake (Device.tripKey_refused run other key)
  · show execTripClearWindowExpiry s = _
    exact onCtl_awake awake rfl
  · show execMusterSelftestsDone r s = _
    exact onCtl_awake awake (Device.musterDone_idle idle r)
  · obtain ⟨ends, seen, word⟩ := s.dev.musterNoted_notes r
    have keeps := Device.musterDone_keeps muster runs r
    refine ⟨s.after (s.dev.musterDone r), ?_, ?_, ?_, ?_, fun fails => ?_⟩
    · show execMusterSelftestsDone r s = _
      exact onCtl_awake awake rfl
    · simp only [State.after_fields, Device.settle_leaves, keeps.sys, ends]
    · simp only [State.after_fields, Device.settle_leaves, keeps.sys, seen]
    · rw [(s.after_fields _).2, Device.settle_rget _ (by decide) (by decide) (by decide) (.inl (by decide)),
        Device.rget_mst keeps.get, word]
    · exact Device.settle_tripped (Device.musterDone_trips muster runs fails)
  · show execSleepEntryComplete s = _
    exact onDev_next (Device.sleepEntered_light entering light quiet)
  · show execSleepRequest s = _
    exact onCtl_released awake run (Device.sleepGo_fits watch en fits)
  · show execSleepRequest s = _
    exact onCtl_released awake run (Device.sleepGo_none watch en nofit)
  · show execSleepDeadlineWake s = _
    exact onDev_next (Device.deadlineWake_light first asleep gated)

end Sys2Proof.Machine
end


section
/-! PROOFS. Commands of pair A at a port end: frames, replies, deadlines, LOSS and fencing (R51, R71, R74, R93, R184, R323). -/

namespace Sys2Proof.Machine

/-! ### FLK_PCMD (R71) -/

section

variable {d : Device} {p gen : Nat}

theorem Device.pcmd_reset (old : gen ≠ d.gen uFLK) (idle : (d.pt p).out = none) :
    d.pcmd p gen = (d.prsp p Status.reset.code (d.gen uFLK)).st uFLK .reset := by
  simp [Device.pcmd, old, idle]

theorem Device.pcmd_busy (now : gen = d.gen uFLK) (queued : (d.pt p).queued.isSome = true) : d.pcmd p gen = d.st uFLK .busy := by
  simp [Device.pcmd, now, queued]

theorem Device.pcmd_range (now : gen = d.gen uFLK) (empty : (d.pt p).queued = none) (idle : (d.pt p).out = none)
    (long : 252 < (d.pfrmByte p 3).toNat) : d.pcmd p gen = d.st uFLK .range := by
  simp [Device.pcmd, now, empty, idle, long]

theorem Device.pcmd_queues (now : gen = d.gen uFLK) (empty : (d.pt p).queued = none) (idle : (d.pt p).out = none)
    (short : (d.pfrmByte p 3).toNat ≤ 252) (whole : d.on (FLK_PFEN_FEN p) = false) (leads : d.follower = false)
    (open_ : d.closesHeld p (d.pfrmCmd p gen) = false) : d.pcmd p gen =
      ((d.setPt p fun v => { v with queued := some (d.pfrmCmd p gen), rgen := d.rgen 0 }).put (FLK_PRSP_DONE p) 0).st uFLK .ok := by
  subst now
  simp [Device.pcmd, empty, idle, Nat.not_lt.2 short, whole, leads, open_]

end

/-! ### A command frame starts (R71) -/

theorem Device.frameStart_closed {d : Device} (shut : d.flk.cmdOpen = false) (p : Nat) : d.frameStart p = d :=
  if_pos (by simp [shut])

section

variable {d d' : Device} {p : Nat} {c : FlkCmd} (enabled : d.portEnabled p = true) (idle : (d.pt p).out = none)
  (free : (d.pt p).phase = false) (open_ : d.flk.cmdOpen = true) (next : d.nextFrame p = some (c, d'))
include enabled idle free open_ next

/-- A frame that does not fit before the next epoch time waits. -/
theorem Device.frameStart_waits (long : d.fits p c = false) : d.frameStart p = d := by
  simp [Device.frameStart, enabled, idle, free, open_, next, long]

theorem Device.frameStart_sends (space : c.src = .firmware → (d.pt p).used + 4 + replyMax c.opc.toNat ≤ 6144 ∧ d.closesHeld p c = false)
    (fits : d.fits p c = true) (single : c.addr ≠ 0xFF#8) : d.frameStart p =
      (((d'.noteSent p c).sendAt p c (d.frameAt p)).setPt p fun v => { v with tag := v.tag + 1#8, retried := false }).setPt p
        fun v => { v with out := some c } := by
  have room : ¬ ((decide (6144 < (d.pt p).used + 4 + replyMax c.opc.toNat) && c.src == .firmware || !d.fits p c) = true) := by
    simp only [fits, Bool.not_true, Bool.or_false, Bool.and_eq_true, decide_eq_true_eq, beq_iff_eq, not_and]
    exact fun full own => absurd full (Nat.not_lt.2 (space own).1)
  have held : ¬ ((c.src == .firmware && d.closesHeld p c) = true) := by
    simp only [Bool.and_eq_true, beq_iff_eq, not_and, Bool.not_eq_true]
    exact fun own => (space own).2
  unfold Device.frameStart
  rw [if_neg (by simp [enabled, idle, free, open_])]
  simp only [next]
  rw [if_neg room, if_neg held, if_neg single]

end

/-! ### Replies (R74) -/

/-- Registers below the port ends' own: the generations. -/
def belowPorts (a : Nat) : Bool := decide (a < 0x60080014)

theorem belowPorts_port {a k : Nat} (h : 0x60080014 ≤ a) : belowPorts (a + k) = false := by
  simp only [belowPorts, decide_eq_false_iff_not]
  omega

theorem Device.countCv_stands {d e : Device} (h : d.Stands belowPorts e) (p n : Nat) : d.Stands belowPorts (e.countCv p n) :=
  h.foldl _ fun _ he _ _ => he.count16 (belowPorts_port (by decide) : belowPorts (FLK_PCV p) = false)

theorem Device.RegsOnly.countCv {d e : Device} (h : d.RegsOnly e) (p n : Nat) : d.RegsOnly (e.countCv p n) :=
  h.foldl _ fun e _ => (RegsOnly.refl e).count16 _

/-- A frame at port end p shows the link up and counts its code violations: registers only, and no generation. -/
def Device.heard (d : Device) (p : Nat) (f : Frame) : Device :=
  (d.linkUp p).countCv p (f.violations + if d.contends p then 0 else f.stray)

theorem Device.heard_stands (d : Device) (p : Nat) (f : Frame) : d.Stands belowPorts (d.heard p f) :=
  Device.countCv_stands ((Device.Stands.refl d).put (belowPorts_port (by decide) : belowPorts (FLK_PSTAT p) = false)) p _

theorem Device.heard_regsOnly (d : Device) (p : Nat) (f : Frame) : d.RegsOnly (d.heard p f) :=
  ((Device.RegsOnly.refl d).put (FLK_PSTAT_LINK p) 1).countCv p _

/-- What hearing a frame leaves: the port ends, the clock, and the generations. -/
theorem Device.heard_leaves (d : Device) (p : Nat) (f : Frame) : (d.heard p f).flk = d.flk ∧ (d.heard p f).now = d.now ∧
    (d.heard p f).gen uFLK = d.gen uFLK ∧ (d.heard p f).rgen 0 = d.rgen 0 := by
  obtain ⟨r, only⟩ := d.heard_regsOnly p f
  have stands := d.heard_stands p f
  exact ⟨by rw [only], by rw [only], stands.get rfl, stands.get rfl⟩

theorem Device.pt_congr {d e : Device} (h : e.flk = d.flk) (p : Nat) : e.pt p = d.pt p := by rw [Device.pt, Device.pt, h]

section

variable {d : Device} {p : Nat} {f : Frame}

theorem Device.replyFrame_spoilt (bad : f.codeViolation = true) (q : Nat) : d.replyFrame p f q = (d.heard p f, none) := if_pos bad

theorem Device.replyFrame_crc (good : f.codeViolation = false)
    (bad : f.eof = false ∨ f.len.toNat ≠ f.payload.length ∨ frameCrcOk f = false) (q : Nat) :
    d.replyFrame p f q = ((d.heard p f).count16 (FLK_PCRC p), none) := by
  have bad' : (!f.eof || f.len.toNat != f.payload.length || !frameCrcOk f) = true := by
    rcases bad with h | h | h <;> simp [h]
  exact (if_neg (by simp [good])).trans (if_pos bad')

/-- The port end has its reply: the line is free once the far end has taken its link back. -/
def Device.replied (d : Device) (p : Nat) (f : Frame) (q : Nat) (now : Nat) : Device :=
  d.setPt p fun v => { v with
    out := none, retried := false
    lineAt := max now (v.txUntil - 500 + q / 4 + frameNs f.payload.length + 2000) }

/-- A reply that answers command c. -/
def Device.takeReply (d : Device) (p : Nat) (c : FlkCmd) (f : Frame) (q : Nat) : Device × Option AcqReply :=
  let u := d.replied p f q d.now
  if c.gen ≠ u.gen uFLK then (if c.src = .firmware then u.prsp p Status.reset.code (u.gen uFLK) else u, none)
  else match c.src with
    | .firmware =>
      (if u.rgen 0 = (u.pt p).rgen then (u.storeReply p f).prsp p ((f.payload[0]?).getD 0#8).toNat c.gen
        else u.prsp p Status.reset.code c.gen, none)
    | .acq => (u, some ⟨u.nodeIndex (u.aEnd p) c.addr.toNat, c.opc.toNat, some f.payload⟩)
    | .flk => (u.ownReply p c f q, none)

/-- A whole reply to the command on the line. -/
theorem Device.replyFrame_answers {c : FlkCmd} (good : f.codeViolation = false) (eof : f.eof = true)
    (len : f.len.toNat = f.payload.length) (crc : frameCrcOk f = true) (other : f.opc ≠ 0x01#8 ∨ f.addr ≠ 0#8)
    (out : (d.pt p).out = some c) (answers : d.answers p c f = true) (q : Nat) :
    d.replyFrame p f q = (d.heard p f).takeReply p c f q := by
  have port := Device.pt_congr (d.heard_leaves p f).1 p
  have answers' : (d.heard p f).answers p c f = true := by
    rw [Device.answers, port]
    exact answers
  have heard : (d.linkUp p).countCv p (f.violations + if d.contends p then 0 else f.stray) = d.heard p f := rfl
  have whole : (!f.eof || f.len.toNat != f.payload.length || !frameCrcOk f) = false := by simp [eof, len, crc]
  have other' : ¬ (f.opc = 0x01#8 ∧ f.addr = 0#8) := by rwa [not_and_or]
  simp only [Device.replyFrame, heard, good, whole, other', port, out, answers', Bool.not_true, Bool.false_eq_true, if_false] <;> rfl

section

variable {c : FlkCmd} {q : Nat}

theorem Device.takeReply_firmware (own : c.src = .firmware) (now : c.gen = d.gen uFLK) (fresh : d.rgen 0 = (d.pt p).rgen) :
    d.takeReply p c f q =
      (((d.replied p f q d.now).storeReply p f).prsp p ((f.payload[0]?).getD 0#8).toNat c.gen, none) := by
  have fresh' : (d.replied p f q d.now).rgen 0 = ((d.replied p f q d.now).pt p).rgen := by
    rw [Device.replied, Device.pt_setPt]
    exact fresh
  refine (if_neg (not_not.2 now)).trans ?_
  simp only [own, fresh', if_true]

theorem Device.takeReply_flk (own : c.src = .flk) (now : c.gen = d.gen uFLK) :
    d.takeReply p c f q = ((d.replied p f q d.now).ownReply p c f q, none) := by
  refine (if_neg (not_not.2 now)).trans ?_
  simp only [own]

theorem Device.takeReply_acq (own : c.src = .acq) (now : c.gen = d.gen uFLK) :
    d.takeReply p c f q = (d.replied p f q d.now, some ⟨(d.replied p f q d.now).nodeIndex
      ((d.replied p f q d.now).aEnd p) c.addr.toNat, c.opc.toNat, some f.payload⟩) := by
  refine (if_neg (not_not.2 now)).trans ?_
  simp only [own]

theorem Device.heard_current (now : c.gen = d.gen uFLK) : c.gen = (d.heard p f).gen uFLK := now.trans (d.heard_leaves p f).2.2.1.symm

/-- The clock is the same before and after the frame was heard. -/
theorem Device.heard_replied : (d.heard p f).replied p f q (d.heard p f).now = (d.heard p f).replied p f q d.now := by
  rw [(d.heard_leaves p f).2.1]

theorem Device.heard_fresh (fresh : d.rgen 0 = (d.pt p).rgen) : (d.heard p f).rgen 0 = ((d.heard p f).pt p).rgen := by
  obtain ⟨flk, -, -, rgen⟩ := d.heard_leaves p f
  rw [rgen, Device.pt_congr flk p, fresh]

end

/-! ### Retries (R74) -/

variable {c : FlkCmd}

theorem Device.retryDeadline_retries (out : (d.pt p).out = some c) (now : c.gen = d.gen uFLK) (first : (d.pt p).retried = false) :
    d.retryDeadline p =
      ((d.sendAt p c (max d.now (d.pt p).lineAt)).setPt p fun v => { v with retried := true }, none) := by
  simp [Device.retryDeadline, out, now, first]

theorem Device.retryDeadline_timeout (out : (d.pt p).out = some c) (now : c.gen = d.gen uFLK) (fresh : (d.pt p).rgen = d.rgen 0)
    (second : (d.pt p).retried = true) (own : c.src = .firmware) : d.retryDeadline p =
      ((d.setPt p fun v => { v with out := none, retried := false, cut := false }).prsp p Status.timeout.code c.gen, none) := by
  have answer : (d.setPt p fun v => { v with out := none, retried := false, cut := false }).answer uFLK c.gen 0
      ((d.setPt p fun v => { v with out := none, retried := false, cut := false }).pt p).rgen .timeout = .timeout :=
    if_pos ⟨now.symm, by rw [Device.pt_setPt]; exact fresh.symm⟩
  have flk : ¬ (c.opc = 0x01#8 ∧ c.src = .flk) := by simp [own]
  simp only [Device.retryDeadline, out]
  rw [if_neg (not_not.2 now), if_neg (by simp [second]), if_neg flk]
  simp only [own, answer]

theorem Device.retryDeadline_reset (out : (d.pt p).out = some c) (old : c.gen ≠ d.gen uFLK) (own : c.src = .firmware) :
    d.retryDeadline p = ((d.setPt p fun v => { v with out := none, retried := false, cut := false }).prsp p Status.reset.code
      (d.gen uFLK), none) := by
  simp only [Device.retryDeadline, out]
  refine (if_pos old).trans ?_
  simp only [own, if_true]
  rfl

/-! ### LOSS and fencing (R184, R323) -/

/-- LOSS at an end that carries no string's HEAD. -/
theorem Device.linkLoss_alone (up : d.on (FLK_PSTAT_LINK p) = true) (alone : d.headStrings p = []) :
    d.linkLoss p = (d.put (FLK_PSTAT_LINK p) 0).up (FLK_PEVT_LOSS p) := by
  rw [Device.linkLoss, if_pos up, Device.loseLink, alone]
  rfl

theorem Device.fencePort_fences (whole : d.on (FLK_PFEN_FEN p) = false) (cause : Nat) : d.fencePort p cause =
    (((d.put (FLK_PFEN_FEN p) 1).put (FLK_PFEN_CAUSE p) cause).loseLink p).put (FLK_PCTL_ROLE p) 0 :=
  if_neg (by simp [whole])

end

/-! ### What the instructions answer -/

section

variable {s : State} (awake : s.dev.awake = true)
include awake

/-- A command at a port end that exists, while the application domain runs. -/
theorem onCtl_port (run : s.dev.sys.appHeld = false) {p : Nat} (exists_ : p < s.dev.portCount) {f : Device → Device} {e : Device}
    (h : f s.dev = e) : onCtl s (fun d => if d.sys.appHeld || decide (d.portCount ≤ p) then d else f d) = .next (s.after e) :=
  onCtl_awake awake ((if_neg (by simp [run, exists_])).trans h)

/-- A reply that concerns FLK alone. -/
theorem exec_replyFrame {p : Fin 128} {f : Frame} {q : Nat} {e : Device} (h : s.dev.replyFrame p f q = (e, none)) :
    exec (.replyFrame p f q) s = .next (s.after e) := by
  show execReplyFrame p f q s = _
  exact onCtl_awake awake (by simp only [h])

/-- A reply that acquisition is told of. -/
theorem exec_replyFrame_acq {p : Fin 128} {f : Frame} {q : Nat} {e : Device} {a : AcqReply} (h : s.dev.replyFrame p f q = (e, some a)) :
    exec (.replyFrame p f q) s = .next (s.after (e.acqReply a)) := by
  show execReplyFrame p f q s = _
  exact onCtl_awake awake (by simp only [h])

theorem exec_retryDeadline {p : Fin 128} {e : Device} (h : s.dev.retryDeadline p = (e, none)) :
    exec (.retryDeadline p) s = .next (s.after e) := by
  show execRetryDeadline p s = _
  exact onCtl_awake awake (by simp only [h])

theorem exec_commandFrameStart {p : Fin 128} {e : Device} (h : s.dev.frameStart p = e) :
    exec (.commandFrameStart p) s = .next (s.after e) := by
  show execCommandFrameStart p s = _
  exact onCtl_awake awake h

theorem exec_commandQueue {p : Fin 128} {g : Byte} (run : s.dev.sys.appHeld = false) (exists_ : p.val < s.dev.portCount) {e : Device}
    (h : s.dev.pcmd p g.toNat = e) : exec (.commandQueue p g) s = .next (s.after e) := by
  show execCommandQueue p g s = _
  exact onCtl_port awake run exists_ h

end

/-- Settles O10: each clause is one case of its operation; hearing a frame writes only registers of the port end. -/
theorem portCommands : Obligations.PortCommands := by
  intro s p awake
  refine ⟨fun run exists_ g => ⟨?_, ?_, ?_, ?_⟩, fun shut => ?_, fun c d' enabled idle free open_ next space => ⟨?_, fun long => ?_⟩,
    fun f q => ⟨?_, ?_, fun c good eof len crc other out answers now => ⟨?_, ?_, ?_⟩⟩, ?_, ?_, ?_, fun up alone => ?_,
    fun run exists_ => ?_, fun run exists_ whole => ?_, fun a enabled => ?_⟩
  · exact fun old idle => exec_commandQueue awake run exists_ (Device.pcmd_reset old idle)
  · exact fun now queued => exec_commandQueue awake run exists_ (Device.pcmd_busy now queued)
  · exact fun now empty idle long => exec_commandQueue awake run exists_ (Device.pcmd_range now empty idle long)
  · exact fun now empty idle short whole leads open_ =>
      exec_commandQueue awake run exists_ (Device.pcmd_queues now empty idle short whole leads open_)
  · exact exec_commandFrameStart awake (Device.frameStart_closed shut p)
  · exact fun fits single =>
      exec_commandFrameStart awake (Device.frameStart_sends enabled idle free open_ next space fits single)
  · exact exec_commandFrameStart awake (Device.frameStart_waits enabled idle free open_ next long)
  · exact fun bad => exec_replyFrame awake (Device.replyFrame_spoilt bad q)
  · exact fun good bad => exec_replyFrame awake (Device.replyFrame_crc good bad q)
  · exact fun own fresh => exec_replyFrame awake ((Device.replyFrame_answers good eof len crc other out answers q).trans
      ((Device.takeReply_firmware own (Device.heard_current now) (Device.heard_fresh fresh)).trans (by rw [Device.heard_replied]; rfl)))
  · exact fun own => exec_replyFrame awake ((Device.replyFrame_answers good eof len crc other out answers q).trans
      ((Device.takeReply_flk own (Device.heard_current now)).trans (by rw [Device.heard_replied]; rfl)))
  · exact fun own => exec_replyFrame_acq awake ((Device.replyFrame_answers good eof len crc other out answers q).trans
      ((Device.takeReply_acq own (Device.heard_current now)).trans (by rw [Device.heard_replied]; rfl)))
  · exact fun c out now first => exec_retryDeadline awake (Device.retryDeadline_retries out now first)
  · exact fun c out now fresh second own => exec_retryDeadline awake (Device.retryDeadline_timeout out now fresh second own)
  · exact fun c out old own => exec_retryDeadline awake (Device.retryDeadline_reset out old own)
  · show execLinkLoss p s = _
    exact onCtl_awake awake (Device.linkLoss_alone up alone)
  · show execReplySpaceRelease p s = _
    exact onCtl_port awake run exists_ rfl
  · show execPortFence p s = _
    exact onCtl_port awake run exists_ (congrArg (fun d => Device.st d uFLK .ok) (Device.fencePort_fences whole 0))
  · show execAlarmReceived p a s = _
    exact onCtl_awake awake (if_pos enabled)

end Sys2Proof.Machine
end


section
/-! PROOFS. Operations of FLK_OPS, TRACE, the period and the node timers (R51, R81, R85, R92, R94, R109, R462, R466, R467). -/

namespace Sys2Proof.Machine

/-! ### The operation stands while its port ends are set up (R467, R85) -/

/-- From `d` to `e` FLK's operation, its flocks and its generation stand. -/
structure Device.OpStands (d e : Device) : Prop where
  op : e.flk.op = d.flk.op
  ends : e.flk.opEnds = d.flk.opEnds
  gen : e.flk.opGen = d.flk.opGen

namespace Device.OpStands

variable {d e : Device}

theorem refl (d : Device) : d.OpStands d := ⟨rfl, rfl, rfl⟩

/-- An update beside the operation. -/
theorem same (h : d.OpStands e) {f : Device} (k : (f.flk.op, f.flk.opEnds, f.flk.opGen) = (e.flk.op, e.flk.opEnds, e.flk.opGen)) :
    d.OpStands f := by
  simp only [Prod.mk.injEq] at k
  obtain ⟨op, ends, gen⟩ := k
  exact ⟨op.trans h.op, ends.trans h.ends, gen.trans h.gen⟩

theorem setPt (h : d.OpStands e) (p : Nat) (f : PortState → PortState) : d.OpStands (e.setPt p f) := h.same rfl

theorem ite (c : Prop) [Decidable c] {f : Device} (h : d.OpStands e) (k : d.OpStands f) : d.OpStands (if c then e else f) := by
  split
  · exact h
  · exact k

theorem foldl {α : Type} (h : d.OpStands e) (l : List α) {f : Device → α → Device}
    (hf : ∀ e, d.OpStands e → ∀ x, d.OpStands (f e x)) : d.OpStands (l.foldl f e) :=
  List.foldlRecOn (motive := d.OpStands) l f h fun e he x _ => hf e he x

theorem releaseNodes (h : d.OpStands e) (p : Nat) : d.OpStands (e.releaseNodes p) := by
  have woken : d.OpStands (e.wakeFlock p) := .ite _ (h.setPt p _) h
  have sent : ∀ m, d.OpStands ((e.wakeFlock p).prlSend m) := fun m => .ite _ (woken.same rfl) woken
  exact .ite _ h (.ite _ (.ite _ (sent _) woken) (woken.setPt p _))

theorem startCalibration (h : d.OpStands e) (a : Nat) : d.OpStands (e.startCalibration a) := by
  have pings := h.foldl (e.flockEnds a) (f := fun d p => if d.portEnabled p then
      d.setPt p fun v => { v with pings := [], calib := (d.reachable p).map fun q => (q, 16) } else d)
    fun e he p => .ite _ (he.setPt p _) he
  exact .ite _ (pings.setPt (a + 1) _) pings

end Device.OpStands

/-! ### FLK_OPS (R51, R467) -/

section

variable {d : Device} {op : FlkOp} {ring gen : Nat} {all : Bool}

/-- The operation looks for nodes; a calibration does not. -/
def FlkOp.enumerates : FlkOp → Bool
  | .enumerate _ => true
  | .calibrate => false

theorem Device.flkOps_reset (old : gen ≠ d.gen uFLK) :
    d.flkOps op ring all gen = (d.put FLK_OPST_ST Status.reset.code).st uFLK .reset := if_pos old

theorem Device.flkOps_busy (now : gen = d.gen uFLK) (busy : d.on FLK_OPST_BUSY = true) :
    d.flkOps op ring all gen = d.st uFLK .busy := (if_neg (not_not.2 now)).trans (if_pos busy)

/-- No enumeration while the referee is armed. -/
theorem Device.flkOps_armed (now : gen = d.gen uFLK) (idle : d.on FLK_OPST_BUSY = false) (armed : d.on REF_ST_ARMED = true) (b : Bool) :
    d.flkOps (.enumerate b) ring all gen = (d.put FLK_OPST_ST Status.reject.code).st uFLK .reject :=
  (if_neg (not_not.2 now)).trans ((if_neg (by simp [idle])).trans (if_pos (by simp [armed])))

/-- An operation that is accepted is in progress, with the flocks and the generation named. -/
theorem Device.flkOps_starts (now : gen = d.gen uFLK) (idle : d.on FLK_OPST_BUSY = false)
    (free : op.enumerates = true → d.on REF_ST_ARMED = false ∧ d.follower = false) :
    ∃ e : Device, d.flkOps op ring all gen = ((e.put FLK_OPST_BUSY 1).put FLK_OPST_ST 0).st uFLK .ok ∧
      e.flk.op = some op ∧ e.flk.opGen = gen ∧ e.flk.opEnds = d.opFlocks ring all := by
  have begun : ∀ e : Device, Device.OpStands { d with flk := { d.flk with
      op := some op, opEnds := d.opFlocks ring all, opGen := gen, opRgen := d.rgen 0, src := d.flk.src &&& 0xC#4 } } e →
      e.flk.op = some op ∧ e.flk.opGen = gen ∧ e.flk.opEnds = d.opFlocks ring all := fun e h => ⟨h.op, h.gen, h.ends⟩
  unfold Device.flkOps
  rw [if_neg (not_not.2 now), if_neg (by simp [idle])]
  cases op with
  | calibrate =>
    refine ⟨_, if_neg (by simp), begun _ ?_⟩
    exact (Device.OpStands.refl _).foldl _ fun e he a => he.startCalibration a
  | enumerate b =>
    obtain ⟨disarmed, leads⟩ := free rfl
    refine ⟨_, if_neg (by simp [disarmed, leads]), begun _ ?_⟩
    refine (Device.OpStands.refl _).foldl _ fun e he a => .releaseNodes (he.foldl _ fun e he p => he.setPt p _) _

/-- The end of a calibration whose generation and requester are the present ones. -/
theorem Device.calibrationDone_ok (now : d.flk.opGen = d.gen uFLK) (own : d.flk.opRgen = d.rgen 0) :
    d.calibrationDone.flk.op = none ∧ d.calibrationDone.get FLK_OPST_BUSY = 0 ∧ d.calibrationDone.get FLK_OPST_ST = 0 := by
  have answer : d.answer uFLK d.flk.opGen 0 d.flk.opRgen .ok = .ok := if_pos ⟨now.symm, own.symm⟩
  have busy : ((d.put FLK_OPST_BUSY 0).put FLK_OPST_ST 0).get FLK_OPST_BUSY = 0 := by
    rw [Device.get_put_bits _ _ (by decide), Device.get_put_same _ _ (by decide)]
    rfl
  have status : ((d.put FLK_OPST_BUSY 0).put FLK_OPST_ST 0).get FLK_OPST_ST = 0 := by
    rw [Device.get_put_same _ _ (by decide)]
    rfl
  rw [Device.calibrationDone, Device.opDone, answer]
  exact ⟨rfl, busy, status⟩

end

/-! ### TRACE (R92, R466) -/

/-- What a TRACE leaves at the far end of its ring. -/
def Device.traced (d : Device) (a q : Nat) : Device :=
  d.setPt (a + 1) fun v =>
    { v with traceOut := false, traceRun := min 16 (v.traceRun + 1), measure := v.measure - 1
             traces := ((if d.isDrive a || d.isDrive (a + 1) then q else q + d.get PRL_LDLY_DLY) :: v.traces).take 16 }

theorem Device.traceIn_more {d : Device} {a : Nat} (whole : d.on (FLK_PSTAT_FOLD a) = false) (more : 1 < (d.pt (a + 1)).measure)
    (q : Nat) : d.traceIn a q = d.traced a q := by
  have fold : ¬ ((d.traced a q).on (FLK_PSTAT_FOLD a) = true) := Bool.eq_false_iff.1 whole
  exact (if_neg fold).trans (if_neg fun last => absurd last.1 (Nat.not_le.2 more))

/-- The sixteenth TRACE of a measurement gives D_ring. -/
theorem Device.traceIn_last {d : Device} {a : Nat} (whole : d.on (FLK_PSTAT_FOLD a) = false) (last : (d.pt (a + 1)).measure ≤ 1)
    (full : 15 ≤ (d.pt (a + 1)).traces.length) (q : Nat) : d.traceIn a q = (d.traced a q).takeRing a := by
  have fold : ¬ ((d.traced a q).on (FLK_PSTAT_FOLD a) = true) := Bool.eq_false_iff.1 whole
  have sixteen : ((d.traced a q).pt (a + 1)).traces.length = 16 := by
    rw [Device.traced, Device.pt_setPt]
    simp [full]
  exact (if_neg fold).trans (if_pos ⟨last, sixteen⟩)

/-! ### The period and the node timers (R81, R94, R109, R462) -/

theorem Device.periodWrite_range {d : Device} {per : Nat} (leads : d.follower = false) (far : per < 2 ∨ 100 < per) :
    d.periodWrite per = d.st uFLK .range := (if_neg (by simp [leads])).trans (if_pos far)

/-- The period that pair A asks for. -/
def Device.wantPeriod (d : Device) (per : Nat) : Device :=
  let e : Device := { d.put FLK_EPER_PER per with flk := { d.flk with src := d.flk.src &&& 0x3#4 } }
  if e.flk.lce then e else { e with flk := { e.flk with perWanted := some per } }

theorem Device.periodWrite_takes {d : Device} {per : Nat} (leads : d.follower = false) (lo : 2 ≤ per) (hi : per ≤ 100)
    (admitted : d.allAdmit per = true)
    (timers : timersOk (d.get FLK_NTIM_TSTR) (d.get FLK_NTIM_TBAL) per (d.on ACQ_LCE_EN) = true) :
    d.periodWrite per = (d.wantPeriod per).st uFLK .ok := by
  have near : ¬ (per < 2 ∨ 100 < per) := by omega
  unfold Device.periodWrite
  rw [if_neg (by simp [leads]), if_neg near, if_neg (by simp [admitted]), if_neg (by simp [timers])]
  rfl

theorem Device.wantPeriod_wants (d : Device) {per : Nat} (hi : per ≤ 100) : (d.wantPeriod per).get FLK_EPER_PER = per ∧
    (d.flk.lce = false → (d.wantPeriod per).flk.perWanted = some per) := by
  have set : (d.put FLK_EPER_PER per).get FLK_EPER_PER = per := by
    rw [Device.get_put_same _ _ (by decide)]
    exact Nat.mod_eq_of_lt (by show per < 128; omega)
  unfold Device.wantPeriod
  dsimp only
  split
  · next asks => exact ⟨set, fun off => absurd (show d.flk.lce = true from asks) (by simp [off])⟩
  · exact ⟨set, fun _ => rfl⟩

theorem Device.ntimWrite_range {d : Device} {ts tb : Nat} (far : ts < 10 ∨ 500 < ts ∨ tb < 5 ∨ 100 < tb) :
    d.ntimWrite ts tb = d.st uFLK .range := if_pos far

/-- The broadcast that tells the nodes of their timers. -/
def Device.tellTimers (d : Device) (ts tb : Nat) : Device :=
  let e := (d.put FLK_NTIM_TSTR ts).put FLK_NTIM_TBAL tb
  e.broadcast 0x07 (leBytes ts 2 ++ leBytes tb 1 ++ leBytes (e.get FLK_TONE_PER) 1)

theorem Device.ntimWrite_takes {d : Device} {ts tb : Nat} (near : ¬ (ts < 10 ∨ 500 < ts ∨ tb < 5 ∨ 100 < tb))
    (unlocked : d.on FLK_LOCK_LOCK = false) (timers : timersOk ts tb (d.get FLK_EPER_PER) (d.on ACQ_LCE_EN) = true) :
    d.ntimWrite ts tb = (d.tellTimers ts tb).st uFLK .ok := by
  unfold Device.ntimWrite
  rw [if_neg near, if_neg (by simp [unlocked]), if_neg (by simp [timers])]
  rfl

theorem Device.Stands.broadcast {R : Nat → Bool} {d e : Device} (h : d.Stands R e) (opc : Nat) (payload : List Byte) :
    d.Stands R (e.broadcast opc payload) := h.foldl _ fun _ he p _ => .ite _ (he.enqueue p _) he

theorem Device.tellTimers_sets (d : Device) {ts tb : Nat} (hts : ts < 512) (htb : tb < 128) :
    (d.tellTimers ts tb).get FLK_NTIM_TSTR = ts ∧ (d.tellTimers ts tb).get FLK_NTIM_TBAL = tb := by
  have told : Device.Stands (fun _ => true) ((d.put FLK_NTIM_TSTR ts).put FLK_NTIM_TBAL tb) (d.tellTimers ts tb) :=
    (Device.Stands.refl _).broadcast _ _
  constructor
  · rw [told.get rfl, Device.get_put_bits _ _ (by decide), Device.get_put_same _ _ (by decide)]
    exact Nat.mod_eq_of_lt hts
  · rw [told.get rfl, Device.get_put_same _ _ (by decide)]
    exact Nat.mod_eq_of_lt htb

/-! ### What the instructions answer -/

/-- A register field of FLK after what settles and FLK's status. -/
theorem Device.settle_st_flk (d : Device) (st : Status) {f : Fld} (lo : 0x60080005 ≤ f.addr) (hi : f.addr < 0x60140000) :
    (d.st uFLK st).settle.get f = d.get f := by
  rw [Device.settle_get_apart _ (.inl ⟨by omega, hi⟩)]
  exact Device.get_put_addr _ _ (by show f.addr ≠ 0x60080004; omega)

theorem Device.settle_st_flkState (d : Device) (st : Status) : (d.st uFLK st).settle.flk = d.flk := by
  simp only [Device.settle_leaves]
  rfl

/-- After an operation that started: FLK holds it, and BUSY reads 1. -/
theorem exec_flkOps_starts {s : State} {c : Instr} {op : FlkOp} {k g : Nat} {all : Bool}
    (run : exec c s = .next (s.after (s.dev.flkOps op k all g))) (now : g = s.dev.gen uFLK) (idle : s.dev.on FLK_OPST_BUSY = false)
    (free : op.enumerates = true → s.dev.on REF_ST_ARMED = false ∧ s.dev.follower = false) :
    ∃ t, exec c s = .next t ∧ t.dev.flk.op = some op ∧ t.dev.flk.opGen = g ∧ t.dev.flk.opEnds = s.dev.opFlocks k all ∧
      t.dev.get FLK_OPST_BUSY = 1 := by
  obtain ⟨e, starts, op', gen', ends'⟩ := Device.flkOps_starts (ring := k) (all := all) now idle free
  refine ⟨_, run, ?_⟩
  rw [(s.after_fields _).2, starts, Device.settle_st_flkState, Device.settle_st_flk _ _ (by decide) (by decide),
    Device.get_put_bits _ _ (by decide), Device.get_put_same _ _ (by decide)]
  exact ⟨op', gen', ends', rfl⟩

section

variable {s : State} (awake : s.dev.awake = true) (run : s.dev.sys.appHeld = false) {k : Fin 64} {all : Bool} {g : Byte}
include awake run

theorem exec_enumerate : exec (.enumerate k all g) s = .next (s.after (s.dev.flkOps (.enumerate false) k all g.toNat)) := by
  show execEnumerate k all g s = _
  exact onCtl_released awake run rfl

theorem exec_calibrate : exec (.calibrate k all g) s = .next (s.after (s.dev.flkOps .calibrate k all g.toNat)) := by
  show execCalibrate k all g s = _
  exact onCtl_released awake run rfl

theorem exec_enumerateAndCalibrate :
    exec (.enumerateAndCalibrate k all g) s = .next (s.after (s.dev.flkOps (.enumerate true) k all g.toNat)) := by
  show execEnumerateAndCalibrate k all g s = _
  exact onCtl_released awake run rfl

theorem exec_periodWrite {per : BitVec 7} {e : Device} (h : s.dev.periodWrite per.toNat = e) :
    exec (.periodWrite per) s = .next (s.after e) := by
  show execPeriodWrite per s = _
  exact onCtl_released awake run h

theorem exec_nodeTimerWrite {ts : BitVec 9} {tb : BitVec 7} {e : Device} (h : s.dev.ntimWrite ts.toNat tb.toNat = e) :
    exec (.nodeTimerWrite ts tb) s = .next (s.after e) := by
  show execNodeTimerWrite ts tb s = _
  exact onCtl_released awake run h

end

/-- A TRACE on a ring that waits for one. -/
theorem exec_traceArrival {s : State} (awake : s.dev.awake = true) {k : Fin 64} {q : Nat} {e : Device} (ring : s.dev.isRing (2 * k.val) = true)
    (out : (s.dev.pt (2 * k.val + 1)).traceOut = true) (h : s.dev.traceIn (2 * k.val) q = e) :
    exec (.traceArrival k q) s = .next (s.after e) := by
  show execTraceArrival k q s = _
  exact onCtl_awake awake ((if_pos (by simp [ring, out])).trans h)

/-- Settles O11: each command is one case of its operation; what it starts stands through the setting up of the port ends. -/
theorem flockOperations : Obligations.FlockOperations := by
  intro s awake
  refine ⟨fun run k all g => ⟨fun old => ⟨?_, ?_, ?_⟩, fun now busy => ?_, fun now idle armed => ⟨?_, ?_⟩, fun now idle =>
      ⟨?_, fun disarmed leads => ⟨?_, ?_⟩⟩⟩, fun op more => ?_, fun op done now own => ?_, fun b op => ?_, fun k q ring out whole => ⟨?_, ?_⟩,
    fun run per => ⟨fun far leads => ?_, fun lo hi leads admitted timers => ?_⟩, fun run ts tb => ⟨fun far => ?_,
      fun ts1 ts2 tb1 tb2 unlocked timers => ?_⟩⟩
  · rw [exec_enumerate awake run, Device.flkOps_reset old]
  · rw [exec_calibrate awake run, Device.flkOps_reset old]
  · rw [exec_enumerateAndCalibrate awake run, Device.flkOps_reset old]
  · rw [exec_enumerate awake run, Device.flkOps_busy now busy]
  · rw [exec_enumerate awake run, Device.flkOps_armed now idle armed]
  · rw [exec_enumerateAndCalibrate awake run, Device.flkOps_armed now idle armed]
  · exact exec_flkOps_starts (exec_calibrate awake run) now idle fun enum => absurd enum (by decide)
  · exact exec_flkOps_starts (exec_enumerate awake run) now idle fun _ => ⟨disarmed, leads⟩
  · exact exec_flkOps_starts (exec_enumerateAndCalibrate awake run) now idle fun _ => ⟨disarmed, leads⟩
  · show execCalibrationDone s = _
    exact onCtl_awake awake (if_neg (by simp [more]))
  · obtain ⟨none_, busy, ok⟩ := Device.calibrationDone_ok now own
    refine ⟨s.after s.dev.calibrationDone, ?_, ?_, ?_, ?_⟩
    · show execCalibrationDone s = _
      exact onCtl_awake awake (if_pos ⟨op, done⟩)
    · simp only [State.after_fields, Device.settle_leaves, none_]
    · rw [(s.after_fields _).2, Device.settle_get_apart _ (by decide), busy]
    · rw [(s.after_fields _).2, Device.settle_get_apart _ (by decide), ok]
  · show execEnumerationDone s = _
    exact onCtl_awake awake (by simp only [op])
  · exact fun more => exec_traceArrival awake ring out (Device.traceIn_more whole more q)
  · exact fun last full => exec_traceArrival awake ring out (Device.traceIn_last whole last full q)
  · exact exec_periodWrite awake run (Device.periodWrite_range leads far)
  · obtain ⟨set, wants⟩ := s.dev.wantPeriod_wants hi
    refine ⟨_, exec_periodWrite awake run (Device.periodWrite_takes leads lo hi admitted timers), ?_, fun off => ?_⟩
    · rw [(s.after_fields _).2, Device.settle_st_flk _ _ (by decide) (by decide), set]
    · rw [(s.after_fields _).2, Device.settle_st_flkState, wants off]
  · exact exec_nodeTimerWrite awake run (Device.ntimWrite_range far)
  · obtain ⟨tstr, tbal⟩ := s.dev.tellTimers_sets ts.isLt tb.isLt
    refine ⟨_, exec_nodeTimerWrite awake run (Device.ntimWrite_takes (by omega) unlocked timers), ?_, ?_⟩
    · rw [(s.after_fields _).2, Device.settle_st_flk _ _ (by decide) (by decide), tstr]
    · rw [(s.after_fields _).2, Device.settle_st_flk _ _ (by decide) (by decide), tbal]

end Sys2Proof.Machine
end


section
/-! PROOFS. Shadows, markers, the standby slot, join, hand-over and checkpoints (R266, R411 to R413, R417 to R419, R422, R424,
R425). -/

namespace Sys2Proof.Machine

/-! ### Join and hand-over (R419, R422) -/

section

variable {d : Device} {gen : Nat}

theorem Device.join_reset (old : gen ≠ d.gen uPRL) : d.join gen = d.st uPRL .reset := if_pos old

theorem Device.join_loaded (now : gen = d.gen uPRL) (loaded : d.prl.join = some .load) : d.join gen =
    ((d.joinListen.setPrl fun p => { p with join := some .calibrate, joinGen := gen, rgen := d.rgen 0 }).joinFinish).st uPRL .ok := by
  simp only [Device.join, now, loaded, ne_eq, not_true_eq_false, if_false]

theorem Device.join_busy (now : gen = d.gen uPRL) (joins : d.prl.join = some .sync) : d.join gen = d.st uPRL .busy := by
  simp only [Device.join, now, joins, ne_eq, not_true_eq_false, if_false]

/-- A device that is in no pair cannot join. -/
theorem Device.join_alone (now : gen = d.gen uPRL) (none_ : d.prl.join = none) (idle : d.on PRL_CKST_BUSY = false)
    (alone : d.on PRL_CTL_EN = false) : d.join gen = d.st uPRL .reject := by
  simp [Device.join, now, none_, idle, alone]

theorem Device.hand_reset (old : gen ≠ d.gen uPRL) : d.hand gen = d.st uPRL .reset := if_pos old

theorem Device.hand_inactive (now : gen = d.gen uPRL) (other : d.isActive = false) : d.hand gen = d.st uPRL .reject :=
  (if_neg (not_not.2 now)).trans (if_pos (by simp [other]))

theorem Device.hand_busy (now : gen = d.gen uPRL) (active : d.isActive = true) (connects : d.anyPrecharging = true) :
    d.hand gen = d.st uPRL .busy :=
  (if_neg (not_not.2 now)).trans ((if_neg (by simp [active])).trans (if_pos connects))

/-- With the standby within reach the hand-over turns on its sequencer's alignment. -/
theorem Device.hand_linked (now : gen = d.gen uPRL) (active : d.isActive = true) (rest : d.anyPrecharging = false)
    (up : d.on PRL_ST_UP = true) (alive : d.get PRL_ST_PALV = 1) : d.hand gen =
      if Config.partnerSync d.free then d.fresh.2.withdraw.st uPRL .ok else d.fresh.2.st uPRL .reject := by
  refine (if_neg (not_not.2 now)).trans ((if_neg (by simp [active])).trans ((if_neg (by simp [rest])).trans ?_))
  simp only [up, alive, beq_self_eq_true, Bool.true_and, Device.fresh]

/-! ### Checkpoints (R424) -/

theorem Device.checkpointGo_reset (old : gen ≠ d.gen uPRL) : d.checkpointGo gen = d.st uPRL .reset := if_pos old

theorem Device.checkpointGo_inactive (now : gen = d.gen uPRL) (other : d.isActive = false) : d.checkpointGo gen = d.st uPRL .reject :=
  (if_neg (not_not.2 now)).trans (if_pos (by simp [other]))

/-- A checkpoint of 8 bytes from the start of the SRAM is on its way. -/
theorem Device.checkpointGo_sends (now : gen = d.gen uPRL) (active : d.isActive = true) (up : d.on PRL_ST_UP = true)
    (idle : d.on PRL_CKST_BUSY = false) (len : d.get PRL_CKLEN_LEN = 8) (src : d.get PRL_CKSRC_ADDR = 0x20000000) :
    ∃ e : Device, d.checkpointGo gen = (((e.put PRL_CKST_BUSY 1).put PRL_CKST_GEN gen).setPrl fun p =>
      { p with ckpt := some gen, rgen := e.rgen 0 }).st uPRL .ok := by
  refine ⟨d.prlSend (.checkpoint ((List.range 8).map fun k => memGet d.mem (0x20000000 + k)) (d.rget FLK_EPNUM)), ?_⟩
  have sram : regionOf 0x20000000 = .sram := by decide
  unfold Device.checkpointGo
  simp only [len, src]
  rw [if_neg (not_not.2 now), if_neg (by simp [active, up]), if_neg (by simp [idle]), if_neg (by decide), if_neg (by simp [sram])]

theorem Device.get_setPrl (d : Device) (f : Prl → Prl) (g : Fld) : (d.setPrl f).get g = d.get g := rfl

/-- A status of PRL changes no field of another of its registers. -/
theorem Device.get_st_prl (d : Device) (st : Status) {f : Fld} (hf : f.addr ≠ uPRL + 4) : (d.st uPRL st).get f = d.get f :=
  Device.get_put_addr d _ hf

/-- What is read of a checkpoint on its way. -/
theorem Device.checkpointSent_reads (e : Device) (f : Prl → Prl) (small : gen < 256) :
    ((((e.put PRL_CKST_BUSY 1).put PRL_CKST_GEN gen).setPrl f).st uPRL .ok).get PRL_CKST_BUSY = 1 ∧
    ((((e.put PRL_CKST_BUSY 1).put PRL_CKST_GEN gen).setPrl f).st uPRL .ok).get PRL_CKST_GEN = gen := by
  constructor
  · rw [Device.get_st_prl _ _ (by decide), Device.get_setPrl, Device.get_put_bits _ _ (by decide), Device.get_put_same _ _ (by decide)]
    rfl
  · rw [Device.get_st_prl _ _ (by decide), Device.get_setPrl, Device.get_put_same _ _ (by decide)]
    exact Nat.mod_eq_of_lt small

/-- The end of a checkpoint that the partner has taken. -/
theorem Device.checkpointEnd_ok {g : Nat} (sent : d.prl.ckpt = some g) : d.checkpointEnd .ok =
    ((((d.put PRL_CKST_ST (d.answer uPRL g 0 d.prl.rgen .ok).code).put PRL_CKST_BUSY 0).put PRL_CKST_GEN g).setPrl fun p =>
      { p with ckpt := none }).up PRL_EVT_CKTX := by
  simp only [Device.checkpointEnd, sent]
  exact if_pos (by decide)

end

/-- Bytes stored one after another, from the n-th of an area. -/
def storeFrom (base n : Nat) (bytes : List Byte) (m : List Host.Cell) : List Host.Cell :=
  (bytes.zipIdx n).foldl (fun m x => memSet m (base + x.2) x.1) m

theorem memGet_storeFrom_before (bytes : List Byte) (m : List Host.Cell) {base n a : Nat} (h : a < base + n) :
    memGet (storeFrom base n bytes m) a = memGet m a := by
  induction bytes generalizing m n with
  | nil => rfl
  | cons b bytes ih => exact (ih _ (by omega)).trans (memGet_memSet_ne m (by omega) b)

theorem memGet_storeFrom (bytes : List Byte) (m : List Host.Cell) (base n : Nat) {i : Nat} (hi : i < bytes.length) :
    memGet (storeFrom base n bytes m) (base + (n + i)) = bytes[i] := by
  induction bytes generalizing m n i with
  | nil => simp at hi
  | cons b bytes ih =>
    cases i with
    | zero => exact (memGet_storeFrom_before bytes _ (by omega)).trans (memGet_memSet_same m (base + n) b)
    | succ i =>
      have rest := ih (memSet m (base + n) b) (n + 1) (Nat.lt_of_succ_lt_succ hi)
      rwa [show n + 1 + i = n + (i + 1) by omega] at rest

/-- What a checkpoint that has arrived leaves, but for its event. -/
def Device.checkpointStored (d : Device) (bytes : List Byte) (epoch : Word) : Device :=
  ((({ d with mem := storeFrom (d.get PRL_CKRB_BASE) 0 bytes d.mem } : Device).rewrote (d.get PRL_CKRB_BASE) bytes.length).put PRL_CKRI_LEN
    bytes.length).put PRL_CKREP_EPOCH epoch.toNat

theorem Device.checkpointIn_stores {d : Device} {bytes : List Byte} (en : d.on PRL_CTL_EN = true) (lo : 0x20000000 ≤ d.get PRL_CKRB_BASE)
    (hi : d.get PRL_CKRB_BASE + bytes.length ≤ d.split) (epoch : Word) :
    d.checkpointIn bytes epoch = (d.checkpointStored bytes epoch).up PRL_EVT_CKRX := if_pos (by simp [en, lo, hi])

theorem Device.checkpointStored_epoch (d : Device) (bytes : List Byte) (epoch : Word) :
    ((d.checkpointStored bytes epoch).up PRL_EVT_CKRX).rget PRL_CKREP = epoch := by
  rw [Device.up, Device.rget_put_ne _ (by decide), Device.checkpointStored, ← Device.rset_eq_put, Device.rget_rset_same]

/-! ### Shadows (R418) -/

/-- Without a shadowed driver the release opens none. -/
theorem Device.release_none {d : Device} (clear : ∀ k < 12, d.drvSt k ≠ .shadow) (m : BitVec 12) :
    (List.range 12).foldl (fun d k => if m.getLsbD k && d.drvSt k == .shadow then d.openDriver k else d) d = d :=
  List.foldlRecOn (motive := fun e => e = d) _ _ rfl fun e he k hk => by
    subst he
    exact if_neg (by simp [clear k (List.mem_range.1 hk)])

/-! ### Markers at a listen end (R411, R412) -/

/-- What BELL with bell count c leaves at a listen end. -/
def Device.bellHeard (d : Device) (p : Nat) (c : Byte) : Device :=
  ((d.linkUp p).setPt p fun v => { v with bellIn := true }).when_ ((d.linkUp p).setPt p fun v => { v with bellIn := true }).follower
    fun d => (d.put REF_ST_BELL c.toNat).setPrl fun x => { x with bellIn := true }

theorem Device.bellHeard_leads {d : Device} (leads : d.follower = false) {p : Nat} (hp : p < 128) (c : Byte) :
    d.bellHeard p c = (d.linkUp p).setPt p fun v => { v with bellIn := true } := by
  have role : (d.linkUp p).get PRL_ST_ROLE = d.get PRL_ST_ROLE :=
    Device.get_put_addr _ _ (by show PRL_ST ≠ FLK_PSTAT p; unfold PRL_ST FLK_PSTAT; omega)
  have leads' : (d.linkUp p).follower = false := by rw [Device.follower, role]; exact leads
  exact if_neg (Bool.eq_false_iff.1 leads')

/-- What MARKER leaves at a listen end, before a follower places its epoch time. -/
def Device.marked (d : Device) (p : Nat) : Device :=
  ((d.linkUp p).when_ ((d.linkUp p).pt p).bellIn fun d => d.put (FLK_PSTAT_CONT p) 1).setPt p fun v => { v with markIn := true }

/-- What MARKER leaves at a listen end. -/
def Device.markHeard (d : Device) (p : Nat) (a : Byte) : Device :=
  if (d.marked p).follower || (d.marked p).prl.join.isSome then
    ((d.marked p).setPrl fun x =>
      { x with markLow := some a.toNat
               marks := mapSet (p / 2) ((d.marked p).now - (d.marked p).get (FLK_PRING_DRING p) / 4) x.marks }).synced
  else d.marked p

theorem Device.synced_flk (d : Device) : d.synced.flk = d.flk := by
  unfold Device.synced Device.when_
  split
  · split <;> rfl
  · rfl

theorem Device.markHeard_in (d : Device) (p : Nat) (a : Byte) : ((d.markHeard p a).pt p).markIn = true := by
  have set : ((d.marked p).pt p).markIn = true := by rw [Device.marked, Device.pt_setPt]
  unfold Device.markHeard
  split
  · have ports := fun f => Device.synced_flk ((d.marked p).setPrl f)
    exact (congrArg PortState.markIn (Device.pt_congr (d := d.marked p) (ports _) p)).trans set
  · exact set

/-! ### What the instructions answer -/

section

variable {s : State} (awake : s.dev.awake = true)
include awake

theorem exec_bell {p : Fin 128} {c : Byte} (listens : s.dev.isListen p = true) (quiet : s.dev.contends p = false) :
    exec (.markerAtListenEnd p (.bell c)) s = .next (s.after (s.dev.bellHeard p c)) := by
  show execMarkerAtListenEnd p (.bell c) s = _
  exact onCtl_awake awake (if_pos (by simp [listens, quiet]))

theorem exec_marker {p : Fin 128} {a : Byte} (listens : s.dev.isListen p = true) (quiet : s.dev.contends p = false) :
    exec (.markerAtListenEnd p (.marker a)) s = .next (s.after (s.dev.markHeard p a)) := by
  show execMarkerAtListenEnd p (.marker a) s = _
  exact onCtl_awake awake (if_pos (by simp [listens, quiet]))

section

variable (run : s.dev.sys.appHeld = false) {g : Byte} {e : Device}
include run

theorem exec_pairJoin (h : s.dev.join g.toNat = e) : exec (.pairJoin g) s = .next (s.after e) := by
  show execPairJoin g s = _
  exact onCtl_released awake run h

theorem exec_pairHand (h : s.dev.hand g.toNat = e) : exec (.pairHand g) s = .next (s.after e) := by
  show execPairHand g s = _
  exact onCtl_released awake run h

theorem exec_checkpointSend (h : s.dev.checkpointGo g.toNat = e) : exec (.checkpointSend g) s = .next (s.after e) := by
  show execCheckpointSend g s = _
  exact onCtl_released awake run h

end

end

/-- Settles O28: each command is one case of its operation; a checkpoint's bytes by the induction over them. -/
theorem pairCommands : Obligations.PairCommands := by
  intro s awake
  refine ⟨fun k en standby main => ?_, fun k other => ?_, fun m other => ?_, fun m en standby clear => ?_, ?_, fun calm => ?_,
    fun p m deaf => ?_, fun p c listens quiet leads => ?_, fun p a listens quiet => ?_, fun image => ?_, fun none_ => ?_,
    fun run g => ⟨fun old => ⟨?_, ?_, ?_⟩, fun now => ⟨fun loaded => ?_, fun joins => ?_, fun none_ idle alone => ?_,
      fun other => ⟨?_, ?_⟩, fun active connects => ?_, ?_, fun active up idle len src => ?_⟩⟩,
    fun b e g sent => ?_, fun b e none_ en lo hi => ?_⟩
  · show execShadowSet k s = _
    exact onCtl_awake awake (if_pos (by simp [en, standby, main]))
  · show execShadowSet k s = _
    exact onCtl_awake awake (if_neg (by simp [other]))
  · show execShadowReleaseReceived m s = _
    exact onCtl_awake awake (if_neg (by simp [other]))
  · show execShadowReleaseReceived m s = _
    exact onCtl_awake awake ((if_pos (by simp [en, standby])).trans (by rw [Device.release_none clear m]))
  · intro d slot live
    show execStandbySlotStart s = _
    exact onCtl_awake awake (if_pos (by rcases slot with h | h <;> simp [h, live]))
  · show execStandbySlotStart s = _
    exact onCtl_awake awake (if_neg (by simp [calm]))
  · show execMarkerAtListenEnd p m s = _
    exact onCtl_awake awake (if_neg (by rcases deaf with h | h <;> simp [h]))
  · have lo : 0x60010000 ≤ FLK_PSTAT p := by unfold FLK_PSTAT; omega
    have hi : FLK_PSTAT p < 0x60140000 := by unfold FLK_PSTAT; omega
    refine ⟨_, exec_bell awake listens quiet, ?_, ?_⟩
    · rw [(s.after_fields _).2, (Device.settle_parts _ _).1, Device.bellHeard_leads leads p.isLt, Device.pt_setPt]
    · rw [(s.after_fields _).2, Device.settle_get_apart _ (.inl ⟨lo, hi⟩), Device.bellHeard_leads leads p.isLt]
      exact Device.get_put_same _ _ (by show 8 + 1 ≤ 32; omega)
  · refine ⟨_, exec_marker awake listens quiet, ?_⟩
    rw [(s.after_fields _).2, (Device.settle_parts _ _).1, Device.markHeard_in]
  · show execConfigImageReceived s = _
    exact onCtl_awake awake (if_pos image)
  · show execConfigImageReceived s = _
    exact onCtl_awake awake (if_neg (by simp [none_]))
  · exact exec_pairJoin awake run (Device.join_reset old)
  · exact exec_pairHand awake run (Device.hand_reset old)
  · exact exec_checkpointSend awake run (Device.checkpointGo_reset old)
  · exact exec_pairJoin awake run (Device.join_loaded now loaded)
  · exact exec_pairJoin awake run (Device.join_busy now joins)
  · exact exec_pairJoin awake run (Device.join_alone now none_ idle alone)
  · exact exec_pairHand awake run (Device.hand_inactive now other)
  · exact exec_checkpointSend awake run (Device.checkpointGo_inactive now other)
  · exact exec_pairHand awake run (Device.hand_busy now active connects)
  · intro d active rest up alive
    exact exec_pairHand awake run (Device.hand_linked now active rest up alive)
  · obtain ⟨e, sends⟩ := Device.checkpointGo_sends now active up idle len src
    obtain ⟨busy, gen⟩ := e.checkpointSent_reads (fun p => { p with ckpt := some g.toNat, rgen := e.rgen 0 }) g.isLt
    refine ⟨_, exec_checkpointSend awake run sends, ?_, ?_, ?_⟩
    · simp only [State.after_fields, Device.settle_leaves]
      rfl
    · rw [(s.after_fields _).2, Device.settle_get_apart _ (by decide), busy]
    · rw [(s.after_fields _).2, Device.settle_get_apart _ (by decide), gen]
  · show execCheckpointReceived b e s = _
    exact onCtl_awake awake ((if_pos (by simp [sent])).trans (Device.checkpointEnd_ok sent))
  · refine ⟨s.after ((s.dev.checkpointStored b e).up PRL_EVT_CKRX), ?_, ?_, fun i hi => ?_⟩
    · show execCheckpointReceived b e s = _
      exact onCtl_awake awake ((if_neg (by simp [none_])).trans (Device.checkpointIn_stores en lo hi e))
    · rw [(s.after_fields _).2, Device.settle_rget _ (by decide) (by decide) (by decide) (.inr (by decide)),
        Device.checkpointStored_epoch]
    · simp only [State.after_fields, Device.settle_leaves]
      have stored := memGet_storeFrom b s.dev.mem (s.dev.get PRL_CKRB_BASE) 0 hi
      rwa [Nat.zero_add] at stored

end Sys2Proof.Machine
end

section
/-! PROOFS. A node on the flock: what an event of it leaves, and what a command frame makes of it (R72, R74, R104, R105). -/

namespace Sys2Proof.Machine

/-- An event of a node that stands at key k turns it into what the event makes of it. -/
theorem onNode_held {s : State} {k : NodeKey} {n m : Node} (held : s.dev.node k = some n) {f : Nat → Node → Node}
    (h : f s.dev.now n = m) : onNode s k f = .next (s.putNode k m) := by
  subst h
  unfold onNode
  exact onDev_next (by simp only [held])

/-! ### Command frames (R74, R104) -/

/-- Forwarding a frame leaves what addresses the node. -/
@[simp] theorem Node.relayFrame_leaves (n : Node) (h : CmdHead) :
    (n.relayFrame h).st = n.st ∧ (n.relayFrame h).cls = n.cls ∧ (n.relayFrame h).apos = n.apos := ⟨rfl, rfl, rfl⟩

section

variable {n : Node} {h : CmdHead} {opc len : Nat} {form : AddrForm} {okState okClass : Bool} {f : Node → CmdResult}

/-- A frame that was not received whole is forwarded, and counted as discarded. -/
theorem Node.command_bad (up : n.st ≠ .unassigned) (bad : badFrame h = true) :
    n.command h opc len form okState okClass f = (n.relayFrame h).discard h := (if_neg up).trans (if_pos bad)

/-- A frame for another node is forwarded only. -/
theorem Node.command_other (up : n.st ≠ .unassigned) (whole : badFrame h = false) (single : h.addr ≠ 0xFF#8)
    (other : n.apos ≠ some h.addr.toNat) : n.command h opc len form okState okClass f = n.relayFrame h :=
  (if_neg up).trans ((if_neg (by simp [whole])).trans (if_pos (by simp [single, other])))

/-- An opcode that is not the command's own is refused. -/
theorem Node.command_unknown {o l : Nat} (sent : n.Addressed h o l) (unknown : o ≠ opc) :
    n.command h opc len form okState okClass f = { n.relayFrame h with reply := replied h [2#8] } := by
  obtain ⟨up, whole, single, own, rfl, rfl⟩ := sent
  simp [Node.command, up, whole, single, own, unknown, replied, Status.code]

section

variable (state : okState = true) (cls : okClass = true)
include state cls

/-- A command to one node that nothing refuses is carried out and answered. -/
theorem Node.command_addressed (sent : n.Addressed h opc len) (one : form ≠ .all) {r : CmdResult} (result : f (n.relayFrame h) = r)
    (ok : r.st = .ok) {e : Node} (answered : { r.node with reply := replied h (0#8 :: r.rest) } = e) :
    n.command h opc len form okState okClass f = e := by
  subst answered
  obtain ⟨up, whole, single, own, rfl, rfl⟩ := sent
  cases form with
  | all => exact absurd rfl one
  | single | both => simp [Node.command, up, whole, single, own, state, cls, result, ok, replied, Status.code]

/-- A command to one node that its own rule refuses changes nothing, and the reply says so. -/
theorem Node.command_refused (sent : n.Addressed h opc len) (one : form ≠ .all) {st : Status} (refused : st ≠ .ok)
    (result : f (n.relayFrame h) = ⟨st, [], n.relayFrame h⟩) :
    n.command h opc len form okState okClass f =
      { n.relayFrame h with reply := replied h [BitVec.ofNat 8 st.code] } := by
  obtain ⟨up, whole, single, own, rfl, rfl⟩ := sent
  by_cases reject : st = .reject
  · subst reject
    simp [Node.command, up, whole, single, own, result, replied]
  · cases form with
    | all => exact absurd rfl one
    | single | both => simp [Node.command, up, whole, single, own, state, cls, result, replied, refused, reject]

/-- A broadcast that nothing refuses is carried out without a reply. -/
theorem Node.command_broadcast (sent : n.Broadcast h opc len) (many : form ≠ .single) {r : CmdResult}
    (result : f (n.relayFrame h) = r) (ok : r.st = .ok) {e : Node} (after : r.node = e) :
    n.command h opc len form okState okClass f = e := by
  subst after
  obtain ⟨up, whole, all, rfl, rfl⟩ := sent
  cases form with
  | single => exact absurd rfl many
  | all | both => simp [Node.command, up, whole, all, state, cls, result, ok]

end

end

end Sys2Proof.Machine
end

section
/-! PROOFS. The commands of a node with their replies (R72, R74, R83 to R88, R98, R99, R104 to R106, R109, R110, R112, R124 to
R128). -/

namespace Sys2Proof.Machine

/-! ### Commands with a rule of their own (R82, R112, R116) -/

theorem Node.isData_of {n : Node} (data : n.st = .data) : n.isData = true := by simp [Node.isData, data]

/-- An UNASSIGNED node takes the position that ASSIGN gives it. -/
theorem Node.assign_takes {n : Node} {h : CmdHead} {pos : Nat} (free : n.st = .unassigned) (whole : badFrame h = false)
    (addr : h.addr = 0#8) (opc : h.opc = 1#8) (len : h.len = 1#8) (lo : 1 ≤ pos) (hi : pos ≤ 128) :
    n.assign h pos = { n with
      st := .assigned, pos := pos, from_ := h.side
      reply := some ⟨pos, 0x81, h.tag,
        0#8 :: ((if n.cls = .head then 1#8 else 0#8) :: (leBytes n.ver.toNat 2 ++ leBytes n.uid.toNat 8))⟩ } := by
  have near : ¬ (h.len ≠ 1#8 ∨ pos = 0 ∨ 128 < pos) := by
    rintro (other | none_ | far)
    · exact other len
    · omega
    · omega
  rw [Node.assign, if_pos free, if_neg (by simp [whole]), if_neg (by simp [addr, opc]), if_neg near]
  rfl

theorem Node.switch_opens (n : Node) (bell now : Nat) : ∃ rest, n.switch 0 bell now = ⟨.ok, rest, n.drive false⟩ := ⟨_, rfl⟩

theorem Node.switch_closes {n : Node} {bell now : Nat} (may : n.mayClose bell now = true) :
    ∃ rest, n.switch 1 bell now = ⟨.ok, rest, { n.drive true with penned := false }⟩ := ⟨_, if_pos may⟩

/-- Without a fresh bell a close is refused. -/
theorem Node.switch_refuses {n : Node} {bell now : Nat} (may : n.mayClose bell now = false) :
    n.switch 1 bell now = ⟨.reject, [], n⟩ := if_neg (by simp [may])

/-- Turning on the switches of a plan leaves the plan. -/
theorem Node.resume_plan (n : Node) : n.resume.plan = n.plan ∧ n.resume.left = n.left := by
  unfold Node.resume
  split <;> exact ⟨rfl, rfl⟩

/-- A balancing plan excludes masked cells and those whose switch has failed. -/
theorem Node.balance_takes {n : Node} (heard : n.bellLost = false) (mask : BitVec 24) {dur : Nat} (some_ : dur ≠ 0) :
    ∃ rest m, n.balance mask dur = ⟨.ok, rest, m⟩ ∧ m.plan = mask &&& n.cellm &&& ~~~(n.bswo ||| n.bswc) ∧ m.left = dur := by
  refine ⟨_, _, if_neg some_, ?_⟩
  rw [if_neg (by simp [heard])]
  exact Node.resume_plan _

/-! ### What the instructions answer -/

/-- Settles O30: each command is one case of `Node.command`; its own rule says what a frame taken leaves. -/
theorem nodeCommands : Obligations.NodeCommands := by
  intro s k n h held
  refine ⟨fun up bad => ?_, fun up whole single other => ?_, fun opc len sent unknown => ?_, fun pos free whole addr opc len lo hi => ?_,
    fun c f sent up lo hi fl => ?_, fun sent up => ?_, fun a b sent up => ?_, fun q sent up => ?_, fun p e sent up lo hi => ?_,
    fun a b c sent up a1 a2 b1 b2 c1 c2 => ?_, fun c m sent up => ?_, fun a b c sent up => ?_, fun m w sent data heard some_ => ?_,
    fun sent up => ?_, fun b sent data head => ?_, fun b sent data head may => ?_, fun b sent data head may => ?_,
    fun a c sent data => ?_, fun g e sent data group => ?_, fun m sent data rest => ?_, fun m sent data runs => ?_,
    fun sent data => ?_, fun v sent up head => ?_, fun c a b x y sent data lo hi => ?_, fun sent up => ?_⟩
  · show execPing k h s = _
    exact onNode_held held (Node.command_bad up bad)
  · show execPing k h s = _
    exact onNode_held held (Node.command_other up whole single other)
  · show execPing k h s = _
    exact onNode_held held (Node.command_unknown sent unknown)
  · have takes := Node.assign_takes free whole addr opc len lo hi
    refine ⟨n.assign h pos.toNat, (if n.cls = .head then 1#8 else 0#8) :: (leBytes n.ver.toNat 2 ++ leBytes n.uid.toNat 8),
      ?_, ?_, ?_, ?_, ?_⟩
    · show execAssign k h pos s = _
      exact onNode_held held rfl
    all_goals rw [takes]
  · show execSetring k h c f s = _
    have far : ¬ (c = 0#8 ∨ 128 < c.toNat ∨ 3 < f.toNat) := by bv_omega
    exact onNode_held held (Node.command_broadcast up rfl sent (by decide) (if_neg far) rfl rfl)
  · show execPing k h s = _
    exact onNode_held held (Node.command_addressed up rfl sent (by decide) rfl rfl rfl)
  · show execSetdelay k h a b 3#8 s = _
    have valid : (3#8).getLsbD 0 = true ∧ (3#8).getLsbD 1 = true := by decide
    have far : ¬ (3 < (3#8).toNat) := by decide
    refine onNode_held held (Node.command_addressed up rfl sent (by decide) (if_neg far) rfl ?_)
    dsimp only [done]
    rw [if_pos valid.1, if_pos valid.2]
  · show execTrace k h q s = _
    exact onNode_held held (Node.command_broadcast up rfl sent (by decide) rfl rfl rfl)
  · show execSetper k h p e s = _
    have far : ¬ (p.toNat < 2 ∨ 100 < p.toNat) := by omega
    exact onNode_held held (Node.command_broadcast up rfl sent (by decide) (if_neg far) rfl rfl)
  · show execSettim k h a b c s = _
    have far : ¬ (a.toNat < 10 ∨ 500 < a.toNat ∨ b.toNat < 5 ∨ 100 < b.toNat ∨ c = 0#8 ∨ 100 < c.toNat) := by bv_omega
    exact onNode_held held (Node.command_addressed up rfl sent (by decide) (if_neg far) rfl rfl)
  · show execConfig k h c m s = _
    exact onNode_held held (Node.command_addressed up rfl sent (by decide) rfl rfl rfl)
  · show execSetcmp k h a b c s = _
    exact onNode_held held (Node.command_addressed up rfl sent (by decide) rfl rfl rfl)
  · have dur : w.toNat ≠ 0 := by bv_omega
    obtain ⟨rest, m', result, plan, left⟩ := Node.balance_takes (n := n.relayFrame h) heard m dur
    refine ⟨{ m' with reply := replied h (0#8 :: rest) }, ?_, plan, left⟩
    show execBalance k h m w s = _
    exact onNode_held held (Node.command_addressed (Node.isData_of data) rfl sent (by decide) result rfl rfl)
  · show execStopbal k h s = _
    exact onNode_held held (Node.command_broadcast up rfl sent (by decide) rfl rfl rfl)
  · obtain ⟨rest, result⟩ := (n.relayFrame h).switch_opens b.toNat s.dev.now
    refine ⟨{ (n.relayFrame h).drive false with reply := replied h (0#8 :: rest) }, rest, ?_, rfl, rfl⟩
    show execSwitch k h 0#8 b s = _
    exact onNode_held held (Node.command_addressed (Node.isData_of data) (by simp [head]) sent (by decide) result rfl rfl)
  · show execSwitch k h 1#8 b s = _
    exact onNode_held held (Node.command_refused (Node.isData_of data) (by simp [head]) sent (by decide) (st := .reject) (by decide)
      (Node.switch_refuses may))
  · obtain ⟨rest, result⟩ := Node.switch_closes (n := n.relayFrame h) may
    refine ⟨{ (n.relayFrame h).drive true with penned := false, reply := replied h (0#8 :: rest) }, rest, ?_, rfl, rfl, rfl⟩
    show execSwitch k h 1#8 b s = _
    exact onNode_held held (Node.command_addressed (Node.isData_of data) (by simp [head]) sent (by decide) result rfl rfl)
  · show execSetdiag k h a 0#16 0#8 c s = _
    exact onNode_held held (Node.command_broadcast (Node.isData_of data) rfl sent (by decide) (if_neg (by simp)) rfl rfl)
  · show execOwtest k h g e s = _
    have far : ¬ (4 < g.toNat) := by omega
    exact onNode_held held (Node.command_addressed (Node.isData_of data) rfl sent (by decide) (if_neg far) rfl rfl)
  · show execBswtest k h m s = _
    exact onNode_held held (Node.command_addressed (Node.isData_of data) rfl sent (by decide) (if_neg (not_not.2 rest)) rfl rfl)
  · show execBswtest k h m s = _
    exact onNode_held held (Node.command_refused (Node.isData_of data) rfl sent (by decide) (st := .busy) (by decide)
      (if_pos runs))
  · show execDiagrd k h s = _
    exact onNode_held held (Node.command_addressed (Node.isData_of data) rfl sent (by decide) rfl rfl rfl)
  · show execReadid k h (some v) true s = _
    refine onNode_held held (Node.command_addressed up rfl sent (by decide) rfl rfl ?_)
    dsimp only
    rw [(n.relayFrame_leaves h).2.1, if_pos head]
    rfl
  · refine ⟨{ (n.relayFrame h).quiet with
      st := .sleep, inWin := false, chk := c.toNat, chkFail := false, toneIn := none
      slp := some ⟨a.toNat, b.toNat, signed 16 x.toNat, signed 16 y.toNat⟩ }, ?_, rfl, rfl, rfl, rfl, rfl⟩
    show execSleep k h c a b x y s = _
    have far : ¬ (c = 0#16 ∨ 3600 < c.toNat) := by bv_omega
    exact onNode_held held (Node.command_broadcast (Node.isData_of data) rfl sent (by decide) (if_neg far) rfl rfl)
  · show execRelease k h s = _
    exact onNode_held held (Node.command_broadcast up rfl sent (by decide) rfl rfl rfl)

end Sys2Proof.Machine
end

section
/-! PROOFS. What a node does by itself, on symbols and on events of its plant (R64, R66 to R70, R76, R89, R97, R100, R101, R108 to
R119, R121 to R128). -/

namespace Sys2Proof.Machine

/-! ### Markers, the bell and whistles (R68, R69, R97, R110, R111) -/

/-- A node that does not forward, or contends on the side, takes no sequence from there. -/
def Node.Deaf (n : Node) (side : Side) (now : Nat) : Prop := n.forwards = false ∨ n.contends side now = true

section

variable {n : Node} {side : Side} {now : Nat}

theorem Node.marker_deaf (deaf : n.Deaf side now) (arg : Nat) : n.marker side arg now = n :=
  if_pos (by rcases deaf with h | h <;> simp [h])

theorem Node.takeBell_deaf (deaf : n.Deaf side now) (count : Nat) : n.takeBell side count now = n :=
  if_neg (by rcases deaf with h | h <;> simp [h])

theorem Node.takeWhistle_deaf (deaf : n.Deaf side now) (arg : Nat) : n.takeWhistle side arg now = n :=
  if_neg (by rcases deaf with h | h <;> simp [h])

theorem Node.forwards_of (data : n.st = .data) : n.forwards = true := by simp [Node.forwards, data]

/-- Forwarding a sequence touches the record of forwarded sequences only. -/
theorem Node.forwardSeq_leaves (n : Node) (sym arg : Nat) (side : Side) (now : Nat) :
    ∃ l, n.forwardSeq sym arg side now = { n with fwd := l } := by
  unfold Node.forwardSeq
  split
  · exact ⟨n.fwd, rfl⟩
  · exact ⟨_, rfl⟩

theorem Node.takeBell_data (data : n.st = .data) (free : n.contends side now = false) (count : Nat) :
    n.takeBell side count now = { n.forwardSeq 6 count side now with bell := some (count, now), whistled := false, bellLost := false } :=
  if_pos (by simp [Node.forwards_of data, free])

/-- A whistle 0xFF pens the switch of every HEAD. -/
theorem Node.takeWhistle_head (data : n.st = .data) (head : n.cls = .head) (free : n.contends side now = false) :
    n.takeWhistle side 0xFF now =
      { (n.forwardSeq 1 0xFF side now).drive false with penned := true, whistled := true } := by
  obtain ⟨l, fwd⟩ := n.forwardSeq_leaves 1 0xFF side now
  refine (if_pos (by simp [Node.forwards_of data, free])).trans (if_pos ⟨?_, .inl rfl⟩)
  rw [fwd]
  exact head

/-- A whistle leaves a node without a string switch, but for what it forwards. -/
theorem Node.takeWhistle_cell (cell : n.cls = .cell) (side : Side) (arg now : Nat) :
    ∃ l, n.takeWhistle side arg now = { n with fwd := l } := by
  obtain ⟨l, fwd⟩ := n.forwardSeq_leaves 1 arg side now
  unfold Node.takeWhistle
  split
  · refine ⟨l, (if_neg fun h => ?_).trans fwd⟩
    rw [fwd] at h
    exact absurd (cell.symm.trans h.1) (by decide)
  · exact ⟨n.fwd, rfl⟩

end

/-- A switch that is commanded open disagrees with its feedback only as long as that shows it closed. -/
theorem Node.drive_false (n : Node) : n.drive false = { n with sw := false, swf := n.swf && n.fb } := by
  simp [Node.drive]

/-! ### Records and alarms (R102, R114, R115) -/

theorem Device.node_mapSet (d : Device) (k : NodeKey) (n : Node) :
    ({ d with nodes := mapSet (nodeIdx k) n d.nodes } : Device).node k = some n := mapGet_mapSet_same _ _ _

/-- A node that has raised no ALARM sends none. -/
theorem Device.sendAlarms_none {d : Device} {k : NodeKey} {n : Node} (held : d.node k = some n) (none_ : n.alarms = []) :
    d.sendAlarms k = d := by
  simp only [Device.sendAlarms, held, none_, List.foldl_nil]

/-- An event in DATA that may give the node ALARMs, which it then sends. -/
theorem onAlarming_data {s : State} {k : NodeKey} {n : Node} (held : s.dev.node k = some n) (data : n.st = .data) (f : Node → Node) :
    onAlarming s k f = .next (s.after
      (({ s.dev with nodes := mapSet (nodeIdx k) (f n) s.dev.nodes } : Device).sendAlarms k)) := by
  unfold onAlarming
  refine onDev_next ?_
  simp only [held]
  exact if_pos (Node.isData_of data)

/-- What a yielded seize leaves of the ALARMs goes out again, toward the timing end. -/
theorem Node.retryAlarms_fwd {n : Node} {now : Nat} {f : Fwd} (mem : f ∈ (n.retryAlarms now).fwd) (alarm : f.sym = 2) :
    f.out = n.timing ∧ f.at_ = now := by
  obtain ⟨g, kept, rfl⟩ := List.mem_map.1 mem
  have kept := (List.mem_filter.1 kept).2
  by_cases sym : g.sym = 2
  · rw [if_pos sym]
    exact ⟨by simpa [sym] using kept, rfl⟩
  · rw [if_neg sym] at alarm
    exact absurd alarm sym

/-- The record of train 1. -/
theorem Node.sendRecord_first (n : Node) (m : NodeMeasure) (now : Nat) : n.sendRecord m false now =
    { n.conclude m with record := some ((n.conclude m).mkRecord m false), far := true, txUntil := now + 40000 } := rfl

/-! ### Balance-switch tests (R119, R121) -/

theorem Node.testSlot_runs {n : Node} {c : Nat} (data : n.st = .data) (cool : n.hot = false) (out : n.inWin = false)
    (runs : n.paused = false) (next : n.nextTest = some c) :
    (n.isData && !n.hot && !n.inWin && !n.paused && n.nextTest == some c) = true := by
  simp [Node.isData_of data, cool, out, runs, next]

theorem Node.testSlot_waits {n : Node} {c : Nat} (waits : n.hot = true ∨ n.inWin = true ∨ n.paused = true ∨ n.nextTest ≠ some c) :
    ¬ (n.isData && !n.hot && !n.inWin && !n.paused && n.nextTest == some c) = true := by
  rcases waits with h | h | h | h <;> simp [h]

/-- A switch that draws no current while off and whose drop stays high while on does not close. -/
theorem Node.testSlot_open (n : Node) (c : Nat) {x y : Nat} (off : x ≤ 1000) (on : 300 < y) :
    (n.testSlot c x y).bswo = n.bswo ||| (1#24 <<< c) ∧ (n.testSlot c x y).bswc = n.bswc := by
  have off' : ¬ 1000 < x := Nat.not_lt.2 off
  simp [Node.testSlot, off', on]

/-- A switch that passes both halves clears both of its bits. -/
theorem Node.testSlot_passes (n : Node) (c : Nat) {x y : Nat} (off : x ≤ 1000) (on : y ≤ 300) :
    (n.testSlot c x y).bswo = n.bswo &&& ~~~(1#24 <<< c) ∧ (n.testSlot c x y).bswc = n.bswc &&& ~~~(1#24 <<< c) := by
  have off' : ¬ 1000 < x := Nat.not_lt.2 off
  have on' : ¬ 300 < y := Nat.not_lt.2 on
  simp [Node.testSlot, off', on']

/-! ### What the instructions answer -/

/-- Settles O29: each event is one case of its rule on the node that stands at the key. -/
theorem nodeEvents : Obligations.NodeEvents := by
  intro s k n
  refine ⟨fun id => ?_, fun held => ⟨?_, fun d a => ?_, fun d a deaf => ⟨?_, ?_, ?_⟩, fun x other => ?_, fun x data => ?_,
    fun e x data marked delay => ?_, fun win => ?_, fun m data => ?_, fun data => ?_, fun d c data free => ?_, fun data head => ?_,
    fun data cell => ?_, fun data => ?_, fun data => ?_, fun d data head free => ?_, fun d a data cell => ?_, fun c x data => ?_,
    fun data calm => ?_, fun data => ?_, fun data => ?_, fun f mem alarm => Node.retryAlarms_fwd mem alarm, fun c head => ?_,
    fun ended => ?_, ?_, ?_, fun c x y waits => ?_, fun c x y data cool out runs next => ?_, fun m f sleeps => ?_,
    fun sleeps last sound => ?_, fun sleeps failed => ⟨?_, ?_⟩, fun sleeps sound more => ?_, fun sleeps => ?_, fun data => ?_⟩⟩
  · show execNodePowerUp k id s = _
    exact onDev_next rfl
  · show execNodeInternalFault k s = _
    exact onNode_held held rfl
  · show execNodeMarker k d a s = _
    exact onNode_held held rfl
  · show execNodeMarker k d a s = _
    exact onNode_held held (Node.marker_deaf deaf _)
  · show execNodeBell k d a s = _
    exact onNode_held held (Node.takeBell_deaf deaf _)
  · show execNodeWhistle k d a s = _
    exact onNode_held held (Node.takeWhistle_deaf deaf _)
  · show execNodeMarkerLost ⟨k, x⟩ s = _
    exact onNode_held held (if_neg (by simp [Node.isData, other]))
  · show execNodeMarkerLost ⟨k, x⟩ s = _
    exact onNode_held held (if_pos (Node.isData_of data))
  · show execNodeWindowOpen k x s = _
    refine onNode_held held ?_
    simp only [marked]
    exact if_pos (by simp [Node.isData_of data, delay])
  · show execNodeWindowEnd k s = _
    exact onNode_held held (if_pos win)
  · intro n' d
    show execNodeRecordSend k m false s = _
    refine onDev_next ?_
    simp only [held, Node.isData_of data, Bool.not_false, Bool.true_or, Bool.and_true, if_true, Node.sendRecord_first, Bool.bne_false]
    rfl
  · show execNodeBalancePause k s = _
    exact onNode_held held (if_pos (Node.isData_of data))
  · obtain ⟨l, fwd⟩ := n.forwardSeq_leaves 6 c.toNat d s.dev.now
    refine ⟨{ n with fwd := l, bell := some (c.toNat, s.dev.now), whistled := false, bellLost := false }, ?_, rfl, rfl, rfl, rfl, rfl⟩
    show execNodeBell k d c s = _
    exact onNode_held held ((Node.takeBell_data data free _).trans (by rw [fwd]))
  · show execNodeBellAbsentTstr k s = _
    exact onNode_held held ((if_pos (by simp [Node.isData_of data, head])).trans (by rw [Node.drive_false]))
  · show execNodeBellAbsentTstr k s = _
    exact onNode_held held (if_neg (by simp [cell]))
  · show execNodeBellAbsentTbal k s = _
    exact onNode_held held (if_pos (Node.isData_of data))
  · show execNodeBellAbsentSleep k s = _
    exact onNode_held held (if_pos (Node.isData_of data))
  · refine ⟨{ (n.forwardSeq 1 0xFF d s.dev.now).drive false with penned := true, whistled := true }, ?_, rfl, rfl, rfl⟩
    show execNodeWhistle k d 0xFF#8 s = _
    exact onNode_held held (Node.takeWhistle_head data head free)
  · obtain ⟨l, same⟩ := Node.takeWhistle_cell cell d a.toNat s.dev.now
    refine ⟨{ n with fwd := l }, ?_, rfl, rfl⟩
    show execNodeWhistle k d a s = _
    exact onNode_held held same
  · show execNodeComparatorSample k c x s = _
    exact onAlarming_data held data _
  · show execNodeAlarmResend k s = _
    refine (onAlarming_data held data _).trans ?_
    rw [calm, Device.sendAlarms_none (Device.node_mapSet _ _ _) rfl]
    rfl
  · show execNodeAlarmResend k s = _
    exact onAlarming_data held data _
  · show execNodeAlarmRetry k s = _
    exact onNode_held held (if_pos (Node.forwards_of data))
  · show execNodeSwitchFeedback k c s = _
    exact onNode_held held (if_pos head)
  · show execNodeBalancePlanEnd k s = _
    exact onNode_held held (if_pos ended)
  · show execNodeOverTemperature k s = _
    exact onNode_held held rfl
  · show execNodeTemperatureRecovered k s = _
    exact onNode_held held rfl
  · show execNodeBswTestSlot k c x y s = _
    exact onNode_held held (if_neg (Node.testSlot_waits waits))
  · refine ⟨n.testSlot c.val x y, ?_, rfl, n.testSlot_open c.val, n.testSlot_passes c.val⟩
    show execNodeBswTestSlot k c x y s = _
    exact onNode_held held (if_pos (Node.testSlot_runs data cool out runs next))
  · show execNodeSleepCheck k m f s = _
    exact onNode_held held (if_pos sleeps)
  · show execNodeToneBurst k s = _
    exact onNode_held held (if_pos ⟨sleeps, last, sound⟩)
  · show execNodeToneBurst k s = _
    exact onNode_held held (if_neg (by simp [failed]))
  · show execNodeToneReceived k .b s = _
    exact onNode_held held ((if_pos ⟨sleeps, rfl⟩).trans (if_neg (by simp [failed])))
  · show execNodeToneReceived k .b s = _
    exact onNode_held held ((if_pos ⟨sleeps, rfl⟩).trans (if_pos ⟨sound, more⟩))
  · show execNodeWakeIdle k .a s = _
    exact onNode_held held (if_pos ⟨sleeps, rfl⟩)
  · show execNodeWakeIdle k .a s = _
    exact onNode_held held (if_neg (by simp [data]))

end Sys2Proof.Machine
end

section
/-! PROOFS. What a class of the referee leaves of the port ends: the positions declared missing stand through every action (R79,
R226, R228 to R231, R236). -/

namespace Sys2Proof.Machine

/-- From `d` to `e` the positions declared missing at every port end stand. -/
def Device.MissingStand (d e : Device) : Prop := ∀ p, (e.pt p).missing = (d.pt p).missing

namespace Device.MissingStand

variable {d e : Device}

theorem refl (d : Device) : d.MissingStand d := fun _ => rfl

/-- An update beside the port ends. -/
theorem same (h : d.MissingStand e) {f : Device} (k : f.flk.ports = e.flk.ports) : d.MissingStand f := fun p => by
  have pt : f.pt p = e.pt p := by rw [Device.pt, Device.pt, k]
  rw [pt, h p]

theorem put (h : d.MissingStand e) (f : Fld) (v : Nat) : d.MissingStand (e.put f v) := h.same rfl

theorem puts (h : d.MissingStand e) (f : Fld) (v : Int) : d.MissingStand (e.puts f v) := h.same rfl

theorem setRef (h : d.MissingStand e) (r : Referee) : d.MissingStand { e with ref := r } := h.same rfl

theorem setAcq (h : d.MissingStand e) (a : Acq) : d.MissingStand { e with acq := a } := h.same rfl

theorem setBk (h : d.MissingStand e) (b : Nat) (f : Bank → Bank) : d.MissingStand (e.setBk b f) := h.same rfl

/-- An update of a port end beside its missing positions. -/
theorem setPt (h : d.MissingStand e) (p : Nat) {f : PortState → PortState} (k : ∀ v, (f v).missing = v.missing) :
    d.MissingStand (e.setPt p f) := fun q => by
  by_cases hq : q = p
  · subst hq
    rw [Device.pt_setPt, k, h q]
  · rw [Device.pt_setPt_ne e hq, h q]

theorem ite (c : Prop) [Decidable c] {f : Device} (h : d.MissingStand e) (k : d.MissingStand f) :
    d.MissingStand (if c then e else f) := by
  split
  · exact h
  · exact k

theorem when_ (h : d.MissingStand e) {c : Bool} {f : Device → Device} (k : d.MissingStand e → d.MissingStand (f e)) :
    d.MissingStand (e.when_ c f) := .ite _ (k h) h

theorem foldl {α : Type} (h : d.MissingStand e) (l : List α) {f : Device → α → Device}
    (hf : ∀ e, d.MissingStand e → ∀ x, d.MissingStand (f e x)) : d.MissingStand (l.foldl f e) :=
  List.foldlRecOn (motive := d.MissingStand) l f h fun e he x _ => hf e he x

theorem memoryOnly (h : d.MissingStand e) {f : Device} (m : e.MemoryOnly f) : d.MissingStand f := by
  obtain ⟨m, u, rfl⟩ := m
  exact h.same rfl

theorem regsOnly (h : d.MissingStand e) {f : Device} (m : e.RegsOnly f) : d.MissingStand f := by
  obtain ⟨r, rfl⟩ := m
  exact h.same rfl

section

variable (h : d.MissingStand e)
include h

theorem count16 (a : Nat) : d.MissingStand (e.count16 a) := h.regsOnly ((RegsOnly.refl e).count16 a)

theorem prlSend (m : PairMsg) : d.MissingStand (e.prlSend m) := .ite _ (h.same rfl) h

/-! Modes and banks. -/

theorem setLatch : d.MissingStand e.setLatch := .ite _ h (h.same rfl)

theorem lceExit : d.MissingStand e.lceExit := .ite _ (h.same rfl) h

theorem disarm : d.MissingStand e.disarm := h.same rfl

theorem entered (m : Mode) (busy : Bool) : d.MissingStand (e.entered m busy) := by
  have written : d.MissingStand (((e.putB SYS_MODE_BUSY busy).up SYS_EVT_MODE).down REF_ST_LOOSE) := ((h.put _ _).put _ _).put _ _
  have latched := written.when_ (c := m == .tripped) setLatch
  exact (latched.when_ (c := !m.calm) lceExit).when_ (c := !m.live) disarm

theorem enter (m : Mode) : d.MissingStand (e.enter m) := by
  by_cases same : e.mode = m
  · rw [Device.enter, if_pos same]
    exact .ite _ h.setLatch h
  · rw [Device.enter_other same]
    exact (h.put _ _).entered m _

theorem endSequence (b : Nat) : d.MissingStand (e.endSequence b) := by
  have left : d.MissingStand (e.leavePhase b) :=
    .when_ (.when_ (.when_ h fun h => (h.put _ _).put _ _) fun h => h.put _ _) fun h => (h.put _ _).setBk b _
  rw [Device.endSequence_eq]
  exact .ite _ (left.put _ _) (.ite _ (left.put _ _) left)

/-! Whistles and pens. -/

theorem preempt (p at_ : Nat) : d.MissingStand (e.preempt p at_) := h.setPt p fun _ => rfl

theorem whistleAt (p : Fin 128) (arg : Byte) : d.MissingStand (e.whistleAt p arg) := (h.setRef _).preempt _ _

theorem whistleAllAt (p : Fin 128) : d.MissingStand (e.whistleAllAt p) := (h.setRef _).preempt _ _

theorem whistleEverywhere : d.MissingStand e.whistleEverywhere := h.foldl _ fun _ he p => .ite _ (he.whistleAllAt p) he

theorem startConf (s : Fin 512) : d.MissingStand (e.startConf s) := .ite _ h (h.setRef _)

theorem whistleString (c : Chan) (s : Nat) : d.MissingStand (e.whistleString c s) := by
  unfold Device.whistleString
  exact .ite _ ((h.foldl _ fun _ he p => he.whistleAllAt _).foldl _ fun _ he t => (he.put _ _).startConf t)
    (h.foldl _ fun _ he p => he.whistleAt _ _)

theorem penString (c : Chan) (s : Fin 512) (confirm : Bool) : d.MissingStand (e.penString c s confirm) := by
  have penned := (h.whistleString c s.val).put (penFld s.val) 1
  exact .ite _ (penned.startConf s) penned

/-! Actions and classes. -/

theorem openBankAct (b : Nat) : d.MissingStand (e.openBankAct b) := by
  have ended := (h.put (bankHoldFld b) 1).endSequence b
  exact .ite _ h (.ite _ (ended.enter _) ended)

theorem openAllAct : d.MissingStand e.openAllAct := by
  unfold Device.openAllAct
  have banks := h.foldl (List.range 4) (f := fun d b => (d.put (bankHoldFld b) 1).endSequence b) fun _ he b =>
    (he.put _ _).endSequence b
  have pens := banks.foldl (List.range 16) (f := fun d j => d.put (REF_PEN_HOLD j) 0xFFFFFFFF) fun _ he j => he.put _ _
  exact (pens.whistleEverywhere.put _ _).enter _

theorem carryOut (c : Chan) (n : Named) (act : Nat) : d.MissingStand (e.carryOut c n act) := by
  unfold Device.carryOut
  split
  · split
    · exact h.penString c _ true
    · exact h
  · refine .ite _ (h.put _ _).openAllAct ?_
    split
    · refine .ite _ h ?_
      split
      · exact (h.openBankAct _).penString c _ false
      · exact h.openBankAct _
    · exact h
  · exact h.openAllAct
  · exact h

theorem actsOn (b : Option Nat) : d.MissingStand (e.actsOn b) := by
  unfold Device.actsOn
  split
  · exact h.setRef _
  · exact h

theorem raise (c : Chan) (rs : List Raise) (n : Named) (ep : Nat) : d.MissingStand (e.raise c rs n ep) := by
  have marked := h.foldl rs (f := fun d r => d.markClass r.cls) fun _ he r => he.put _ _
  have noisy := marked.when_ (c := rs.any fun r => decide (r.cls < 10)) 
    (f := fun d => { d with ref := { d.ref with noisy := true } }) fun h => h.setRef _
  unfold Device.raise
  refine .ite _ h (.ite _ ?_ noisy)
  have counted := noisy.foldl rs (f := fun d r => if r.cls < 15 then d.count16 (REF_ACTCNT r.cls) else d) fun _ he r =>
    .ite _ (he.count16 _) he
  dsimp only
  split
  · exact counted
  · refine .prlSend (.carryOut (.put (.puts (.put ?_ _ _) _ _) _ _) c n _) _
    exact .put (.put (.put (.put (.put (counted.actsOn _) _ _) _ _) _ _) _ _) _ _

theorem raiseBoth (rs : List Raise) (n : Named) (ep : Nat) : d.MissingStand (e.raiseBoth rs n ep) := by
  have first := h.raise .a rs n ep
  unfold Device.raiseBoth
  refine .ite _ (h.raise .b rs n ep) (.ite _ first ?_)
  split
  · exact .ite _ ((first.carryOut .b n _).prlSend _) first
  · exact first

/-! A missing position in the referee and in acquisition. -/

theorem countAll (i ep : Nat) (chs : List Nat) : d.MissingStand (e.countAll i ep chs).2 :=
  List.foldlRecOn (motive := fun x : Bool × Device => d.MissingStand x.2) chs _ h fun _ hx _ _ => hx.setRef _

theorem refMissing (i ep : Nat) : d.MissingStand (e.refMissing i ep) := by
  unfold Device.refMissing
  have counted := fun chs => (h.countAll i ep chs).setRef
  exact .ite _ ((counted _ _).raiseBoth _ _ _) (counted _ _)

theorem rowWrite (n : Nat) (w : NodeWrite) : d.MissingStand (e.rowWrite n w) :=
  .ite _ (h.memoryOnly (e.memoryOnly_applyWrite w)) (h.setAcq _)

theorem markMissing (i n : Nat) : d.MissingStand (e.markMissing i n) := by
  unfold Device.markMissing
  have stored := (h.memoryOnly (e.memoryOnly_storeReadings n i (fun _ => 0xFFFF) (fun _ => 0x8000))).memoryOnly
    (Device.memoryOnly_storeSummary _ n i 0xFFFF 0 0x80 0x8000)
  exact (stored.setAcq _).rowWrite n _

theorem acqMissing (n i : Nat) : d.MissingStand (e.acqMissing n i) := .ite _ (h.markMissing i n) h

end

end Device.MissingStand

end Sys2Proof.Machine
end

section
/-! PROOFS. Records, missing positions, scoreboard writes, MODID loads and the low-current epoch (R79, R134, R139, R143, R154, R215).
-/

namespace Sys2Proof.Machine

/-! ### Records (R79, R215) -/

/-- The port end once it has heard a record and counted its code violations. -/
def Device.recordHeard (d : Device) (p : Nat) (r : Record) : Device :=
  (d.linkUp p).countCv p (r.violations + if d.contends p then 0 else r.stray)

section

variable {d : Device} {p : Nat} {r : Record}

theorem Device.recordIn_violated (violated : r.codeViolation = true) : d.recordIn p r = d.recordHeard p r := if_pos violated

variable (clean : r.codeViolation = false)
include clean

theorem Device.recordIn_badCrc (bad : recordCrcOk r = false) : d.recordIn p r = (d.recordHeard p r).count16 (FLK_PCRC p) :=
  (if_neg (by simp [clean])).trans (if_pos (by simp [bad]))

variable (sound : recordCrcOk r = true)
include sound

theorem Device.recordIn_discards (refused : (d.recordHeard p r).accepts p r = false) :
    d.recordIn p r = (d.recordHeard p r).count16 (FLK_PDISC p) :=
  (if_neg (by simp [clean])).trans ((if_neg (by simp [sound])).trans (if_pos (by
    rw [Bool.not_eq_true']
    exact refused)))

/-- An accepted record is stored, evaluated by the referee, and processed by acquisition while that is enabled. -/
theorem Device.recordIn_accepts (accepted : (d.recordHeard p r).accepts p r = true) : d.recordIn p r =
    let l := d.recordHeard p r
    let i := l.nodeIndex (l.aEnd p) (l.aPos p r.pos.toNat)
    let e := (l.pt p).phEpoch
    let x := (l.bufferRecord p r).evalRecord i r e (l.pt p).phT
    if x.on ACQ_CTL_EN then (x.setPt p fun v => { v with uncopied := v.uncopied.filter (· != r.pos.toNat) }).acquire i e r else x :=
  (if_neg (by simp [clean])).trans ((if_neg (by simp [sound])).trans (if_neg (by
    rw [Bool.not_eq_true', Bool.not_eq_false]
    exact accepted)))

end

/-! ### Missing positions (R79) -/

theorem Device.positionMissing_idle {d : Device} {p q : Nat} (idle : (d.pt p).phEpoch = 0 ∨ d.population p < q) :
    d.positionMissing p q = d := if_pos (idle.imp_right .inl)

/-- A position without a record is declared missing once, and what follows in the referee and in acquisition leaves it so. -/
theorem Device.positionMissing_declares {d : Device} {p q : Nat} (phase : (d.pt p).phEpoch ≠ 0) (populated : q ≤ d.population p)
    (absent : q ∉ (d.pt p).accepted) (new : q ∉ (d.pt p).missing) :
    ((d.positionMissing p q).pt p).missing = q :: (d.pt p).missing := by
  have due : ¬ ((d.pt p).phEpoch = 0 ∨ d.population p < q ∨ (d.pt p).accepted.contains q ∨ (d.pt p).missing.contains q) := by
    simpa [phase, absent, new] using populated
  have declared : ((d.setPt p fun v => { v with missing := q :: (d.pt p).missing }).pt p).missing = q :: (d.pt p).missing := by
    rw [Device.pt_setPt]
  have judged (i e : Nat) := ((Device.MissingStand.refl (d.setPt p fun v => { v with missing := q :: (d.pt p).missing })).count16
    (FLK_PMISS p)).refMissing i e
  rw [← declared]
  unfold Device.positionMissing
  dsimp only
  rw [if_neg due]
  exact Device.MissingStand.ite _ ((judged _ _).acqMissing _ _) (judged _ _) p

/-! ### Scoreboard writes (R134) -/

theorem Device.boardWrite_holds {d : Device} (holds : d.sweepHolds = true) : d.boardWrite = d := by
  unfold Device.boardWrite
  split <;> exact if_pos holds

theorem Device.boardWrite_empty {d : Device} (none_ : d.acq.pend = []) (calm : d.acq.ops = []) : d.boardWrite = d := by
  have same : { d with acq := { d.acq with ops := [] } } = d := by rw [← calm]
  unfold Device.boardWrite
  split
  · split
    · rfl
    · rw [calm]
      exact same
  · next pending => simp [none_] at pending

/-- The rows once the write of the oldest pending epoch has proceeded. -/
def Device.boardRows (d : Device) (p : EpochPend) : Device :=
  p.ops.foldl (fun d o => d.applyOp o) ((inNodeOrder p.writes).foldl (fun d w => d.applyWrite w)
    (d.acq.ops.foldl (fun d o => d.applyOp o) d))

section

variable {d : Device} {p : EpochPend} {ps : List EpochPend} (free : d.sweepHolds = false) (oldest : d.acq.pend = p :: ps)
include free oldest

/-- An open epoch stays pending, with nothing held. -/
theorem Device.boardWrite_open (opened : p.closed = false) : d.boardWrite =
    { d.boardRows p with acq := { d.acq with pend := { p with writes := [], ops := [] } :: ps, ops := [] } } := by
  simp only [Device.boardWrite, oldest]
  rw [if_neg (by simp [free]), if_neg (by simp [opened])]
  rfl

/-- A closed epoch is no longer pending, and falls due for its sweep where the scorer is ready. -/
theorem Device.boardWrite_closed (closed : p.closed = true) : d.boardWrite =
    let e : Device := { d.boardRows p with acq := { d.acq with pend := ps, ops := [] } }
    if e.scorerReady then { e with scr := { e.scr with due := some (p.epoch, p.per, p.ms) } } else e := by
  simp only [Device.boardWrite, oldest]
  rw [if_neg (by simp [free]), if_pos closed]
  rfl

end

/-! ### MODID loads and the low-current epoch (R143, R154) -/

theorem Device.modidLoad_reject {d : Device} (muster : d.mode ≠ .muster) (ready : d.mode ≠ .ready) (i : Nat) :
    d.modidLoad i = d.st uACQ .reject := if_pos ⟨muster, ready⟩

theorem Device.modidLoad_takes {d : Device} {i : Nat} (ready : d.mode = .ready) (lo : i < d.nodeLimit) (free : d.rowsFree = true) :
    d.modidLoad i = ((List.range 24).foldl (fun e c => e.setSlot (24 * i + c) 13 (d.rget ACQ_MIDVAL).toNat) d).st uACQ .ok := by
  have written : d.rowOp (.modid i (d.rget ACQ_MIDVAL).toNat) = d.applyOp (.modid i (d.rget ACQ_MIDVAL).toNat) := if_pos free
  unfold Device.modidLoad
  dsimp only
  rw [if_neg (by simp [ready]), if_neg (Nat.not_le.2 lo), written]
  rfl

theorem Device.lceWrite_range {d : Device} (none_ : d.currentInputs = []) (h : Nat) : d.lceWrite true h = d.st uACQ .range :=
  if_pos (by simp [none_])

theorem Device.lceWrite_takes {d : Device} (some_ : d.currentInputs ≠ [])
    (timers : timersOk (d.get FLK_NTIM_TSTR) (d.get FLK_NTIM_TBAL) (d.get FLK_EPER_PER) true = true) (h : Nat) :
    d.lceWrite true h = ((d.putB ACQ_LCE_EN true).put ACQ_LCE_LCTH h).st uACQ .ok := by
  unfold Device.lceWrite
  rw [if_neg (by simp [some_]), if_neg (by simp [timers])]
  rfl

/-! ### What the instructions answer -/

section

variable {s : State} (awake : s.dev.awake = true)
include awake

theorem exec_recordReceived {p : Fin 128} {r : Record} {e : Device} (enabled : s.dev.portEnabled p.val = true)
    (h : s.dev.recordIn p.val r = e) : exec (.recordReceived p r) s = .next (s.after e) := by
  show execRecordReceived p r s = _
  exact onCtl_awake awake ((if_pos enabled).trans h)

theorem exec_positionMissing {p q : Fin 128} {e : Device} (enabled : s.dev.portEnabled p.val = true)
    (h : s.dev.positionMissing p.val (q.val + 1) = e) : exec (.positionMissing p q) s = .next (s.after e) := by
  show execPositionMissing p q s = _
  exact onCtl_awake awake ((if_pos enabled).trans h)

theorem exec_acqScoreboardWrite {e : Device} (h : s.dev.boardWrite = e) : exec .acqScoreboardWrite s = .next (s.after e) := by
  show execAcqScoreboardWrite s = _
  exact onCtl_awake awake h

variable (run : s.dev.sys.appHeld = false)
include run

theorem exec_modidLoad {i : BitVec 13} {e : Device} (h : s.dev.modidLoad i.toNat = e) :
    exec (.modidLoad i) s = .next (s.after e) := by
  show execModidLoad i s = _
  exact onCtl_released awake run h

theorem exec_lceWrite {b : Bool} {l : Half} {e : Device} (h : s.dev.lceWrite b l.toNat = e) :
    exec (.lceWrite b l) s = .next (s.after e) := by
  show execLceWrite b l s = _
  exact onCtl_released awake run h

end

/-- Settles O12: each event is one case of its rule; a missing position stands through what the referee and acquisition make of
it. -/
theorem acquisitionEvents : Obligations.AcquisitionEvents := by
  intro s awake
  refine ⟨fun p r enabled violated => ?_, fun p r enabled clean bad => ?_, fun p r enabled clean sound => ?_,
    fun p r enabled clean sound => ?_, fun p q idle enabled => ?_, fun p q enabled phase populated absent new _ => ?_, fun none_ => ?_,
    fun i w suspect => ?_, fun holds => ?_, fun none_ calm => ?_, fun p ps free oldest => ⟨fun opened => ?_, fun closed => ?_⟩,
    fun i run muster ready => ?_, fun i run ready lo free => ?_, fun h run none_ => ?_, fun h run some_ timers => ?_⟩
  · exact exec_recordReceived awake enabled (Device.recordIn_violated violated)
  · exact exec_recordReceived awake enabled (Device.recordIn_badCrc clean bad)
  · exact fun refused => exec_recordReceived awake enabled (Device.recordIn_discards clean sound refused)
  · exact fun accepted => exec_recordReceived awake enabled (Device.recordIn_accepts clean sound accepted)
  · exact exec_positionMissing awake enabled (Device.positionMissing_idle idle)
  · refine ⟨_, exec_positionMissing awake enabled rfl, ?_⟩
    rw [(s.after_fields _).2, (Device.settle_parts _ _).1, Device.positionMissing_declares phase populated absent new]
  · show execEnumerationDone s = _
    exact onCtl_awake awake (by simp only [none_])
  · show execWireSuspectTimeout i w s = _
    exact onCtl_awake awake (if_pos suspect)
  · exact exec_acqScoreboardWrite awake (Device.boardWrite_holds holds)
  · exact exec_acqScoreboardWrite awake (Device.boardWrite_empty none_ calm)
  · exact exec_acqScoreboardWrite awake (Device.boardWrite_open free oldest opened)
  · exact exec_acqScoreboardWrite awake (Device.boardWrite_closed free oldest closed)
  · exact exec_modidLoad awake run (Device.modidLoad_reject muster ready _)
  · exact exec_modidLoad awake run (Device.modidLoad_takes ready lo free)
  · exact exec_lceWrite awake run (Device.lceWrite_range none_ _)
  · exact exec_lceWrite awake run (Device.lceWrite_takes some_ timers _)

end Sys2Proof.Machine
end

section
/-! PROOFS. Filters, comparators, stuck inputs, writes of the fast band and the insulation cycle (R147, R148, R151 to R153, R156).
-/

namespace Sys2Proof.Machine

/-! ### What settles reads nothing of BMI's own state (R35, R38, R247, R465) -/

/-- `d` with BMI's own state replaced. -/
def Device.setBmi (d : Device) (b : Bmi) : Device := { d with bmi := b }

namespace Device

variable (d : Device) (b : Bmi)

variable {d b} in
/-- A choice of which neither outcome reads BMI's own state. -/
theorem ite_setBmi {c : Prop} [Decidable c] {e d' e' : Device} (yes : d' = d.setBmi b) (no : e' = e.setBmi b) :
    (if c then d' else e') = (if c then d else e).setBmi b := by
  rw [yes, no, apply_ite (setBmi · b)]

/-- An update under a condition, neither of which reads BMI's own state. -/
theorem when_setBmi {c c' : Bool} {f : Device → Device} (same : c' = c) (h : f (d.setBmi b) = (f d).setBmi b) :
    (d.setBmi b).when_ c' f = (d.when_ c f).setBmi b := same ▸ ite_setBmi h rfl

theorem count16_setBmi (a : Nat) : (d.setBmi b).count16 a = (d.count16 a).setBmi b := ite_setBmi rfl (ite_setBmi rfl rfl)

theorem setLatch_setBmi : (d.setBmi b).setLatch = d.setLatch.setBmi b := ite_setBmi rfl rfl

theorem startShadow_setBmi (k : Nat) : (d.setBmi b).startShadow k = (d.startShadow k).setBmi b := when_setBmi d b rfl rfl

theorem joinDriver_setBmi (k : Nat) : (d.setBmi b).joinDriver k = (d.joinDriver k).setBmi b :=
  when_setBmi (f := (startShadow · k)) (d.put (CTD_DST_SS k) 1) b rfl (startShadow_setBmi _ b k)

theorem cutDriver_setBmi (k : Nat) : (d.setBmi b).cutDriver k = (d.cutDriver k).setBmi b := by
  have quench := count16_setBmi (((d.put (CTD_DST_SS k) 0).setDk k Driver.released).setDrvSt k .fastQuench) b (CTD_DQCNT k)
  rw [cutDriver_eq, cutDriver_eq]
  exact ite_setBmi rfl quench

theorem leavePhase_setBmi (k : Nat) : (d.setBmi b).leavePhase k = (d.leavePhase k).setBmi b := by
  unfold leavePhase
  dsimp only
  rw [when_setBmi d b rfl rfl, when_setBmi _ b rfl rfl, when_setBmi _ b rfl rfl]
  rfl

theorem endSequence_setBmi (k : Nat) : (d.setBmi b).endSequence k = (d.endSequence k).setBmi b := by
  rw [endSequence_eq, endSequence_eq, leavePhase_setBmi]
  exact ite_setBmi rfl (ite_setBmi rfl rfl)

theorem gateBank_setBmi (k : Nat) : (d.setBmi b).gateBank k = (d.gateBank k).setBmi b := by
  unfold gateBank
  simp only [joinDriver_setBmi, cutDriver_setBmi, endSequence_setBmi]
  exact ite_setBmi rfl rfl

theorem gateBanks_setBmi : (d.setBmi b).gateBanks = d.gateBanks.setBmi b := by
  simp only [gateBanks, gateBank_setBmi]

theorem gated_setBmi : (d.setBmi b).gated = d.gated.setBmi b := by
  have latched : (d.setBmi b).when_ ((d.setBmi b).mode == .tripped) setLatch = (d.when_ (d.mode == .tripped) setLatch).setBmi b :=
    ite_setBmi (d.setLatch_setBmi b) rfl
  unfold gated
  rw [latched, gateBanks_setBmi]
  exact ite_setBmi rfl rfl

theorem degrade_setBmi : (d.setBmi b).degrade = d.degrade.setBmi b := ite_setBmi (ite_setBmi rfl rfl) rfl

/-- Settling neither reads nor changes BMI's own state. -/
theorem settle_setBmi : (d.setBmi b).settle = d.settle.setBmi b := by
  rw [settle_eq, settle_eq, gated_setBmi, degrade_setBmi]

end Device

/-! ### Filter outputs (R147, R148, R152) -/

/-- The device once the physical value of a main filter output is in BMI_LSMP. -/
def Device.stored (d : Device) (i num : Nat) : Device := d.put (BMI_LSMP_X i) (d.physical i (rawValue num (d.osr i ^ 3)))

section

variable {d : Device} {i num : Nat}

theorem Device.mainOutput_stopped (stopped : d.on BMI_CTL_CLKEN = false) : d.mainOutput i num = d := if_pos (by simp [stopped])

theorem Device.fastOutput_stopped (stopped : d.on BMI_CTL_CLKEN = false) : d.fastOutput i num = d := if_pos (by simp [stopped])

variable (clocked : d.on BMI_CTL_CLKEN = true) (enabled : d.on (BMI_ICFG_EN i) = true)
include clocked enabled

/-- An output of a sound input in range, which measures no bank current, is stored with its timestamp. -/
theorem Device.mainOutput_stores (unclipped : (rawValue num (d.osr i ^ 3)).natAbs ≤ 26214) (sound : d.on (BMI_IST_STUCK i) = false)
    (noCurrent : d.get (BMI_ICFG_FUNC i) ≠ 1) : d.mainOutput i num =
      (d.stored i num).setBmi { d.bmi with stamp := d.bmi.stamp.setIfInBounds i ((d.stored i num).stampNow i) } := by
  have func : (d.stored i num).get (BMI_ICFG_FUNC i) ≠ 1 := by
    rwa [Device.stored, Device.get_put_addr _ _ (by simp [BMI_ICFG, BMI_LSMP])]
  have clip : (d.when_ (decide (26214 < (rawValue num (d.osr i ^ 3)).natAbs)) fun d => d.up (BMI_IST_CLIP i)) = d :=
    if_neg (by simpa using unclipped)
  unfold Device.mainOutput
  simp only [clip]
  rw [if_neg (by simp [clocked, enabled]), if_neg (by simp [sound])]
  exact if_neg func

/-- A fast output inside its band, of a comparator that has not tripped, restarts the count of outputs beyond it. -/
theorem Device.fastOutput_within (fast : d.on (BMI_FCFG_FEN i) = true) (quiet : (d.bmi.comp[i]?).getD false = false)
    (above : d.gets (BMI_FCMP_LO i) ≤ rawValue num 4096) (below : rawValue num 4096 ≤ d.gets (BMI_FCMP_HI i)) :
    d.fastOutput i num = d.setBmi { d.bmi with
      fastOut := d.bmi.fastOut.setIfInBounds i 0
      fastIn := d.bmi.fastIn.setIfInBounds i (min (d.get (BMI_FCFG_FCNT i) + 1) ((d.bmi.fastIn[i]?).getD 0 + 1))
      comp := d.bmi.comp.setIfInBounds i false } := by
  have within : (decide (d.gets (BMI_FCMP_HI i) < rawValue num 4096) ||
      decide (rawValue num 4096 < d.gets (BMI_FCMP_LO i))) = false := by
    simp [above, below]
  have untripped : (0 == d.get (BMI_FCFG_FCNT i) + 1) = false := by simp
  unfold Device.fastOutput
  rw [if_neg (by simp [clocked, enabled, fast])]
  simp only [within, quiet, untripped, Bool.false_eq_true, if_false]
  rfl

end

/-! ### Writes of the fast band (R153) -/

theorem Device.fcmpWrite_widens {d : Device} {i hi : Nat} (other : d.mode ≠ .ready) (wider : d.gets (BMI_FCMP_HI i) < signed 16 hi)
    (lo : Nat) : d.fcmpWrite i lo hi = d.st uBMI .reject := if_pos (by simp [wider, other])

theorem Device.fcmpWrite_ready {d : Device} (ready : d.mode = .ready) (i lo hi : Nat) :
    d.fcmpWrite i lo hi = ((d.put (BMI_FCMP_LO i) lo).put (BMI_FCMP_HI i) hi).st uBMI .ok := if_neg (by simp [ready])

/-! ### The insulation cycle (R156) -/

section

variable {d : Device} {b : Nat}

theorem Device.imdTimer_idle (idle : (d.im b).phase = .idle) (m : ImdMeans) : d.imdTimer b m = d := by
  simp only [Device.imdTimer, idle]

theorem Device.imdTimer_gapP (gap : (d.im b).phase = .gapP) (m : ImdMeans) :
    d.imdTimer b m = (d.put (BMI_IMDS_PH b) 1).setIm b fun v => { v with phase := .n } := by
  simp only [Device.imdTimer, gap]

theorem Device.imdTimer_p (high : (d.im b).phase = .p) (m : ImdMeans) :
    d.imdTimer b m = d.setIm b fun v => { v with
      phase := .gapP, aP := m.aLast, uP := m.uLast, okP := decide (100 * (m.aLast - m.aPrev).natAbs ≤ m.uLast.natAbs) } := by
  simp only [Device.imdTimer, high]

end

/-! ### What the instructions answer -/

section

variable {s : State} (awake : s.dev.awake = true) {e : Device}
include awake

theorem exec_bmiFilterOutput {i : Fin 16} {n : Nat} (h : s.dev.mainOutput i.val n = e) :
    exec (.bmiFilterOutput i n) s = .next (s.after e) := by
  show execBmiFilterOutput i n s = _
  exact onCtl_awake awake h

theorem exec_fastFilterOutput {i : Fin 16} {n : Nat} (h : s.dev.fastOutput i.val n = e) :
    exec (.fastFilterOutput i n) s = .next (s.after e) := by
  show execFastFilterOutput i n s = _
  exact onCtl_awake awake h

theorem exec_stuckTimeout {i : Fin 16} (h : s.dev.stuck i.val = e) : exec (.stuckTimeout i) s = .next (s.after e) := by
  show execStuckTimeout i s = _
  exact onCtl_awake awake h

theorem exec_fastBandWrite {i : Fin 16} {lo hi : Half} (run : s.dev.sys.appHeld = false)
    (h : s.dev.fcmpWrite i.val lo.toNat hi.toNat = e) : exec (.fastBandWrite i lo hi) s = .next (s.after e) := by
  show execFastBandWrite i lo hi s = _
  exact onCtl_released awake run h

theorem exec_imdPhaseTimer {b : Fin 4} {m : ImdMeans} (h : s.dev.imdTimer b.val m = e) :
    exec (.imdPhaseTimer b m) s = .next (s.after e) := by
  show execImdPhaseTimer b m s = _
  exact onCtl_awake awake h

end

/-- Settles O13: each event is one case of its operation; a sample stands through what settles, and a fast output inside its band
leaves every register to what settles. -/
theorem bankMeasurement : Obligations.BankMeasurement := by
  intro s awake
  refine ⟨fun i n stopped => ⟨?_, ?_⟩, fun i n clocked enabled unclipped sound noCurrent => ?_,
    fun i n clocked enabled fast quiet above below => ?_, fun i enabled => ?_, fun i off => ?_, fun i lo hi run other wider => ?_,
    fun i lo hi run ready => ?_, fun b m idle => ?_, fun b m gap => ?_, fun b m high => ?_⟩
  · exact exec_bmiFilterOutput awake (Device.mainOutput_stopped stopped)
  · exact exec_fastFilterOutput awake (Device.fastOutput_stopped stopped)
  · refine ⟨_, exec_bmiFilterOutput awake (Device.mainOutput_stores clocked enabled unclipped sound noCurrent), ?_⟩
    have lsmp : 0x60110000 ≤ BMI_LSMP i.val ∧ BMI_LSMP i.val < 0x60120000 := by dsimp only [BMI_LSMP]; omega
    exact Device.settle_rget _ (by unfold SYS_MODE; omega) (by unfold SYS_EVT; omega) (by unfold REF_ST; omega) (by omega)
  · refine ⟨_, exec_fastFilterOutput awake (Device.fastOutput_within clocked enabled fast quiet above below), ?_⟩
    rw [(s.after_fields _).2, Device.settle_setBmi]
    exact ⟨rfl, rfl⟩
  · exact exec_stuckTimeout awake (if_pos enabled)
  · exact exec_stuckTimeout awake (if_neg (by simp [off]))
  · exact exec_fastBandWrite awake run (Device.fcmpWrite_widens other wider _)
  · exact exec_fastBandWrite awake run (Device.fcmpWrite_ready ready _ _ _)
  · exact exec_imdPhaseTimer awake (Device.imdTimer_idle idle m)
  · exact exec_imdPhaseTimer awake (Device.imdTimer_gapP gap m)
  · exact exec_imdPhaseTimer awake (Device.imdTimer_p high m)

end Sys2Proof.Machine
end

section
/-! PROOFS. Kernel loads, NVM requests, rows and the journal scan (R170, R339, R434, R435). -/

namespace Sys2Proof.Machine

/-! ### Kernel loads (R170) -/

section

variable {d : Device} {k gen : Nat}

theorem Device.kernelLoad_reset (old : gen ≠ d.gen uSCRl) : d.kernelLoad k gen = d.st uSCRl .reset := if_pos old

theorem Device.kernelLoad_busy (now : gen = d.gen uSCRl) (loads : d.scr.load.isSome = true) :
    d.kernelLoad k gen = d.st uSCRl .busy := by
  simp only [Device.kernelLoad, now, loads, ne_eq, not_true_eq_false, if_false, if_true]

/-- A load begins into a slot that is neither selected nor in use, from memory that holds images. -/
theorem Device.kernelLoad_begins (now : gen = d.gen uSCRl) (free : d.scr.load = none) (noSweep : d.scr.sweep = none)
    (noJob : d.scr.job = none) (other : k ≠ d.get SCR_KSEL_SLOT) (source : imageSource (d.get SCR_KSRC_ADDR) = true) :
    d.kernelLoad k gen =
      (({ d with scr := { d.scr with load := some ⟨k, d.get SCR_KSRC_ADDR, gen, d.rgen 0, false⟩ } }.put SCR_KLST_BUSY 1).st
        uSCRl .ok) := by
  simp [Device.kernelLoad, ← now, free, noSweep, noJob, other, source]

/-- A load of an image ends with SEC's judgement of it, and RANGE for an image in order whose length or bound is not. -/
theorem Device.kernelLoadDone_judges {l : KLoad} (loads : d.scr.load = some l) (image : l.rom = false) {rd : Nat → Byte}
    (bytes : (fun i => memGet d.mem (l.src + i)) = rd) : d.kernelLoadDone =
      if d.judgeImage rd 2 = .ok ∧ kernelOk rd = true then (d.installKernel l.slot rd).kernelLoadEnd l .ok
      else (d.invalidate l.slot).kernelLoadEnd l (if d.judgeImage rd 2 = .ok then .range else d.judgeImage rd 2) := by
  subst bytes
  simp only [Device.kernelLoadDone, loads, image, Bool.false_eq_true, if_false]
  generalize d.judgeImage (fun i => memGet d.mem (l.src + i)) 2 = judged
  cases judged <;> simp

end

/-! ### NVM requests (R434, R435) -/

section

variable {d : Device} {app : Bool} {gen : Nat}

theorem Device.nvmGo_reset (old : gen ≠ d.gen uNVC) : d.nvmGo app gen = d.st uNVC .reset := if_pos old

/-- A request of one row from the first row of SRAM is queued: an append with the journal ready, a write to a row that may be
written. -/
theorem Device.nvmGo_queues (now : gen = d.gen uNVC) (room : d.nvc.queue.length < 16) (ready : app = true → d.on NVC_ST_JRDY = true)
    (one : d.get NVC_CNT_CNT = 1) (source : d.get NVC_SRC_ADDR = 0x20000000)
    (writable : app = false → d.rowWritable (d.get NVC_DST_ROW) = true) : d.nvmGo app gen =
      (d.queueNvm ⟨if app then .append else .write (d.get NVC_DST_ROW), 0x20000000, 1, gen, d.rgen 0, false⟩).st uNVC .ok := by
  have accepted : ¬ (16 ≤ d.nvc.queue.length ∨ (app ∧ ¬ d.on NVC_ST_JRDY)) := by
    rintro (full | ⟨append, waits⟩)
    · omega
    · exact waits (ready append)
  have allowed : (!app && !((List.range 1).all fun i => d.rowWritable (d.get NVC_DST_ROW + i))) = false := by
    cases app <;> simp_all
  simp only [Device.nvmGo, now, one, source, allowed, ne_eq, not_true_eq_false, if_false, if_neg accepted, Bool.false_eq_true]
  rfl

/-! ### Rows (R339, R434) -/

theorem Device.nvmStart_starts {q : NvmReq} {rest : List NvmReq} (free : d.nvc.row = none) (front : d.nvc.queue = q :: rest)
    (inside : d.nvmTempOk q.temp = true) :
    d.nvmStart = (d.setNvc fun n => { n with row := some (d.nvmRow q) }).put NVC_ST_BUSY 1 := by
  simp only [Device.nvmStart, free, front, inside, if_true]

/-- Completing a row leaves NVC's queue, and what is to become of the row's requester and of NVC. -/
theorem Device.finishRow_leaves (d : Device) : d.finishRow.nvc.queue = d.nvc.queue ∧ d.finishRow.nvc.orphan = d.nvc.orphan ∧
    d.finishRow.nvc.resetDue = d.nvc.resetDue := by
  unfold Device.finishRow
  split <;> exact ⟨rfl, rfl, rfl⟩

theorem Device.nvmRowDone_advances {q : NvmReq} {rest : List NvmReq} {row : Nat × List Byte} (written : d.nvc.row = some row)
    (front : d.nvc.queue = q :: rest) (owned : d.nvc.orphan = false) (noReset : d.nvc.resetDue = none) :
    d.nvmRowDone = (d.finishRow.put NVC_ST_BUSY 0).nvmAdvance q rest := by
  simp [Device.nvmRowDone, Device.finishRow_leaves, written, front, owned, noReset]

/-! ### The journal scan (R435) -/

theorem Device.journalScan_ready (ready : d.on NVC_ST_JRDY = true) : d.journalScan = d := if_pos ready

/-- With no committed row the journal begins at its first row. -/
theorem Device.journalScan_empty (scans : d.on NVC_ST_JRDY = false) (none_ : d.journal = []) :
    d.journalScan = ((d.put NVC_JHEAD_ROW 65536).setNvc fun n => { n with seq := 0 }).put NVC_ST_JRDY 1 := by
  simp [Device.journalScan, scans, none_]

end

/-! ### What the commands answer -/

/-- A command of the bus acts while the die and the application domain run (R46). -/
theorem onBus_released {s : State} (awake : s.dev.awake = true) (run : s.dev.sys.appHeld = false) {f : Device → Device} {e : Device}
    (h : f s.dev = e) : onBus s f = .next (s.after e) := onCtl_released awake run h

section

variable {s : State} (awake : s.dev.awake = true) {e : Device}
include awake

theorem exec_nvmRowStart (h : s.dev.nvmStart = e) : exec .nvmRowStart s = .next (s.after e) := by
  show execNvmRowStart s = _
  exact onCtl_awake awake h

theorem exec_journalScanDone (h : s.dev.journalScan = e) : exec .journalScanDone s = .next (s.after e) := by
  show execJournalScanDone s = _
  exact onCtl_awake awake h

variable (run : s.dev.sys.appHeld = false)
include run

theorem exec_kernelLoad {k : Fin 8} {g : Byte} (h : s.dev.kernelLoad k.val g.toNat = e) :
    exec (.kernelLoad k g) s = .next (s.after e) := by
  show execKernelLoad k g s = _
  exact onBus_released awake run h

theorem exec_kernelLoadDone (h : s.dev.kernelLoadDone = e) : exec .kernelLoadDone s = .next (s.after e) := by
  show execKernelLoadDone s = _
  exact onCtl_released awake run h

theorem exec_nvmWrite {g : Byte} (h : s.dev.nvmGo false g.toNat = e) : exec (.nvmWrite g) s = .next (s.after e) := by
  show execNvmWrite g s = _
  exact onBus_released awake run h

theorem exec_nvmAppend {g : Byte} (h : s.dev.nvmGo true g.toNat = e) : exec (.nvmAppend g) s = .next (s.after e) := by
  show execNvmAppend g s = _
  exact onBus_released awake run h

end

/-- Settles O7: each command is one case of its operation. -/
theorem kernelAndNvmRequests : Obligations.KernelAndNvmRequests := by
  intro s awake run
  refine ⟨fun k g old => ?_, fun k g now loads => ?_, fun k g now free noSweep noJob other source => ?_,
    fun l loads image => ?_, fun g old => ⟨?_, ?_⟩, fun g now room one source writable => ?_,
    fun g now room ready one source => ?_, fun q rest free front inside => ?_,
    fun q rest r written front owned noReset => ?_, fun ready => ?_, fun scans none_ => ?_⟩
  · exact exec_kernelLoad awake run (Device.kernelLoad_reset old)
  · exact exec_kernelLoad awake run (Device.kernelLoad_busy now loads)
  · exact exec_kernelLoad awake run (Device.kernelLoad_begins now free noSweep noJob other source)
  · intro rd
    exact exec_kernelLoadDone awake run (Device.kernelLoadDone_judges loads image rfl)
  · exact exec_nvmWrite awake run (Device.nvmGo_reset old)
  · exact exec_nvmAppend awake run (Device.nvmGo_reset old)
  · exact exec_nvmWrite awake run (Device.nvmGo_queues now room (by simp) one source fun _ => writable)
  · exact exec_nvmAppend awake run (Device.nvmGo_queues now room (fun _ => ready) one source (by simp))
  · exact exec_nvmRowStart awake (Device.nvmStart_starts free front inside)
  · show execNvmRowDone s = _
    exact onDev_next (Device.nvmRowDone_advances written front owned noReset)
  · exact exec_journalScanDone awake (Device.journalScan_ready ready)
  · exact exec_journalScanDone awake (Device.journalScan_empty scans none_)

end Sys2Proof.Machine
end

section
/-! PROOFS. Instructions of Islor-S in a lane that executes them (R172, R176, R289 to R294). -/

namespace Sys2Proof.Machine

/-! ### Row slots (R291) -/

theorem Lane.kv_eq (v : Lane) {n : Nat} (h : n < 16) : v.kv n = v.k[n] := by simp [Lane.kv, h]

/-- Storing into a slot that exists. -/
theorem setSlot_eq (k : Vector Word 16) {n : Nat} (h : n < 16) (w : Word) : k.setIfInBounds n w = k.set n w h := by
  ext i hi
  simp [Vector.getElem_set, Vector.getElem_setIfInBounds]

theorem low32_eq (a : DWord) : low32 a = a.extractLsb' 0 32 := BitVec.setWidth_eq_extractLsb' (by omega)

/-- The high half of a slot, zero-extended. -/
theorem highHalf_setWidth (x : Word) : (x >>> 16).setWidth 64 = (x.extractLsb' 16 16).setWidth 64 := by
  have hx := x.isLt
  apply BitVec.eq_of_toNat_eq
  simp only [BitVec.toNat_setWidth, BitVec.toNat_ushiftRight, BitVec.extractLsb'_toNat, Nat.shiftRight_eq_div_pow]
  omega

/-! ### What a lane that is ready does with a word -/

/-- Two effects that agree on the lane as it stands make the same answer. -/
theorem next_setLane_congr (s : State) (l : Nat) {f f' : Lane → Lane} (h : f (s.dev.lane l) = f' (s.dev.lane l)) :
    (.next (s.after (s.dev.setLane l f)) : Host.Outcome State Fault Refusal) = .next (s.after (s.dev.setLane l f')) := by
  rw [Device.setLane_congr _ _ h]

/-- The passes of a LOOPN: MAX, or as many of them as a signed register asks for (R293). -/
def Lane.loopPasses (v : Lane) (rs : RegNo) (max : Fin 64) : Nat :=
  if rs.val = 0 then max.val + 1 else Min.min (max.val + 1) (gAt v.g rs).toInt.toNat

section

variable {s : State} {l : Fin 64} {g : Guard} (r : LaneReady s.dev l.val g)
include r

/-- A lane that executes under a guard also executes unguarded. -/
theorem LaneReady.unguarded : LaneReady s.dev l.val ⟨0, false⟩ :=
  { r with legal := fun _ => rfl, guarded := rfl }

/-- A word that Islor-S does not define aborts the lane. -/
theorem LaneReady.runLane_undefined (g' : Guard) {w : Word} (hw : islorDefined true w = false) (bad : Lane → Nat → Bool)
    (body : Device → Lane → Lane) : s.dev.runLane l.val g' w bad body = s.dev.laneAbort l.val := by
  obtain ⟨slot, job, running, -⟩ := r.running
  obtain ⟨row, hrow⟩ := Option.isSome_iff_exists.mp r.row
  simp [Device.runLane, hrow, running, r.going, r.whole, hw]

/-- An instruction of Islor-S that goes on to the next one completes with its effect `f` in `n` cycles. -/
theorem laneOp_completes {w : Word} (hw : islorDefined true w = true) {n : Nat} (hn : laneCycles w = n)
    {body : Device → Lane → Lane} {f : Lane → Lane}
    (hf : body s.dev ((s.dev.lane l.val).begun n) = (f ((s.dev.lane l.val).begun n)).next) :
    laneOp ⟨.lane l, g⟩ w (fun _ _ => false) body s = .next (s.after (s.dev.laneDone l.val n f)) := by
  obtain ⟨slot, job, running, -⟩ := r.running
  subst hn
  exact (laneOp_ready r hw running rfl body).trans (next_setLane_congr s _ hf)

/-! ### Slots, lookup, the publish queue and the end (R291, R292, R294) -/

theorem kldOp_completes {fn : Nat} (hfn : fn ≤ 6) (rd : RegNo) (k : Fin 16) (pair : fn = 6 → k.val % 2 = 0)
    {f f' : Lane → DWord} (hf : ∀ v, f v = f' v) : kldOp ⟨.lane l, g⟩ fn rd k f s =
      .next (s.after (s.dev.laneDone l.val 1 fun v => { v with g := gSet v.g rd (f' v) })) := by
  have hk : k.val < 32 := by omega
  have defined := islorDefined_encR true r.legal 0x28 rd ⟨k.val, hk⟩ 0 fn (by simp; omega) (by omega) (by omega)
  refine laneOp_completes r defined (laneCycles_encR rd ⟨k.val, hk⟩ 0 fn (by omega) (by omega)) ?_
  rw [hf]

theorem kstOp_completes {fn : Nat} (hfn : fn ≤ 3) (k : Fin 16) (rs1 : RegNo) (pair : fn = 3 → k.val % 2 = 0)
    {f : Lane → DWord → Vector Word 16} {f' : Lane → Vector Word 16} (hf : ∀ v, f v (gAt v.g rs1) = f' v) :
    kstOp ⟨.lane l, g⟩ fn k rs1 f s =
      .next (s.after (s.dev.laneDone l.val 1 fun v => { v with k := f' v })) := by
  have hk : k.val < 32 := by omega
  have defined := islorDefined_encR true r.legal 0x29 ⟨k.val, hk⟩ rs1 0 fn (by simp; omega) (by omega) (by omega)
  refine laneOp_completes r defined (laneCycles_encR ⟨k.val, hk⟩ rs1 0 fn (by omega) (by omega)) ?_
  rw [hf]

theorem execLut_completes (rd rs1 : RegNo) (t : Fin 64) : execLut ⟨.lane l, g⟩ rd rs1 t s =
    .next (s.after (s.dev.laneDone l.val 2 fun v =>
      { v with g := gSet v.g rd (BitVec.ofInt 64 (s.dev.lut t.val ((gAt v.g rs1).extractLsb' 0 32).toInt)) })) := by
  have defined := islorDefined_encI true r.legal 0x2A rd.val rs1.val t.val (by simp) (by omega) rd.isLt rs1.isLt (by omega)
  refine laneOp_completes r defined (laneCycles_encI (by omega) rd.isLt rs1.isLt (by omega) (by omega) (by omega)) ?_
  simp only [low32_eq]

/-- PUBQ queues an entry, and notes the fifth one (R176). -/
theorem execPubq_offers (q : BitVec 2) (rs1 : RegNo) : execPubq ⟨.lane l, g⟩ q rs1 s =
    .next (s.after (s.dev.laneDone l.val 1 fun v =>
      if v.queue.length < 4 then { v with queue := v.queue ++ [⟨q.toNat, (gAt v.g rs1).extractLsb' 0 32⟩] }
      else { v with badq := true })) := by
  have hq := q.isLt
  have defined := islorDefined_encR true r.legal 0x2B 0 rs1 0 q.toNat (by simp; omega) (by omega) (by omega)
  refine laneOp_completes r defined (laneCycles_encR 0 rs1 0 q.toNat (by omega) (by omega)) ?_
  rw [low32_eq]

theorem execEnd_ends : execEnd ⟨.lane l, g⟩ s =
    .next (s.after (s.dev.setLane l.val fun v => { v.begun 1 with ended := true })) := by
  obtain ⟨slot, job, running, -⟩ := r.running
  have defined := islorDefined_encR true r.legal 0x25 0 0 0 0x10 rfl (by omega) (by omega)
  have cycles : laneCycles (encR g 0x25 0 0 0 0x10) = 1 := laneCycles_encR 0 0 0 0x10 (by omega) (by omega)
  rw [← cycles]
  exact laneOp_ready r defined running rfl _

/-! ### Control registers and illegal words (R289, R290) -/

theorem execCsrr_reads (rd : RegNo) (c : Fin 64) : execCsrr ⟨.lane l, g⟩ rd c s =
    .next (s.after (s.dev.laneDone l.val 1 fun v => { v with g := gSet v.g rd ((v.c[c.val]?).getD 0#64) })) := by
  obtain ⟨slot, job, running, -⟩ := r.running
  have defined := islorDefined_encI true r.legal 0x24 rd.val 0 c.val (by simp [csrOk]; omega) (by omega) rd.isLt (by omega) (by omega)
  have cycles : laneCycles (encI g 0x24 rd.val 0 c.val) = 1 :=
    laneCycles_encI (by omega) rd.isLt (by omega) (by omega) (by omega) (by omega)
  rw [← cycles]
  exact onCtl_awake r.awake (Device.runLane_ready r defined running rfl _)

theorem execIllegalInstruction_aborts {w : Word} (hw : islorDefined true w = false) :
    execIllegalInstruction (.lane l) w s = .next (s.after (s.dev.laneAbort l.val)) :=
  onCtl_awake r.awake ((if_neg (by simp [hw])).trans (r.runLane_undefined _ hw _ _))

/-! ### Branches and the bounded loop (R290, R293) -/

variable {slot : Nat} {job : Bool} (running : s.dev.runningSlot = some (slot, job))
include running

/-- A branch that goes forward and stays in the kernel is taken. -/
theorem execBr_forward {off : BitVec 22} (forward : 1 ≤ off.toInt)
    (inside : (s.dev.lane l.val).pc + off.toNat < s.dev.get (SCR_KINFO_LEN slot)) :
    execBr ⟨.lane l, g⟩ off s =
      .next (s.after (s.dev.setLane l.val fun v => (v.begun 1).goTo (v.pc + off.toNat))) := by
  obtain ⟨-, -, op⟩ := fieldOf_encB g (show 0x18 < 64 by omega) off
  have cycles : laneCycles (encB g 0x18 off) = 1 := by simp [laneCycles, op]
  have kept : (decide (off.toInt < 1) ||
      decide (s.dev.get (SCR_KINFO_LEN slot) ≤ (s.dev.lane l.val).pc + off.toNat)) = false := by
    simp only [Bool.or_eq_false_iff, decide_eq_false_iff_not]; omega
  rw [← cycles]
  exact onCtl_awake r.awake (Device.runLane_ready r (islorDefined_encB true r.legal off).1 running kept _)

/-- A LOOPN that is no inner loop and whose body lies in the kernel skips the body for no pass, and else begins its first. -/
theorem execLoopn_loops {rs : RegNo} {max : Fin 64} {len : Fin 512} (outer : (s.dev.lane l.val).loop = none)
    (inside : (s.dev.lane l.val).pc + 1 + (len.val + 1) ≤ s.dev.get (SCR_KINFO_LEN slot)) :
    execLoopn ⟨.lane l, g⟩ rs max len s = .next (s.after (s.dev.setLane l.val fun v =>
      if v.loopPasses rs max = 0 then { v.begun 1 with pc := v.pc + 1 + (len.val + 1) }
      else { v.begun 1 with pc := v.pc + 1, loop := some ⟨v.pc + 1, v.pc + (len.val + 1), v.loopPasses rs max - 1⟩ })) := by
  obtain ⟨-, -, op, -⟩ := fieldOf_encL g (show 0x1B < 64 by omega) rs.isLt max.isLt len.isLt
  have cycles : laneCycles (encL g 0x1B rs.val max.val len.val) = 1 := by simp [laneCycles, op]
  have kept : ((s.dev.lane l.val).loop.isSome ||
      decide (s.dev.get (SCR_KINFO_LEN slot) < (s.dev.lane l.val).pc + 1 + (len.val + 1))) = false := by
    simp only [outer, Option.isSome_none, Bool.false_or, decide_eq_false_iff_not]; omega
  refine onCtl_awake r.awake ((Device.runLane_ready r.unguarded (islorDefined_encL r.legal rs max len) running kept _).trans
    (Device.setLane_congr _ _ ?_))
  have guarded : guardHolds g ((s.dev.lane l.val).begun 1).p = true := r.guarded
  simp only [cycles, guarded, Bool.not_true, Bool.false_eq_true, if_false]
  rfl

end

/-- Settles O41: the instructions on slots are uses of `kldOp_completes` and `kstOp_completes`; each other one has its lemma. -/
theorem laneInstructions : Obligations.LaneInstructions := by
  refine ⟨fun s => ⟨fun l g off slot job r running forward inside => execBr_forward r running forward inside,
    fun l g rs max len slot job r running outer inside => ?_⟩, fun s l g rd rs1 k r => ?_⟩
  · have loops := execLoopn_loops r running outer inside (rs := rs) (max := max)
    intro n
    exact ⟨fun zero => loops.trans (next_setLane_congr s _ (if_pos zero)),
      fun some_ => loops.trans (next_setLane_congr s _ (if_neg some_))⟩
  intro x loads stores
  have slot (v : Lane) := v.kv_eq k.isLt
  have lowSlot (w : Word) : w.setWidth 16 = w.extractLsb' 0 16 := BitVec.setWidth_eq_extractLsb' (by omega)
  have lowReg (a : DWord) : a.setWidth 16 = a.extractLsb' 0 16 := BitVec.setWidth_eq_extractLsb' (by omega)
  refine ⟨?_, ?_, ?_, ?_, ?_, ?_, fun hk even => ⟨?_, ?_⟩, ?_, ?_, ?_, fun t => execLut_completes r rd rs1 t,
    fun q room => ?_, fun q full => ?_, execEnd_ends r, fun c => execCsrr_reads r rd c,
    fun w hw => execIllegalInstruction_aborts r hw⟩
  · show execKldW x rd k s = _
    exact kldOp_completes r (by omega) rd k (by omega) fun v => by rw [slot]; rfl
  · show execKldWs x rd k s = _
    exact kldOp_completes r (by omega) rd k (by omega) fun v => by rw [slot]; rfl
  · show execKldL x rd k s = _
    exact kldOp_completes r (by omega) rd k (by omega) fun v => by rw [slot, lowSlot]; rfl
  · show execKldLs x rd k s = _
    exact kldOp_completes r (by omega) rd k (by omega) fun v => by rw [slot, lowSlot]; rfl
  · show execKldH x rd k s = _
    exact kldOp_completes r (by omega) rd k (by omega) fun v => by rw [slot, highHalf_setWidth]; rfl
  · show execKldHs x rd k s = _
    exact kldOp_completes r (by omega) rd k (by omega) fun v => by rw [slot, BitVec.setWidth_ushiftRight_eq_extractLsb]; rfl
  · show execKldD x rd k s = _
    exact kldOp_completes r (by omega) rd k (fun _ => even) fun v => by rw [slot, v.kv_eq hk]; rfl
  · show execKstD x k rs1 s = _
    exact kstOp_completes r (by omega) k rs1 (fun _ => even) fun v => by
      rw [setSlot_eq _ k.isLt, setSlot_eq _ hk, low32_eq (gAt _ _), low32, BitVec.setWidth_ushiftRight_eq_extractLsb]
  · show execKstW x k rs1 s = _
    exact kstOp_completes r (by omega) k rs1 (by omega) fun v => by rw [setSlot_eq _ k.isLt, low32_eq]
  · show execKstL x k rs1 s = _
    exact kstOp_completes r (by omega) k rs1 (by omega) fun v => by
      rw [setSlot_eq _ k.isLt, slot, BitVec.setWidth_ushiftRight_eq_extractLsb, lowReg]; rfl
  · show execKstH x k rs1 s = _
    exact kstOp_completes r (by omega) k rs1 (by omega) fun v => by
      rw [setSlot_eq _ k.isLt, slot, lowSlot, lowReg]; rfl
  · show execPubq x q rs1 s = _
    exact (execPubq_offers r q rs1).trans (next_setLane_congr s _ (congrArg Lane.next (if_pos room)))
  · show execPubq x q rs1 s = _
    exact (execPubq_offers r q rs1).trans (next_setLane_congr s _ (congrArg Lane.next (if_neg (Nat.not_lt.mpr full))))

end Sys2Proof.Machine
end

section
/-! PROOFS. The referee's deadlines, faults, arming and writes (R216, R217, R219, R227, R231, R233, R234, R237 to R240). -/

namespace Sys2Proof.Machine

/-! ### What the referee's registers read after a report and after settling -/

/-- Of REF's registers, settling reaches REF_ST only. -/
theorem Device.settle_get_ref (d : Device) {f : Fld} (lo : 0x60140000 ≤ f.addr) (hi : f.addr < 0x60150000) (st : f.addr ≠ REF_ST) :
    d.settle.get f = d.get f :=
  d.settle_get (by unfold SYS_MODE; omega) (by unfold SYS_EVT; omega) st (.inl hi)

theorem Device.settle_st_last (d : Device) (x : Status) : (d.st uREF x).settle.get (lastFld uREF) = x.code :=
  (Device.settle_get_ref _ (by decide) (by decide) (by decide)).trans (d.get_st_last uREF x)

theorem Device.follower_st (d : Device) (x : Status) : (d.st uREF x).follower = d.follower := by
  have role : (d.st uREF x).get PRL_ST_ROLE = d.get PRL_ST_ROLE := d.get_put_apart _ (by decide)
  simp only [Device.follower, role]

/-- REF_TST holds what was last reported (R239). -/
theorem Device.tst_reports (d : Device) (x : Status) {why : Nat} (small : why < 8) (gen : Nat) :
    (d.tst x why gen).get REF_TST_ST = x.code ∧ (d.tst x why gen).get REF_TST_WHY = why := by
  constructor
  · refine (Device.get_put_apart _ _ (by decide)).trans ((Device.get_put_apart _ _ (by decide)).trans ?_)
    rw [Device.get_put_same _ _ (by decide)]
    cases x <;> rfl
  · refine (Device.get_put_apart _ _ (by decide)).trans ?_
    rw [Device.get_put_same _ _ (by decide)]
    exact Nat.mod_eq_of_lt small

/-- A pen hold stands when a status is reported, and through what settles. -/
theorem Device.penHeld_settle_st (d : Device) (x : Status) (t : Fin 512) :
    (d.st uREF x).settle.penHeld t.val = d.penHeld t.val := by
  have addr : (penFld t.val).addr = 0x60140080 + 4 * (t.val / 32) := rfl
  have pen : (d.st uREF x).settle.get (penFld t.val) = d.get (penFld t.val) :=
    (Device.settle_get_ref _ (by omega) (by omega) (by unfold REF_ST; omega)).trans
      (d.get_put_addr _ (by show _ ≠ 0x60140004; omega))
  rw [Device.penHeld, Device.on, pen]
  rfl

/-! ### The heartbeat (R217) -/

/-- Entry into TRIPPED sets the trip latch (R38). -/
theorem Device.enter_tripped_latch (d : Device) : (d.enter .tripped).fd.tripLatch = true := by
  have lceExit_fd (e : Device) : e.lceExit.fd = e.fd := by
    unfold Device.lceExit
    split <;> rfl
  by_cases same : d.mode = .tripped
  · rw [Device.enter, if_pos same]
    exact d.setLatch_sets
  · rw [Device.enter_other same]
    exact (congrArg FieldDie.tripLatch (lceExit_fd _)).trans (Device.setLatch_sets _)

/-- The device when a channel's heartbeat has stopped, before any change of mode: one more channel failed, the cause and the trip
latch set, TRIP_N asserted. -/
def Device.heartbeatLost (d : Device) : Device :=
  (({ d.channelFails with fd := { d.channelFails.fd with hbCause := true } } : Device).put REF_ST_TRIPO 1).setLatch

theorem Device.heartbeatLost_mode (d : Device) : d.heartbeatLost.mode = d.mode := by
  have failed : d.SysStands SYS_MODE_MODE { d.channelFails with fd := { d.channelFails.fd with hbCause := true } } :=
    (SysStands.refl ofSys_mode d).same rfl
  exact (failed.far (g := REF_ST_TRIPO) (by decide)).setLatch.mode

theorem Device.heartbeatLost_cause (d : Device) : d.heartbeatLost.fd.hbCause = true := by
  unfold Device.heartbeatLost Device.setLatch
  split <;> rfl

/-- A change of mode leaves the heartbeat cause. -/
theorem Device.enter_cause (d : Device) (m : Mode) : (d.enter m).fd.hbCause = d.fd.hbCause := by
  rw [((Device.Stands.refl (R := fun _ => false) d).enter m fun _ _ => rfl).fd]

/-- What HEARTBEAT_TIMEOUT makes of a device. -/
def Device.heartbeatStop (d : Device) : Device :=
  if d.heartbeatLost.mode.live then d.heartbeatLost.enter .tripped else d.heartbeatLost

theorem Device.heartbeatStop_sets (d : Device) :
    d.heartbeatStop.fd.hbCause = true ∧ d.heartbeatStop.fd.tripLatch = true := by
  unfold Device.heartbeatStop
  split
  · exact ⟨(Device.enter_cause _ _).trans d.heartbeatLost_cause, Device.enter_tripped_latch _⟩
  · exact ⟨d.heartbeatLost_cause, Device.setLatch_sets _⟩

theorem Device.heartbeatStop_trips {d : Device} (live : d.mode.live = true) : d.heartbeatStop.mode = .tripped := by
  rw [Device.heartbeatStop, if_pos (by rw [d.heartbeatLost_mode, live])]
  exact Device.mode_enter _ _

theorem exec_heartbeatTimeout (s : State) : exec .heartbeatTimeout s = .next (s.after s.dev.heartbeatStop) := rfl

/-! ### TRIP_N and arming (R237, R238) -/

/-- The device when TRIP_N was sensed low, before its class is raised. -/
def Device.tripNLow (d : Device) : Device :=
  { d.put REF_ST_TRIPI 1 with ref := { d.ref with lowAt := some d.now } }

theorem Device.tripNLow_mode (d : Device) : d.tripNLow.mode = d.mode :=
  congrArg Mode.ofCode (d.get_put_apart 1 (f := SYS_MODE_MODE) (g := REF_ST_TRIPI) (by decide))

/-- TRIP_N low raises class 15 in the live modes, unless this device drives it. -/
theorem exec_tripNSensed {s : State} (awake : s.dev.awake = true) : exec .tripNSensed s = .next (s.after
    (if s.dev.on REF_ST_TRIPO then s.dev else if s.dev.mode.live then s.dev.tripNLow.raiseAll 15 else s.dev.tripNLow)) := by
  show execTripNSensed s = _
  refine onCtl_awake awake ?_
  rw [← s.dev.tripNLow_mode]
  rfl

/-- A write of REF_CTL that arms or disarms is taken in MUSTER and READY only. -/
theorem Device.armWrite_either (d : Device) (arm : Bool) : d.armWrite arm (!arm) =
    if d.mode = .muster ∨ d.mode = .ready then
      ({ d.putB REF_CTL_ARM arm with ref := { d.ref with armDue := some arm } } : Device).st uREF .ok
    else d.st uREF .reject := by
  cases arm <;> rfl

section

variable {s : State} (awake : s.dev.awake = true) (run : s.dev.sys.appHeld = false) {e : Device}
include awake run

theorem exec_arm (h : s.dev.armWrite true false = e) : exec .arm s = .next (s.after e) := by
  show execArm s = _
  exact onCtl_released awake run h

theorem exec_disarm (h : s.dev.armWrite false true = e) : exec .disarm s = .next (s.after e) := by
  show execDisarm s = _
  exact onCtl_released awake run h

theorem exec_tableCompareWrite {g : Byte} (h : s.dev.compareWrite g.toNat = e) :
    exec (.tableCompareWrite g) s = .next (s.after e) := by
  show execTableCompareWrite g s = _
  exact onCtl_released awake run h

theorem exec_loosenKey {key : Word} (h : s.dev.loosenKey key = e) : exec (.loosenKey key) s = .next (s.after e) := by
  show execLoosenKey key s = _
  exact onCtl_released awake run h

theorem exec_penRelease {x : Fin 512} {all : Bool} (h : s.dev.writePenclr x all = e) :
    exec (.penRelease x all) s = .next (s.after e) := by
  show execPenRelease x all s = _
  exact onCtl_released awake run h

theorem exec_bankRelease {b : Fin 4} (h : s.dev.writeBclr b.val = e) : exec (.bankRelease b) s = .next (s.after e) := by
  show execBankRelease b s = _
  exact onCtl_released awake run h

end

/-- Settles O16: each event is one case of its operation; the heartbeat by what entry into TRIPPED leaves of the field die. -/
theorem refereeEvents : Obligations.RefereeEvents := by
  intro s
  refine ⟨fun x awake unpenned => ?_, fun x awake pending => ?_, fun b awake beyond new => ?_, fun awake agree => ?_,
    fun awake differ => ?_, fun awake => ?_, ⟨_, exec_heartbeatTimeout s, ?_, ?_, fun live => ?_⟩, fun awake drives => ?_,
    fun awake senses live => ?_, fun awake senses calm => ?_, fun awake run mode => ⟨?_, ?_⟩,
    fun awake run muster ready => ⟨?_, ?_⟩, fun awake => ?_⟩
  · show execPenConfirmDeadline x s = _
    exact onCtl_awake awake (if_neg (by simpa using unpenned))
  · show execPenConfirmDeadline x s = _
    exact onCtl_awake awake (if_pos (by simpa using pending))
  · show execBand1Persistence b s = _
    exact onCtl_awake awake (if_pos (by simp [beyond, new]))
  · show execChannelComparePass s = _
    exact onCtl_awake awake (if_pos agree)
  · show execChannelComparePass s = _
    exact onCtl_awake awake (if_neg (by simp [differ]))
  · show execChannelDisagree s = _
    exact onCtl_awake awake rfl
  · simp [s.dev.heartbeatStop_sets]
  · exact Device.settle_latch s.dev.heartbeatStop_sets.2
  · exact Device.settle_tripped (Device.heartbeatStop_trips live)
  · rw [exec_tripNSensed awake, if_pos drives]
  · rw [exec_tripNSensed awake, if_neg (by simp [senses]), if_pos live]
    rfl
  · rw [exec_tripNSensed awake, if_neg (by simp [senses]), if_neg (by simp [calm])]
    rfl
  · exact exec_arm awake run ((s.dev.armWrite_either true).trans (if_pos mode))
  · exact exec_disarm awake run ((s.dev.armWrite_either false).trans (if_pos mode))
  · exact exec_arm awake run ((s.dev.armWrite_either true).trans (if_neg (not_or.2 ⟨muster, ready⟩)))
  · exact exec_disarm awake run ((s.dev.armWrite_either false).trans (if_neg (not_or.2 ⟨muster, ready⟩)))
  · show execLoosenWindowExpiry s = _
    exact onCtl_awake awake rfl

end Sys2Proof.Machine
end

section
/-! PROOFS. Table writes, loosen keys, and the releases of pens and banks (R219, R233, R234, R239, R240). -/

namespace Sys2Proof.Machine

/-! ### The compare-and-write (R239) -/

/-- A looser word is refused while the referee is armed, but for the loosen window in READY (R239, R240). -/
def Device.refusesLooser (d : Device) (x : Nat) (old new : Word) : Bool :=
  d.on REF_ST_ARMED && looserWord x old new && !(d.on REF_ST_LOOSE && d.mode == .ready)

section

variable {d : Device} {x : Nat} {old new : Word}

theorem Device.refusesLooser_shut (armed : d.on REF_ST_ARMED = true) (looser : looserWord x old new = true)
    (shut : d.on REF_ST_LOOSE = false ∨ d.mode ≠ .ready) : d.refusesLooser x old new = true := by
  rcases shut with shut | other
  · simp [Device.refusesLooser, armed, looser, shut]
  · simp [Device.refusesLooser, armed, looser, other]

theorem Device.refusesLooser_allowed (allowed : d.on REF_ST_ARMED = false ∨ looserWord x old new = false ∨
    (d.on REF_ST_LOOSE = true ∧ d.mode = .ready)) : d.refusesLooser x old new = false := by
  rcases allowed with disarmed | tighter | ⟨opened, ready⟩
  · simp [Device.refusesLooser, disarmed]
  · simp [Device.refusesLooser, tighter]
  · simp [Device.refusesLooser, opened, ready]

end

theorem Device.compareWrite_reset {d : Device} {gen : Nat} (old : gen ≠ d.gen uREF) :
    d.compareWrite gen = (d.tst .reset 0 (d.gen uREF)).st uREF .reset := if_pos old

section

variable {d : Device} {gen : Nat} (now : gen = d.gen uREF) (leads : (d.st uREF .ok).follower = false)
include now leads

theorem Device.compareWrite_range (beyond : 0x811 < (d.st uREF .ok).get REF_TADDR_IDX) :
    d.compareWrite gen = (d.st uREF .ok).tst .range 3 gen := by
  unfold Device.compareWrite
  dsimp only
  rw [if_neg (not_not.2 now), if_neg (by simp [leads]), if_pos beyond]

/-- An accepted write inside the table, whose two copies are alike, is judged by the compared word, the new word, and the
loosen window, in that order. -/
theorem Device.compareWrite_judges :
    let e := d.st uREF .ok
    let x := e.get REF_TADDR_IDX
    let old := e.refWord .a (0x60148000 + 4 * x)
    let new := e.rget REF_TNEW
    x ≤ 0x811 → old = e.refWord .b (0x60148000 + 4 * x) → d.compareWrite gen =
      if old ≠ e.rget REF_TCMP then e.tst .reject 1 gen
      else if !tableWordOk x new then e.tst .range 3 gen
      else if e.refusesLooser x old new then e.tst .reject 2 gen
      else ((e.tableStore x new).tst .ok 0 gen).when_ e.isActive fun f =>
        f.prlSend (.mirror (.tableWrite (BitVec.ofNat 12 x) new)) := by
  intro e x old new inside alike
  unfold Device.compareWrite
  dsimp only
  rw [if_neg (not_not.2 now), if_neg (by simp [leads]), if_neg (Nat.not_lt.2 inside), if_neg (not_not.2 alike)]
  rfl

end

/-! ### The loosen keys (R240) -/

section

variable {d : Device} (shut : d.on REF_ST_LOOSE = false)
include shut

theorem Device.loosenKey_elsewhere (other : d.mode ≠ .ready) (key : Word) :
    d.loosenKey key = ({ d with ref := { d.ref with key1At := none } } : Device).st uREF .reject := by
  unfold Device.loosenKey
  dsimp only
  rw [if_neg (by simp [shut]), if_pos (.inl other)]

variable (ready : d.mode = .ready) (armed : d.on REF_ST_ARMED = true)
include ready armed

theorem Device.loosenKey_first (alone : d.ref.key1At = none) :
    d.loosenKey 0xB4#32 = ({ d with ref := { d.ref with key1At := some d.now } } : Device).st uREF .ok := by
  simp [Device.loosenKey, shut, ready, armed, alone]

theorem Device.loosenKey_second {t : Nat} (first : d.ref.key1At = some t) (soon : d.now ≤ t + 10000000) :
    d.loosenKey 0x4B#32 =
      (({ d with ref := { d.ref with key1At := none } } : Device).put REF_ST_LOOSE 1).st uREF .ok := by
  simp [Device.loosenKey, shut, ready, armed, first, soon]

end

/-! ### Releases (R233, R234) -/

/-- `d` with the pen hold of t released, and no confirmation of it due. -/
def Device.penFreed (d : Device) (t : Fin 512) : Device :=
  { d.put (penFld t.val) 0 with ref := { d.ref with confs := d.ref.confs.filter fun c => c.str != t } }

theorem Device.penHeld_penFreed (d : Device) (t : Fin 512) : (d.penFreed t).penHeld t.val = false := by
  have bit : (d.penFreed t).get (penFld t.val) = 0 := d.get_put_same 0 (by show t.val % 32 + 1 ≤ 32; omega)
  simp [Device.penHeld, Device.on, bit]

theorem Device.isActive_penFreed (d : Device) (t : Fin 512) : (d.penFreed t).isActive = d.isActive := by
  have role : (d.penFreed t).get PRL_ST_ROLE = d.get PRL_ST_ROLE :=
    d.get_put_addr 0 (by show PRL_ST ≠ REF_PEN (t.val / 32); unfold PRL_ST REF_PEN; omega)
  simp only [Device.isActive, role]

theorem Device.writePenclr_follows {d : Device} (follows : d.follower = true) (x : Fin 512) (all : Bool) :
    d.writePenclr x all = d.st uREF .reject := if_pos follows

section

variable {d : Device} {x : Fin 512} (leads : d.follower = false) (held : d.penHeld x.val = true)
include leads held

/-- A device that is not active tells no partner of a release. -/
theorem Device.writePenclr_frees (alone : d.isActive = false) (free : d.penReleasable x.val = true) :
    d.writePenclr x false = (d.penFreed x).st uREF .ok := by
  have released : d.releasePen x false = (.ok, d.penFreed x) := by
    simp only [Device.releasePen, held, free, Bool.not_true, Bool.false_eq_true, if_false, if_true]
    rfl
  have unsent := (d.isActive_penFreed x).trans alone
  unfold Device.writePenclr
  dsimp only
  rw [if_neg (by simp [leads]), released, List.foldl_fixed' fun t => if_neg (by simp [unsent])]

theorem Device.writePenclr_keeps (bound : d.penReleasable x.val = false) : d.writePenclr x false = d.st uREF .reject := by
  have kept : d.releasePen x false = (.reject, d) := by
    simp only [Device.releasePen, held, bound, Bool.not_true, Bool.false_eq_true, if_false]
  unfold Device.writePenclr
  dsimp only
  rw [if_neg (by simp [leads]), kept]
  simp [Bool.and_assoc]

end

section

variable {d : Device} {b : Nat} (leads : d.follower = false) (held : d.bankHold b = true)
include leads held

theorem Device.writeBclr_frees (alone : d.isActive = false) (mode : d.mode ≠ .tripped) (valid : d.inputValid 1 b = true)
    (quiet : (d.ref.bankQuiet[b]?).getD 0 = 101) :
    d.writeBclr b = ((d.put (bankHoldFld b) 0).setBankSt b .opened).st uREF .ok := by
  have released : d.releaseBank b = (.ok, (d.put (bankHoldFld b) 0).setBankSt b .opened) := by
    simp [Device.releaseBank, held, mode, valid, quiet]
  unfold Device.writeBclr
  dsimp only
  rw [if_neg (by simp [leads]), released, alone]
  rfl

theorem Device.writeBclr_tripped (tripped : d.mode = .tripped) : d.writeBclr b = d.st uREF .reject := by
  have kept : d.releaseBank b = (.reject, d) := by simp [Device.releaseBank, held, tripped]
  unfold Device.writeBclr
  dsimp only
  rw [if_neg (by simp [leads]), kept]
  simp [Device.when_]

end

/-- Settles O17: each write is one case of its operation, and REF's own registers stand through what settles. -/
theorem refereeWrites : Obligations.RefereeWrites := by
  intro s awake run
  refine ⟨fun g old => ?_, fun g now leads beyond => ?_, fun g now => ?_, fun shut ready armed alone => ?_,
    fun t shut ready armed first soon => ?_, fun key shut other => ?_, fun x all follows => ?_,
    fun x leads alone held free => ⟨_, exec_penRelease awake run (Device.writePenclr_frees leads held alone free), ?_,
      Device.settle_st_last _ _⟩,
    fun x leads held bound => ⟨_, exec_penRelease awake run (Device.writePenclr_keeps leads held bound), ?_,
      Device.settle_st_last _ _⟩,
    fun b leads alone held mode valid quiet => ?_, fun b leads held tripped => ?_⟩
  · exact exec_tableCompareWrite awake run (Device.compareWrite_reset old)
  · have index : (s.dev.st uREF .ok).get REF_TADDR_IDX = s.dev.get REF_TADDR_IDX := s.dev.get_put_apart _ (by decide)
    refine ⟨_, exec_tableCompareWrite awake run
      (Device.compareWrite_range now ((s.dev.follower_st _).trans leads) (beyond.trans_eq index.symm)), ?_, ?_, ?_⟩
    · exact (Device.settle_get_ref _ (by decide) (by decide) (by decide)).trans (Device.tst_reports _ _ (by decide) _).1
    · exact (Device.settle_get_ref _ (by decide) (by decide) (by decide)).trans (Device.tst_reports _ _ (by decide) _).2
    · simp
  · intro d x a new leads inside alike
    have judges := Device.compareWrite_judges now leads inside alike
    rw [← now]
    refine ⟨fun differs => ?_, fun same bad => ?_, fun same good armed looser shut => ?_, fun same good allowed => ?_⟩
    · exact exec_tableCompareWrite awake run (judges.trans (if_pos differs))
    · exact exec_tableCompareWrite awake run (judges.trans ((if_neg (not_not.2 same)).trans (if_pos (by simpa using bad))))
    · exact exec_tableCompareWrite awake run (judges.trans ((if_neg (not_not.2 same)).trans
        ((if_neg (by simpa using good)).trans (if_pos (Device.refusesLooser_shut armed looser shut)))))
    · exact exec_tableCompareWrite awake run (judges.trans ((if_neg (not_not.2 same)).trans
        ((if_neg (by simpa using good)).trans (if_neg (ne_true_of_eq_false (Device.refusesLooser_allowed allowed))))))
  · exact exec_loosenKey awake run (Device.loosenKey_first shut ready armed alone)
  · exact exec_loosenKey awake run (Device.loosenKey_second shut ready armed first soon)
  · exact exec_loosenKey awake run (Device.loosenKey_elsewhere shut other key)
  · exact exec_penRelease awake run (Device.writePenclr_follows follows x all)
  · exact (Device.penHeld_settle_st _ _ _).trans (s.dev.penHeld_penFreed x)
  · exact (Device.penHeld_settle_st _ _ _).trans held
  · exact exec_bankRelease awake run (Device.writeBclr_frees leads held alone mode valid quiet)
  · exact exec_bankRelease awake run (Device.writeBclr_tripped leads held tripped)

end Sys2Proof.Machine
end

section
/-! PROOFS. Contactor drivers through what settles, and the commands of CTD_BCMD (R49, R51, R247, R256, R266, R267, R465). -/

namespace Sys2Proof.Machine

/-! ### Waits for the partner through what settles (R247, R267, R465)

Of what settles, only turning a driver off reaches the state of a driver, and a driver that is released waits for nobody. -/

namespace Device

variable {d : Device}

theorem when_drv {c : Bool} {f : Device → Device} (h : (f d).drv = d.drv) : (d.when_ c f).drv = d.drv := by
  unfold when_
  split
  · exact h
  · rfl

theorem dk_of_drv {e : Device} (h : e.drv = d.drv) (k : Nat) : e.dk k = d.dk k := by rw [dk, dk, h]

theorem count16_drv (d : Device) (a : Nat) : (d.count16 a).drv = d.drv := by
  rcases d.count16_cases a with h | ⟨v, h⟩ <;> simp only [h, rset_leaves]

theorem setLatch_drv (d : Device) : d.setLatch.drv = d.drv := by
  unfold setLatch
  split <;> rfl

theorem lceExit_drv (d : Device) : d.lceExit.drv = d.drv := by
  unfold lceExit
  split <;> rfl

theorem enter_drv (d : Device) (m : Mode) : (d.enter m).drv = d.drv := by
  unfold enter
  dsimp only
  split
  · split
    · exact d.setLatch_drv
    · rfl
  · exact (when_drv rfl).trans ((when_drv (lceExit_drv _)).trans (when_drv (setLatch_drv _)))

theorem degrade_drv (d : Device) : d.degrade.drv = d.drv := by
  unfold degrade
  split
  · exact d.enter_drv _
  · rfl

theorem joinDriver_drv (d : Device) (k : Nat) : (d.joinDriver k).drv = d.drv := by
  unfold joinDriver startShadow
  exact when_drv (d := d.put (CTD_DST_SS k) 1) (when_drv rfl)

theorem leavePhase_drv (d : Device) (b : Nat) : (d.leavePhase b).drv = d.drv :=
  (when_drv rfl).trans ((when_drv rfl).trans (when_drv rfl))

theorem endSequence_drv (d : Device) (b : Nat) : (d.endSequence b).drv = d.drv := by
  rw [endSequence_eq]
  simp only [apply_ite drv, setBankSt_leaves, ite_self, leavePhase_drv]

variable {k : Nat}

theorem setDk_noWait (h : (d.dk k).waitRel = false) {j : Nat} {f : Driver → Driver}
    (hf : ∀ v, v.waitRel = false → (f v).waitRel = false) : ((d.setDk j f).dk k).waitRel = false := by
  by_cases same : k = j
  · subst same
    by_cases inside : k < 12
    · rw [dk_setDk d inside]
      exact hf _ h
    · simpa [dk, setDk, inside] using h
  · rwa [dk_setDk_ne d same]

theorem cutDriver_noWait (h : (d.dk k).waitRel = false) (j : Nat) : ((d.cutDriver j).dk k).waitRel = false := by
  have released : (((d.put (CTD_DST_SS j) 0).setDk j Driver.released).dk k).waitRel = false :=
    setDk_noWait (d := d.put (CTD_DST_SS j) 0) h fun _ _ => rfl
  rw [cutDriver_eq]
  split
  · exact released
  · have quench : ∀ e : Device, ((e.setDrvSt j .fastQuench).count16 (CTD_DQCNT j)).drv = e.drv := fun e =>
      (count16_drv _ _).trans rfl
    rwa [dk_of_drv (quench _)]

theorem gateBank_noWait (h : (d.dk k).waitRel = false) (b : Nat) : ((d.gateBank b).dk k).waitRel = false := by
  unfold gateBank
  split
  · rwa [dk_of_drv ((joinDriver_drv _ _).trans ((joinDriver_drv _ _).trans (joinDriver_drv _ _)))]
  · rw [dk_of_drv (endSequence_drv _ _)]
    exact cutDriver_noWait (cutDriver_noWait (cutDriver_noWait h _) _) _

/-- A driver that waits for nobody waits for nobody after settling. -/
theorem settle_noWait (h : (d.dk k).waitRel = false) : (d.settle.dk k).waitRel = false := by
  rw [settle_eq, dk_of_drv (degrade_drv _)]
  unfold gated
  split
  · exact h
  · have latched : ((d.when_ (d.mode == .tripped) setLatch).dk k).waitRel = false := by
      rwa [dk_of_drv (when_drv d.setLatch_drv)]
    exact gateBank_noWait (gateBank_noWait (gateBank_noWait (gateBank_noWait latched _) _) _) _

end Device

/-! ### What the end of a high side leaves -/

theorem Device.openDriver_leaves (d : Device) (k : Nat) : (d.openDriver k).now = d.now ∧ (d.openDriver k).prl = d.prl := by
  obtain ⟨r, v, b, h⟩ := (Device.CtdOnly.refl d).openDriver k
  rw [h]
  exact ⟨rfl, rfl⟩

/-! ### CTD_BCMD (R49, R51) -/

section
variable {d : Device} {b gen : Nat} (run : d.sys.appHeld = false) (f : Device → Status × Device)
include run

theorem Device.bcmd_busy (due : d.sys.reassertDue = true) : d.bcmd b gen f = d.st uCTD .busy := by
  simp [Device.bcmd, Device.fieldBusy, run, due]

variable (free : d.sys.reassertDue = false)
include free

theorem Device.bcmd_reset (old : gen ≠ d.gen uCTD) : d.bcmd b gen f = d.bcmdSt b .reset (d.gen uCTD) := by
  simp [Device.bcmd, Device.fieldBusy, run, free, old]

theorem Device.bcmd_taken (now : gen = d.gen uCTD) : d.bcmd b gen f = (f d).2.bcmdSt b (f d).1 gen := by
  simp [Device.bcmd, Device.fieldBusy, run, free, now]

end

theorem Device.bankConnect_refused {d : Device} {b r : Nat} {st : Status} (refused : d.connectRefusal b false = some (st, r)) :
    d.bankConnect b = (st, d.put (CTD_BST_REJR b) r) := by
  simp only [Device.bankConnect, refused]

theorem Device.bankConnect_starts {d : Device} {b : Nat} (free : d.connectRefusal b false = none) :
    d.bankConnect b = (.ok, d.startConnect b) := by
  simp only [Device.bankConnect, free]

section
variable {s : State} (awake : s.dev.awake = true) (b : Fin 4) (g : Byte)
include awake

theorem exec_bankConnect : exec (.bankConnect b g) s =
    .next (s.after (s.dev.bcmd b g.toNat fun d => d.bankConnect b).judgeInputs) := by
  show execBankConnect b g s = _
  exact onCtl_awake awake rfl

theorem exec_bankOpen (force : Bool) : exec (.bankOpen b force g) s =
    .next (s.after (s.dev.bcmd b g.toNat fun d => d.bankOpen b force)) := by
  show execBankOpen b force g s = _
  exact onCtl_awake awake rfl

theorem exec_bankAbort : exec (.bankAbort b g) s = .next (s.after (s.dev.bcmd b g.toNat fun d => d.bankAbort b)) := by
  show execBankAbort b g s = _
  exact onCtl_awake awake rfl

theorem exec_clearWeld : exec (.clearWeld b g) s = .next (s.after (s.dev.bcmd b g.toNat fun d => d.clearWeld b)) := by
  show execClearWeld b g s = _
  exact onCtl_awake awake rfl

end

end Sys2Proof.Machine
end

section
/-! PROOFS. What one contactor driver does on movement, at the end of pull-in, on a check or a fault (R249 to R255, R266, R267,
R418, R465). -/

namespace Sys2Proof.Machine

/-! ### The end of pull-in (R249, R250) -/

/-- Driver k once its pull-in has ended: one that still pulls in goes to hold, and its shadow is asked for. -/
def Device.pulledIn (d : Device) (k : Nat) : Device :=
  (d.setDk k fun v => { v with pulling := false }).when_ ((d.setDk k fun v => { v with pulling := false }).drvSt k == .pullIn)
    fun d => (d.setDrvSt k .hold).askShadow k

/-- What the end of pull-in says of the armature of driver k (R250). -/
def Device.pullInJudged (d : Device) (k : Nat) : Device :=
  if d.on (CTD_DCFG_ARMEN k) then
    if (d.dk k).moved then d
    else if ((d.up (CTD_DEVT_NOARM k)).phase (k / 3)).connecting then (d.up (CTD_DEVT_NOARM k)).endConnect (k / 3) 3 3
    else d.up (CTD_DEVT_NOARM k)
  else d.armature k

section
variable {s : State} {k : Fin 12}

theorem exec_pullInEnd_stays (other : (s.dev.dk k).pulling = false ∨ s.dev.get CTD_CTL_ROLE = 2) :
    exec (.pullInEnd k) s = .next (s.after s.dev) := by
  show execPullInEnd k s = _
  exact onDev_next (if_neg (by rcases other with h | h <;> simp [h]))

theorem exec_pullInEnd (judges : s.dev.get CTD_CTL_ROLE ≠ 2) (pulls : (s.dev.dk k).pulling = true) {e : Device}
    (h : (s.dev.pulledIn k).pullInJudged k = e) : exec (.pullInEnd k) s = .next (s.after e) := by
  show execPullInEnd k s = _
  exact onDev_next ((if_pos (by simp [judges, pulls])).trans h)

/-! ### Movement, aux inputs and faults (R250, R251, R253 to R255) -/

theorem exec_armatureMovement_recorded {t : Half} (en : s.dev.on (CTD_DCFG_ARMEN k) = true) (st : s.dev.drvSt k = .pullIn)
    (pulls : (s.dev.dk k).pulling = true) (first : (s.dev.dk k).moved = false) : exec (.armatureMovement k t) s =
      .next (s.after ((((s.dev.setDk k fun v => { v with moved := true }).put (CTD_DARMT_T k) t.toNat).up
        (CTD_DEVT_ARM k)).armature k)) := by
  show execArmatureMovement k t s = _
  exact onDev_next (if_pos (by simp [en, st, pulls, first]))

theorem exec_armatureMovement_ignored {t : Half} (other : s.dev.on (CTD_DCFG_ARMEN k) = false ∨ s.dev.drvSt k ≠ .pullIn) :
    exec (.armatureMovement k t) s = .next (s.after s.dev) := by
  show execArmatureMovement k t s = _
  exact onDev_next (if_neg (by rcases other with h | h <;> simp [h]))

theorem exec_auxCheck_shown {l : Bool} (en : s.dev.on (CTD_DCFG_AUXEN k) = true) (none_ : (s.dev.dk k).auxDue = none) :
    exec (.auxCheck k l) s = .next (s.after (s.dev.putB (CTD_DST_AUX k) (l != s.dev.on (CTD_DCFG_AUXPOL k)))) := by
  have due : ((s.dev.putB (CTD_DST_AUX k) (l != s.dev.on (CTD_DCFG_AUXPOL k))).dk k).auxDue = none := none_
  show execAuxCheck k l s = _
  refine onDev_next ((if_pos en).trans ?_)
  simp only [due]

theorem exec_outputCurrentLimit_first (high : (s.dev.drvSt k).high = true) (first : (s.dev.dk k).shortAt = none) :
    exec (.outputCurrentLimit k) s = .next (s.after ((((s.dev.up (CTD_DEVT_SHORT k)).openDriver k).setDk k fun v =>
      { v with shortAt := some ((s.dev.up (CTD_DEVT_SHORT k)).openDriver k).now }).driverFault k)) := by
  have now : ((s.dev.up (CTD_DEVT_SHORT k)).openDriver k).now = s.dev.now := (Device.openDriver_leaves _ _).1
  show execOutputCurrentLimit k s = _
  refine onDev_next ((if_pos high).trans ?_)
  simp only [first, now, Device.when_, Bool.false_eq_true, if_false]

theorem exec_coilCurrentLow (closed : s.dev.drvSt k = .pullIn ∨ s.dev.drvSt k = .hold) (supplied : Bool) :
    exec (.coilCurrentLow k supplied) s =
      .next (s.after ((s.dev.up (if supplied then CTD_DEVT_OPENC k else CTD_DEVT_LOWI k)).driverFault k)) := by
  show execCoilCurrentLow k supplied s = _
  exact onDev_next (if_pos closed)

end

/-- The partner is not known any more to shadow a driver that it released (R267, R418). -/
theorem Device.relDriver_unshadows (d : Device) {k : Nat} (hk : k < 12) : (d.relDriver k).prl.shadowed.getLsbD k = false := by
  have clear : (d.prl.shadowed &&& ~~~(1#12 <<< k)).getLsbD k = false := by simp [hk]
  unfold Device.relDriver
  dsimp only
  split
  · rw [(Device.openDriver_leaves _ _).2]
    exact clear
  · exact clear

/-- Settles O15: each event is one case of what its instruction does. -/
theorem driverEvents : Obligations.DriverEvents := by
  intro s k
  refine ⟨fun t en st pulls first => exec_armatureMovement_recorded en st pulls first,
    fun t other => exec_armatureMovement_ignored other, fun idle => exec_pullInEnd_stays (.inl idle),
    fun standby => exec_pullInEnd_stays (.inr standby), fun judges pulls => ?_, fun l en none_ => exec_auxCheck_shown en none_,
    fun l off => ?_, fun low => ?_, fun high first => exec_outputCurrentLimit_first high first,
    fun closed => ⟨?_, ?_, fun judges => ⟨?_, ?_⟩⟩, fun awake run => ?_, ?_⟩
  · intro d
    refine ⟨fun off => ?_, fun en moved => ?_, fun en still => ?_⟩
    · exact exec_pullInEnd judges pulls (if_neg (ne_true_of_eq_false off))
    · exact exec_pullInEnd judges pulls ((if_pos en).trans (if_pos moved))
    · exact exec_pullInEnd judges pulls ((if_pos en).trans (if_neg (ne_true_of_eq_false still)))
  · show execAuxCheck k l s = _
    exact onDev_next (if_neg (ne_true_of_eq_false off))
  · show execOutputCurrentLimit k s = _
    exact onDev_next (if_neg (ne_true_of_eq_false low))
  · exact exec_coilCurrentLow closed true
  · exact exec_coilCurrentLow closed false
  · show execSeriesSwitchTest k false s = _
    exact onDev_next (if_pos ⟨judges, closed, rfl⟩)
  · show execSeriesSwitchTest k true s = _
    exact onDev_next (if_neg (by simp))
  · show execDriversDisable s = _
    exact onCtl_released awake run rfl
  · refine ⟨s.after (s.dev.relDriver k), onDev_next (s := s) (f := fun d => d.relDriver k) rfl, ?_⟩
    simp only [State.after_fields, Device.settle_leaves]
    exact s.dev.relDriver_unshadows k.isLt

end Sys2Proof.Machine
end

section
/-! PROOFS. Bank commands, the connect sequence, opens and the open check (R246, R256 to R263, R266, R267). -/

namespace Sys2Proof.Machine

/-! ### Connect (R257 to R259) -/

section
variable {s : State} {b : Fin 4}

theorem exec_w0End (w0 : s.dev.phase b = .w0) (sampled : (s.dev.bk b).uw.isSome = true) : exec (.w0End b) s =
    .next (s.after (if (s.dev.bk b).w0Rise then (s.dev.weldDriver (3 * b + 1)).endConnect b 2 1
      else (s.dev.setPhase b .pre).closeDriver (3 * b + 1))) := by
  show execW0End b s = _
  exact onDev_next (if_pos ⟨w0, sampled⟩)

/-- What follows from a judgement of bank b's pre-charge (R257 step 6, R258, R259). -/
def Device.judged (d : Device) (b : Nat) : Judge → Device
  | .hot => d.endConnect b 3 2
  | .fastEnv => (d.weldDriver (3 * b)).endConnect b 2 0
  | .slowEnv => d.endConnect b 3 0
  | .slowTime => d.endConnect b 3 1
  | .complete => (d.setPhase b .mainPull).closeDriver (3 * b)
  | .none => d

theorem exec_prechargeEval {u0 : Int} (judges : s.dev.get CTD_CTL_ROLE ≠ 2) (pre : s.dev.phase b = .pre)
    (start : (s.dev.bk b).u0 = some u0) {j : Judge} (verdict : (s.dev.judge b u0).1 = j) :
    exec (.prechargeEval b) s = .next (s.after ((s.dev.judge b u0).2.judged b j)) := by
  show execPrechargeEval b s = _
  refine onDev_next ((if_neg judges).trans ?_)
  -- The judgement stands as a variable, or the kernel evaluates it to choose the branch.
  obtain ⟨judge, held⟩ : ∃ judge, judge = s.dev.judge b := ⟨_, rfl⟩
  rw [← held] at verdict ⊢
  simp only [pre, start, verdict]
  cases j <;> rfl

end

/-! ### Open and the open check (R261, R262) -/

/-- A bank whose coils are at zero is no longer CLOSED, and an orderly open reports it (R261 step 3). -/
def Device.openReported (d : Device) (b : Nat) : Device :=
  (d.when_ (d.bk b).orderly fun d => d.up (CTD_BEVT_OPND b)).when_ ((d.when_ (d.bk b).orderly fun d =>
    d.up (CTD_BEVT_OPND b)).bankSt b == .closed) fun d => d.setBankSt b .opened

theorem Device.openReported_role (d : Device) (b : Nat) : (d.openReported b).get CTD_CTL_ROLE = d.get CTD_CTL_ROLE := by
  have writes : d.Writes [CTD_BEVT_OPND b, bankStFld b] (d.openReported b) :=
    .when_ (.when_ (.refl d) fun h => h.put (by simp) _) fun h => h.put (by simp) _
  exact writes.get _ (by simp [Fld.apart, bankStFld, CTD_BEVT, CTD_CTL, SYS_MODE]; omega)

/-- The result of bank b's open check from what it has seen (R262). -/
def Device.checkResult (d : Device) (b : Nat) (v : Bank) : Device :=
  if v.auxClosed ≠ 0#3 then
    let d := d.when_ (v.auxClosed.getLsbD 0) fun d => d.weldDriver (3 * b)
    let d := d.when_ (v.auxClosed.getLsbD 1) fun d => d.weldDriver (3 * b + 1)
    let d := d.when_ (v.auxClosed.getLsbD 2) fun d => d.weldDriver (3 * b + 2)
    d.up (CTD_BEVT_WELD b)
  else if 10 ≤ v.weldRun then ((d.weldDriver (3 * b)).weldDriver (3 * b + 1)).up (CTD_BEVT_WELD b)
  else if v.vxSeen then d
  else d.up (CTD_BEVT_INDET b)

theorem exec_openCheckEnd {s : State} {b : Fin 4} (check : s.dev.phase b = .check) (judges : s.dev.get CTD_CTL_ROLE ≠ 2)
    {e : Device} (h : (s.dev.setPhase b .idle).checkResult b (s.dev.bk b) = e) :
    exec (.openCheckEnd b) s = .next (s.after e) := by
  have role : (s.dev.setPhase b .idle).get CTD_CTL_ROLE ≠ 2 := by
    rwa [Device.setPhase, Device.get_put_addr _ _ (by simp [CTD_CTL, CTD_BST]; omega)]
  show execOpenCheckEnd b s = _
  exact onDev_next ((if_pos check).trans ((if_neg role).trans h))

/-! ### The end of a wait for the partner (R267) -/

/-- No driver of bank b waits for the partner any more. -/
def Device.waitsEnded (d : Device) (b : Nat) : Device :=
  (bankDrivers b).foldl (fun d k => d.setDk k fun v => { v with waitRel := false }) d

theorem Device.waitsEnded_noWait (d : Device) {b : Nat} (hb : b < 4) {k : Nat} (hk : k ∈ bankDrivers b) :
    ((d.waitsEnded b).dk k).waitRel = false := by
  have inside : k < 12 := by simp [bankDrivers] at hk; omega
  exact foldl_establishes (P := fun e : Device => (e.dk k).waitRel = false) hk (fun e => by rw [e.dk_setDk inside])
    (fun _ _ h => Device.setDk_noWait h fun _ _ => rfl) d

/-- An open of bank b that the partner's release cut off: the drivers that wait stay closed (R267). -/
def Device.pairAborted (d : Device) (b : Nat) : Device :=
  ((((d.waitsEnded b).put (CTD_BST_OUTC b) 4).put (CTD_BST_REASON b) 3).setPhase b .closed).setBk b fun v =>
    { v with gapDue := false, orderly := false }

theorem Device.pairAborted_noWait (d : Device) {b : Nat} (hb : b < 4) {k : Nat} (hk : k ∈ bankDrivers b) :
    ((d.pairAborted b).dk k).waitRel = false := by
  have ended := d.waitsEnded_noWait hb hk
  have drv : (d.pairAborted b).drv = (d.waitsEnded b).drv := by
    simp only [Device.pairAborted, Device.setBk_leaves, Device.setPhase_leaves, Device.put_leaves]
  rwa [Device.dk_of_drv drv]

theorem exec_shadowReleaseTimeout {s : State} {b : Fin 4} (waits : (s.dev.dk (3 * b)).waitRel = true) :
    exec (.shadowReleaseTimeout b) s = .next (s.after (s.dev.pairAborted b)) := by
  show execShadowReleaseTimeout b s = _
  exact onDev_next (if_pos (by simp [waits]))

/-- Settles O14: CTD_BCMD judges hold and generation before the action, each event is one case of what its instruction does,
and what settles starts no wait for the partner. -/
theorem contactorSequences : Obligations.ContactorSequences := by
  intro s
  refine ⟨fun b g force awake run => ?_, fun b w0 sampled => ⟨fun rise => ?_, fun flat => ?_⟩, fun b standby => ?_,
    fun b u0 judges pre start => ⟨fun verdict => ?_, fun verdict => ?_, fun verdict => ?_⟩,
    fun b overlap => ?_, fun b opens gap => ?_, fun b => ?_, fun b check judges aux => ?_,
    fun b check judges aux => ⟨fun weld => ?_, fun few seen => ?_, fun few unseen => ?_⟩, ?_, fun b w0 w1 w2 => ?_,
    fun b waits => ?_⟩
  · simp only [exec_bankConnect awake, exec_bankOpen awake, exec_bankAbort awake, exec_clearWeld awake]
    refine ⟨fun due => ?_, fun free old => ?_, fun free now => ?_⟩
    · simp only [Device.bcmd_busy run _ due, and_self]
    · simp only [Device.bcmd_reset run _ free old, and_self]
    · simp only [Device.bcmd_taken run _ free now, and_self, and_true]
      refine ⟨fun st r refused => ?_, fun allowed => ?_⟩
      · rw [Device.bankConnect_refused refused]
      · rw [Device.bankConnect_starts allowed]
  · rw [exec_w0End w0 sampled, if_pos rise]
  · rw [exec_w0End w0 sampled, if_neg (ne_true_of_eq_false flat)]
  · show execPrechargeEval b s = _
    exact onDev_next (if_pos standby)
  · rw [exec_prechargeEval judges pre start verdict, Device.judged]
  · rw [exec_prechargeEval judges pre start verdict, Device.judged]
  · rw [exec_prechargeEval judges pre start verdict, Device.judged]
  · show execPrechargeRelease b s = _
    exact onDev_next (if_pos overlap)
  · show execOpenGapExpiry b s = _
    exact onDev_next (if_pos ⟨opens, gap⟩)
  · show execCoilCurrentZero b s = _
    refine onDev_next ?_
    dsimp only
    generalize ((s.dev.coilZero (3 * b)).coilZero (3 * b + 1)).coilZero (3 * b + 2) = d
    have role := d.openReported_role b
    unfold Device.openReported at role
    rw [role]
  · exact exec_openCheckEnd check judges (if_pos aux)
  · exact exec_openCheckEnd check judges ((if_neg (not_not.2 aux)).trans (if_pos weld))
  · exact exec_openCheckEnd check judges ((if_neg (not_not.2 aux)).trans ((if_neg (by omega)).trans (if_pos seen)))
  · exact exec_openCheckEnd check judges
      ((if_neg (not_not.2 aux)).trans ((if_neg (by omega)).trans (if_neg (ne_true_of_eq_false unseen))))
  · show execResistorModelTick s = _
    exact onDev_next rfl
  · show execShadowReleaseTimeout b s = _
    exact onDev_next (if_neg (by simp [w0, w1, w2]))
  · have noWait : ∀ k ∈ bankDrivers b, ((s.after (s.dev.pairAborted b)).dev.dk k).waitRel = false := fun k hk => by
      rw [(s.after_fields _).2]
      exact Device.settle_noWait (s.dev.pairAborted_noWait b.isLt hk)
    exact ⟨_, exec_shadowReleaseTimeout waits, noWait _ (by simp [bankDrivers]), noWait _ (by simp [bankDrivers]),
      noWait _ (by simp [bankDrivers])⟩

end Sys2Proof.Machine
end

section
/-! PROOFS. Register operations of both profiles: integers, immediates, predicates and floating point (R269, R273 to R276,
R295). -/

namespace Sys2Proof.Machine

/-- FN names an operation of OP 0x00 that takes n cycles in a lane (R273, R295). -/
def intFnTakes (fn rs2 n : Nat) : Bool := decide (fn < 128) && intFnOk fn rs2 && intCycles fn == n

/-- FN names an operation of OP 0x20 that takes n cycles in a lane (R276, R295). -/
def floatFnTakes (fn rs2 n : Nat) : Bool := decide (fn < 128) && floatFnOk fn rs2 && floatCycles fn == n

theorem intFnTakes_iff (fn rs2 n : Nat) :
    intFnTakes fn rs2 n = true ↔ fn < 128 ∧ intFnOk fn rs2 = true ∧ intCycles fn = n := by
  simp [intFnTakes, and_assoc]

theorem floatFnTakes_iff (fn rs2 n : Nat) :
    floatFnTakes fn rs2 n = true ↔ fn < 128 ∧ floatFnOk fn rs2 = true ∧ floatCycles fn = n := by
  simp [floatFnTakes, and_assoc]

/-- The FN codes of SEL and FSEL hold their predicate. -/
theorem select_takes (p : PredNo) (rs2 : Nat) :
    intFnTakes (0x38 + p.val) rs2 1 = true ∧ floatFnTakes (0x38 + p.val) rs2 1 = true := by
  fin_cases p <;> exact ⟨rfl, rfl⟩

section

variable {s : State} {x : Ctx} (r : s.dev.Ready x)
include r

/-! ### Integers (R273) -/

/-- An instruction of OP 0x00 completes in its cycles. -/
theorem regOp_int {fn n : Nat} (rd rs1 rs2 : RegNo) (h : intFnTakes fn rs2.val n = true) (f : Files → Files) :
    regOp x (encR x.guard 0x00 rd.val rs1.val rs2.val fn) f s = .next (s.ran x n f) := by
  obtain ⟨hf, ok, cycles⟩ := (intFnTakes_iff ..).1 h
  refine regOp_cycles r (fun lane => islorDefined_encR lane r.legal 0x00 rd rs1 rs2 fn ok (by omega) hf) ?_ f
  rw [laneCycles_encR rd rs1 rs2 fn (by omega) hf, if_pos rfl, cycles]

/-- An operation of OP 0x00 writes its result to g[rd]. -/
theorem intOp_completes (fn n : Nat) (rd rs1 rs2 : RegNo) (f : DWord → DWord → DWord) (h : intFnTakes fn rs2.val n = true) :
    intOp x fn rd rs1 rs2 f s = .next (s.ran x n fun r => r.setG rd (f (r.gv rs1) (r.gv rs2))) :=
  regOp_int r rd rs1 rs2 h _

/-! ### Immediates (R274) -/

/-- MOVI.L and MOVI.H complete. -/
theorem regOp_movi (rd : RegNo) {imm : Nat} (hi : imm < 131072) (f : Files → Files) :
    regOp x (encU x.guard 0x06 rd.val imm) f s = .next (s.ran x 1 f) :=
  regOp_cycles r (fun lane => islorDefined_encU lane r.legal 0x06 rd.val imm rfl (by omega) rd.isLt hi)
    (laneCycles_encU (by omega) rd.isLt hi (by omega) (by omega)) f

theorem execMoviL_completes (rd : RegNo) (v : Half) : execMoviL x rd v s =
    .next (s.ran x 1 fun r => r.setG rd (v.setWidth 64)) := regOp_movi r rd (by omega) _

theorem execMoviH_completes (rd : RegNo) (v : Half) : execMoviH x rd v s =
    .next (s.ran x 1 fun r => r.setG rd (moviHigh (r.gv rd) v)) := regOp_movi r rd (by omega) _

/-! ### Predicates (R275) -/

/-- An instruction of format R with a predicate as its destination completes: CMP, PLOG.TST and FCMP. -/
theorem regOp_predicate {op fn : Nat} (pd : PredNo) (rs1 rs2 : RegNo) (f : Files → Files)
    (ok : op = 0x1C ∧ fn ≤ 5 ∨ op = 0x1F ∧ fn = 6 ∧ rs2 = 0 ∨ op = 0x21 ∧ fn ≤ 3) :
    regOp x (encR x.guard op pd.val rs1.val rs2.val fn) f s = .next (s.ran x 1 f) := by
  have hpd : pd.val < 32 := by omega
  have defined (lane : Bool) : islorDefined lane (encR x.guard op (⟨pd.val, hpd⟩ : RegNo).val rs1.val rs2.val fn) = true := by
    refine islorDefined_encR lane r.legal op ⟨pd.val, hpd⟩ rs1 rs2 fn ?_ (by omega) (by omega)
    rcases ok with ⟨rfl, h⟩ | ⟨rfl, rfl, rfl⟩ | ⟨rfl, h⟩ <;> simp_all
  have cycles : laneCycles (encR x.guard op (⟨pd.val, hpd⟩ : RegNo).val rs1.val rs2.val fn) = 1 := by
    rw [laneCycles_encR _ rs1 rs2 fn (by omega) (by omega), if_neg (by omega), if_neg (by omega), if_neg (by omega)]
  exact regOp_cycles r defined cycles f

theorem execCmp_completes (pd : PredNo) (fn : CmpFn) (rs1 rs2 : RegNo) : execCmp x pd fn rs1 rs2 s =
    .next (s.ran x 1 fun r => r.setP pd (cmpCond fn (r.gv rs1) (r.gv rs2))) :=
  regOp_predicate r pd rs1 rs2 _ (.inl ⟨rfl, by cases fn <;> decide⟩)

theorem execPlogTst_completes (pd : PredNo) (rs1 : RegNo) : execPlogTst x pd rs1 s =
    .next (s.ran x 1 fun r => r.setP pd (r.gv rs1 != 0#64)) :=
  regOp_predicate r pd rs1 0 _ (.inr (.inl ⟨rfl, rfl, rfl⟩))

theorem execFcmp_completes (pd : PredNo) (fn : FcmpFn) (rs1 rs2 : RegNo) : execFcmp x pd fn rs1 rs2 s =
    .next (s.ran x 1 fun r =>
      { r.setP pd (fCmp fn (r.fv rs1) (r.fv rs2)).1 with fl := (fCmp fn (r.fv rs1) (r.fv rs2)).2 }) :=
  regOp_predicate r pd rs1 rs2 _ (.inr (.inr ⟨rfl, by cases fn <;> decide⟩))

/-- CMPI and CMPIU, which hold their condition beside the predicate in the field of RD, complete. -/
theorem regOp_cmpi {op : Nat} (ho : op = 0x1D ∨ op = 0x1E) (pd : PredNo) (fn : CmpIFn) (rs1 : RegNo) (imm : BitVec 12)
    (f : Files → Files) :
    regOp x (encI x.guard op (cmpICode fn * 8 + pd.val) rs1.val imm.toNat) f s = .next (s.ran x 1 f) := by
  have code : cmpICode fn ≤ 3 := by cases fn <;> decide
  have hrd : cmpICode fn * 8 + pd.val < 32 := by omega
  refine regOp_cycles r (fun lane => islorDefined_encI lane r.legal op _ rs1.val imm.toNat ?_ (by omega) hrd rs1.isLt imm.isLt)
    ((laneCycles_encI (by omega) hrd rs1.isLt imm.isLt (by omega) (by omega)).trans (if_neg (by omega))) f
  rcases ho with rfl | rfl <;> rfl

theorem execCmpi_completes (pd : PredNo) (fn : CmpIFn) (rs1 : RegNo) (imm : BitVec 12) : execCmpi x pd fn rs1 imm s =
    .next (s.ran x 1 fun r => r.setP pd (cmpICond true fn (r.gv rs1) (imm.signExtend 64))) :=
  regOp_cmpi r (.inl rfl) pd fn rs1 imm _

theorem execCmpiu_completes (pd : PredNo) (fn : CmpIFn) (rs1 : RegNo) (imm : BitVec 12) : execCmpiu x pd fn rs1 imm s =
    .next (s.ran x 1 fun r => r.setP pd (cmpICond false fn (r.gv rs1) (imm.setWidth 64))) :=
  regOp_cmpi r (.inr rfl) pd fn rs1 imm _

/-! ### Floating point (R276) -/

/-- An instruction of OP 0x20 completes in its cycles. -/
theorem regOp_float {fn n : Nat} (rd rs1 rs2 : RegNo) (h : floatFnTakes fn rs2.val n = true) (f : Files → Files) :
    regOp x (encR x.guard 0x20 rd.val rs1.val rs2.val fn) f s = .next (s.ran x n f) := by
  obtain ⟨hf, ok, cycles⟩ := (floatFnTakes_iff ..).1 h
  refine regOp_cycles r (fun lane => islorDefined_encR lane r.legal 0x20 rd rs1 rs2 fn ok (by omega) hf) ?_ f
  rw [laneCycles_encR rd rs1 rs2 fn (by omega) hf, if_neg (by omega), if_pos rfl, cycles]

/-- An operation of OP 0x20 with a floating-point result writes its bits to f[rd] and accrues its conditions. -/
theorem floatOp_completes (fn n : Nat) (rd rs1 rs2 : RegNo) (f : Files → FRes) (h : floatFnTakes fn rs2.val n = true) :
    floatOp x fn rd rs1 rs2 f s =
      .next (s.ran x n fun r => { r with f := r.f.set rd.val (f r).bits, fl := (f r).flags }) :=
  regOp_float r rd rs1 rs2 h _

/-- A conversion to s64 writes the rounded value to g[rd] and accrues its conditions. -/
theorem toIntOp_completes (fn : Nat) (rm : Rnd) (rd rs1 : RegNo) (h : floatFnTakes fn 0 1 = true) :
    toIntOp x fn rm rd rs1 s = .next (s.ran x 1 fun r =>
      { r.setG rd (BitVec.ofInt 64 (fToInt rm (r.fv rs1)).1) with fl := (fToInt rm (r.fv rs1)).2 }) :=
  regOp_float r rd rs1 0 h _

end

/-! ### The obligations -/

/-- Settles O31: each operation is a use of `intOp_completes` with its FN code, its cycles and its function. -/
theorem integerRegisterResults : Obligations.IntegerRegisterResults := by
  intro s x rd rs1 rs2 r res
  have op (fn n : Nat) (f : DWord → DWord → DWord) (h : intFnTakes fn rs2.val n = true) :
      intOp x fn rd rs1 rs2 f s = res n f := intOp_completes r fn n rd rs1 rs2 f h
  have op1 (fn : Nat) (f : DWord → DWord) (h : intFnTakes fn 0 1 = true) :
      intOp x fn rd rs1 0 (fun a _ => f a) s = res 1 (fun a _ => f a) := intOp_completes r fn 1 rd rs1 0 _ h
  have sel (p : PredNo) := regOp_int r rd rs1 rs2 (select_takes p rs2.val).1 fun r =>
    r.setG rd (if predAt r.p p.val then r.gv rs1 else r.gv rs2)
  refine ⟨op 0x00 1 (fun a b => a + b) rfl, op 0x01 1 (fun a b => a - b) rfl, op 0x02 1 (fun a b => a &&& b) rfl,
    op 0x03 1 (fun a b => a ||| b) rfl, op 0x04 1 (fun a b => a ^^^ b) rfl, op 0x05 1 (fun a b => a &&& ~~~b) rfl,
    op 0x06 1 (fun a b => a <<< (b.toNat % 64)) rfl, op 0x07 1 (fun a b => a >>> (b.toNat % 64)) rfl,
    op 0x08 1 (fun a b => a.sshiftRight (b.toNat % 64)) rfl, op 0x09 1 (fun a b => a.rotateLeft (b.toNat % 64)) rfl,
    op 0x0A 1 minS rfl, op 0x0B 1 maxS rfl, op 0x0C 1 minU rfl, op 0x0D 1 maxU rfl, op1 0x0E clz64 rfl, op1 0x0F popc64 rfl,
    op 0x20 2 (fun a b => a * b) rfl, op 0x21 2 mulHigh rfl, op 0x22 2 mulHighU rfl, op 0x28 10 divS rfl, op 0x29 10 divU rfl,
    op 0x2A 10 remS rfl, op 0x2B 10 remU rfl, op 0x30 1 (fun a b => satS64 (a.toInt + b.toInt)) rfl,
    op 0x31 1 (fun a b => satS64 (a.toInt - b.toInt)) rfl, sel, ?_⟩
  intro low
  have opw (fn n : Nat) (f : Word → Word → Word) (h : intFnTakes fn rs2.val n = true) :
      intOp x fn rd rs1 rs2 (onLow f) s = low n f := intOp_completes r fn n rd rs1 rs2 (onLow f) h
  exact ⟨opw 0x10 1 (fun a b => a + b) rfl, opw 0x11 1 (fun a b => a - b) rfl, opw 0x16 1 (fun a b => a <<< (b.toNat % 32)) rfl,
    opw 0x17 1 (fun a b => a >>> (b.toNat % 32)) rfl, opw 0x18 1 (fun a b => a.sshiftRight (b.toNat % 32)) rfl,
    opw 0x23 2 (fun a b => a * b) rfl, opw 0x2C 6 divS rfl, opw 0x2D 6 divU rfl, opw 0x2E 6 remS rfl, opw 0x2F 6 remU rfl⟩

/-- Settles O32: the operations with an immediate and the shifts are uses of `immOp_ready` and `shiOp_ready`; a W form shifts
bits [31:0]. -/
theorem immediateResults : Obligations.ImmediateResults := by
  intro s x rd rs1 imm sh v r res
  have op (op : Nat) (f : DWord → DWord) (ho : op = 1 ∨ op = 2 ∨ op = 3 ∨ op = 4) : immOp x op rd rs1 imm f s = res f :=
    immOp_ready r ho rd rs1 imm f
  have shift (kind : Nat) (f : DWord → Nat → DWord) (fw : Word → Nat → Word) (hk : kind < 4) :
      shiOp x kind rd rs1 false sh (shiftImm f fw false sh) s = res fun a => f a sh.toNat :=
    shiOp_ready r hk rd rs1 false sh (absurd · Bool.false_ne_true) _
  have shiftW (kind : Nat) (f : DWord → Nat → DWord) (fw : Word → Nat → Word) (hk : kind < 4) (low : sh.toNat < 32) :
      shiOp x kind rd rs1 true sh (shiftImm f fw true sh) s = res fun a => (fw (a.setWidth 32) sh.toNat).signExtend 64 :=
    shiOp_ready r hk rd rs1 true sh (fun _ => low) _
  exact ⟨op 0x01 (fun a => a + immS imm) (by decide), op 0x02 (fun a => a &&& immS imm) (by decide),
    op 0x03 (fun a => a ||| immS imm) (by decide), op 0x04 (fun a => a ^^^ immS imm) (by decide),
    shift 0 (fun a n => a <<< n) (fun a n => a <<< n) (by decide), shift 1 (fun a n => a >>> n) (fun a n => a >>> n) (by decide),
    shift 2 (fun a n => a.sshiftRight n) (fun a n => a.sshiftRight n) (by decide),
    shift 3 (fun a n => a.rotateLeft n) (fun a n => a.rotateLeft n) (by decide),
    fun low => ⟨shiftW 0 (fun a n => a <<< n) (fun a n => a <<< n) (by decide) low,
      shiftW 1 (fun a n => a >>> n) (fun a n => a >>> n) (by decide) low,
      shiftW 2 (fun a n => a.sshiftRight n) (fun a n => a.sshiftRight n) (by decide) low,
      shiftW 3 (fun a n => a.rotateLeft n) (fun a n => a.rotateLeft n) (by decide) low⟩,
    execMoviL_completes r rd v, execMoviH_completes r rd v⟩

/-- Settles O33: a comparison writes its condition and PLOG its function of two predicates, through `Files.setP`. -/
theorem predicateResults : Obligations.PredicateResults := by
  intro s x pd a b rs1 rs2 imm r res
  have cmp (fn : CmpFn) := execCmp_completes r pd fn rs1 rs2
  have cmpi (fn : CmpIFn) := execCmpi_completes r pd fn rs1 imm
  have cmpiu (fn : CmpIFn) := execCmpiu_completes r pd fn rs1 imm
  have plog (fn : Nat) (a b : PredNo) (f : Bool → Bool → Bool) (hf : fn ≤ 6) := plogOp_ready r hf pd a b f
  have wide : (imm.setWidth 64).toNat = imm.toNat := BitVec.toNat_setWidth_of_le (by omega)
  refine ⟨cmp .eq, cmp .ne, cmp .lt, cmp .ge, cmp .ltu, cmp .geu, cmpi .eq, cmpi .ne, cmpi .lt, cmpi .ge,
    (cmpiu .lt).trans ?_, (cmpiu .ge).trans ?_, cmpiu .eq, cmpiu .ne,
    plog 0 a b (fun a b => a && b) (by decide), plog 1 a b (fun a b => a || b) (by decide),
    plog 2 a b (fun a b => a != b) (by decide), plog 3 a b (fun a b => a && !b) (by decide),
    plog 4 0 0 (fun _ _ => true) (by decide), plog 5 0 0 (fun _ _ => false) (by decide),
    execPlogTst_completes r pd rs1, fun fn => execFcmp_completes r pd fn rs1 rs2⟩
  · simp only [res, cmpICond, cmpCond, wide, Bool.false_eq_true, if_false]
  · simp only [res, cmpICond, cmpCond, wide, Bool.false_eq_true, if_false]

/-- Settles O34: the operations with a floating-point result are uses of `floatOp_completes` with their FN codes and their
cycles, the conversions to s64 of `toIntOp_completes`. -/
theorem floatingResults : Obligations.FloatingResults := by
  intro s x rd rs1 rs2 r res int
  have op (fn n : Nat) (v : Files → FRes) (h : floatFnTakes fn rs2.val n = true) : floatOp x fn rd rs1 rs2 v s = res n v :=
    floatOp_completes r fn n rd rs1 rs2 v h
  have op1 (fn n : Nat) (v : Files → FRes) (h : floatFnTakes fn 0 n = true) : floatOp x fn rd rs1 0 v s = res n v :=
    floatOp_completes r fn n rd rs1 0 v h
  have toInt (fn : Nat) (m : Rnd) (h : floatFnTakes fn 0 1 = true) : toIntOp x fn m rd rs1 s = int m :=
    toIntOp_completes r fn m rd rs1 h
  have move := regOp_float r rd rs1 0 (fn := 0x0B) (n := 1) rfl fun r => r.setG rd (r.fv rs1)
  have sel (p : PredNo) := regOp_float r rd rs1 rs2 (select_takes p rs2.val).2 fun r =>
    r.setF rd (if predAt r.p p.val then r.fv rs1 else r.fv rs2)
  exact ⟨op 0x00 2 (fun r => fAdd (r.fv rs1) (r.fv rs2)) rfl, op 0x01 2 (fun r => fSub (r.fv rs1) (r.fv rs2)) rfl,
    op 0x02 2 (fun r => fMul (r.fv rs1) (r.fv rs2)) rfl, op 0x03 8 (fun r => fDiv (r.fv rs1) (r.fv rs2)) rfl,
    op1 0x04 10 (fun r => fSqrt (r.fv rs1)) rfl, op 0x05 2 (fun r => fMinMax false (r.fv rs1) (r.fv rs2)) rfl,
    op 0x06 2 (fun r => fMinMax true (r.fv rs1) (r.fv rs2)) rfl,
    op 0x09 2 (fun r => fMac (r.fv rd) (r.fv rs1) (r.fv rs2)) rfl, op1 0x07 1 (fun r => ⟨fAbs (r.fv rs1), 0⟩) rfl,
    op1 0x08 1 (fun r => ⟨fNeg (r.fv rs1), 0⟩) rfl, op1 0x0A 1 (fun r => ⟨r.gv rs1, 0⟩) rfl, move,
    op1 0x0C 1 (fun r => fOfInt (r.gv rs1).toInt) rfl, op1 0x0D 1 (fun r => fOfInt (r.gv rs1).toNat) rfl,
    toInt 0x10 .rne rfl, toInt 0x11 .rtz rfl, toInt 0x12 .rdn rfl, toInt 0x13 .rup rfl, toInt 0x14 .rna rfl, sel⟩

end Sys2Proof.Machine
end

section
/-! PROOFS. How a core pair ends an instruction: retired, elsewhere, waiting or by an exception, and what a false guard or an
undefined word makes of it, on a lane too (R268, R271, R283, R284, R297). -/

namespace Sys2Proof.Machine

/-! ### The end of an instruction of a pair -/

/-- The device after an instruction of pair h at `pc` has ended. -/
def CoreEnd.over (h : Nat) (pc : DWord) : CoreEnd → Device
  | .retire d => d.retireAt h (pc + 4#64)
  | .jump d pc' => d.retireAt h pc'
  | .wait d x => d.setCore h fun c => { c with wait := x }
  | .trap d code tval => d.trap h code tval

/-- The exception `code` of an instruction of pair h, with its debug step used up. -/
def Device.raised (d : Device) (h code : Nat) (tval : DWord) : Device := (d.setCore h CorePair.stepped).trap h code tval

/-- Unless its pair runs in M with interrupts off, an exception enters its handler (R284). -/
theorem Device.raised_single (d : Device) (p : Pair) (code : Nat) (tval : DWord)
    (single : (d.corePair (pairIx p)).prv = 3 → (d.corePair (pairIx p)).ie = true) :
    d.raised (pairIx p) code tval = d.faulted (pairIx p) code tval := d.trap_stepped p code tval single

/-- In M with interrupts off an exception is a double fault, and the pair restarts (R284, R297). -/
theorem Device.raised_double (d : Device) (p : Pair) (code : Nat) (tval : DWord) (machine : (d.corePair (pairIx p)).prv = 3)
    (off : (d.corePair (pairIx p)).ie = false) : d.raised (pairIx p) code tval =
      (d.setCore (pairIx p) CorePair.stepped).restartPair (pairIx p) (CPX_RCAUSE_DBLF (pairIx p)) none := by
  have double : ((d.setCore (pairIx p) CorePair.stepped).corePair (pairIx p)).prv = 3 ∧
      ¬ ((d.setCore (pairIx p) CorePair.stepped).corePair (pairIx p)).ie = true := by
    simp only [Device.corePair_setCore _ (pairIx_lt p), CorePair.stepped_leaves, machine, off]
    decide
  exact if_pos double

/-- An instruction whose effect on its pair is `f` retires with the pair at `pc`. -/
theorem Device.setCore_retireAt (d : Device) (p : Pair) {k f : CorePair → CorePair} (pc : DWord)
    (hk : k (d.corePair (pairIx p)) = { f (d.corePair (pairIx p)) with step := false })
    (hi : (f (d.corePair (pairIx p))).instret = (d.corePair (pairIx p)).instret) :
    (d.setCore (pairIx p) k).retireAt (pairIx p) pc = d.coreTo (pairIx p) pc f := by
  rw [Device.retireAt, Device.setCore_setCore _ (pairIx_lt p), Device.coreTo]
  apply Device.setCore_congr
  rw [hk, ← hi]

/-- The instruction after is the one at pc + 4. -/
theorem Device.coreTo_next (d : Device) (h : Nat) (f : CorePair → CorePair) :
    d.coreTo h ((d.corePair h).pc + 4#64) f = d.coreDone h f := Device.setCore_congr _ _ rfl

/-! ### Fetch (R30, R283, R285) -/

/-- What one core's registers hold changes no read of memory. -/
theorem Device.coreRead_setCore (d : Device) (h a n : Nat) (f : CorePair → CorePair) (hr : regionOf a ≠ .periph) :
    (d.setCore h f).coreRead h a n = ((d.coreRead h a n).1, (d.coreRead h a n).2.setCore h f) := by
  have ecc : (d.setCore h f).eccRead a n = ((d.eccRead a n).1, (d.eccRead a n).2.setCore h f) := by
    have upset (double : Bool) : (d.setCore h f).upsetAt a n double = d.upsetAt a n double := rfl
    simp only [Device.eccRead, upset, Device.memWord_setCore]
    split
    · simp only [Device.when_, Device.up, Device.put_setCore]
      split <;> rfl
    · simp only [Device.when_, Device.up, Device.put_setCore, Device.count16_setCore]
      split <;> rfl
  unfold Device.coreRead
  generalize regionOf a = x at hr
  cases x with
  | periph => exact absurd rfl hr
  | none => rfl
  | rom => simp only [Device.memWord_setCore]
  | tcm q =>
    dsimp only
    split
    · exact ecc
    · rw [Device.violation_setCore]
  | nvm | sram | epoch | port | score => exact ecc

/-- A read of memory changes neither memory nor the core pairs. -/
theorem Device.coreRead_leaves (d : Device) (h a n : Nat) (hr : regionOf a ≠ .periph) :
    (d.coreRead h a n).2.mem = d.mem ∧ (d.coreRead h a n).2.cpx = d.cpx := by
  have ecc : (d.eccRead a n).2.mem = d.mem ∧ (d.eccRead a n).2.cpx = d.cpx := by
    simp only [Device.eccRead]
    split
    · simp only [Device.when_]
      split <;> simp
    · simp only [Device.when_]
      split <;> simp [Device.count16_leaves]
  unfold Device.coreRead
  generalize regionOf a = x at hr
  cases x with
  | periph => exact absurd rfl hr
  | none => exact ⟨rfl, rfl⟩
  | rom => exact ⟨rfl, rfl⟩
  | tcm q =>
    dsimp only
    split
    · exact ecc
    · exact d.violation_leaves ..
  | nvm | sram | epoch | port | score => exact ecc

/-- Using up the debug step changes no fetch. -/
theorem Device.fetch_setCore_stepped (d : Device) {h : Nat} (hh : h < 2) :
    (d.setCore h CorePair.stepped).fetch h = ((d.fetch h).1, (d.fetch h).2.setCore h CorePair.stepped) := by
  unfold Device.fetch
  simp only [Device.corePair_setCore _ hh, CorePair.stepped_leaves]
  split
  · rfl
  next memory =>
    rw [Device.coreRead_setCore _ _ _ _ _ memory]
    split
    · rfl
    · split <;> rfl

/-- A fetch changes neither memory nor the core pairs. -/
theorem Device.fetch_leaves (d : Device) (h : Nat) : (d.fetch h).2.mem = d.mem ∧ (d.fetch h).2.cpx = d.cpx := by
  unfold Device.fetch
  dsimp only
  split
  · exact ⟨rfl, rfl⟩
  next memory =>
    split
    · exact d.coreRead_leaves _ _ _ memory
    · split
      · exact ⟨rfl, rfl⟩
      · exact d.coreRead_leaves _ _ _ memory

/-- A fetch that fails raises the instruction access fault, or the integrity fault of a double-bit error (R283). -/
theorem Device.fetch_code {d : Device} {h code : Nat} (fails : (d.fetch h).1 = some code) : code = 1 ∨ code = 7 := by
  unfold Device.fetch at fails
  dsimp only at fails
  split at fails
  next periph =>
    dsimp only at fails
    split at fails
    · cases fails
    · exact .inl (Option.some.inj fails).symm
  next memory =>
    split at fails
    · exact .inr (Option.some.inj fails).symm
    · split at fails
      · exact .inl (Option.some.inj fails).symm
      · dsimp only at fails
        split at fails
        · exact .inl (Option.some.inj fails).symm
        · cases fails

/-! ### An instruction of a pair -/

section

variable {d : Device} {p : Pair} (acts : d.coreActs (pairIx p) = true) (idle : (d.corePair (pairIx p)).wait = .none)
  (calm : (d.corePair (pairIx p)).ie = true → d.pendingSource (pairIx p) = none) (g : Guard) (w : Word) (body : Device → CoreEnd)
include acts idle calm

/-- An instruction whose fetch fails raises the exception of the fetch, at its own address. -/
theorem Device.runCore_unfetched {code : Nat} (fails : (d.fetch (pairIx p)).1 = some code) :
    d.runCore (pairIx p) g w body = (d.fetch (pairIx p)).2.raised (pairIx p) code (d.corePair (pairIx p)).pc := by
  have none_ : (if (d.corePair (pairIx p)).ie = true then d.pendingSource (pairIx p) else none) = none :=
    ite_eq_right_iff.2 calm
  unfold Device.runCore
  simp only [acts, idle, Device.corePair_setCore d (pairIx_lt p), CorePair.stepped_leaves, Device.pendingSource_setCore, none_,
    Device.fetch_setCore_stepped d (pairIx_lt p), fails, Bool.not_true, Bool.false_or, bne_self_eq_false, Bool.false_eq_true,
    if_false]
  rfl

variable (fetched : (d.fetch (pairIx p)).1 = none)
  (clean : regionOf (d.corePair (pairIx p)).pc.toNat = .nvm → d.upsetAt (d.corePair (pairIx p)).pc.toNat 4 false = false)
include fetched clean

/-- An instruction that is fetched is judged by its word, then by its guard, and then executed (R271). -/
theorem Device.runCore_fetched : d.runCore (pairIx p) g w body =
    if islorDefined false w = false then d.raised (pairIx p) 2 (w.setWidth 64)
    else if guardHolds g (d.corePair (pairIx p)).p = false then d.coreDone (pairIx p) id
    else (body (d.setCore (pairIx p) CorePair.stepped)).over (pairIx p) (d.corePair (pairIx p)).pc := by
  have hp := pairIx_lt p
  have none_ : (if (d.corePair (pairIx p)).ie = true then d.pendingSource (pairIx p) else none) = none :=
    ite_eq_right_iff.2 calm
  have off : (d.setCore (pairIx p) CorePair.stepped).retireAt (pairIx p) ((d.corePair (pairIx p)).pc + 4#64) =
      d.coreDone (pairIx p) id := (d.setCore_retireAt p _ rfl rfl).trans (d.coreTo_next _ _)
  unfold Device.runCore
  simp only [acts, idle, Device.corePair_setCore d hp, CorePair.stepped_leaves, Device.pendingSource_setCore, none_,
    Device.fetch_stepped d hp fetched clean, off, Bool.not_eq_true', Bool.not_true, Bool.false_or, bne_self_eq_false,
    Bool.false_eq_true, if_false]
  cases body (d.setCore (pairIx p) CorePair.stepped) <;> rfl

/-- A word that Islor-C does not define is an illegal instruction, whatever its guard. -/
theorem Device.runCore_undefined (hw : islorDefined false w = false) :
    d.runCore (pairIx p) g w body = d.raised (pairIx p) 2 (w.setWidth 64) :=
  (Device.runCore_fetched acts idle calm g w body fetched clean).trans (if_pos hw)

/-- A guarded-off instruction only lets its pair go on. -/
theorem Device.runCore_guardedOff (hw : islorDefined false w = true) (off : guardHolds g (d.corePair (pairIx p)).p = false) :
    d.runCore (pairIx p) g w body = d.coreDone (pairIx p) id :=
  (Device.runCore_fetched acts idle calm g w body fetched clean).trans ((if_neg (by simp [hw])).trans (if_pos off))

/-- An instruction whose guard holds ends as its body says. -/
theorem Device.runCore_guarded (hw : islorDefined false w = true) (on_ : guardHolds g (d.corePair (pairIx p)).p = true) :
    d.runCore (pairIx p) g w body =
      (body (d.setCore (pairIx p) CorePair.stepped)).over (pairIx p) (d.corePair (pairIx p)).pc :=
  (Device.runCore_fetched acts idle calm g w body fetched clean).trans ((if_neg (by simp [hw])).trans (if_neg (by simp [on_])))

end

/-! ### An instruction of a lane -/

section

variable {d : Device} {l : Nat} (row : (d.lane l).row.isSome = true) {slot : Nat} {job : Bool}
  (running : d.runningSlot = some (slot, job)) (going : (d.lane l).ended = false) (whole : (d.lane l).abort = none)
  (g : Guard) {w : Word} (bad : Lane → Nat → Bool) (body : Device → Lane → Lane)
include row running going whole

/-- A word that Islor-S does not define aborts its lane, whatever its guard. -/
theorem Device.runLane_undefined (hw : islorDefined true w = false) : d.runLane l g w bad body = d.laneAbort l := by
  obtain ⟨row, hrow⟩ := Option.isSome_iff_exists.mp row
  simp [Device.runLane, hrow, running, going, whole, hw]

variable (inside : (d.lane l).pc < d.get (SCR_KINFO_LEN slot)) (good : bad (d.lane l) (d.get (SCR_KINFO_LEN slot)) = false)
  (hw : islorDefined true w = true)
include inside good hw

/-- An instruction that the profile defines and R290 admits is executed when its guard holds, and else spends its cycles. -/
theorem Device.runLane_defined : d.runLane l g w bad body =
    if guardHolds g (d.lane l).p = true then d.setLane l fun v => body d (v.begun (laneCycles w))
    else d.laneDone l (laneCycles w) id := by
  obtain ⟨row, hrow⟩ := Option.isSome_iff_exists.mp row
  have short : ¬ d.get (SCR_KINFO_LEN slot) ≤ (d.lane l).pc := by omega
  simp only [Device.runLane, hrow, running, going, whole, hw, good, short, Option.isSome_none, Bool.or_false, Bool.not_true,
    decide_false, Bool.false_eq_true, if_false]
  rfl

end

/-! ### Guards (R271) -/

/-- p0 negated is no guard: the word is defined in neither profile. -/
theorem islorDefined_never (lane : Bool) {w : Word} (pg : fieldOf w 29 3 = 0) (pn : fieldOf w 28 1 = 1) :
    islorDefined lane w = false := by
  simp [islorDefined, pg, pn]

/-- Settles O56: `runCore_fetched` and `runLane_defined` say what a word that is fetched makes of its agent. -/
theorem guardedOff : Obligations.GuardedOff := by
  refine ⟨fun g p => rfl, ?_, ?_, fun lane w => islorDefined_never lane⟩
  · intro d p g w body h acts idle calm fetched clean
    refine ⟨fun hw on_ => ?_, fun hw off => Device.runCore_guardedOff acts idle calm g w body fetched clean hw off,
      fun hw => Device.runCore_undefined acts idle calm g w body fetched clean hw⟩
    have run := Device.runCore_guarded acts idle calm g w body fetched clean hw on_
    exact ⟨fun e retires => run.trans (by rw [retires]; rfl), fun e pc jumps => run.trans (by rw [jumps]; rfl)⟩
  · intro d l g w bad body slot job row running going whole inside good
    have run (hw : islorDefined true w = true) := Device.runLane_defined row running going whole g bad body inside good hw
    exact ⟨fun hw on_ => (run hw).trans (if_pos on_), fun hw off => (run hw).trans (if_neg (by simp [off])),
      fun hw => Device.runLane_undefined row running going whole g bad body hw⟩

end Sys2Proof.Machine
end

section
/-! PROOFS. Exceptions of a core pair and the return from one, and the levels that its control registers are closed to (R281 to
R285, R287, R297). -/

namespace Sys2Proof.Machine

/-! ### STATUS (R282, R284) -/

theorem CorePair.prv_lt (c : CorePair) : c.prv < 4 := Nat.mod_lt _ (by decide)

theorem Bool.bit_lt (b : Bool) : Bool.bit b < 2 := by cases b <;> decide

/-- The fields of STATUS read back (R282). -/
theorem statusWord_fields (ie pie : Bool) {prv pprv : Nat} (h : prv < 4) (h' : pprv < 4) :
    (statusWord ie pie prv pprv).getLsbD 0 = ie ∧ (statusWord ie pie prv pprv).getLsbD 1 = pie ∧
      (statusWord ie pie prv pprv).toNat / 4 % 4 = prv ∧ (statusWord ie pie prv pprv).toNat / 16 % 4 = pprv := by
  have hi := Bool.bit_lt ie
  have hp := Bool.bit_lt pie
  have value : (statusWord ie pie prv pprv).toNat = Bool.bit ie + 2 * Bool.bit pie + 4 * prv + 16 * pprv :=
    Nat.mod_eq_of_lt (by omega)
  have bit (b : Bool) : decide (Bool.bit b = 1) = b := by cases b <;> rfl
  have low : (Bool.bit ie + 2 * Bool.bit pie + 4 * prv + 16 * pprv) % 2 = Bool.bit ie := by omega
  have next : (Bool.bit ie + 2 * Bool.bit pie + 4 * prv + 16 * pprv) / 2 % 2 = Bool.bit pie := by omega
  simp only [BitVec.getLsbD, Nat.testBit_succ, Nat.testBit_zero, value, low, next, bit, true_and]
  omega

/-! ### Exceptions that instructions raise -/

section

variable {s : State} {p : Pair} {g : Guard} (r : CoreReady s.dev (pairIx p) g)
include r

/-- ECALL raises the code of its level (R283). -/
theorem execEcall_raises {code : Nat} (level : (s.dev.corePair (pairIx p)).prv = 3 ∧ code = 0x0A ∨
    (s.dev.corePair (pairIx p)).prv = 1 ∧ code = 0x09 ∨ (s.dev.corePair (pairIx p)).prv = 0 ∧ code = 0x08) :
    execEcall ⟨.core p, g⟩ s = .next (s.after (s.dev.raised (pairIx p) code 0#64)) := by
  refine coreOp_traps r (islorDefined_sys r.legal _ (by omega)) ?_
  simp only [Device.corePair_setCore _ (pairIx_lt p), CorePair.stepped_leaves]
  rcases level with ⟨h, rfl⟩ | ⟨h, rfl⟩ | ⟨h, rfl⟩ <;> simp [h]

/-- BRK raises its exception at its own address (R283). -/
theorem execBrk_raises : execBrk ⟨.core p, g⟩ s =
    .next (s.after (s.dev.raised (pairIx p) 0x0B (s.dev.corePair (pairIx p)).pc)) := by
  refine coreOp_traps r (islorDefined_sys r.legal _ (by omega)) ?_
  simp only [Device.corePair_setCore _ (pairIx_lt p), CorePair.stepped_leaves]

/-- ERET outside M raises the privilege exception (R283). -/
theorem execEret_raises (level : (s.dev.corePair (pairIx p)).prv ≠ 3) : execEret ⟨.core p, g⟩ s =
    .next (s.after (s.dev.raised (pairIx p) 3 ((sysWord ⟨.core p, g⟩ 0x01).setWidth 64))) := by
  refine coreOp_traps r (islorDefined_sys r.legal _ (by omega)) ?_
  simp only [Device.corePair_setCore _ (pairIx_lt p), CorePair.stepped_leaves]
  exact if_pos level

/-- WFI in U raises the privilege exception (R283). -/
theorem execWfi_raises (level : (s.dev.corePair (pairIx p)).prv = 0) : execWfi ⟨.core p, g⟩ s =
    .next (s.after (s.dev.raised (pairIx p) 3 ((sysWord ⟨.core p, g⟩ 0x02).setWidth 64))) := by
  refine coreOp_traps r (islorDefined_sys r.legal _ (by omega)) ?_
  simp only [Device.corePair_setCore _ (pairIx_lt p), CorePair.stepped_leaves]
  exact if_pos level

/-- A word that Islor-C does not define raises the illegal instruction (R268, R271). -/
theorem execIllegalInstruction_raises {w : Word} (hw : islorDefined false w = false) :
    execIllegalInstruction (.core p) w s = .next (s.after (s.dev.raised (pairIx p) 2 (w.setWidth 64))) :=
  onCtl_awake r.awake ((if_neg (by simp [hw])).trans
    (Device.runCore_undefined r.acts r.idle r.calm ⟨0, false⟩ w _ r.fetched r.clean hw))

/-- A CSR operation from a level that may not read the register, or may not write the one that it writes, raises the privilege
exception (R282, R283). -/
theorem csrOp_raises {kind : Nat} (hk : kind < 4) (rd rs1 : RegNo) (k : Fin 64) (hl : csrListed k.val = true) (w : Bool)
    (new : DWord → DWord → DWord)
    (closed : csrMayRead k.val (s.dev.corePair (pairIx p)).prv = false ∨
      w = true ∧ csrMayWrite k.val (s.dev.corePair (pairIx p)).prv = false) :
    csrOp ⟨.core p, g⟩ kind rd k rs1 w new s = .next (s.after
      (s.dev.raised (pairIx p) 3 ((encI g 0x24 rd.val rs1.val (kind * 64 + k.val)).setWidth 64))) := by
  have field : (kind * 64 + k.val) % 64 = k.val := by omega
  have defined : islorDefined false (encI g 0x24 rd.val rs1.val (kind * 64 + k.val)) = true :=
    islorDefined_encI false r.legal 0x24 _ _ _ (by simp [csrOk, field, hl]; omega) (by omega) rd.isLt rs1.isLt (by omega)
  refine coreOp_traps r defined ?_
  simp only [Device.corePair_setCore _ (pairIx_lt p), CorePair.stepped_leaves]
  exact if_pos (by rcases closed with h | ⟨h, h'⟩ <;> simp [*])

variable {op : Nat} (ho : 8 ≤ op ∧ op ≤ 14 ∨ 16 ≤ op ∧ op ≤ 21) (rd rs1 : RegNo) (imm : BitVec 12) {a : DWord}
  (ha : gAt (s.dev.corePair (pairIx p)).g rs1 + imm.signExtend 64 = a)
include ho ha

/-- An access whose address is no multiple of its size raises the alignment exception (R283). -/
theorem loadOp_unaligned_raises {n : Nat} (put : CorePair → Nat → CorePair) (odd : a.toNat % n ≠ 0) :
    loadOp ⟨.core p, g⟩ op rd rs1 imm n put s = .next (s.after (s.dev.raised (pairIx p) 4 a)) := by
  refine coreOp_traps r (islorDefined_access r.legal rd rs1 imm ho) ?_
  simp only [Device.address_stepped rs1 imm ha, if_pos odd]

theorem storeOp_unaligned_raises {n : Nat} (data : CorePair → DWord) (odd : a.toNat % n ≠ 0) :
    storeOp ⟨.core p, g⟩ op rd rs1 imm n data s = .next (s.after (s.dev.raised (pairIx p) 4 a)) := by
  refine coreOp_traps r (islorDefined_access r.legal rd rs1 imm ho) ?_
  simp only [Device.address_stepped rs1 imm ha, if_pos odd]

/-- An access that the MPU refuses raises the access fault of its kind (R283, R285). -/
theorem loadOp_refused_raises {n : Nat} (put : CorePair → Nat → CorePair) (aligned : a.toNat % n = 0)
    (refused : (s.dev.corePair (pairIx p)).mpuAdmits .read a.toNat = false) :
    loadOp ⟨.core p, g⟩ op rd rs1 imm n put s = .next (s.after (s.dev.raised (pairIx p) 5 a)) := by
  refine coreOp_traps r (islorDefined_access r.legal rd rs1 imm ho) ?_
  simp only [Device.address_stepped rs1 imm ha, Device.corePair_setCore _ (pairIx_lt p), CorePair.stepped_leaves, aligned, refused,
    ne_eq, not_true_eq_false, if_false, Bool.not_false, if_true]

theorem storeOp_refused_raises {n : Nat} (data : CorePair → DWord) (aligned : a.toNat % n = 0)
    (refused : (s.dev.corePair (pairIx p)).mpuAdmits .write a.toNat = false) :
    storeOp ⟨.core p, g⟩ op rd rs1 imm n data s = .next (s.after (s.dev.raised (pairIx p) 6 a)) := by
  refine coreOp_traps r (islorDefined_access r.legal rd rs1 imm ho) ?_
  simp only [Device.address_stepped rs1 imm ha, Device.corePair_setCore _ (pairIx_lt p), CorePair.stepped_leaves, aligned, refused,
    ne_eq, not_true_eq_false, if_false, Bool.not_false, if_true]

end

/-- Settles O38: each instruction raises its exception, which enters the handler, or, in M with interrupts off, restarts the
pair. -/
theorem exceptionEntry : Obligations.ExceptionEntry := by
  intro s p g r h c
  have ld (rd rs1 : RegNo) (imm : BitVec 12) (odd : (gAt c.g rs1 + imm.signExtend 64).toNat % 8 ≠ 0) :
      execLd ⟨.core p, g⟩ rd rs1 imm s = .next (s.after (s.dev.raised h 4 (gAt c.g rs1 + imm.signExtend 64))) :=
    loadOp_unaligned_raises r (by omega) rd rs1 imm rfl _ odd
  have sd (rd rs1 : RegNo) (imm : BitVec 12) (odd : (gAt c.g rs1 + imm.signExtend 64).toNat % 8 ≠ 0) :
      execSd ⟨.core p, g⟩ rd rs1 imm s = .next (s.after (s.dev.raised h 4 (gAt c.g rs1 + imm.signExtend 64))) :=
    storeOp_unaligned_raises r (by omega) rd rs1 imm rfl _ odd
  constructor
  · intro single traps
    have enters {o : Host.Outcome State Fault Refusal} {code : Nat} {tval : DWord}
        (raises : o = .next (s.after (s.dev.raised h code tval))) : o = traps code tval :=
      raises.trans (congrArg (Host.Outcome.next ∘ s.after) (s.dev.raised_single p code tval single))
    refine ⟨fun m => enters (execEcall_raises r (.inl ⟨m, rfl⟩)), fun v => enters (execEcall_raises r (.inr (.inl ⟨v, rfl⟩))),
      fun u => enters (execEcall_raises r (.inr (.inr ⟨u, rfl⟩))),
      enters (execBrk_raises r), fun level => enters (execEret_raises r level), fun u => enters (execWfi_raises r u),
      fun w hw => enters (execIllegalInstruction_raises r hw), fun rd rs1 imm => ⟨fun odd => ⟨?_, ?_⟩, fun odd => ⟨?_, ?_⟩,
        fun aligned refused => ?_, fun aligned refused => ?_⟩, fun rd k listed closed => ?_⟩
    · exact enters (ld rd rs1 imm odd)
    · exact enters (sd rd rs1 imm odd)
    · show execLw ⟨.core p, g⟩ rd rs1 imm s = _
      exact enters (loadOp_unaligned_raises r (by omega) rd rs1 imm rfl _ odd)
    · show execSw ⟨.core p, g⟩ rd rs1 imm s = _
      exact enters (storeOp_unaligned_raises r (by omega) rd rs1 imm rfl _ odd)
    · show execLw ⟨.core p, g⟩ rd rs1 imm s = _
      exact enters (loadOp_refused_raises r (by omega) rd rs1 imm rfl _ aligned refused)
    · show execSw ⟨.core p, g⟩ rd rs1 imm s = _
      exact enters (storeOp_refused_raises r (by omega) rd rs1 imm rfl _ aligned refused)
    · have refused := csrOp_raises r (kind := 0) (by omega) rd 0 k listed false (fun old _ => old) (.inl closed)
      rw [Nat.zero_mul, Nat.zero_add] at refused
      exact enters refused
  · intro m off restarts
    have again {o : Host.Outcome State Fault Refusal} {code : Nat} {tval : DWord}
        (raises : o = .next (s.after (s.dev.raised h code tval))) : o = restarts :=
      raises.trans (congrArg (Host.Outcome.next ∘ s.after) (s.dev.raised_double p code tval m off))
    exact ⟨again (execEcall_raises r (.inl ⟨m, rfl⟩)), again (execBrk_raises r),
      fun w hw => again (execIllegalInstruction_raises r hw),
      fun rd rs1 imm odd => ⟨again (ld rd rs1 imm odd), again (sd rd rs1 imm odd)⟩⟩

/-! ### Levels of the control registers (R281) -/

/-- Settles O58: the table of R281 read off the two predicates, and a write that a level may not do raises its exception. -/
theorem controlRegisterLevels : Obligations.ControlRegisterLevels := by
  refine ⟨by decide, ?_⟩
  intro s p g rd rs1 k r h c single listed closed traps
  have refused (kind : Nat) (hk : kind < 4) (w : Bool) (hw : w = true) (new : DWord → DWord → DWord) :
      csrOp ⟨.core p, g⟩ kind rd k rs1 w new s = traps kind :=
    (csrOp_raises r hk rd rs1 k listed w new (closed.imp_right fun shut => ⟨hw, shut⟩)).trans
      (congrArg (Host.Outcome.next ∘ s.after) (s.dev.raised_single p 3 _ single))
  have writes (nonzero : rs1 ≠ 0) : (rs1.val != 0) = true := bne_iff_ne.2 fun zero => nonzero (Fin.ext zero)
  exact ⟨refused 1 (by omega) true rfl (fun _ v => v),
    fun nonzero => ⟨refused 2 (by omega) _ (writes nonzero) (fun old v => old ||| v),
      refused 3 (by omega) _ (writes nonzero) (fun old v => old &&& ~~~v)⟩⟩

/-! ### Return from an exception (R284) -/

/-- ERET in M goes to EPC with the level and IE that the entry saved. -/
theorem execEret_returns {s : State} {p : Pair} {g : Guard} (r : CoreReady s.dev (pairIx p) g)
    (level : (s.dev.corePair (pairIx p)).prv = 3) : execEret ⟨.core p, g⟩ s =
      .next (s.after (s.dev.coreTo (pairIx p) (s.dev.corePair (pairIx p)).epc CorePair.leave)) := by
  have hp := pairIx_lt p
  rw [execEret, coreOp_ready r (islorDefined_sys r.legal _ (by omega))]
  simp only [Device.corePair_setCore _ hp, CorePair.stepped_leaves, level, ne_eq, not_true_eq_false, if_false,
    Device.setCore_setCore _ hp]
  exact congrArg (Host.Outcome.next ∘ s.after) (s.dev.setCore_retireAt p _ rfl rfl)

/-- The level that ERET returns to (R284). -/
theorem CorePair.leave_fields (c : CorePair) : c.leave.ie = c.status.getLsbD 1 ∧ c.leave.status.getLsbD 1 = true ∧
    c.leave.prv = (if c.status.toNat / 16 % 4 = 2 then 0 else c.status.toNat / 16 % 4) := by
  have saved : c.status.toNat / 16 % 4 < 4 := Nat.mod_lt _ (by decide)
  obtain ⟨ie, pie, prv, -⟩ := statusWord_fields (c.status.getLsbD 1) true
    (prv := if c.status.toNat / 16 % 4 = 2 then 0 else c.status.toNat / 16 % 4) (by split <;> omega) saved
  exact ⟨ie, pie, prv⟩

/-- Settles O39: `execEret_returns` says where the pair goes, `CorePair.leave_fields` at which level. -/
theorem returnFromException : Obligations.ReturnFromException := by
  intro s p g r level
  refine ⟨_, execEret_returns r level, ?_⟩
  intro c c'
  obtain ⟨ie, pie, prv⟩ := c.leave_fields
  have after : c' = { c.leave with pc := c.epc, instret := c.instret + 1#64, wait := .none, step := false } := by
    simp only [c', State.after_fields, Device.settle_parts, Device.coreTo, Device.corePair_setCore _ (pairIx_lt p)]
    rfl
  rw [after]
  exact ⟨rfl, ie, pie, prv, rfl, rfl, rfl, rfl, rfl, rfl, rfl, by simp [Device.coreTo]⟩

end Sys2Proof.Machine
end

section
/-! PROOFS. Control registers, fences and waits of a core pair (R279 to R282, R287, R297). -/

namespace Sys2Proof.Machine

/-! ### Instructions that retire, go elsewhere or wait -/

/-- The device after a debug step of pair h is used up and its registers have changed by `f`. -/
theorem Device.stepped_setCore_retireAt (d : Device) (p : Pair) {k f : CorePair → CorePair} (pc : DWord)
    (hk : k (d.corePair (pairIx p)).stepped = { f (d.corePair (pairIx p)) with step := false })
    (hi : (f (d.corePair (pairIx p))).instret = (d.corePair (pairIx p)).instret) :
    ((d.setCore (pairIx p) CorePair.stepped).setCore (pairIx p) k).retireAt (pairIx p) pc = d.coreTo (pairIx p) pc f := by
  rw [Device.setCore_setCore _ (pairIx_lt p)]
  exact d.setCore_retireAt p pc hk hi

section

variable {s : State} {p : Pair} {g : Guard} (r : CoreReady s.dev (pairIx p) g) {w : Word} (hw : islorDefined false w = true)
  {body : Nat → Device → CoreEnd}
include r hw

/-- An instruction whose body retires without a change of its pair completes. -/
theorem coreOp_passes
    (hb : body (pairIx p) (s.dev.setCore (pairIx p) CorePair.stepped) = .retire (s.dev.setCore (pairIx p) CorePair.stepped)) :
    coreOp ⟨.core p, g⟩ w body s = .next (s.after (s.dev.coreDone (pairIx p) id)) := by
  rw [coreOp_ready r hw, hb, ← s.dev.coreTo_next]
  exact congrArg (Host.Outcome.next ∘ s.after) (s.dev.setCore_retireAt p _ rfl rfl)

/-- An instruction whose body retires with effect `k` on its pair, which is `f` with the debug step used up, completes. -/
theorem coreOp_completes {k f : CorePair → CorePair}
    (hb : body (pairIx p) (s.dev.setCore (pairIx p) CorePair.stepped) =
      .retire ((s.dev.setCore (pairIx p) CorePair.stepped).setCore (pairIx p) k))
    (hk : k (s.dev.corePair (pairIx p)).stepped = { f (s.dev.corePair (pairIx p)) with step := false })
    (hi : (f (s.dev.corePair (pairIx p))).instret = (s.dev.corePair (pairIx p)).instret) :
    coreOp ⟨.core p, g⟩ w body s = .next (s.after (s.dev.coreDone (pairIx p) f)) := by
  rw [coreOp_ready r hw, hb, ← s.dev.coreTo_next]
  exact congrArg (Host.Outcome.next ∘ s.after) (s.dev.stepped_setCore_retireAt p _ hk hi)

/-- An instruction whose body begins a wait leaves its pair in it. -/
theorem coreOp_waits {x : CoreWait}
    (hb : body (pairIx p) (s.dev.setCore (pairIx p) CorePair.stepped) = .wait (s.dev.setCore (pairIx p) CorePair.stepped) x) :
    coreOp ⟨.core p, g⟩ w body s =
      .next (s.after (s.dev.setCore (pairIx p) fun c => { c with step := false, wait := x })) := by
  rw [coreOp_ready r hw, hb]
  exact congrArg (Host.Outcome.next ∘ s.after) (Device.setCore_setCore _ (pairIx_lt p) _ _)

end

/-! ### Control registers (R281, R282) -/

/-- Writing a control register leaves INSTRET and does not see the debug step. -/
theorem CorePair.setCsr_leaves (c : CorePair) (k : Nat) (v : DWord) :
    (c.setCsr k v).instret = c.instret ∧ c.stepped.setCsr k v = (c.setCsr k v).stepped := by
  have mpu (c : CorePair) (n : Nat) (b : Bool) : (c.setMpu n b v).instret = c.instret ∧
      c.stepped.setMpu n b v = (c.setMpu n b v).stepped := by
    simp only [CorePair.setMpu, CorePair.stepped_leaves]
    split
    · exact ⟨rfl, rfl⟩
    · split <;> exact ⟨rfl, rfl⟩
  unfold CorePair.setCsr
  split
  · exact mpu ..
  · split
    · exact mpu ..
    · split <;> exact ⟨rfl, rfl⟩

/-- A pair reads `old` from control register k into g[rd], and then writes to it what `new` makes of `old` and g[rs1] (R282). -/
def CorePair.swapCsr (c : CorePair) (rd rs1 : RegNo) (k : Nat) (old : DWord) (new : DWord → DWord → DWord) : CorePair :=
  ({ c with g := gSet c.g rd old } : CorePair).setCsr k (new old (gAt (gSet c.g rd old) rs1))

theorem CorePair.swapCsr_leaves (c : CorePair) (rd rs1 : RegNo) (k : Nat) (old : DWord) (new : DWord → DWord → DWord) :
    (c.swapCsr rd rs1 k old new).instret = c.instret ∧
      c.stepped.swapCsr rd rs1 k old new = (c.swapCsr rd rs1 k old new).stepped :=
  CorePair.setCsr_leaves { c with g := gSet c.g rd old } k _

section

variable {s : State} {p : Pair} {g : Guard} (r : CoreReady s.dev (pairIx p) g) {kind : Nat} (hk : kind < 4) (rd rs1 : RegNo)
  (k : Fin 64) (hl : csrListed k.val = true) (new : DWord → DWord → DWord)
  (h1 : csrMayRead k.val (s.dev.corePair (pairIx p)).prv = true)
include r hk hl h1

/-- A CSR operation that only reads writes the register's value to g[rd]. -/
theorem csrOp_reads {w : Bool} (hw : w = false) : csrOp ⟨.core p, g⟩ kind rd k rs1 w new s =
    .next (s.after (s.dev.coreDone (pairIx p) fun c => { c with g := gSet c.g rd (s.dev.csrValue (pairIx p) k.val) })) := by
  subst hw
  rw [csrOp_ready r hk rd rs1 k hl false new h1 (absurd · Bool.false_ne_true)]
  exact congrArg (Host.Outcome.next ∘ s.after) (s.dev.setGv_retireAt p rd _ rfl)

/-- A CSR operation that writes forms its value from the register's old one and from g[rs1] after the write of g[rd]. -/
theorem csrOp_writes {w : Bool} (hw : w = true) (h2 : csrMayWrite k.val (s.dev.corePair (pairIx p)).prv = true) :
    csrOp ⟨.core p, g⟩ kind rd k rs1 w new s = .next (s.after (s.dev.coreDone (pairIx p) fun c =>
      c.swapCsr rd rs1 k.val (s.dev.csrValue (pairIx p) k.val) new)) := by
  subst hw
  rw [csrOp_ready r hk rd rs1 k hl true new h1 fun _ => h2, ← s.dev.coreTo_next]
  refine congrArg (Host.Outcome.next ∘ s.after) ?_
  have leaves := (s.dev.corePair (pairIx p)).swapCsr_leaves rd rs1 k.val (s.dev.csrValue (pairIx p) k.val) new
  simp only [if_true, Device.setGv, Device.setCore_setCore _ (pairIx_lt p)]
  exact s.dev.setCore_retireAt p _ leaves.2 leaves.1

end

/-! ### Epoch waits (R287) -/

/-- An epoch wait ends at once with a newer epoch number, or begins. -/
theorem epwOp_ready {s : State} {p : Pair} {g : Guard} (r : CoreReady s.dev (pairIx p) g) {fn : Nat}
    (hf : fn = 8 ∨ fn = 9 ∨ fn = 10) (ev : Fin 3) (rd rs1 : RegNo) :
    let than := (gAt (s.dev.corePair (pairIx p)).g rs1).setWidth 32
    (newer (s.dev.latest ev) than = true → epwOp ⟨.core p, g⟩ fn ev rd rs1 s =
      .next (s.after (s.dev.coreDone (pairIx p) fun c => { c with g := gSet c.g rd ((s.dev.latest ev).setWidth 64) }))) ∧
    (newer (s.dev.latest ev) than = false → epwOp ⟨.core p, g⟩ fn ev rd rs1 s =
      .next (s.after (s.dev.setCore (pairIx p) fun c => { c with step := false, wait := .epochs ev rd than }))) := by
  intro than
  have defined : islorDefined false (encR g 0x25 rd.val rs1.val (0 : RegNo).val fn) = true :=
    islorDefined_encR false r.legal 0x25 rd rs1 0 fn (by rcases hf with rfl | rfl | rfl <;> rfl) (by omega) (by omega)
  have awaited : low32 ((s.dev.setCore (pairIx p) CorePair.stepped).gv (pairIx p) rs1) = than := by
    rw [Device.gv, Device.corePair_setCore _ (pairIx_lt p)]
    rfl
  have latest : (s.dev.setCore (pairIx p) CorePair.stepped).latest ev = s.dev.latest ev := rfl
  constructor
  · intro new
    refine coreOp_completes r defined (k := fun c => { c with g := gSet c.g rd ((s.dev.latest ev).setWidth 64) }) ?_ rfl rfl
    simp only [awaited, latest, new, if_true]
    rfl
  · intro old
    refine coreOp_waits r defined ?_
    simp only [awaited, latest, old, Bool.false_eq_true, if_false]

/-! ### Fences, WFI and NOP (R279, R280, R287) -/

section

variable {s : State} {p : Pair} {g : Guard} (r : CoreReady s.dev (pairIx p) g)
include r

theorem execFence_passes : execFence ⟨.core p, g⟩ s = .next (s.after (s.dev.coreDone (pairIx p) id)) :=
  coreOp_passes r (islorDefined_sys r.legal _ (by omega)) rfl

theorem execFenceI_passes : execFenceI ⟨.core p, g⟩ s = .next (s.after (s.dev.coreDone (pairIx p) id)) :=
  coreOp_passes r (islorDefined_sys r.legal _ (by omega)) rfl

theorem execFenceIo_waits : execFenceIo ⟨.core p, g⟩ s =
    .next (s.after (s.dev.setCore (pairIx p) fun c => { c with step := false, wait := .fenceIo })) :=
  coreOp_waits r (islorDefined_sys r.legal _ (by omega)) rfl

theorem execNop_passes : execNop ⟨.core p, g⟩ s = .next (s.ran ⟨.core p, g⟩ 1 id) := by
  have defined (lane : Bool) : islorDefined lane (sysWord ⟨.core p, g⟩ 0x11) = true :=
    islorDefined_encR lane r.legal 0x25 0 0 0 0x11 (by cases lane <;> rfl) (by omega) (by omega)
  exact regOp_cycles (x := ⟨.core p, g⟩) r defined (laneCycles_encR 0 0 0 0x11 (by omega) (by omega)) id

variable (able : (s.dev.corePair (pairIx p)).prv ≠ 0)
include able

/-- WFI outside U ends at once while an interrupt is pending. -/
theorem execWfi_passes (pending : (s.dev.pendingSource (pairIx p)).isSome = true) :
    execWfi ⟨.core p, g⟩ s = .next (s.after (s.dev.coreDone (pairIx p) id)) := by
  refine coreOp_passes r (islorDefined_sys r.legal _ (by omega)) ?_
  simp only [Device.corePair_setCore _ (pairIx_lt p), CorePair.stepped_leaves, Device.pendingSource_setCore]
  exact (if_neg able).trans (if_pos pending)

/-- WFI outside U waits while none is pending. -/
theorem execWfi_waits (calm : s.dev.pendingSource (pairIx p) = none) : execWfi ⟨.core p, g⟩ s =
    .next (s.after (s.dev.setCore (pairIx p) fun c => { c with step := false, wait := .wfi })) := by
  refine coreOp_waits r (islorDefined_sys r.legal _ (by omega)) ?_
  simp only [Device.corePair_setCore _ (pairIx_lt p), CorePair.stepped_leaves, Device.pendingSource_setCore]
  exact (if_neg able).trans (if_neg (by simp [calm]))

end

/-- Settles O37: control registers by `csrOp_reads` and `csrOp_writes`, epoch waits by `epwOp_ready`, and each other instruction
passes or waits. -/
theorem systemInstructions : Obligations.SystemInstructions := by
  intro s p g r h prv
  refine ⟨fun rd rs1 k listed => ?_, execFence_passes r, execFenceI_passes r, execNop_passes r, execFenceIo_waits r,
    fun able calm => execWfi_waits r able calm, fun able pending => execWfi_passes r able pending, fun rd rs1 ev => ?_⟩
  · intro old
    have writes (nonzero : rs1 ≠ 0) : (rs1.val != 0) = true := bne_iff_ne.2 fun zero => nonzero (Fin.ext zero)
    refine ⟨fun read => ?_, fun read write => ?_, fun read write nonzero => ⟨?_, ?_⟩, fun read => ⟨?_, ?_⟩⟩
    · exact csrOp_reads r (kind := 0) (by omega) rd 0 k listed (fun old _ => old) read rfl
    · exact csrOp_writes r (kind := 1) (by omega) rd rs1 k listed (fun _ v => v) read rfl write
    · exact csrOp_writes r (kind := 2) (by omega) rd rs1 k listed (fun old v => old ||| v) read (writes nonzero) write
    · exact csrOp_writes r (kind := 3) (by omega) rd rs1 k listed (fun old v => old &&& ~~~v) read (writes nonzero) write
    · exact csrOp_reads r (kind := 2) (by omega) rd 0 k listed (fun old v => old ||| v) read rfl
    · exact csrOp_reads r (kind := 3) (by omega) rd 0 k listed (fun old v => old &&& ~~~v) read rfl
  · intro run than
    match ev with
    | 0 => exact epwOp_ready r (.inl rfl) 0 rd rs1
    | 1 => exact epwOp_ready r (.inr (.inl rfl)) 1 rd rs1
    | 2 => exact epwOp_ready r (.inr (.inr rfl)) 2 rd rs1

end Sys2Proof.Machine
end

section
/-! PROOFS. Interrupt entry of a core pair, and what ends its waits (R280, R283, R284, R287). -/

namespace Sys2Proof.Machine

/-! ### Interrupt entry, and the ends of waits (R280, R284, R287) -/

/-- STATUS at the entry into a handler (R284). -/
theorem statusWord_entered (ie : Bool) (prv : Nat) :
    statusWord false ie 3 prv = BitVec.ofNat 64 (2 * Bool.bit ie + 4 * 3 + 16 * prv) := by
  simp [statusWord, Bool.bit]

/-- Interrupt entry of pair h from source n, field by field (R284). -/
theorem Device.takeInterrupt_eq (d : Device) (h n : Nat) :
    d.takeInterrupt h n = { d with pulses := d.pulses.filter fun k => k != n }.setCore h fun c =>
      { c with epc := c.pc, cause := BitVec.ofNat 64 (2 ^ 63 + n), tval := 0#64, pc := c.vbase + 0x100#64, wait := .none,
               status := BitVec.ofNat 64 (2 * Bool.bit c.ie + 4 * 3 + 16 * c.prv) } := by
  simp only [Device.takeInterrupt, CorePair.enter, statusWord_entered]
  rfl

section

variable {d : Device} {h : Nat}

/-- A pair with interrupts off, with none pending, or in FENCE.IO takes no interrupt. -/
theorem Device.interrupted_none
    (calm : (d.corePair h).ie = false ∨ d.pendingSource h = none ∨ (d.corePair h).wait = .fenceIo) : d.interrupted h = none := by
  unfold Device.interrupted
  dsimp only
  split
  next taken =>
    obtain ⟨⟨-, on_⟩, fence⟩ : (_ ∧ (d.corePair h).ie = true) ∧ (d.corePair h).wait ≠ .fenceIo := by simpa using taken
    have none_ : d.pendingSource h = none := by simpa [on_, fence] using calm
    rw [none_]
  · rfl

/-- A pair that acts takes an enabled pending interrupt; a WFI retires first. -/
theorem Device.interrupted_some {n : Nat} (acts : d.coreActs h = true) (on_ : (d.corePair h).ie = true)
    (source : d.pendingSource h = some n) (free : (d.corePair h).wait ≠ .fenceIo) : d.interrupted h =
      some ((if (d.corePair h).wait = .wfi then d.retireAt h ((d.corePair h).pc + 4#64) else d).takeInterrupt h n) := by
  have taken : (d.coreActs h && (d.corePair h).ie && (d.corePair h).wait != .fenceIo) = true := by
    simp [acts, on_, free]
  unfold Device.interrupted
  simp only [taken, source, if_true]

/-- An epoch wait that no interrupt ends, ends with the latest epoch number when that is newer, or at the timeout. -/
theorem Device.epochWaitOver_eq {ev : Fin 3} {rd : RegNo} {than : Word} (acts : d.coreActs h = true)
    (waits : (d.corePair h).wait = .epochs ev rd than) (calm : (d.corePair h).ie = true → d.pendingSource h = none)
    (timeout : Bool) : d.epochWaitOver h timeout =
      if (timeout || newer (d.latest ev) than) = true then
        (d.setGv h rd ((d.latest ev).setWidth 64)).retireAt h ((d.corePair h).pc + 4#64)
      else d := by
  have none_ : d.interrupted h = none := Device.interrupted_none (by
    cases on_ : (d.corePair h).ie with
    | false => exact .inl rfl
    | true => exact .inr (.inl (calm on_)))
  simp only [Device.epochWaitOver, waits, acts, none_, Bool.not_true, Bool.false_eq_true, if_false]

end

section

variable {s : State} {p : Pair} (awake : s.dev.awake = true) (acts : s.dev.coreActs (pairIx p) = true)
include awake

/-- INTERRUPT_ENTRY changes nothing where the pair takes no interrupt. -/
theorem execInterruptEntry_stays (calm : (s.dev.corePair (pairIx p)).ie = false ∨ s.dev.pendingSource (pairIx p) = none ∨
    (s.dev.corePair (pairIx p)).wait = .fenceIo) : execInterruptEntry p s = .next (s.after s.dev) :=
  onCtl_awake awake (by rw [Device.interrupted_none calm, Option.getD_none])

include acts

/-- INTERRUPT_ENTRY takes an enabled pending interrupt; the instruction that it returns to is the one at `pc`, which lies behind
a WFI, and a WFI has retired. -/
theorem execInterruptEntry_enters {n : Nat} {pc k : DWord} (on_ : (s.dev.corePair (pairIx p)).ie = true)
    (source : s.dev.pendingSource (pairIx p) = some n)
    (returns : (s.dev.corePair (pairIx p)).wait = .none ∧ pc = (s.dev.corePair (pairIx p)).pc ∧ k = 0#64 ∨
      (s.dev.corePair (pairIx p)).wait = .wfi ∧ pc = (s.dev.corePair (pairIx p)).pc + 4#64 ∧ k = 1#64) :
    execInterruptEntry p s =
      .next (s.after ({ s.dev with pulses := s.dev.pulses.filter fun x => x != n }.setCore (pairIx p) fun c =>
        { c with epc := pc, cause := BitVec.ofNat 64 (2 ^ 63 + n), tval := 0#64, pc := c.vbase + 0x100#64, wait := .none,
                 instret := c.instret + k, status := BitVec.ofNat 64 (2 * Bool.bit c.ie + 4 * 3 + 16 * c.prv) })) := by
  refine onCtl_awake awake ?_
  rcases returns with ⟨idle, rfl, rfl⟩ | ⟨wfi, rfl, rfl⟩
  · rw [Device.interrupted_some acts on_ source (by rw [idle]; decide), if_neg (by rw [idle]; decide), Option.getD_some,
      Device.takeInterrupt_eq]
    refine Device.setCore_congr _ _ ?_
    rw [BitVec.add_zero]
    rfl
  · rw [Device.interrupted_some acts on_ source (by rw [wfi]; decide), if_pos wfi, Option.getD_some, Device.takeInterrupt,
      Device.retireAt, Device.setCore_setCore _ (pairIx_lt p)]
    simp only [CorePair.enter, statusWord_entered]
    rfl

/-- The end of FENCE.IO lets its pair go on (R280). -/
theorem execFenceIoComplete_retires (fence : (s.dev.corePair (pairIx p)).wait = .fenceIo) : execFenceIoComplete p s =
    .next (s.after (s.dev.retireAt (pairIx p) ((s.dev.corePair (pairIx p)).pc + 4#64))) :=
  onCtl_awake awake (if_pos (by simp [acts, fence]))

/-- A pending interrupt lets a pair in WFI go on (R287). -/
theorem execWfiWake_retires (wfi : (s.dev.corePair (pairIx p)).wait = .wfi)
    (pending : (s.dev.pendingSource (pairIx p)).isSome = true) : execWfiWake p s =
      .next (s.after (s.dev.retireAt (pairIx p) ((s.dev.corePair (pairIx p)).pc + 4#64))) :=
  onCtl_awake awake (if_pos (by simp [acts, wfi, pending]))

end

/-- Settles O40: `execInterruptEntry_enters` and `execInterruptEntry_stays` say when an interrupt is taken, and each wait ends by
its own event. -/
theorem interruptsAndWaits : Obligations.InterruptsAndWaits := by
  intro s p awake acts h c enters
  refine ⟨fun n on_ source idle => execInterruptEntry_enters awake acts on_ source (.inl ⟨idle, rfl, rfl⟩),
    fun n on_ source wfi => execInterruptEntry_enters awake acts on_ source (.inr ⟨wfi, rfl, rfl⟩),
    fun off => execInterruptEntry_stays awake (.inl off),
    fun fence => ⟨execFenceIoComplete_retires awake acts fence, execInterruptEntry_stays awake (.inr (.inr fence))⟩,
    fun wfi pending => execWfiWake_retires awake acts wfi pending, fun ev rd than waits calm => ?_⟩
  intro ends
  have ended (timeout : Bool) := Device.epochWaitOver_eq acts waits calm timeout
  refine ⟨?_, fun new => ?_, fun old => ?_⟩
  · show execEpochWaitTimeout p s = _
    exact onCtl_awake awake ((ended true).trans (if_pos rfl))
  · show execEpochWaitEnd p s = _
    exact onCtl_awake awake ((ended false).trans (if_pos new))
  · show execEpochWaitEnd p s = _
    exact onCtl_awake awake ((ended false).trans (if_neg (by simp [old])))

end Sys2Proof.Machine
end

section
/-! PROOFS. Control-flow signatures, branches, calls and jumps of a core pair, and fetches that fail (R278, R283, R288). -/

namespace Sys2Proof.Machine

/-! ### Control-flow signatures (R288) -/

/-- SIGA with IMM17[16] or RD set is no instruction. -/
theorem islorDefined_siga (g : Guard) (rd : RegNo) (imm : Fin 131072) (h : rd ≠ 0 ∨ 65536 ≤ imm.val) :
    islorDefined false (encU g 0x27 rd.val imm.val) = false := by
  obtain ⟨-, -, op, dest, high⟩ := fieldOf_encU g (show 0x27 < 64 by omega) rd.isLt imm.isLt
  have bad : (rd.val == 0 && imm.val / 65536 == 0) = false := by
    simp only [Bool.and_eq_false_iff, beq_eq_false_iff_ne]
    exact h.imp (fun other zero => other (Fin.ext zero)) fun high => by omega
  simp [islorDefined, op, dest, high, bad]

section

variable {s : State} {p : Pair} {g : Guard} (r : CoreReady s.dev (pairIx p) g)
include r

theorem execSiga_folds (v : Half) : execSiga ⟨.core p, g⟩ v s = .next (s.after (s.dev.coreDone (pairIx p) fun c =>
    { c with sig := c.sig.rotateLeft 3 ^^^ v.setWidth 32 })) := by
  have folds : (!false && 0 == 0 && v.toNat / 65536 == 0) = true := by
    rw [Nat.div_eq_of_lt (by omega)]
    rfl
  exact coreOp_completes r (islorDefined_encU false r.legal 0x27 0 v.toNat folds (by omega) (by omega) (by omega)) rfl rfl rfl

theorem execSigs_loads (rs1 : RegNo) : execSigs ⟨.core p, g⟩ rs1 s =
    .next (s.after (s.dev.coreDone (pairIx p) fun c => { c with sig := (gAt c.g rs1).setWidth 32 })) :=
  coreOp_completes r (islorDefined_encR false r.legal 0x2C 0 rs1 0 1 rfl (by omega) (by omega)) rfl rfl rfl

/-- SIGC clears SIG, and retires or raises its exception with what SIG was. -/
theorem execSigc_checks (rs1 : RegNo) : execSigc ⟨.core p, g⟩ rs1 s =
    if (s.dev.corePair (pairIx p)).sig = (gAt (s.dev.corePair (pairIx p)).g rs1).setWidth 32 then
      .next (s.after (s.dev.coreDone (pairIx p) fun c => { c with sig := 0#32 }))
    else .next (s.after ((s.dev.setCore (pairIx p) fun c => { c with sig := 0#32 }).raised (pairIx p) 0x0C
      ((s.dev.corePair (pairIx p)).sig.setWidth 64))) := by
  have hp := pairIx_lt p
  have defined : islorDefined false (encR g 0x2C 0 rs1.val 0 0) = true :=
    islorDefined_encR false r.legal 0x2C 0 rs1 0 0 rfl (by omega) (by omega)
  split
  next same =>
    refine coreOp_completes r defined (k := fun c => { c with sig := 0#32 }) ?_ rfl rfl
    simp only [Device.gv, Device.corePair_setCore _ hp, CorePair.stepped_leaves, low32, same, beq_self_eq_true, if_true]
  next differ =>
    have cleared : (s.dev.setCore (pairIx p) CorePair.stepped).setCore (pairIx p) (fun c => { c with sig := 0#32 }) =
        (s.dev.setCore (pairIx p) fun c => { c with sig := 0#32 }).setCore (pairIx p) CorePair.stepped := by
      simp only [Device.setCore_setCore _ hp]
      rfl
    refine coreOp_traps r defined ?_
    simp only [Device.gv, Device.corePair_setCore _ hp, CorePair.stepped_leaves, low32, beq_iff_eq, differ, if_false, cleared]

end

/-- Settles O55: each signature instruction is one case of its lemma; the exception of SIGC enters its handler with SIG
cleared. -/
theorem controlFlowSignatures : Obligations.ControlFlowSignatures := by
  refine ⟨fun d h => ?_, islorDefined_siga, ?_⟩
  · have value : d.csrValue h 10 = (d.corePair h).sig.setWidth 64 := rfl
    have small := (d.corePair h).sig.isLt
    refine ⟨?_, value⟩
    rw [value, BitVec.toNat_setWidth_of_le (by omega)]
    exact small
  intro s p g r h c
  refine ⟨execSiga_folds r, execSigs_loads r, fun rs1 same => (execSigc_checks r rs1).trans (if_pos same),
    fun rs1 single differ => ((execSigc_checks r rs1).trans (if_neg differ)).trans ?_⟩
  have core := Device.corePair_setCore s.dev (pairIx_lt p) fun c => { c with sig := 0#32 }
  rw [Device.raised_single _ p _ _ (by rw [core]; exact single), Device.faulted, Device.setCore_setCore _ (pairIx_lt p)]
  rfl

/-! ### Branches, calls and jumps (R278) -/

section

variable {s : State} {p : Pair} {g : Guard} (r : CoreReady s.dev (pairIx p) g)
include r

theorem execBr_branches (off : BitVec 22) : execBr ⟨.core p, g⟩ off s =
    .next (s.after (s.dev.coreTo (pairIx p) ((s.dev.corePair (pairIx p)).pc + off.signExtend 64 * 4#64) id)) := by
  refine onCtl_awake r.awake ((Device.runCore_ready r (islorDefined_encB false r.legal off).1 _).trans ?_)
  simp only [Device.corePair_setCore _ (pairIx_lt p), CorePair.stepped_leaves]
  exact s.dev.setCore_retireAt p _ rfl rfl

theorem execCall_calls (off : BitVec 22) : execCall ⟨.core p, g⟩ off s =
    .next (s.after (s.dev.coreTo (pairIx p) ((s.dev.corePair (pairIx p)).pc + off.signExtend 64 * 4#64) fun c =>
      { c with g := gSet c.g 31 (c.pc + 4#64) })) := by
  rw [execCall, coreOp_ready r (islorDefined_encB false r.legal off).2]
  simp only [Device.corePair_setCore _ (pairIx_lt p), CorePair.stepped_leaves]
  exact congrArg (Host.Outcome.next ∘ s.after) (s.dev.stepped_setCore_retireAt p _ rfl rfl)

theorem execJr_jumps (rd rs1 : RegNo) : execJr ⟨.core p, g⟩ rd rs1 s =
    .next (s.after (s.dev.coreTo (pairIx p)
      (gAt (gSet (s.dev.corePair (pairIx p)).g rd ((s.dev.corePair (pairIx p)).pc + 4#64)) rs1 &&& ~~~3#64) fun c =>
        { c with g := gSet c.g rd (c.pc + 4#64) })) := by
  have defined : islorDefined false (encR g 0x1A rd.val rs1.val (0 : RegNo).val 0) = true :=
    islorDefined_encR false r.legal 0x1A rd rs1 0 0 rfl (by omega) (by omega)
  refine (coreOp_ready r defined _).trans ?_
  simp only [Device.setGv, Device.gv, Device.setCore_setCore _ (pairIx_lt p), Device.corePair_setCore _ (pairIx_lt p),
    CorePair.stepped_leaves]
  exact congrArg (Host.Outcome.next ∘ s.after) (s.dev.setCore_retireAt p _ rfl rfl)

end

/-- What the entry into a handler leaves of a pair, and the level that it runs at (R284). -/
theorem CorePair.enter_fields (c : CorePair) (cause tval off : DWord) :
    (c.enter cause tval off).prv = 3 ∧ (c.enter cause tval off).ie = false := by
  obtain ⟨ie, -, prv, -⟩ := statusWord_fields false c.ie (prv := 3) (by omega) c.prv_lt
  exact ⟨prv, ie⟩

section

variable {s : State} {p : Pair} (awake : s.dev.awake = true) (acts : s.dev.coreActs (pairIx p) = true)
  (idle : (s.dev.corePair (pairIx p)).wait = .none)
  (calm : (s.dev.corePair (pairIx p)).ie = true → s.dev.pendingSource (pairIx p) = none) (g : Guard) (off : BitVec 22)
include awake acts idle calm

/-- A branch under a false guard falls through. -/
theorem execBr_falls (legal : g.pg = 0 → g.pn = false) (fetched : (s.dev.fetch (pairIx p)).1 = none)
    (clean : regionOf (s.dev.corePair (pairIx p)).pc.toNat = .nvm →
      s.dev.upsetAt (s.dev.corePair (pairIx p)).pc.toNat 4 false = false)
    (shut : guardHolds g (s.dev.corePair (pairIx p)).p = false) :
    execBr ⟨.core p, g⟩ off s = .next (s.after (s.dev.coreDone (pairIx p) id)) :=
  onCtl_awake awake
    (Device.runCore_guardedOff acts idle calm g _ _ fetched clean (islorDefined_encB false legal off).1 shut)

/-- A branch whose fetch fails raises the exception of the fetch. -/
theorem execBr_unfetched {code : Nat} (fails : (s.dev.fetch (pairIx p)).1 = some code) : execBr ⟨.core p, g⟩ off s =
    .next (s.after ((s.dev.fetch (pairIx p)).2.raised (pairIx p) code (s.dev.corePair (pairIx p)).pc)) :=
  onCtl_awake awake (Device.runCore_unfetched acts idle calm g _ _ fails)

end

/-- The pair after an exception that is no double fault has entered its handler, and memory stands (R284). -/
theorem Device.raised_enters (d : Device) (p : Pair) (code : Nat) (tval : DWord)
    (single : (d.corePair (pairIx p)).prv = 3 → (d.corePair (pairIx p)).ie = true) :
    (d.raised (pairIx p) code tval).corePair (pairIx p) =
      (d.corePair (pairIx p)).stepped.enter (BitVec.ofNat 64 code) tval 0#64 ∧
    (d.raised (pairIx p) code tval).mem = d.mem := by
  rw [d.raised_single p code tval single, Device.faulted, Device.corePair_setCore _ (pairIx_lt p), CorePair.stepped_enter]
  simp

/-- Settles O54: `execBr_branches`, `execCall_calls` and `execJr_jumps` on a pair that is ready, `execBr_falls` under a false
guard, and `execBr_unfetched` where the fetch fails. -/
theorem branchesCallsJumps : Obligations.BranchesCallsJumps := by
  intro s p g off rd rs1 h c
  refine ⟨fun r => ⟨execBr_branches r off, execCall_calls r off, execJr_jumps r rd rs1⟩, fun awake acts idle calm legal =>
    ⟨fun fetched clean shut => execBr_falls awake acts idle calm g off legal fetched clean shut, fun code fails single => ?_⟩⟩
  obtain ⟨mem, cpx⟩ := s.dev.fetch_leaves h
  have core : (s.dev.fetch h).2.corePair h = c := by rw [Device.corePair, cpx]; rfl
  obtain ⟨entered, stands⟩ := (s.dev.fetch h).2.raised_enters p code c.pc (by rw [core]; exact single)
  refine ⟨_, execBr_unfetched awake acts idle calm g off fails, Device.fetch_code fails, ?_⟩
  intro c'
  have after : c' = c.stepped.enter (BitVec.ofNat 64 code) c.pc 0#64 := by
    simp only [c', State.after_fields, Device.settle_parts]
    exact entered.trans (by rw [core])
  obtain ⟨prv, ie⟩ := c.stepped.enter_fields (BitVec.ofNat 64 code) c.pc 0#64
  rw [after]
  refine ⟨BitVec.add_zero _, rfl, rfl, rfl, prv, ie, rfl, rfl, rfl, rfl, ?_⟩
  simp only [State.after_fields, Device.settle_leaves]
  exact stands.trans mem

end Sys2Proof.Machine
end

section
/-! PROOFS. The MPU of a core pair (R285), and words written out from their encodings (R270 to R273, R276). -/

namespace Sys2Proof.Machine

/-! ### Memory protection (R285) -/

/-- The highest number below `k` that satisfies `f` is found first from above. -/
theorem find?_reverse_range_of_highest {f : Nat → Bool} {k n : Nat} (hn : n < k) (found : f n = true)
    (above : ∀ m, n < m → m < k → f m = false) : (List.range k).reverse.find? f = some n := by
  induction k with
  | zero => omega
  | succ k ih =>
    rw [List.range_succ, List.reverse_append, List.reverse_singleton, List.singleton_append, List.find?_cons]
    by_cases top : n = k
    · rw [← top, found]
    · rw [above k (by omega) (by omega)]
      exact ih (by omega) fun m h h' => above m h (by omega)

section

variable {c : CorePair} (k : Access) {a : Nat}

/-- In M nothing is checked. -/
theorem CorePair.mpuAdmits_machine (level : c.prv = 3) : c.mpuAdmits k a = true := if_pos level

variable (level : c.prv ≠ 3)
include level

/-- Outside M the highest matching region decides, by its bit for the kind of access and the level. -/
theorem CorePair.mpuAdmits_region {n : Nat} (hn : n < 16) (hit : c.mpuHit n a = true)
    (above : ∀ m, n < m → m < 16 → c.mpuHit m a = false) :
    c.mpuAdmits k a = ((c.mpul[n]?).getD 0#64).getLsbD (k.attr (c.prv != 1)) := by
  have found : (List.range 16).reverse.find? (fun n => c.mpuHit n a) = some n :=
    find?_reverse_range_of_highest hn hit above
  simp only [CorePair.mpuAdmits, level, found, if_false]

/-- Where no region matches, P may read and write if MPUCTL says so, and U may do nothing. -/
theorem CorePair.mpuAdmits_background (none_ : ∀ m < 16, c.mpuHit m a = false) :
    c.mpuAdmits k a = (c.prv == 1 && k != .fetch && c.mpuctl.getLsbD 0) := by
  have found : (List.range 16).reverse.find? (fun n => c.mpuHit n a) = none := by
    simpa using none_
  simp only [CorePair.mpuAdmits, level, found, if_false, bne, Bool.not_not]

end

/-- Settles O52: M is not checked, else the highest matching region or the background decides, and a locked region takes no
value. -/
theorem memoryProtection : Obligations.MemoryProtection := by
  intro c k a
  refine ⟨fun m => c.mpuAdmits_machine k m, fun n hn level hit above => c.mpuAdmits_region k level hn hit above,
    fun p none_ => ?_, fun level user none_ => ?_, fun n v locked => ⟨if_pos locked, if_pos locked⟩⟩
  · rw [c.mpuAdmits_background k (by omega) none_, p, beq_self_eq_true, Bool.true_and]
  · rw [c.mpuAdmits_background k level none_, beq_eq_false_iff_ne.2 user, Bool.false_and, Bool.false_and]

/-! ### Words (R270) -/

/-- Settles O57: each word is the number that its format makes of its fields. -/
theorem instructionWords : Obligations.InstructionWords := by
  unfold Obligations.InstructionWords
  decide

end Sys2Proof.Machine
end

section
/-! PROOFS. Lockstep, the scrubber, test slots, watchdogs and software interrupts of the core pairs (R303, R305, R307, R310, R313,
R315, R316). -/

namespace Sys2Proof.Machine

section

variable {d : Device} {h : Nat}

/-! ### The scrubber and test slots (R305, R307) -/

/-- A line that agrees before the last of a pass moves the scrubber on. -/
theorem Device.scrub_agrees (up : d.pairUp h = true) (inside : d.get (CPX_SCRB_LINE h) < 1023) :
    d.scrub h .agree = d.put (CPX_SCRB_LINE h) (d.get (CPX_SCRB_LINE h) + 1) := by
  have more : (d.get (CPX_SCRB_LINE h) == 1023) = false := beq_false_of_ne (by omega)
  simp only [Device.scrub, Device.when_, up, more, Bool.not_true, Bool.false_eq_true, if_false]

theorem Device.testSlotEnd_passes (up : d.pairUp h = true) : d.testSlotEnd h .pass = d.put (CPX_PST_TSOK h) 1 :=
  if_neg (by simp [up])

theorem Device.testSlotEnd_differs (up : d.pairUp h = true) :
    d.testSlotEnd h .stateDiffers = (d.put (CPX_PST_TSOK h) 0).restartPair h (CPX_RCAUSE_LATR h) none :=
  if_neg (by simp [up])

/-! ### Watchdogs and software interrupts (R310, R313, R315, R316) -/

theorem Device.watchdogFires_idle (idle : d.watchdogDue h = false) : d.watchdogFires h = d := if_pos (by simp [idle])

theorem Device.watchdogFires_a (due : d.watchdogDue 0 = true) : d.watchdogFires 0 = d.wReset SYS_RSTCAUSE_WDOG :=
  (if_neg (by simp [due])).trans (if_pos rfl)

theorem Device.watchdogFires_b (due : d.watchdogDue 1 = true) : d.watchdogFires 1 = d.restartPair 1 (CPX_RCAUSE_WDOG 1) none :=
  (if_neg (by simp [due])).trans (if_neg one_ne_zero)

theorem Device.writeWdk_starts : d.writeWdk h 0x5C#32 = (d.watchdogStart h).st uINT .ok := if_pos rfl

theorem Device.writeWdk_refuses {key : Word} (other : key ≠ 0x5C#32) : d.writeWdk h key = d.st uINT .reject := if_neg other

theorem Device.writeSwi_sets : d.writeSwi h 1#32 = (d.put (INT_SWI_SET h) 1).st uINT .ok := rfl

theorem Device.writeSwi_clears : d.writeSwi h 2#32 = (d.put (INT_SWI_SET h) 0).st uINT .ok := rfl

end

/-! ### What the instructions answer -/

section

variable {s : State} (awake : s.dev.awake = true) {p : Pair} {e : Device}
include awake

theorem exec_lockstepMismatch (g : Fin 16) : exec (.lockstepMismatch p g) s =
    .next (s.after (s.dev.restartPair (pairIx p) (CPX_RCAUSE_MISM (pairIx p)) (some g.val))) := by
  show execLockstepMismatch p g s = _
  exact onCtl_awake awake rfl

theorem exec_comparatorFault (g : Fin 16) : exec (.comparatorFault p g) s =
    .next (s.after (s.dev.restartPair (pairIx p) (CPX_RCAUSE_CMPF (pairIx p)) (some g.val))) := by
  show execComparatorFault p g s = _
  exact onCtl_awake awake rfl

theorem exec_scrubLine {r : ScrubResult} (h : s.dev.scrub (pairIx p) r = e) : exec (.scrubLine p r) s = .next (s.after e) := by
  show execScrubLine p r s = _
  exact onCtl_awake awake h

theorem exec_testSlot {r : TestSlotResult} (h : s.dev.testSlotEnd (pairIx p) r = e) :
    exec (.testSlot p r) s = .next (s.after e) := by
  show execTestSlot p r s = _
  exact onCtl_awake awake h

theorem exec_watchdogExpiry (h : s.dev.watchdogFires (pairIx p) = e) : exec (.watchdogExpiry p) s = .next (s.after e) := by
  show execWatchdogExpiry p s = _
  exact onCtl_awake awake h

variable (up : s.dev.pairUp (pairIx p) = true)
include up

theorem exec_watchdogKick {key : Word} (h : s.dev.writeWdk (pairIx p) key = e) :
    exec (.watchdogKick p key) s = .next (s.after e) := by
  show execWatchdogKick p key s = _
  exact onCtl_awake awake ((if_pos up).trans h)

theorem exec_softwareInterruptSet (h : s.dev.writeSwi (pairIx p) 1#32 = e) :
    exec (.softwareInterruptSet p) s = .next (s.after e) := by
  show execSoftwareInterruptSet p s = _
  exact onCtl_awake awake ((if_pos up).trans h)

theorem exec_softwareInterruptClear (h : s.dev.writeSwi (pairIx p) 2#32 = e) :
    exec (.softwareInterruptClear p) s = .next (s.after e) := by
  show execSoftwareInterruptClear p s = _
  exact onCtl_awake awake ((if_pos up).trans h)

end

/-- Settles O6: each event and each write of a pair is one case of its operation. -/
theorem coreSupervision : Obligations.CoreSupervision := by
  intro s p awake
  refine ⟨fun g _ => ⟨exec_lockstepMismatch awake g, exec_comparatorFault awake g⟩, fun up inside => ?_, fun up => ?_, fun up => ?_,
    fun due => ?_, fun due => ?_, fun idle => ?_, fun up => ?_, fun key up other => ?_, fun up => ⟨?_, ?_⟩⟩
  · exact exec_scrubLine awake (Device.scrub_agrees up inside)
  · exact exec_testSlot awake (Device.testSlotEnd_passes up)
  · exact exec_testSlot awake (Device.testSlotEnd_differs up)
  · exact exec_watchdogExpiry awake (Device.watchdogFires_a due)
  · exact exec_watchdogExpiry awake (Device.watchdogFires_b due)
  · exact exec_watchdogExpiry awake (Device.watchdogFires_idle idle)
  · exact exec_watchdogKick awake up Device.writeWdk_starts
  · exact exec_watchdogKick awake up (Device.writeWdk_refuses other)
  · exact exec_softwareInterruptSet awake up Device.writeSwi_sets
  · exact exec_softwareInterruptClear awake up Device.writeSwi_clears

end Sys2Proof.Machine
end

section
/-! PROOFS. Images, boot, keys, lifecycle, debug unlock, release tests and operation timeouts (R308, R427 to R432, R436 to R439). -/

namespace Sys2Proof.Machine

/-! ### Operations that write the configuration region (R429, R432, R436, R437) -/

section

variable {d : Device} {gen : Nat}

theorem Device.secOp_reset (old : gen ≠ d.gen uSEC) (f : Device → Sum Status (SecOp × Device)) :
    d.secOp gen f = (d.opst .reset (d.gen uSEC)).st uSEC .reset := if_pos old

/-- An operation accepted waits in NVC's queue, and SEC is busy with it. -/
def Device.secQueues (d : Device) (op : SecOp) (gen rgen : Nat) : Device :=
  (((d.put SEC_OPST_BUSY 1).put SEC_OPST_GEN gen).queueNvm ⟨.sec op, 0, 1, gen, rgen, false⟩).st uSEC .ok

variable (now : gen = d.gen uSEC) (room : d.nvc.queue.length < 16)
include now room

theorem Device.secOp_queues {f : Device → Sum Status (SecOp × Device)} {op : SecOp} {e : Device} (accepts : f d = .inr (op, e)) :
    d.secOp gen f = e.secQueues op gen (e.rgen 0) := by
  simp only [Device.secOp, ← now, accepts, ne_eq, not_true_eq_false, if_false, if_neg (Nat.not_le.2 room), Device.secQueues]

theorem Device.bootConf_confirms (trial : d.on SEC_BST_TRIAL = true) : d.bootConf 0xE1 gen =
    (d.put SEC_BST_TRIAL 0).secQueues (.confirm (d.on SEC_BST_BANK)) gen (d.rgen 0) := by
  have rgen : (d.put SEC_BST_TRIAL 0).rgen 0 = d.rgen 0 := d.get_put_addr 0 (by decide)
  rw [← rgen]
  exact secOp_queues now room (if_pos ⟨rfl, trial⟩)

theorem Device.rbAdvance_queues {fw krn : Nat} (proper : d.on SEC_BST_TRIAL = false) (fwIn : fw ≤ d.sec.fwSvn)
    (krnIn : krn ≤ d.topKrnSvn) : d.rbAdvance fw krn gen = d.secQueues (.advance fw krn) gen (d.rgen 0) :=
  secOp_queues now room ((if_neg (by simp [proper])).trans (if_neg (by omega)))

theorem Device.lcKey_locks (opened : d.on SEC_LC_STATE = false) (soon : d.within d.sec.key1At 10000000 = true) :
    d.lcKey 0x0F gen = (d.setSec fun x => { x with key1At := none }).secQueues .lock gen (d.rgen 0) := by
  have queued := secOp_queues (d := d.setSec fun x => { x with key1At := none }) (f := fun d => .inr (.lock, d)) now room rfl
  exact (if_neg (by simp [opened])).trans ((if_neg (by decide)).trans ((if_pos ⟨rfl, soon⟩).trans queued))

/-- A hash in the first bytes of SRAM is programmed into a slot that holds no key. -/
theorem Device.keyProg_queues {slot use : Nat} (listed : use ≠ 3) (source : d.get SEC_KSRC_ADDR = 0x20000000)
    (empty : (d.keySlot slot).valid = false) : d.keyProg slot use gen =
      d.secQueues (.program slot use (beNat ((List.range 48).map fun i => memGet d.mem (0x20000000 + i)))) gen (d.rgen 0) := by
  have readable : ¬ (use = 3 ∨ 0x20000000 % 8 ≠ 0 ∨ regionOf 0x20000000 = .none ∨ regionOf 0x20000000 = .periph) := by
    rintro (h | h)
    · exact listed h
    · revert h
      decide
  refine secOp_queues now room ?_
  dsimp only
  rw [source, if_neg readable, if_neg (ne_true_of_eq_false empty)]

theorem Device.keyRev_queues {slot : Nat} (other : d.sec.fwSlot ≠ some slot) :
    d.keyRev slot gen = d.secQueues (.revoke slot) gen (d.rgen 0) :=
  secOp_queues now room (if_neg other)

end

/-! ### The recovery loader (R430) -/

/-- A W reset leaves the application domain held, whether or not it was. -/
theorem Device.wReset_holds (d : Device) (cause : Fld) : (d.wReset cause).sys.appHeld = true := by
  cases held : d.sys.appHeld with
  | false => exact (Device.wReset_parts held cause).2
  | true => simpa [Device.wReset_held held] using held

section

variable {d : Device} {bytes : List Byte}

theorem Device.recover_normal (normal : d.sec.recovery = false) : d.recover bytes = d :=
  if_neg (by simp [normal])

/-- The recovery loader refuses an image that SEC refuses, and one that the interlock of R339 does not let it write. -/
theorem Device.recover_refuses
    (bad : ¬ (d.judgeImage (fun i => (bytes[i]?).getD 0#8) 1 = .ok ∧ d.nvmTempOk false = true)) : d.recover bytes = d := by
  refine if_neg fun all_ => bad ?_
  simp only [Bool.and_eq_true, beq_iff_eq] at all_
  obtain ⟨⟨-, judged⟩, inside⟩ := all_
  exact ⟨judged, inside⟩

/-- What the recovery loader takes, it boots by a W reset. -/
theorem Device.recover_holds (loads : d.sec.recovery = true) (up : (d.corePair 0).up = true)
    (judged : d.judgeImage (fun i => (bytes[i]?).getD 0#8) 1 = .ok) (inside : d.nvmTempOk false = true) :
    (d.recover bytes).sys.appHeld = true := by
  unfold Device.recover
  dsimp only
  rw [if_pos (by simp only [loads, up, judged, inside, beq_self_eq_true, Bool.and_self])]
  exact Device.wReset_holds _ _

end

/-! ### The verdict on a bank (R427 to R430) -/

/-- What SEC notes of bank b when it accepts its image: the bank, its version and key slot, and the boot record. -/
def Device.bankNoted (d : Device) (b : Bool) : Device :=
  let e := ((d.putB SEC_BST_BANK b).put SEC_BST_VOK 1).setSec fun x =>
    { x with trying := [], fwSvn := imgNat (d.bankImg b) 8 4, fwSlot := some (imgNat (d.bankImg b) 5 1) }
  e.setSec fun x => { x with bootRec := some (e.sectionHash 0, e.sectionHash 1) }

/-- What SEC notes of bank b when it refuses its image; `rest` is still to be tried. -/
def Device.bankFailed (d : Device) (b : Bool) (rest : List Bool) : Device :=
  ((d.put (if b then SEC_BST_FAILB else SEC_BST_FAILA) 1).put SEC_BST_TRIAL 0).setSec fun x => { x with trying := rest }

/-- Pair p, if it waits for its first boot, enters it. -/
def Device.firstBoot (d : Device) (p : Nat) : Device :=
  d.when_ ((d.corePair p).up && d.coldPair p) fun d => d.bootEntry p

/-- From `d` to `e` only memory, the core pairs and the record of their first boot move. -/
def Device.BootOnly (d e : Device) : Prop :=
  ∃ m u x c, e = { d with mem := m, upsets := u, cpx := x, sec := { d.sec with cold := c } }

namespace Device.BootOnly

variable {d e : Device}

theorem refl (d : Device) : d.BootOnly d := ⟨d.mem, d.upsets, d.cpx, d.sec.cold, rfl⟩

theorem copyTcm (h : d.BootOnly e) (p : Nat) : d.BootOnly (e.copyTcm p) := by
  obtain ⟨m, u, x, c, rfl⟩ := h
  exact ⟨_, _, _, _, rfl⟩

theorem bootEntry (h : d.BootOnly e) (p : Nat) : d.BootOnly (e.bootEntry p) := by
  obtain ⟨m, u, x, c, rfl⟩ := h
  exact ⟨_, _, _, _, rfl⟩

theorem firstBoot (h : d.BootOnly e) (p : Nat) : d.BootOnly (e.firstBoot p) := by
  unfold Device.firstBoot Device.when_
  split
  · exact h.bootEntry p
  · exact h

end Device.BootOnly

section

variable {d : Device} {b : Bool} {rest : List Bool}

theorem Device.verifyDone_idle (none_ : d.sec.trying = []) : d.verifyDone b = d := by
  simp only [Device.verifyDone, none_]

variable (front : d.sec.trying = b :: rest)
include front

theorem Device.verifyDone_accepts (good : d.judgeImage (d.bankImg b) 1 = .ok) : (d.bankNoted b).BootOnly (d.verifyDone b) := by
  have boots : d.verifyDone b = ((((d.bankNoted b).copyTcm 0).copyTcm 1).firstBoot 0).firstBoot 1 := by
    unfold Device.verifyDone
    rw [front]
    exact (if_neg (not_not.2 rfl)).trans (if_pos good)
  rw [boots]
  exact ((((BootOnly.refl _).copyTcm 0).copyTcm 1).firstBoot 0).firstBoot 1

theorem Device.verifyDone_fails (bad : d.judgeImage (d.bankImg b) 1 ≠ .ok) : d.verifyDone b =
    (d.bankFailed b rest).when_ rest.isEmpty fun e => (e.enter .tripped).setSec fun x => { x with recovery := true } := by
  unfold Device.verifyDone
  rw [front]
  exact (if_neg (not_not.2 rfl)).trans (if_neg bad)

end

/-- What SEC noted of a bank that it accepted stands while the pairs boot from it. -/
theorem Device.BootOnly.noted {d e : Device} {b : Bool} (h : (d.bankNoted b).BootOnly e) :
    e.sec.trying = [] ∧ e.sec.fwSvn = imgNat (d.bankImg b) 8 4 ∧ e.sec.bootRec.isSome = true ∧ e.get SEC_BST_VOK = 1 ∧
      e.get SEC_BST_BANK = Bool.bit b := by
  have vok : (d.bankNoted b).get SEC_BST_VOK = 1 := Device.get_put_same _ 1 (by decide)
  have bank : (d.bankNoted b).get SEC_BST_BANK = Bool.bit b :=
    ((d.putB SEC_BST_BANK b).get_put_apart 1 (by decide)).trans
      ((d.get_put_same _ (by decide)).trans (Nat.mod_eq_of_lt (Bool.bit_lt b)))
  obtain ⟨m, u, x, c, rfl⟩ := h
  exact ⟨rfl, rfl, rfl, vok, bank⟩

theorem Device.get_setSec (d : Device) (f : Sec → Sec) (g : Fld) : (d.setSec f).get g = d.get g := rfl

theorem Device.mode_setSec (d : Device) (f : Sec → Sec) : (d.setSec f).mode = d.mode := rfl

/-- A change of mode leaves SEC. -/
theorem Device.enter_sec (d : Device) (m : Mode) : (d.enter m).sec = d.sec := by
  have latched : ∀ e : Device, e.setLatch.sec = e.sec := fun e => by
    unfold Device.setLatch
    split <;> rfl
  have exited : ∀ e : Device, e.lceExit.sec = e.sec := fun e => by
    unfold Device.lceExit
    split <;> rfl
  simp only [Device.enter, Device.when_, Device.disarm, apply_ite Device.sec, latched, exited, Device.down_leaves, Device.up_leaves,
    Device.putB_leaves, Device.put_leaves, ite_self]

/-- A bank that SEC refuses is named, and the next one is tried; after the last the device trips and waits for an image (R430). -/
theorem Device.verifyDone_failed {d : Device} {rest : List Bool} (front : d.sec.trying = false :: rest)
    (bad : d.judgeImage (d.bankImg false) 1 ≠ .ok) :
    (d.verifyDone false).sec.trying = rest ∧ (d.verifyDone false).get SEC_BST_FAILA = 1 ∧
      (rest = [] → (d.verifyDone false).mode = .tripped ∧ (d.verifyDone false).sec.recovery = true) := by
  have named : (d.bankFailed false rest).get SEC_BST_FAILA = 1 :=
    ((d.put SEC_BST_FAILA 1).get_put_apart 0 (by decide)).trans (d.get_put_same 1 (by decide))
  rw [Device.verifyDone_fails front bad, Device.when_]
  have tried : (d.bankFailed false rest).sec.trying = rest := rfl
  generalize d.bankFailed false rest = e at named tried ⊢
  cases rest with
  | cons next more => exact ⟨tried, named, fun none_ => nomatch none_⟩
  | nil =>
    have trips := (Device.Stands.refl (R := (· == SEC_BST)) e).enter .tripped (by decide)
    rw [if_pos List.isEmpty_nil]
    have faila : (e.enter .tripped).get SEC_BST_FAILA = 1 := (trips.get (f := SEC_BST_FAILA) rfl).trans named
    rw [Device.get_setSec, Device.mode_setSec]
    exact ⟨(congrArg Sec.trying (e.enter_sec .tripped)).trans tried, faila, fun _ => ⟨e.mode_enter .tripped, rfl⟩⟩

/-! ### Release tests (R308, R309, R311) -/

/-- A release test that fails, of a pair that no restart has reset, fences the pair. -/
theorem Device.releaseTest_fences {d : Device} {h : Nat} (run : d.sys.appHeld = false) (down : (d.corePair h).up = false)
    (free : d.get (CPX_PST_STATE h) ≠ 3) (fresh : (d.cpx.restart[h]?).getD false = false) :
    d.releaseTest h false = (d.put (CPX_PST_RTOK h) 0).fencePair h := by
  simp only [Device.releaseTest, run, down, fresh, beq_false_of_ne free, Bool.or_self, Bool.false_eq_true, if_false]

section

variable (d : Device) {h : Nat} (hh : h < 2)
include hh

theorem Device.startAt_up (pc : Nat) : ((d.startAt h pc).corePair h).up = true := by
  rw [Device.startAt, d.corePair_setCore hh]

theorem Device.bootEntry_up : ((d.bootEntry h).corePair h).up = true := d.startAt_up hh _

/-- Wherever a pair begins, it runs. -/
theorem Device.startPair_up : ((d.startPair h).corePair h).up = true := by
  have chosen : ∀ e : Device, e.chooseBanks.cpx = e.cpx := fun e => by
    unfold Device.chooseBanks
    dsimp only
    split <;> rfl
  unfold Device.startPair
  dsimp only
  generalize d.dropTrial h = d
  split
  · split
    · exact d.bootEntry_up hh
    · unfold Device.when_
      split
      · rw [Device.corePair, chosen]
        exact d.startAt_up hh 0
      · exact d.startAt_up hh 0
  · exact Device.startAt_up _ hh _

end

/-- A pair that passes its release test runs. -/
theorem Device.releaseTest_up {d : Device} {h : Nat} (hh : h < 2) (run : d.sys.appHeld = false) (down : (d.corePair h).up = false)
    (free : d.get (CPX_PST_STATE h) ≠ 3) : ((d.releaseTest h true).corePair h).up = true := by
  simp only [Device.releaseTest, run, down, beq_false_of_ne free, Bool.or_self, Bool.false_eq_true, if_false, if_true]
  exact Device.startPair_up _ hh

/-! ### Debug (R438, R439) -/

section

variable {d : Device} {level kslot h : Nat}

theorem Device.dbgChallenge_nonce (some_ : level ≠ 0) : (d.dbgChallenge level).sec.nonce = true := by
  rw [Device.dbgChallenge, if_neg some_]
  rfl

theorem Device.dbgCheck_reject (some_ : level ≠ 0) (none_ : d.sec.nonce = false) : d.dbgCheck level kslot = d.dbgSt .reject :=
  (if_neg some_).trans (if_pos none_)

/-- A check with a nonce given uses it up, and its level is granted on the signature of a debug key alone. -/
theorem Device.dbgCheck_judges (some_ : level ≠ 0) (given : d.sec.nonce = true) {key : KeySlot} (slot : d.keySlot kslot = key)
    {signed : Bool} (judged : signedByHash key.hash (sha384 (d.dbgMessage level)) (d.dbgNum 0) (d.dbgNum 12) = signed) :
    d.dbgCheck level kslot =
      if key.valid = true ∧ key.revoked = false ∧ key.use = 2 ∧ signed = true then
        ((d.setSec fun x => { x with nonce := false }).put DBG_UST_LEVEL (max level (d.get DBG_UST_LEVEL))).dbgSt .ok
      else (d.setSec fun x => { x with nonce := false }).dbgSt .integrity := by
  subst slot judged
  simp only [Device.dbgCheck, some_, given, Bool.true_eq_false, if_false, Bool.and_eq_true, Bool.not_eq_true', beq_iff_eq, and_assoc,
    Device.get_setSec]

theorem Device.dbgHalt_locked (locked : d.on SEC_LC_STATE = true) (low : d.get DBG_UST_LEVEL < 2) (step : Bool) :
    d.dbgHalt h step = d.dbgSt .locked :=
  if_pos (by simp only [Device.dbgLevel, locked, low, if_true])

theorem Device.dbgLevel_open (opened : d.on SEC_LC_STATE = false) : d.dbgLevel = 3 := if_neg (by simp [opened])

theorem Device.dbgHalt_halts (opened : d.on SEC_LC_STATE = false) (rests : d.get (CPX_PST_STATE h) ≠ 1)
    (safe : d.banksOpen = true) : d.dbgHalt h false = (d.setCore h fun c => { c with halted := true }).dbgSt .ok := by
  simp [Device.dbgHalt, Device.dbgLevel_open opened, rests, safe]

theorem Device.dbgScan_scans (opened : d.on SEC_LC_STATE = false) :
    d.dbgScan = (d.outputsOff.setSec fun x => { x with scan := true }).dbgSt .ok :=
  if_neg (by simp [Device.dbgLevel_open opened])

end

/-! ### Timeouts (R52) -/

theorem Device.timeoutOp_kernelLoad {d : Device} {l : KLoad} (loads : d.scr.load = some l) (image : l.rom = false) :
    d.timeoutOp .kernelLoad = (d.invalidate l.slot).kernelLoadEnd l .timeout := by
  simp only [Device.timeoutOp, loads, image, Bool.false_eq_true, if_false]

/-! ### What the instructions answer -/

section

variable {s : State} (awake : s.dev.awake = true) {e : Device}
include awake

theorem exec_imageVerifyDone {k : ImageKind} (h : s.dev.verifyDone (k == .bankB) = e) :
    exec (.imageVerifyDone k) s = .next (s.after e) := by
  show execImageVerifyDone k s = _
  exact onCtl_awake awake h

theorem exec_releaseTestComplete {p : Pair} {pass : Bool} (h : s.dev.releaseTest (pairIx p) pass = e) :
    exec (.releaseTestComplete p pass) s = .next (s.after e) := by
  show execReleaseTestComplete p pass s = _
  exact onCtl_awake awake h

theorem exec_debugChallenge {l : BitVec 2} {k : Fin 8} (h : s.dev.dbgChallenge l.toNat = e) :
    exec (.debugChallenge l k) s = .next (s.after e) := by
  show execDebugChallenge l k s = _
  exact onCtl_awake awake h

theorem exec_debugCheck {l : BitVec 2} {k : Fin 8} (h : s.dev.dbgCheck l.toNat k.val = e) :
    exec (.debugCheck l k) s = .next (s.after e) := by
  show execDebugCheck l k s = _
  exact onCtl_awake awake h

theorem exec_debugHalt {p : Pair} {step : Bool} (h : s.dev.dbgHalt (pairIx p) step = e) :
    exec (.debugHalt p step) s = .next (s.after e) := by
  show execDebugHalt p step s = _
  exact onCtl_awake awake h

theorem exec_scanExtest (h : s.dev.dbgScan = e) : exec .scanExtest s = .next (s.after e) := by
  show execScanExtest s = _
  exact onCtl_awake awake h

theorem exec_operationTimeout {op : OpKind} (h : s.dev.timeoutOp op = e) : exec (.operationTimeout op) s = .next (s.after e) := by
  show execOperationTimeout op s = _
  exact onCtl_awake awake h

variable (run : s.dev.sys.appHeld = false)
include run

theorem exec_bootConfirm {key : BitVec 24} {g : Byte} (h : s.dev.bootConf key.toNat g.toNat = e) :
    exec (.bootConfirm key g) s = .next (s.after e) := by
  show execBootConfirm key g s = _
  exact onBus_released awake run h

theorem exec_rollbackAdvance {fw krn g : Byte} (h : s.dev.rbAdvance fw.toNat krn.toNat g.toNat = e) :
    exec (.rollbackAdvance fw krn g) s = .next (s.after e) := by
  show execRollbackAdvance fw krn g s = _
  exact onBus_released awake run h

theorem exec_lifecycleKey {key : BitVec 24} {g : Byte} (h : s.dev.lcKey key.toNat g.toNat = e) :
    exec (.lifecycleKey key g) s = .next (s.after e) := by
  show execLifecycleKey key g s = _
  exact onBus_released awake run h

theorem exec_keyProgram {k : Fin 8} {u : BitVec 2} {g : Byte} (h : s.dev.keyProg k.val u.toNat g.toNat = e) :
    exec (.keyProgram k u g) s = .next (s.after e) := by
  show execKeyProgram k u g s = _
  exact onBus_released awake run h

theorem exec_keyRevoke {k : Fin 8} {g : Byte} (h : s.dev.keyRev k.val g.toNat = e) :
    exec (.keyRevoke k g) s = .next (s.after e) := by
  show execKeyRevoke k g s = _
  exact onBus_released awake run h

theorem exec_recoveryImage {bytes : List Byte} (h : s.dev.recover bytes = e) :
    exec (.recoveryImage bytes) s = .next (s.after e) := by
  show execRecoveryImage bytes s = _
  exact onBus_released awake run h

end

/-- Settles O8: each command is one case of its operation, and what a boot or a release test leaves stands through what settles. -/
theorem securityOperations : Obligations.SecurityOperations := by
  intro s awake run
  refine ⟨fun key g old => ?_, fun g now room => ⟨fun trial => ?_, fun fw krn proper fwIn krnIn => ?_, fun opened soon => ?_,
      fun k u listed source empty => ?_, fun k other => ?_⟩,
    fun bytes normal => ?_, fun bytes loads up => ⟨?_, ?_⟩, fun k none_ => ?_, fun rest front => ?_,
    fun p down free fresh => ?_, fun p down free => ?_, fun l k some_ => ⟨?_, ?_⟩, fun k => ⟨?_, ?_⟩, fun l k some_ none_ => ?_,
    fun l k some_ given => ?_, fun p locked low => ?_, fun p opened rests safe => ?_, fun opened => ?_, fun joins => ?_,
    fun l loads image => ?_⟩
  · exact exec_bootConfirm awake run (Device.secOp_reset old _)
  · exact exec_bootConfirm awake run (Device.bootConf_confirms now room trial)
  · exact exec_rollbackAdvance awake run (Device.rbAdvance_queues now room proper fwIn krnIn)
  · exact exec_lifecycleKey awake run (Device.lcKey_locks now room opened soon)
  · exact exec_keyProgram awake run (Device.keyProg_queues now room (fun three => listed (BitVec.eq_of_toNat_eq three)) source empty)
  · exact exec_keyRevoke awake run (Device.keyRev_queues now room other)
  · exact exec_recoveryImage awake run (Device.recover_normal normal)
  · refine exec_recoveryImage awake run ?_
    split
    · rfl
    · next bad => exact Device.recover_refuses bad
  · exact fun ⟨judged, inside⟩ => Device.recover_holds loads up judged inside
  · exact exec_imageVerifyDone awake (Device.verifyDone_idle none_)
  · refine ⟨_, exec_imageVerifyDone awake (e := s.dev.verifyDone false) rfl, ?_⟩
    have settled : ∀ f : Fld, f.addr = SEC_BST → (s.dev.verifyDone false).settle.get f = (s.dev.verifyDone false).get f :=
      fun f hf => Device.settle_get_apart _ (by rw [hf]; decide)
    simp only [State.after_fields, Device.settle_leaves]
    split
    · next good =>
      rw [settled _ rfl, settled _ rfl]
      exact (Device.verifyDone_accepts front good).noted
    · next bad =>
      rw [settled _ rfl]
      obtain ⟨next_, named, last⟩ := Device.verifyDone_failed front bad
      exact ⟨next_, named, fun none_ => ⟨Device.settle_tripped (last none_).1, (last none_).2⟩⟩
  · exact exec_releaseTestComplete awake (Device.releaseTest_fences run down free fresh)
  · refine ⟨_, exec_releaseTestComplete awake rfl, ?_⟩
    simp only [State.after_fields, Device.settle_parts]
    exact Device.releaseTest_up (pairIx_lt p) run down free
  · exact exec_debugChallenge awake rfl
  · exact Device.dbgChallenge_nonce fun zero => some_ (BitVec.eq_of_toNat_eq zero)
  · exact exec_debugChallenge awake (if_pos rfl)
  · exact exec_debugCheck awake (if_pos rfl)
  · exact exec_debugCheck awake (Device.dbgCheck_reject (fun zero => some_ (BitVec.eq_of_toNat_eq zero)) none_)
  · exact exec_debugCheck awake (Device.dbgCheck_judges (fun zero => some_ (BitVec.eq_of_toNat_eq zero)) given rfl rfl)
  · exact exec_debugHalt awake (Device.dbgHalt_locked locked low false)
  · exact exec_debugHalt awake (Device.dbgHalt_halts opened rests safe)
  · exact exec_scanExtest awake (Device.dbgScan_scans opened)
  · exact exec_operationTimeout awake (if_pos joins)
  · exact exec_operationTimeout awake (Device.timeoutOp_kernelLoad loads image)

end Sys2Proof.Machine
end

section
/-! PROOFS. Hardware shutdown, its grace time, thermal recovery, and the field supply (R333, R340, R444, R445). -/

namespace Sys2Proof.Machine

/-! ### What leaves the field die -/

/-- A fold whose every step leaves the field die leaves it. -/
theorem Device.foldl_fd {α : Type} {f : Device → α → Device} (hf : ∀ e x, (f e x).fd = e.fd) (l : List α) (d : Device) :
    (l.foldl f d).fd = d.fd :=
  List.foldlRecOn (motive := fun e => e.fd = d.fd) l f rfl fun e he x _ => (hf e x).trans he

theorem Device.setMotSt_fd (d : Device) (u : Nat) (st : MotorSt) : (d.setMotSt u st).fd = d.fd := by
  unfold Device.setMotSt
  dsimp only
  split <;> rfl

theorem Device.motCoast_fd (d : Device) (u : Nat) : (d.motCoast u).fd = d.fd := by
  unfold Device.motCoast
  split
  · exact d.setMotSt_fd u .coast
  · rfl

theorem Device.loadsOff_fd (d : Device) : d.loadsOff.fd = d.fd := by
  refine Device.foldl_fd (fun e n => ?_) _ d
  dsimp only
  split <;> rfl

theorem Device.dropNvmQueue_fd (d : Device) : d.dropNvmQueue.fd = d.fd := by
  have temp : (d.when_ (!d.nvc.queue.isEmpty) fun d => (d.put NVC_ST_ST Status.temp.code).up NVC_EVT_TEMP).fd = d.fd := by
    unfold Device.when_
    split <;> rfl
  refine (Device.foldl_fd (fun e q => ?_) _ _).trans temp
  split <;> rfl

theorem Device.tearRow_fd (d : Device) : d.tearRow.fd = d.fd := by
  unfold Device.tearRow
  split <;> rfl

theorem Device.tearRow_rget (d : Device) (a : Nat) : d.tearRow.rget a = d.rget a := by
  unfold Device.tearRow
  split <;> rfl

theorem Device.finishRow_fd (d : Device) : d.finishRow.fd = d.fd := by
  unfold Device.finishRow
  split <;> rfl

theorem Device.finishRow_rget (d : Device) (a : Nat) : d.finishRow.rget a = d.rget a := by
  unfold Device.finishRow
  split <;> rfl

/-- A write of a field makes the same of a register that reads the same. -/
theorem Device.rget_put_congr {d e : Device} {a : Nat} (h : d.rget a = e.rget a) (f : Fld) (v : Nat) :
    (d.put f v).rget a = (e.put f v).rget a := by
  by_cases at_ : a = f.addr
  · subst at_
    rw [Device.rget_put_same, Device.rget_put_same, h]
  · rw [d.rget_put_ne at_, e.rget_put_ne at_, h]

/-! ### Outputs off, and TRIPPED from a mode that a trip leaves (R333, R444) -/

theorem Device.setLatch_fd (d : Device) : d.setLatch.fd = { d.fd with tripLatch := true } := by
  unfold Device.setLatch
  split
  · next set => rw [← set]
  · rfl

theorem Device.enter_tripped_fd (d : Device) : (d.enter .tripped).fd = { d.fd with tripLatch := true } := by
  rw [((Device.Stands.refl (R := fun _ => false) d).enter .tripped fun _ _ => rfl).fd, Device.enter_tripped_latch]

theorem Device.outputsOff_fd (d : Device) : d.outputsOff.fd = { d.fd with outputsOff := true, tripLatch := true } := by
  unfold Device.outputsOff
  extract_lets coasted off
  have coasted_fd : coasted.fd = d.fd := by
    refine Device.foldl_fd (fun e u => ?_) _ d
    split
    iterate 3 · rfl
    · exact e.motCoast_fd u
  have off_fd : off.fd = { d.fd with tripLatch := true } :=
    (Device.setLatch_fd _).trans (by simp only [Device.put_leaves, Device.loadsOff_fd, coasted_fd])
  exact congrArg (fun f : FieldDie => { f with outputsOff := true }) off_fd

/-- The outputs are off, and the device is TRIPPED unless it was in DORMANT or WATCH. -/
def Device.outputsTripped (d : Device) : Device := d.outputsOff.when_ d.outputsOff.mode.live fun d => d.enter .tripped

theorem Device.outputsTripped_fd (d : Device) :
    d.outputsTripped.fd = { d.fd with outputsOff := true, tripLatch := true } := by
  unfold Device.outputsTripped Device.when_
  split
  · rw [Device.enter_tripped_fd, d.outputsOff_fd]
  · exact d.outputsOff_fd

/-! ### Power of the control die -/

theorem Device.powerOff_fd (d : Device) (c : DownCause) :
    (d.powerOff c).fd = { d.fd with ctl := .off, down := c, sleep := .awake, grace := false } :=
  congrArg (fun f : FieldDie => { f with ctl := .off, down := c, sleep := .awake, grace := false }) d.tearRow_fd

theorem Device.powerOff_rget (d : Device) (c : DownCause) (a : Nat) : (d.powerOff c).rget a = d.rget a := d.tearRow_rget a

/-- Hardware shutdown of a control die that has power: its queued NVM requests end, the thermal cause stands, the die is in
reset, and the grace time runs. -/
theorem Device.hardwareShutdown_powered {d : Device} (cool : d.fd.thermal = false) (powered : d.fd.ctl ≠ .off) :
    d.hardwareShutdown = d.outputsTripped.dropNvmQueue.setFd fun f =>
      { f with thermal := true, grace := true, ctl := .ramping, sleep := .awake } := by
  have stays : d.outputsTripped.fd.ctl ≠ .off := by rwa [d.outputsTripped_fd]
  rw [Device.hardwareShutdown, if_neg (by simp [cool])]
  dsimp only
  rw [← Device.outputsTripped.eq_def, if_neg stays]

theorem Device.hardwareShutdown_fd {d : Device} (cool : d.fd.thermal = false) (powered : d.fd.ctl ≠ .off) :
    d.hardwareShutdown.fd = { d.fd with
      outputsOff := true, tripLatch := true, thermal := true, grace := true, ctl := .ramping, sleep := .awake } := by
  rw [Device.hardwareShutdown_powered cool powered, Device.setFd, Device.dropNvmQueue_fd, d.outputsTripped_fd]

theorem Device.vfieldLow_eq (d : Device) : d.vfieldLow =
    (d.outputsTripped.powerOff .vfield).setFd fun f => { f with wakePending := none, wakeIdx := none } := rfl

theorem Device.vfieldLow_fd (d : Device) : d.vfieldLow.fd = { d.fd with
    outputsOff := true, tripLatch := true, ctl := .off, down := .vfield, sleep := .awake, grace := false, wakePending := none,
    wakeIdx := none } := by
  rw [d.vfieldLow_eq, Device.setFd, Device.powerOff_fd, d.outputsTripped_fd]

/-- The device at the end of the grace time: the row complete, THSD recorded, the control die off. -/
def Device.graceEnds (d : Device) : Device := (d.finishRow.up SYS_RSTCAUSE_THSD).powerOff .thermal

theorem Device.graceEnds_fd (d : Device) :
    d.graceEnds.fd = { d.fd with ctl := .off, down := .thermal, sleep := .awake, grace := false } := by
  simp only [Device.graceEnds, Device.powerOff_fd, Device.up_leaves, Device.finishRow_fd]

/-- The cause that software finds after the power-off: THSD beside those recorded before. -/
theorem Device.graceEnds_cause (d : Device) :
    d.graceEnds.settle.rget SYS_RSTCAUSE = (d.up SYS_RSTCAUSE_THSD).rget SYS_RSTCAUSE := by
  rw [Device.settle_rget _ (by decide) (by decide) (by decide) (by decide), Device.graceEnds, Device.powerOff_rget]
  exact Device.rget_put_congr (d.finishRow_rget _) _ _

/-! ### The events of the field die -/

/-- The comparator of a sensor counts unless THM has marked the sensor failed (R333). -/
theorem exec_shutdownComparator (n : Fin 18) (s : State) : exec (.shutdownComparator (.comparator n)) s =
    .next (s.after (if s.dev.healthy n.val then s.dev.hardwareShutdown else s.dev)) := rfl

/-- Settles O2: each event is one case of its operation; what a shutdown leaves of the field die stands through what settles. -/
theorem shutdownAndFieldSupply : Obligations.ShutdownAndFieldSupply := by
  intro s
  refine ⟨fun n failed => ?_, fun n healthy cool powered => ?_, fun grace => ?_, fun thermal off other => ?_, ?_, ?_,
    fun lost => ?_, fun kept off low cool => ?_⟩
  · rw [exec_shutdownComparator, if_neg (ne_true_of_eq_false failed)]
  · have fd := Device.hardwareShutdown_fd cool powered
    refine ⟨_, (exec_shutdownComparator n s).trans (by rw [if_pos healthy]), ?_⟩
    have latched := Device.settle_latch (d := s.dev.hardwareShutdown) (by rw [fd])
    simp [fd, latched]
  · refine ⟨s.after s.dev.graceEnds, ?_, ?_⟩
    · show execShutdownGraceExpiry s = _
      exact onDev_next (if_pos grace)
    · have cause := s.dev.graceEnds_cause
      simp [s.dev.graceEnds_fd, cause]
  · show execThermalRecoveryPowerUp s = _
    exact onDev_next (if_pos ⟨thermal, off, other⟩)
  · refine ⟨s.after s.dev.vfieldLow, rfl, ?_⟩
    have latched := Device.settle_latch (d := s.dev.vfieldLow) (by rw [s.dev.vfieldLow_fd])
    simp [s.dev.vfieldLow_fd, latched]
  · exact ⟨_, rfl, by simp [Device.setFd]⟩
  · show execVfieldRise s = _
    exact onDev_next (if_pos lost)
  · show execVfieldRise s = _
    exact onDev_next (by simp [kept, off, low, cool])

end Sys2Proof.Machine
end

section
/-! PROOFS. A step: the front of the queue, the answer of every command, and the FAB cycle of an empty queue (R22, R30, R42). -/

namespace Sys2Proof.Machine

/-- Settles O42: by the definition of a step. -/
theorem stepRunsFront : Obligations.StepRunsFront := fun _ _ _ => rfl

/-- Settles O47: every arm of the dispatch answers by the frame of all meanings. -/
theorem everyCommandAnswers : Obligations.EveryCommandAnswers := exec_next

/-! ### What time leaves as it passes (R22, R55, R281, R409) -/

/-- From `d` to `e` only time passes: memory and its bit errors, nodes, drivers, banks, referee, scorer and field die stand; the
time base and the core pairs stand while the control die is off, and the cycle counters alone move while it runs. -/
structure Device.TimeOnly (d e : Device) : Prop where
  mem : e.mem = d.mem
  upsets : e.upsets = d.upsets
  nodes : e.nodes = d.nodes
  drv : e.drv = d.drv
  bank : e.bank = d.bank
  ref : e.ref = d.ref
  scr : e.scr = d.scr
  fd : e.fd = d.fd
  off : d.awake = false → e.tim = d.tim ∧ e.cpx = d.cpx
  cores : ∀ h < 2, (e.corePair h).pc = (d.corePair h).pc ∧ (e.corePair h).g = (d.corePair h).g ∧
    (e.corePair h).instret = (d.corePair h).instret

namespace Device.TimeOnly

variable {d e : Device}

theorem refl (d : Device) : d.TimeOnly d :=
  ⟨rfl, rfl, rfl, rfl, rfl, rfl, rfl, rfl, fun _ => ⟨rfl, rfl⟩, fun _ _ => ⟨rfl, rfl, rfl⟩⟩

/-- An update beside the parts that time leaves. -/
theorem same (h : d.TimeOnly e) {f : Device} (k : (f.mem, f.upsets, f.nodes, f.drv, f.bank, f.ref, f.scr, f.fd, f.tim, f.cpx) =
    (e.mem, e.upsets, e.nodes, e.drv, e.bank, e.ref, e.scr, e.fd, e.tim, e.cpx)) : d.TimeOnly f := by
  simp only [Prod.mk.injEq] at k
  obtain ⟨mem, upsets, nodes, drv, bank, ref, scr, fd, tim, cpx⟩ := k
  exact ⟨mem.trans h.mem, upsets.trans h.upsets, nodes.trans h.nodes, drv.trans h.drv, bank.trans h.bank, ref.trans h.ref,
    scr.trans h.scr, fd.trans h.fd, by rw [tim, cpx]; exact h.off, by simp only [Device.corePair, cpx]; exact h.cores⟩

theorem put (h : d.TimeOnly e) (f : Fld) (v : Nat) : d.TimeOnly (e.put f v) := h.same rfl

theorem ite (c : Prop) [Decidable c] {f : Device} (h : d.TimeOnly e) (k : d.TimeOnly f) : d.TimeOnly (if c then e else f) := by
  split
  · exact h
  · exact k

theorem when_ (h : d.TimeOnly e) {c : Bool} {f : Device → Device} (k : d.TimeOnly e → d.TimeOnly (f e)) : d.TimeOnly (e.when_ c f) :=
  .ite _ (k h) h

theorem count16 (h : d.TimeOnly e) (a : Nat) : d.TimeOnly (e.count16 a) :=
  .ite _ h (.ite _ (h.same rfl) (h.same rfl))

theorem pulse (h : d.TimeOnly e) (n : Nat) : d.TimeOnly (e.pulse n) := .ite _ h (h.same rfl)

/-- The time base and the cycle counters move while the control die runs. -/
theorem clocked (h : d.TimeOnly e) (awake : d.awake = true) (t : Tim) (k : Nat) :
    d.TimeOnly { e with tim := t, cpx := { e.cpx with core := e.cpx.core.map fun c => c.count k } } := by
  have counted : ∀ c : CorePair, (c.count k).pc = c.pc ∧ (c.count k).g = c.g ∧ (c.count k).instret = c.instret := fun c => by
    unfold CorePair.count
    split <;> exact ⟨rfl, rfl, rfl⟩
  refine ⟨h.mem, h.upsets, h.nodes, h.drv, h.bank, h.ref, h.scr, h.fd, fun off => absurd awake (by simp [off]), fun i hi => ?_⟩
  obtain ⟨pc, g, instret⟩ := h.cores i hi
  rw [← pc, ← g, ← instret]
  simpa [Device.corePair, hi] using counted e.cpx.core[i]

end Device.TimeOnly

theorem Device.elapse_timeOnly (d : Device) (n : Nat) : d.TimeOnly (d.elapse n) := by
  unfold Device.elapse
  dsimp only
  have started : d.TimeOnly { d with now := d.now + 4 * n } := (TimeOnly.refl d).same rfl
  have stime : ∀ (ms : Nat) (wrap : Bool), d.TimeOnly
      ((({ d with now := d.now + 4 * n } : Device).put BUD_STIME_MS ms).when_ wrap fun d => d.pulse 20) := fun ms _ =>
    (started.put BUD_STIME_MS ms).when_ fun h => h.pulse 20
  split
  · next awake =>
    have on : d.awake = true := (congrArg (·.ctl == .running) (stime _ _).fd).symm.trans awake
    exact ((stime _ _).when_ fun h => h.put _ _).clocked on _ _
  · exact stime _ _

/-- What a FAB cycle of an empty queue leaves, before a bit error strikes. -/
def Device.cycled (d : Device) : Device := (d.elapse 1).pairNoise

theorem Device.cycled_timeOnly (d : Device) : d.TimeOnly d.cycled := by
  unfold Device.cycled Device.pairNoise
  exact (d.elapse_timeOnly 1).when_ fun h => h.count16 PRL_CRCC

/-- The registers that a FAB cycle of an empty queue writes. -/
def tickRegs : List Nat := [BUD_STIME, TIM_EVT, PRL_CRCC]

/-- A FAB cycle moves the clock by 4 ns, and reaches no register but those of `tickRegs`. -/
theorem Device.cycled_passes (d : Device) : d.cycled.now = d.now + 4 ∧ ∀ a ∉ tickRegs, d.cycled.rget a = d.rget a := by
  have noise : (d.elapse 1).Stands (fun a => a != PRL_CRCC) d.cycled := by
    unfold Device.cycled Device.pairNoise
    exact (Stands.refl _).when_ fun h => h.count16 rfl
  obtain ⟨now, regs⟩ := d.elapse_passes 1
  refine ⟨noise.now.trans now, fun a ha => ?_⟩
  simp only [tickRegs, List.mem_cons, List.not_mem_nil, or_false, not_or] at ha
  obtain ⟨stime, evt, crc⟩ := ha
  exact (noise.regs a (by simp [crc])).trans (regs a stime evt)

/-- A bit error strikes memory with ECC only (R30). -/
def strike (u : List (Nat × Bool)) : Option (Nat × Bool) → List (Nat × Bool)
  | none => u
  | some (w, dbl) =>
    if regionOf (8 * w) = .none ∨ regionOf (8 * w) = .periph ∨ regionOf (8 * w) = .rom then u
    else (w, dbl) :: u.filter fun e => e.1 != w

theorem Device.tick_eq (d : Device) :
    d.tick = { d.cycled with upsets := strike d.cycled.upsets (Config.upset d.cycled.now) } := by
  unfold Device.tick
  dsimp only
  rw [← Device.cycled]
  generalize d.cycled = e
  rcases Config.upset e.now with _ | ⟨w, dbl⟩
  · rfl
  · dsimp only [strike]
    cases regionOf (8 * w) <;> rfl

/-- What is judged of a bank stands in registers that no FAB cycle writes. -/
theorem judged_unticked {b : Nat} (hb : b < 4) : ∀ f ∈ judgedFlds b, f.addr ∉ tickRegs := by
  simp [judgedFlds, bankDrivers, tickRegs, bankStFld, bankHoldFld, CTD_DST, CTD_BST, SYS_MODE, REF_ST, BUD_STIME, TIM_EVT, PRL_CRCC]
  omega

/-- A FAB cycle leaves a safe device safe. -/
theorem Device.tick_settled {d : Device} (safe : d.settled = true) : d.tick.settled = true := by
  have fd := d.cycled_timeOnly.fd
  obtain ⟨-, regs⟩ := d.cycled_passes
  rw [d.tick_eq]
  generalize d.cycled = e at fd regs ⊢
  generalize strike _ _ = u
  have get : ∀ f : Fld, f.addr ∉ tickRegs → Device.get { e with upsets := u } f = d.get f := fun f hf => Device.get_congr (regs _ hf)
  obtain ⟨trip, gated⟩ := d.settled_iff.1 safe
  refine (Device.settled_iff _).2 ⟨?_, fun b hb => (gated b hb).congr fd fun f hf => get f (judged_unticked hb f hf)⟩
  rwa [Device.mode, get _ (by decide), fd]

theorem Device.degrade_bank (d : Device) : d.degrade.bank = d.bank := by
  unfold Device.degrade Device.enter
  split
  · split <;> rfl
  · rfl

/-- Of a safe device settling reaches no driver and no bank. -/
theorem Device.settle_safe {d : Device} (safe : d.settled = true) : d.settle.drv = d.drv ∧ d.settle.bank = d.bank := by
  have gated : d.gated = d := if_pos safe
  rw [d.settle_eq, gated]
  exact ⟨d.degrade_drv, d.degrade_bank⟩

/-- Settles O43: of a FAB cycle only the clocks and a bit error are left, and settling a safe device moves no driver or bank. -/
theorem idlePassesTime : Obligations.IdlePassesTime := by
  intro s idle
  obtain ⟨mem, upsets, nodes, drv, bank, ref, scr, fd, off, cores⟩ := s.dev.cycled_timeOnly
  have now : s.dev.cycled.now = s.dev.now + 4 := s.dev.cycled_passes.1
  refine ⟨s.after s.dev.tick, ?_, idle, ?_⟩
  · simp only [step, idle]
    rfl
  have safeParts : SafeState s → s.dev.tick.settle.drv = s.dev.drv ∧ s.dev.tick.settle.bank = s.dev.bank := fun safe => by
    obtain ⟨drv', bank'⟩ := Device.settle_safe (Device.tick_settled safe)
    rw [drv', bank', s.dev.tick_eq]
    exact ⟨drv, bank⟩
  simp only [State.after_fields, Device.settle_leaves, Device.settle_fd, Device.settle_parts]
  rw [s.dev.tick_eq] at safeParts ⊢
  generalize s.dev.cycled = e at now mem upsets nodes ref scr fd off cores safeParts ⊢
  refine ⟨now, mem, nodes, safeParts, ?_, ref, scr, congrArg _ fd, off, fun _ => cores⟩
  dsimp only
  rw [now, upsets]
  rcases Config.upset (s.dev.now + 4) with _ | ⟨w, dbl⟩ <;> rfl

end Sys2Proof.Machine
end

section
/-! PROOFS. What a motor unit does at its control period, in catch-spin, on timers and on faults (R343 to R357). -/

namespace Sys2Proof.Machine

section
variable {d : Device} {u : Nat}

/-- A fenced unit takes no period. -/
theorem Device.loopPeriod_fenced (fenced : d.motSt u = .fenced) (m : MotorSample) : d.loopPeriod u m = d := by
  simp [Device.loopPeriod, fenced, MotorSt.active, MotorSt.driven]

/-- A unit that is in FAULT or fenced takes no fault (R357, R358). -/
theorem Device.motFault_done (done : d.motSt u = .fault ∨ d.motSt u = .fenced) (code : Nat) : d.motFault u code = d :=
  if_pos (done.elim (fun fault => .inr (.inl fault)) .inl)

theorem Device.gates_off (off : (d.motSt u).driven = false) : d.gates u = [(0, 0), (0, 0), (0, 0)] := if_neg (by simp [off])

end

/-- No gate of a phase is on for longer than the period, both together (R345). -/
theorem gateTimes_sum_le {top dt cmp : Nat} (cmp_le : cmp ≤ top) : (gateTimes top dt cmp).1 + (gateTimes top dt cmp).2 ≤ 2 * top := by
  unfold gateTimes
  split
  · omega
  · split
    · omega
    · dsimp only
      omega

/-- Where neither pulse is removed, each is short of its share of the period by the dead time (R345). -/
theorem gateTimes_whole {top dt cmp : Nat} (high : dt ≤ 2 * cmp) (low : dt ≤ 2 * (top - cmp)) :
    gateTimes top dt cmp = (2 * cmp - dt, 2 * (top - cmp) - dt) := by
  rw [gateTimes, if_neg (by omega), if_neg (by omega)]

/-- Settles O23: each event is one case of its operation on the unit. -/
theorem motorEvents : Obligations.MotorEvents := by
  intro s u awake
  refine ⟨fun m => ⟨?_, fun fenced => Device.loopPeriod_fenced fenced m⟩, fun catch_ => ?_, fun r catch_ measuring => ?_,
    fun r other => ⟨?_, ?_⟩, fun align => ?_, fun ramp held unsure => ?_, fun waits => ?_, fun runs bad fast fresh => ?_,
    fun runs pending => ?_, ?_, ?_, ?_, ?_, ?_, fun coasts waits => ?_, fun c done => Device.motFault_done done c,
    Device.gates_off, fun top dt cmp cmp_le _ _ => ⟨gateTimes_sum_le cmp_le, fun high low => ?_⟩⟩
  · show execCurrentLoopPeriod u m s = _
    exact onCtl_awake awake rfl
  · show execCatchDecayDone u s = _
    exact onCtl_awake awake (if_pos catch_)
  · show execCatchMeasureDone u r s = _
    exact onCtl_awake awake (if_pos ⟨catch_, measuring⟩)
  · show execCatchDecayDone u s = _
    exact onCtl_awake awake (if_neg other)
  · show execCatchMeasureDone u r s = _
    exact onCtl_awake awake (if_neg fun both => other both.1)
  · show execAlignDone u s = _
    exact onCtl_awake awake (if_pos align)
  · show execNoHandoverTimeout u s = _
    exact onCtl_awake awake (if_pos ⟨ramp, held, unsure⟩)
  · show execReverseRetryTimer u s = _
    exact onCtl_awake awake (if_pos waits)
  · show execObserverLoss u s = _
    refine onCtl_awake awake ((if_pos ⟨runs, bad, fast⟩).trans ?_)
    simp only [fresh, Bool.false_and, Bool.or_false]
  · show execResyncTimeout u s = _
    exact onCtl_awake awake (if_pos ⟨runs, pending⟩)
  · show execPhaseOverCurrent u s = _
    exact onCtl_awake awake rfl
  · show execStageFault u s = _
    exact onCtl_awake awake rfl
  · show execMotorLaneFault u s = _
    exact onCtl_awake awake rfl
  · show execConverterSelfCheck u true s = _
    exact onCtl_awake awake rfl
  · show execConverterSelfCheck u false s = _
    exact onCtl_awake awake rfl
  · show execBusUvRecovery u s = _
    exact onCtl_awake awake (if_pos ⟨coasts, waits⟩)
  · rw [gateTimes_whole high low]
    omega

end Sys2Proof.Machine
end

section
/-! PROOFS. What a load channel does on currents, voltages, retries, clamp pulses and supply faults (R363 to R374). -/

namespace Sys2Proof.Machine

/-- With the outputs of the field die on, an event of a channel answers what its effect leaves, settled. -/
theorem onField_powered {s : State} (powered : s.dev.fd.outputsOff = false) {f : Device → Device} {e : Device} (h : f s.dev = e) :
    onField s f = .next (s.after e) := onDev_next ((if_neg (by simp [powered])).trans h)

/-! ### Over-current and retries (R366, R367) -/

section
variable {d : Device} {n : Nat}

theorem Device.overCurrent_off (off : d.loadSt n = .off) : d.overCurrent n = d := by
  simp [Device.overCurrent, off]

/-- An over-current of a channel that conducts, counted (R366). -/
def Device.overCurrentCounted (d : Device) (n : Nat) : Device :=
  ((d.put (LSW_CST_CNT n) (min 15 (d.get (LSW_CST_CNT n) + 1))).count16 (LSW_OCCNT n)).up (LSW_CEVT_OC n)

theorem Device.overCurrent_conducts (conducts : d.loadSt n = .inrush ∨ d.loadSt n = .on_) : d.overCurrent n =
    if (d.overCurrentCounted n).get (LSW_CCFG_RETRY n) ≤ min 15 (d.get (LSW_CST_CNT n) + 1) then
      (((d.overCurrentCounted n).setLoadSt n .latched).put (loadOut n) 0).up (LSW_CEVT_LATCH n)
    else ((d.overCurrentCounted n).setLoadSt n .pause).setLoad n fun v =>
      { v with pauseMs := retryPause (min 15 (d.get (LSW_CST_CNT n) + 1)) } := by
  rcases conducts with st | st <;> simp [Device.overCurrent, st] <;> rfl

theorem Device.retryLoad_free (alone : d.neighbourInrush n = false) : d.retryLoad n = d.setLoadSt n .inrush :=
  if_neg (by simp [alone])

theorem Device.retryLoad_deferred (behind : d.neighbourInrush n = true) :
    d.retryLoad n = (d.setLoadSt n .pause).put (LSW_CST_DEF n) 1 := if_pos behind

theorem Device.deferredRetry_waits {j : Nat} (busy : ((segChannels j).any fun k => d.loadSt k == .inrush) = true) :
    d.deferredRetry j = d := if_pos busy

theorem Device.deferredRetry_runs {j : Nat} (free : ((segChannels j).any fun k => d.loadSt k == .inrush) = false)
    (first : ((segChannels j).find? fun k => d.loadSt k == .pause && d.on (LSW_CST_DEF k)) = some n) :
    d.deferredRetry j = d.setLoadSt n .inrush := by
  rw [Device.deferredRetry, if_neg (by simp [free]), first]

/-! ### Off-state reads (R370) -/

theorem Device.offRead_other (other : d.loadSt n ≠ .off) (mv : Int) : d.offRead n mv = d := if_neg fun both => other both.1

/-- A read between the bands of R370 breaks every run of reads. -/
theorem Device.offRead_between (hn : n < 16) (off : d.loadSt n = .off) (diag : d.on (LSW_CCFG_OFFD n) = true) {mv : Int}
    (above : 6000 < mv) (below : mv ≤ 7000) :
    d.offRead n mv = d.setLoad n fun v => { v with openRun := 0, stbRun := 0, lowRun := 0 } := by
  have band : ¬ mv ≤ 6000 := by omega
  have high : ¬ 7000 < mv := by omega
  have low : ¬ mv < 3000 := by omega
  simp [Device.offRead, off, diag, band, high, low, d.load_setLoad hn]

/-! ### Clamp pulses (R371) -/

/-- A clamp pulse of at most 100 mJ on a channel without energy accounting is reported, and nothing follows. -/
theorem Device.clampEnd_unmetered {e : Nat} (small : e ≤ 1000) (unmetered : d.on (LSW_CCFG_CLM n) = false) :
    d.clampEnd n e = d.put (LSW_CLE_E n) e := by
  have calm : ¬ 1000 < e := by omega
  have energy : min 0xFFFF e = e := by omega
  have apart : (d.put (LSW_CLE_E n) e).on (LSW_CCFG_CLM n) = false :=
    (congrArg (· != 0) (d.get_put_apart e (by simp [Fld.apart, LSW_CCFG, LSW_CLE]))).trans unmetered
  simp [Device.clampEnd, Device.when_, calm, energy, apart]

end

/-! ### The events -/

section
variable {s : State} (n : Fin 16)

theorem exec_stuckOn_off (off : s.dev.loadSt n = .off ∨ s.dev.loadSt n = .pause) :
    exec (.stuckOn n) s = .next (s.after ((s.dev.up (LSW_CEVT_STUCK n)).fenceLoad n)) := by
  show execStuckOn n s = _
  refine onDev_next ?_
  rcases off with st | st <;> simp only [st]

theorem exec_stuckOn_on (on : s.dev.loadSt n = .on_ ∨ s.dev.loadSt n = .fenced) : exec (.stuckOn n) s = .next (s.after s.dev) := by
  show execStuckOn n s = _
  refine onDev_next ?_
  rcases on with st | st <;> simp only [st]

theorem exec_clampPulseEnd (e : Nat) : exec (.clampPulseEnd n e) s = .next (s.after (s.dev.clampEnd n e)) := rfl

variable (powered : s.dev.fd.outputsOff = false)
include powered

theorem exec_loadOverCurrent : exec (.loadOverCurrent n) s = .next (s.after (s.dev.overCurrent n)) := by
  show execLoadOverCurrent n s = _
  exact onField_powered powered rfl

theorem exec_offStateDiag (mv : Int) : exec (.offStateDiag n mv) s = .next (s.after (s.dev.offRead n mv)) := by
  show execOffStateDiag n mv s = _
  exact onField_powered powered rfl

theorem exec_deferredRetry (j : Fin 4) : exec (.deferredRetry j) s = .next (s.after (s.dev.deferredRetry j)) := by
  show execDeferredRetry j s = _
  exact onField_powered powered rfl

theorem exec_retryDue (pause : s.dev.loadSt n = .pause) (now : s.dev.on (LSW_CST_DEF n) = false) :
    exec (.retryDue n) s = .next (s.after (s.dev.retryLoad n)) := by
  show execRetryDue n s = _
  exact onField_powered powered (if_pos ⟨pause, by simp [now]⟩)

end

/-- Settles O21: each event is one case of its operation on the channel. -/
theorem loadEvents : Obligations.LoadEvents := by
  intro s n
  refine ⟨fun powered => ?_, fun e small unmetered => ?_, fun j f => ?_, ?_, fun j => rfl, rfl, exec_stuckOn_off n,
    exec_stuckOn_on n⟩
  · simp only [exec_loadOverCurrent n powered, exec_offStateDiag n powered, exec_deferredRetry powered]
    refine ⟨fun above inrush => ?_, fun above other => ?_, fun off => ?_, fun conducts => ⟨fun last => ?_, fun more => ?_⟩,
      fun pause now => ?_, fun on => ⟨?_, fun olr => ⟨?_, fun closed => ?_⟩⟩, fun mv other => ?_,
      fun mv off diag above below => ?_, fun j busy => ?_, fun j free first => ?_⟩
    · show execInrushEnd n above s = _
      exact onField_powered powered (if_pos inrush)
    · show execInrushEnd n above s = _
      exact onField_powered powered (if_neg other)
    · rw [Device.overCurrent_off off]
    · rw [Device.overCurrent_conducts conducts]
      exact congrArg (fun d => Host.Outcome.next (s.after d)) (if_pos last)
    · rw [Device.overCurrent_conducts conducts]
      exact congrArg (fun d => Host.Outcome.next (s.after d)) (if_neg (Nat.not_le.2 more))
    · rw [exec_retryDue n powered pause now]
      exact ⟨fun alone => by rw [Device.retryLoad_free alone], fun behind => by rw [Device.retryLoad_deferred behind]⟩
    · show execOverCurrentCountReset n s = _
      exact onField_powered powered (if_pos on)
    · show execOpenLoadDetect n false s = _
      exact onField_powered powered (if_pos ⟨on, olr⟩)
    · show execOpenLoadDetect n true s = _
      exact onField_powered powered ((if_pos ⟨on, olr⟩).trans ((if_pos rfl).trans (if_neg (ne_true_of_eq_false closed))))
    · rw [Device.offRead_other other]
    · rw [Device.offRead_between n.isLt off diag above below]
    · rw [Device.deferredRetry_waits busy]
    · rw [Device.deferredRetry_runs free first]
  · refine ⟨_, exec_clampPulseEnd n e, ?_⟩
    rw [Device.clampEnd_unmetered small unmetered, (s.after_fields _).2,
      Device.settle_get_apart _ (.inr (by simp only [LSW_CLE]; omega)), Device.get_put_same _ _ (by simp)]
    exact Nat.mod_eq_of_lt (by simp; omega)
  · cases f <;> rfl
  · rfl

end Sys2Proof.Machine
end

section
/-! PROOFS. The CAN controllers: requests, arbitration, reception, errors and recovery from bus-off (R377 to R388). -/

namespace Sys2Proof.Machine

/-! ### Requests (R382) -/

/-- A mask of one bit names one object. -/
theorem objectsOf_one (b : Fin 32) (j : Nat) :
    ((List.range 32).filter (1#32 <<< b.val).toNat.testBit).map (32 * j + ·) = [32 * j + b] := by
  have one : (List.range 32).filter (1#32 <<< b.val).toNat.testBit = [b.val] := by
    revert b
    decide
  rw [one]
  rfl

section
variable {d : Device} (c j : Nat) (b : Fin 32)

theorem Device.txRequest_taken (en : d.on (CAN_OCFG_EN c (32 * j + b)) = true) (dir : d.on (CAN_OCFG_DIR c (32 * j + b)) = true) :
    d.txRequest c j (1#32 <<< b.val).toNat = (d.put (txReqFld c (32 * j + b)) 1).st (uCAN c) .ok := by
  simp only [Device.txRequest, objectsOf_one, List.foldl_cons, List.foldl_nil, List.all_cons, List.all_nil, en, dir, Bool.and_self, if_true]

theorem Device.txRequest_refused (off : d.on (CAN_OCFG_EN c (32 * j + b)) = false) :
    d.txRequest c j (1#32 <<< b.val).toNat = d.st (uCAN c) .reject := by
  simp only [Device.txRequest, objectsOf_one, List.foldl_cons, List.foldl_nil, List.all_cons, off, Bool.false_and, if_false,
    Bool.false_eq_true]

theorem Device.txAbort_none (idle : d.txPending c (32 * j + b) = false) :
    d.txAbort c j (1#32 <<< b.val).toNat = d.st (uCAN c) .ok := by
  simp only [Device.txAbort, objectsOf_one, List.foldl_cons, List.foldl_nil, idle, Bool.not_false, if_true]

theorem Device.txAbort_waiting (pending : d.txPending c (32 * j + b) = true) (quiet : (d.cn c).cur = none) :
    d.txAbort c j (1#32 <<< b.val).toNat = (d.txAborted c (32 * j + b)).st (uCAN c) .ok := by
  simp only [Device.txAbort, objectsOf_one, List.foldl_cons, List.foldl_nil]
  rw [if_neg (by simp [pending]), if_neg (by simp [quiet])]

end

/-- Settles O24: each request on one object and each event of the bus is one case of its operation. -/
theorem canControllers : Obligations.CanControllers := by
  intro s c awake
  refine ⟨fun run => ⟨fun o => ?_, fun j b en dir => ?_, fun j b off => ?_, fun j b idle => ?_, fun j b pending quiet => ?_⟩,
    fun joining => ?_, fun other => ?_, fun m idle hears acts choice sound => ?_, fun m idle hears acts choice => ?_,
    fun m e cur => ?_, fun e cur => ?_, fun f idle classic => ?_, fun f offline => ?_, fun e on => ?_, fun recovers => ?_, ?_⟩
  · show execCanOfflineWrite c o s = _
    exact onCtl_released awake run rfl
  · show execCanTxRequest c j _ s = _
    exact onCtl_released awake run (Device.txRequest_taken c j b en dir)
  · show execCanTxRequest c j _ s = _
    exact onCtl_released awake run (Device.txRequest_refused c j b off)
  · show execCanTxAbort c j _ s = _
    exact onCtl_released awake run (Device.txAbort_none c j b idle)
  · show execCanTxAbort c j _ s = _
    exact onCtl_released awake run (Device.txAbort_waiting c j b pending quiet)
  · show execCanIntegrated c s = _
    exact onCtl_awake awake (if_pos joining)
  · show execCanIntegrated c s = _
    exact onCtl_awake awake (if_neg other)
  · show execCanArbitrationStart c false s = _
    refine onCtl_awake awake ((if_neg (by simp [idle, hears, acts])).trans ?_)
    simp [choice, sound, Device.when_]
  · show execCanArbitrationStart c true s = _
    refine onCtl_awake awake ((if_neg (by simp [idle, hears, acts])).trans ?_)
    simp [choice]
  · show execCanTxComplete c e s = _
    exact onCtl_awake awake (by simp only [cur])
  · show execCanTxComplete c e s = _
    exact onCtl_awake awake (by simp only [cur])
  · show execCanFrameReceived c f s = _
    exact onCtl_awake awake ((if_pos (.inl idle)).trans (if_neg (by simp [classic])))
  · show execCanFrameReceived c f s = _
    exact onCtl_awake awake (if_neg (by simp [offline]))
  · show execCanError c e s = _
    exact onCtl_awake awake (if_pos on)
  · show execCanRecoveryDone c s = _
    exact onCtl_awake awake (if_pos recovers)
  · show execCanStatusRead c s = _
    exact onCtl_awake awake rfl

end Sys2Proof.Machine
end

section
/-! PROOFS. The partner's alive signal, the lanes of the pair link and the messages that arrive (R408 to R423). -/

namespace Sys2Proof.Machine

section
variable {d : Device} {l : Nat}

/-! ### Lanes (R410) -/

theorem Device.laneUp_alone (alone : d.on PRL_CTL_EN = false) (dly : Nat) : d.laneUp l dly = d := if_pos (by simp [alone])

/-- The first lane to train brings the link up. -/
theorem Device.laneUp_first (en : d.on PRL_CTL_EN = true) (kept : d.prl.laneOff.getLsbD l = false) (down : d.on PRL_ST_UP = false)
    (dly : Nat) : d.laneUp l dly =
      ((((d.put PRL_ST_LANES (d.get PRL_ST_LANES ||| 2 ^ l)).put PRL_LDLY_DLY dly).put PRL_ST_UP 1).up PRL_EVT_LUP).askShadows := by
  refine (if_neg (by simp [en, kept])).trans ?_
  rw [down]
  rfl

theorem Device.laneLoss_down (down : (d.get PRL_ST_LANES).testBit l = false) : d.laneLoss l = d := if_neg (by simp [down])

/-- The training losses of a lane that goes down; the third within 10 s leaves it down. -/
def Device.laneCounted (d : Device) (l : Nat) : Device :=
  let recent := ((d.prl.losses[l]?).getD []).filter fun t => decide (d.now ≤ t + 10000000000)
  (d.setPrl fun p => { p with losses := p.losses.setIfInBounds l (d.now :: recent.take 2) }).when_ (decide (2 ≤ recent.length)) fun d =>
    (d.up PRL_EVT_LANEF).setPrl fun p => { p with laneOff := p.laneOff ||| (1#2 <<< l) }

theorem Device.laneCounted_lanes (d : Device) (l : Nat) : (d.laneCounted l).get PRL_ST_LANES = d.get PRL_ST_LANES := by
  have losses : ∀ f : Prl → Prl, d.Writes [PRL_EVT_LANEF] (d.setPrl f) := fun _ => (Writes.refl d).same rfl
  have counted : d.Writes [PRL_EVT_LANEF] (d.laneCounted l) := by
    unfold Device.laneCounted
    exact (losses _).when_ fun h => (h.put (List.mem_singleton_self _) _).same rfl
  exact counted.get _ (by decide)

/-- The link goes down with its last lane. -/
def Device.linkDown (d : Device) : Device :=
  let d := ((d.put PRL_ST_UP 0).up PRL_EVT_LDOWN).count16 PRL_LDNC
  d.when_ (d.prl.marks.isEmpty && d.prl.markLow.isNone) fun d => d.put PRL_ST_SYNC 0

theorem Device.laneLoss_up (up : (d.get PRL_ST_LANES).testBit l = true) : d.laneLoss l =
    if d.get PRL_ST_LANES - 2 ^ l = 0 then ((d.laneCounted l).put PRL_ST_LANES (d.get PRL_ST_LANES - 2 ^ l)).linkDown
    else (d.laneCounted l).put PRL_ST_LANES (d.get PRL_ST_LANES - 2 ^ l) := by
  rw [← d.laneCounted_lanes l]
  exact if_pos up

/-- What the link writes after its own fields as it goes down. -/
theorem Device.linkDown_after (d : Device) :
    ((d.put PRL_ST_UP 0).up PRL_EVT_LDOWN).Writes [⟨PRL_LDNC, 0, 32⟩, PRL_ST_SYNC] d.linkDown := by
  unfold Device.linkDown
  exact ((Writes.refl _).count16 (by simp)).when_ fun h => h.put (by simp) 0

theorem Device.linkDown_lanes (d : Device) : d.linkDown.get PRL_ST_LANES = d.get PRL_ST_LANES :=
  (d.linkDown_after.get _ (by decide)).trans ((Device.get_put_apart _ _ (by decide)).trans (d.get_put_apart _ (by decide)))

theorem Device.linkDown_reads (d : Device) : d.linkDown.on PRL_ST_UP = false ∧ d.linkDown.on PRL_EVT_LDOWN = true := by
  have down : ((d.put PRL_ST_UP 0).up PRL_EVT_LDOWN).get PRL_ST_UP = 0 :=
    (Device.get_put_apart _ _ (by decide)).trans (d.get_put_same 0 (by decide))
  have event : ((d.put PRL_ST_UP 0).up PRL_EVT_LDOWN).get PRL_EVT_LDOWN = 1 := Device.get_up_same _ (by decide)
  rw [d.linkDown_after.on (by decide), d.linkDown_after.on (by decide), Device.on, Device.on, down, event]
  decide

/-- What the loss of a lane leaves of the link: the other lane, or a link that is down. -/
theorem Device.laneLoss_reads (up : (d.get PRL_ST_LANES).testBit l = true) :
    (d.laneLoss l).get PRL_ST_LANES = d.get PRL_ST_LANES - 2 ^ l ∧
    (d.get PRL_ST_LANES = 2 ^ l → (d.laneLoss l).on PRL_ST_UP = false ∧ (d.laneLoss l).on PRL_EVT_LDOWN = true) := by
  have lanes : ((d.laneCounted l).put PRL_ST_LANES (d.get PRL_ST_LANES - 2 ^ l)).get PRL_ST_LANES = d.get PRL_ST_LANES - 2 ^ l := by
    rw [Device.get_put_same _ _ (by decide)]
    exact Nat.mod_eq_of_lt (lt_of_le_of_lt (Nat.sub_le ..) (d.get_lt _))
  rw [Device.laneLoss_up up]
  split
  · exact ⟨(Device.linkDown_lanes _).trans lanes, fun _ => Device.linkDown_reads _⟩
  · next more => exact ⟨lanes, fun last => absurd (Nat.sub_eq_zero_of_le last.le) more⟩

end

/-- Settles O27: each change of the partner's signal, of a lane, and each message is one case of its operation. -/
theorem pairLinkEvents : Obligations.PairLinkEvents := by
  intro s awake
  refine ⟨?_, ?_, fun silent alone => ?_, fun standby => ?_, fun other => ?_, fun active rival => ?_, fun passive => ?_,
    fun en role silent down mode live => ?_, fun l v alone => ?_, fun l v en kept down => ?_, fun l down => ?_, fun l up => ?_,
    fun down => ⟨fun m => ?_, fun m => ?_, fun e => ?_, fun m => ?_, ?_⟩,
    fun up => ⟨fun m => ?_, fun m => ?_, fun e => ?_, fun x follows => ?_, fun b follows => ?_, fun m leads => ?_, fun alone => ?_⟩⟩
  · show execPartnerAliveChange .activeRate s = _
    exact onCtl_awake awake rfl
  · show execPartnerAliveChange .standbyRate s = _
    exact onCtl_awake awake rfl
  · show execPartnerAliveChange .absent s = _
    have alone' : (s.dev.put PRL_ST_PALV 0).on PRL_CTL_EN = false :=
      (congrArg (· != 0) (s.dev.get_put_apart 0 (by decide))).trans alone
    refine onCtl_awake awake ?_
    simp [silent, alone', Device.when_]
  · show execPartnerStandbyRateTimeout s = _
    exact onCtl_awake awake (if_pos standby)
  · show execPartnerStandbyRateTimeout s = _
    exact onCtl_awake awake (if_neg other)
  · show execYieldTimeout s = _
    exact onCtl_awake awake (if_pos (by simp [active, rival]))
  · show execYieldTimeout s = _
    exact onCtl_awake awake (if_neg (by simp [passive]))
  · show execSecondaryActiveTimeout s = _
    refine onCtl_awake awake ?_
    cases Config.pairSel <;> simp [en, role, silent, down, mode, live]
  · show execLaneTrained l v s = _
    exact onCtl_awake awake (Device.laneUp_alone alone _)
  · show execLaneTrained l v s = _
    exact onCtl_awake awake (Device.laneUp_first en kept down _)
  · show execLaneDown l s = _
    exact onCtl_awake awake (Device.laneLoss_down down)
  · refine ⟨s.after (s.dev.laneLoss l), ?_, ?_⟩
    · show execLaneDown l s = _
      exact onCtl_awake awake rfl
    · have stands : ∀ f : Fld, 0x60160000 ≤ f.addr → (s.dev.laneLoss l).settle.get f = (s.dev.laneLoss l).get f := fun f hf =>
        Device.settle_get_apart _ (.inr hf)
      simp only [State.after_fields, Device.on, stands PRL_ST_LANES (by decide), stands PRL_ST_UP (by decide),
        stands PRL_EVT_LDOWN (by decide)]
      exact Device.laneLoss_reads up
  · show execActionMessage m s = _
    exact onCtl_awake awake (if_neg (by simp [down]))
  · show execEpochSummaryReceived m s = _
    exact onCtl_awake awake (if_neg (by simp [down]))
  · show execEpochMessage e s = _
    exact onCtl_awake awake (if_neg (by simp [down]))
  · show execSharedStateMirror m s = _
    exact onCtl_awake awake (if_neg (by simp [down]))
  · show execWithdrawMessage s = _
    exact onCtl_awake awake (if_neg (by simp [down]))
  · show execActionMessage m s = _
    exact onCtl_awake awake (if_pos up)
  · show execEpochSummaryReceived m s = _
    exact onCtl_awake awake (if_pos up)
  · show execEpochMessage e s = _
    exact onCtl_awake awake (if_pos up)
  · show execSharedStateMirror (.penRelease x) s = _
    exact onCtl_awake awake ((if_pos up).trans (if_pos follows))
  · show execSharedStateMirror (.bankRelease b) s = _
    exact onCtl_awake awake ((if_pos up).trans (if_pos follows))
  · show execSharedStateMirror m s = _
    exact onCtl_awake awake ((if_pos up).trans (if_neg (by simp [leads])))
  · show execWithdrawMessage s = _
    have alone' : (s.dev.up PRL_EVT_PWDR).on PRL_CTL_EN = false :=
      (congrArg (· != 0) (s.dev.get_put_apart _ (by decide))).trans alone
    refine onCtl_awake awake ((if_pos up).trans ?_)
    simp [alone', Device.when_]

end Sys2Proof.Machine
end
